-- ==== Sys2Proof/Word.lean ====
section
/-! DEFINITION. The word types of the dictionary (R233: every subentry is one 32-bit word) and the rounding
of R371. -/

namespace Sys2Proof

/-- One dictionary subentry (R233). -/
abbrev Word := BitVec 32

/-- Bits `hi` down to `lo` of a word, as a number (the manual's `[hi:lo]`, section 0.7). -/
def Word.bits (w : Word) (hi lo : Nat) : Nat := w.toNat / 2 ^ lo % 2 ^ (hi + 1 - lo)

/-- The word with bits `hi` down to `lo` replaced by the low bits of `v`. -/
def Word.put (w : Word) (hi lo v : Nat) : Word :=
  BitVec.ofNat 32 (w.toNat % 2 ^ lo + (v % 2 ^ (hi + 1 - lo)) * 2 ^ lo + w.toNat / 2 ^ (hi + 1) * 2 ^ (hi + 1))

/-- Two's-complement reading of the low `n` bits of a number (R10). -/
def signedOf (n v : Nat) : Int :=
  if v % 2 ^ n < 2 ^ (n - 1) then (v % 2 ^ n : Nat) else ((v % 2 ^ n : Nat) : Int) - (2 ^ n : Nat)

/-- The low `n` bits of an integer, two's complement (R10). -/
def toBits (n : Nat) (i : Int) : Nat := (i % (2 ^ n : Nat)).toNat

/-- R371: `round (a / b)`, halves to the greater value. -/
def roundDiv (a : Int) (b : Nat) : Int := (2 * a + b) / (2 * b : Nat)

/-- Saturation to a range. -/
def clampInt (lo hi x : Int) : Int := if x < lo then lo else if hi < x then hi else x

/-- A counter of `n` bits that saturates ("Counters saturate", R62 and the other object rules). -/
def satAdd (n a b : Nat) : Nat := if a + b < 2 ^ n then a + b else 2 ^ n - 1

end Sys2Proof
end

