-- ==== Sys2Proof/Syntax.lean ====
section
/-! DEFINITION. The commands of the block and what each carries: one constructor per row of the operation
table. What a step measures or receives from outside (a converter code, a time stamp, a frame's fields, the
outcome of a SECDED check) is an operand of the step. -/

namespace Sys2Proof

/-- Who sends a dictionary request (R212, R215): the port of arrival (0 A, 1 B), whether it came on the D
side, the source address, the tag, whether it was a broadcast, and whether its LEN, reserved bytes and counts are as
R241 to R244 demand. -/
structure Rq where
  port : Nat
  fromD : Bool
  src : Nat
  tag : Nat
  bcast : Bool
  formed : Bool
  deriving DecidableEq, Repr

/-- A WRITE request: who sends it, the value and the write mask (R242). -/
structure Wr where
  q : Rq
  value : Word
  mask : Word
  deriving DecidableEq, Repr

/-- What a SECDED check found: nothing, a corrected single-bit error, an uncorrectable error (R109). -/
inductive EccOutcome | clean | corrected | uncorrected
  deriving DecidableEq, Repr

/-- A lane state memory error met in this frame (R101). -/
structure LaneErr where
  lane : Nat
  double : Bool
  deriving DecidableEq, Repr

/-- A Tide Table read error met for a lane (R109). -/
structure LaneEcc where
  lane : Nat
  ecc : EccOutcome
  deriving DecidableEq, Repr

/-- What a tick's command carries of the frame it starts: the lane state memory errors met in it, and the outcomes of
the Tide Table reads in it whose own command names none (R101, R109). -/
structure FrameErrs where
  lanes : List LaneErr := []
  tide : List LaneEcc := []
  deriving DecidableEq, Repr

/-- The words of a BULK_READ: their count, and what the SECDED checks of log words found, in order (R243, R200). -/
structure ReadRun where
  count : Nat
  eccs : List (EccOutcome × Word) := []
  deriving DecidableEq, Repr

/-- A signal found on a receive lane: its pair, and whether the lane's CDR has locked (R218). -/
structure LaneSignal where
  pair : Nat
  cdr : Bool
  deriving DecidableEq, Repr

/-- The tag of an arbitration token, whole where the HEAD is followed at once by its TAIL (R223). -/
structure TokenTag where
  tag : BitVec 64
  whole : Bool
  deriving DecidableEq, Repr

/-- A rail and its lowest reading since it was last looked at (R323). -/
structure RailReading where
  rail : Nat
  lowest : Nat
  deriving DecidableEq, Repr

/-- A frame as it arrives or leaves (R211, Tables 9-3 and 9-4): the SOF fields, the data blocks, and the EOF fields. -/
structure RxFrame where
  dest : Nat
  src : Nat
  ftype : Nat
  tag : Nat
  len : Nat
  hops : Nat
  blocks : List (BitVec 64)
  valid : Nat
  crc : Word
  stomped : Bool
  truncated : Bool
  deriving DecidableEq, Repr

/-- What a lane pair's receiver hands to the forwarder (R210, R216): a frame, a control block with its type and
payload bytes 1 to 7, or `n` blocks whose sync header is invalid, outside a frame or inside one. -/
inductive RxItem
  | frame (f : RxFrame)
  | control (ty : Nat) (payload : BitVec 56)
  | badSync (n : Nat) (inFrame : Option RxFrame)
  deriving DecidableEq, Repr

/-- A peer HELLO (Table 9-6). -/
structure Hello where
  offers10 : Bool
  offers11 : Bool
  addr : Nat
  portB : Bool
  pairD : Bool
  repeater : Bool
  agreed : Bool
  version : Nat
  deriving DecidableEq, Repr

/-- One item of a BULK_WRITE_REQ (Table 10-6). -/
inductive BulkItem
  | run (index sub : Nat) (data : List Word)
  | group (g index sub tindex tsub : Nat) (tvalue : Word) (data : List Word)
  deriving DecidableEq, Repr

/-- A FRAME_MARK as captured on arrival (Table 9-7): the server's frame number, its departure t1 and the
arrival t2 in units of 1/32 tc after the respective tick, and the UNSET and COAST bits. -/
structure MarkMeas where
  port : Nat
  frame : Nat
  t1 : Nat
  t2 : Nat
  unset : Bool
  coast : Bool
  deriving DecidableEq, Repr

/-- A DRESP as received (Table 9-7). -/
structure Dresp where
  seq : Nat
  frame16 : Nat
  t4 : Nat
  unset : Bool
  coast : Bool
  deriving DecidableEq, Repr

/-- What a phase of the band search measures (R44): the codes found and the gains measured so far. -/
structure BandMeas where
  coarse : Nat
  medium : Nat
  fine : Nat
  medStep : Nat
  kdco : Nat
  tdcGain : Nat
  deriving DecidableEq, Repr

/-- One report of a checker to the collector (R304): the source, the unit of its scope (0xFFFF for the device),
and whether it came as two equal-rail samples. -/
structure Report where
  src : Nat
  unit : Nat
  wire : Bool
  deriving DecidableEq, Repr

/-- How a PMBus transaction ended (R298): a write acknowledged, a word read, a NACK, a PEC mismatch. -/
inductive PmbusResult
  | ack | word (v : Nat) | nack | pecError
  deriving DecidableEq, Repr

/-- The levels on the strap pins at a release (R265). -/
structure Straps where
  addr : Nat
  tport : Nat
  refdiv : Nat
  prof : Nat
  safepol : Nat
  deriving DecidableEq, Repr

/-- An IMAGE frame (R274): the byte offset of its first chunk, its session, and its chunks of 256 bytes, each
as one number, first byte least significant. -/
structure ImgFrame where
  offset : Nat
  session : Nat
  chunks : List (BitVec 2048)
  deriving DecidableEq, Repr


/-- The commands of the block: one constructor per row of the operation table, in its order. The first line of
each docstring is the table's own summary with its rule. -/
inductive Instr
  /-- FRAME_TICK (R21). The frame counter reaches 3,000 tc and starts a frame: heater codes and due commits take effect and every tile engine begins its frame schedule. -/
  | frameTick (errs : FrameErrs)
  /-- SLACK_WINDOW (R23). The last 64 ec of a frame begin and deferred configuration changes come into force. -/
  | slackWindow (late : List Nat)
  /-- LOOP_WINDOW_BOUNDARY (R20). A frame whose number is a multiple of W begins a loop window: pilot phase resets and window-boundary actions run. -/
  | loopWindowBoundary
  /-- MONITOR_SAMPLE (R88). Each monitor input is sampled at its fixed tc positions, five times per frame. -/
  | monitorSample (m k code : Nat)
  /-- PILOT_UPDATE (R84). The pilot value merged into every heater drive is recomputed at tc 600k. -/
  | pilotUpdate (k : Nat)
  /-- TIMING_PORT_BLOCK_LOCK (R267). The timing port's URX reaches block lock and the boot sequencer proceeds. -/
  | timingPortBlockLock
  /-- BAND_SEARCH_PHASE_END (R44). A phase of the band search completes and the next phase begins. -/
  | bandSearchPhaseEnd (x : BandMeas)
  /-- SEARCH_FAIL_TIMEOUT (R46). Lock is not qualified within 4,096 reference cycles of phase 6 or 7 and the search restarts. -/
  | searchFailTimeout
  /-- REFERENCE_LOSS (R34). The reference monitor declares loss by block-lock loss or missing edges. -/
  | referenceLoss (fine : Nat)
  /-- LOCK_LOSS (R48). The phase error exceeds 64 LSB for 16 cycles or the frequency detector exceeds 20 ppm, starting coasting. -/
  | lockLoss (fine : Nat)
  /-- CLK_READY_SET (R47). CLK_READY sets 64 reference cycles after lock is declared. -/
  | clkReadySet
  /-- RECENTRE (R39). After 16 cycles outside the centring window the medium or coarse band is moved with fine-code compensation. -/
  | recentre (fine : Nat)
  /-- REFERENCE_QUALIFIED (R50). A returning reference qualifies and re-lock begins from the frozen codes. -/
  | referenceQualified (within : Bool) (offset : Int)
  /-- RELOCK_LOCK (R50). Re-lock qualifies lock and recentring, tracking and phase steps resume. -/
  | relockLock
  /-- RELOCK_TIMEOUT (R50). A re-lock not qualified within 4,096 reference cycles is abandoned back to coasting. -/
  | relockTimeout
  /-- TRIM_WINDOW_END (R51). A coasting trim window ends and the frozen fine code is corrected by the measured frequency error. -/
  | trimWindowEnd (tdc : Int)
  /-- COAST_LIMIT_EXCEEDED (R53). The coast time first exceeds TC_COAST_LIMIT and the coast-limit fault source is raised. -/
  | coastLimitExceeded
  /-- PHASE_STEP (R54). A fine phase step of 1/256 tc is issued by two-point modulation. -/
  | phaseStep
  /-- TRACK_RAMP_STEP (R42). The tracking offset moves one FRAC LSB toward its target. -/
  | trackRampStep
  /-- PORT_SEL_WRITE (R32). A write to PORT_SEL moves the timing reference to the other port. -/
  | portSelWrite (w : Wr)
  /-- LOOP_BANDWIDTH_WRITE (R37). A write of BW or JC changes the timing loop coefficients at the next reference edge. -/
  | loopBandwidthWrite (w : Wr)
  /-- DIV_MODE_WRITE (R43). A change of DIV_MODE copies the divider state bumplessly between buffered and tracking modes. -/
  | divModeWrite (w : Wr)
  /-- DIV_COMMIT (R41). A GO to TC_DIV_COMMIT checks the staged divider values. -/
  | divCommit (w : Wr)
  /-- DIV_COMMIT_APPLY (R41). An accepted divider commit is applied at the first common reference edge with no pulse running. -/
  | divCommitApply
  /-- TRACK_TARGET_WRITE (R42). A write to TC_TRACK_TARGET sets the target offset of the tracking ramp. -/
  | trackTargetWrite (w : Wr)
  /-- CK_STATUS_READ (R66). A read of CK_STATUS returning CLK_READY = 1 sets READY_SEEN. -/
  | ckStatusRead (q : Rq)
  /-- SOURCE_SWITCH (R66). A GO to CK_SWITCH starts the move of FCLK, HCLK and AON logic to the DCO source. -/
  | sourceSwitch (w : Wr)
  /-- SOURCE_SWITCH_DONE (R67). The switch sequence completes, SRC reads 1 and the write response is sent. -/
  | sourceSwitchDone
  /-- IMAGE_SOURCE_SWITCH (R269). The running image makes the source switch within 10 µs of observing CLK_READY. -/
  | imageSourceSwitch
  /-- LINK_CFG_WRITE (R64). A write to CK_LINK_CFG changes the link-derived FCLK and HCLK or is stored. -/
  | linkCfgWrite (w : Wr)
  /-- CLOCK_ENABLE_WRITE (R70). A write to CK_GATE changes a domain's clock enables. -/
  | clockEnableWrite (d : Nat) (w : Wr)
  /-- DS_START (R71). The drive synthesiser starts once DRVSYN runs and CLK_READY is set. -/
  | dsStart
  /-- DS_PHASE_END (R71). A phase of the drive synthesiser start completes. -/
  | dsPhaseEnd (coarse : Nat)
  /-- DS_START_TIMEOUT (R71). A start whose lock does not qualify within 4,096 cycles reruns the full sequence. -/
  | dsStartTimeout
  /-- PDM_SOURCE_MOVE (R72). At the frame tick after lock PDM moves from the backup clock to the synthesiser. -/
  | pdmSourceMove
  /-- DS_LOCK_LOSS (R73). The drive synthesiser loses lock, PDM moves to backup and the unlock fault source is raised. -/
  | dsLockLoss
  /-- SSC_WRITE (R74). A write to DS_CONTROL requests a spread-spectrum mode or depth change. -/
  | sscWrite (w : Wr)
  /-- SSC_CHANGE_APPLY (R74). A spread-spectrum change applies at the next zero-offset point of the profile. -/
  | sscChangeApply
  /-- CMD_OFF (R80). LP_CMD OFF deactivates a lane by a deferred change. -/
  | cmdOff (q : Rq) (e : Nat)
  /-- CMD_PARK (R80). LP_CMD PARK parks a lane. -/
  | cmdPark (q : Rq) (e : Nat)
  /-- CMD_RUN (R80). LP_CMD RUN puts a lane in ACQUIRE with a hop. -/
  | cmdRun (q : Rq) (e : Nat) (ecc : EccOutcome)
  /-- CMD_COAST (R80). LP_CMD COAST puts a lane in COAST with HOST_COAST set. -/
  | cmdCoast (q : Rq) (e : Nat)
  /-- CMD_RESUME (R80). LP_CMD RESUME clears HOST_COAST and returns the lane to its remembered state at a window boundary. -/
  | cmdResume (q : Rq) (e : Nat)
  /-- CMD_CLEAR (R80). LP_CMD CLEAR clears a lane's fault flags and moves it from FAULT to PARK. -/
  | cmdClear (q : Rq) (e : Nat)
  /-- MONITOR_ASSIGN (R86). A write to LP_MON assigns a lane's monitor input and pilot slot. -/
  | monitorAssign (e : Nat) (w : Wr)
  /-- WINDOW_LENGTH_WRITE (R24). A write of W to LP_WINDOW requests, replaces or cancels a window-length change. -/
  | windowLengthWrite (w : Wr)
  /-- SETPOINT_WRITE (R96). A write to LP_SETPOINT sets a lane's target set-point. -/
  | setpointWrite (e : Nat) (w : Wr)
  /-- EO_CODE_WRITE (R100). A write to LP_EO_CODE changes the electro-optic code 4 tc after the next tick. -/
  | eoCodeWrite (e : Nat) (w : Wr)
  /-- HEATER_CURRENT_MEASURE (R98). The heater driver measures its on-current and the device computes the heater cap. -/
  | heaterCurrentMeasure (e ua : Nat)
  /-- EO_COMPLIANCE_FAULT (R101). An electro-optic output at compliance for 8 tc outside a kick faults the lane. -/
  | eoComplianceFault (e : Nat)
  /-- ARM_GO (R114). CM_ARM GO snapshots the shadow and starts arming a shadow commit. -/
  | armGo (q : Rq) (trig force : Bool)
  /-- ARM_DISARM (R116). CM_ARM DISARM ends an arming or armed shadow commit. -/
  | armDisarm (q : Rq)
  /-- SHADOW_SYNC (R113). CM_ARM SYNC copies CM_STATE into the shadow. -/
  | shadowSync (q : Rq)
  /-- ARMING_COMPLETE (R115). The arming steps finish and ARMED_FRAME or ARMED_TRIGGER is set. -/
  | armingComplete (eccs : List LaneEcc)
  /-- RING_COMMIT_ARM_START (R121). The arming unit begins arming the ring commit due at frame F. -/
  | ringCommitArmStart
  /-- TRIG_IN_EDGE (R119). A rising TRIG_IN edge reaches the decoder. -/
  | trigInEdge
  /-- SCHEDULE_PUSH (R120). SR_PUSH adds the staged activation to an element's schedule ring. -/
  | schedulePush (w : Wr)
  /-- SCHEDULE_FLUSH (R120). SR_FLUSH empties one element's schedule ring. -/
  | scheduleFlush (e : Nat) (w : Wr)
  /-- SCHEDULE_FLUSH_ALL (R120). SR_FLUSH_ALL empties every schedule ring. -/
  | scheduleFlushAll (w : Wr)
  /-- TT_WINDOW_READ (R109). TT_WIN_CMD READ loads a Tide Table entry into the window with its SECDED check. -/
  | ttWindowRead (q : Rq) (ecc : EccOutcome)
  /-- TT_WINDOW_WRITE (R108). TT_WIN_CMD WRITE stores the window data into a Tide Table entry. -/
  | ttWindowWrite (q : Rq)
  /-- NEIGHBOUR_WRITE (R111). A write to TT_NEIGH_01 or TT_NEIGH_23 sets an element's neighbour slots. -/
  | neighbourWrite (hi : Bool) (e : Nat) (w : Wr)
  /-- AGGRESSOR_WRITE (R126). A write to an XT_AGG slot sets an aggressor and coefficient, refused if it names the element itself. -/
  | aggressorWrite (j e : Nat) (w : Wr)
  /-- SURVEY_GO (R138). SV_START GO is checked and accepted to start a survey. -/
  | surveyGo (q : Rq) (clear : Bool)
  /-- SURVEY_ENTRY (R138). At the next frame tick the device enters SURVEY and darkens the gates. -/
  | surveyEntry
  /-- SURVEY_ABORT (R141). SV_START ABORT stops the survey stage and runs the restore stage. -/
  | surveyAbort (q : Rq)
  /-- SURVEY_PASS_START (R144). At the first tick of a pass every element takes its pass state and hops or sweeps. -/
  | surveyPassStart (eccs : List LaneEcc)
  /-- SWEEP_STEP_END (R145). A sweep step's measuring window ends and the next step code or the closed loop is applied. -/
  | sweepStepEnd
  /-- SURVEY_CAPTURE (R146). At the end of the capture windows a context is captured into its Tide Table entry. -/
  | surveyCapture
  /-- CROSSTALK_BASELINE_END (R147). The baseline stage ends and XT_BASE and XT_SELF_REF are written. -/
  | crosstalkBaselineEnd
  /-- AGGRESSOR_DWELL_END (R148). A dwell of an aggressor group ends and the next dwell or coefficient writes follow. -/
  | aggressorDwellEnd
  /-- SELF_PROBE_DWELL_END (R149). A self-heating probe dwell ends and tile coefficients are written after the off dwell. -/
  | selfProbeDwellEnd
  /-- SURVEY_RESTORE (R140). The restore stage returns states, hops surveyed elements, releases gates and posts the survey record. -/
  | surveyRestore (eccs : List LaneEcc)
  /-- SURVEY_RESUME (R142). After SUPPLY_MARGINAL clears the suspended stage restarts at the next window boundary. -/
  | surveyResume
  /-- CAL_TEMPERATURE_CHECK (R150). Every 1,024 fr each unit's sensor is checked and units beyond SV_TEMP_DELTA are queued. -/
  | calTemperatureCheck
  /-- CAL_REQUEST (R150). A write to SV_CAL_REQ queues a unit or all units. -/
  | calRequest (w : Wr)
  /-- CAL_RUN_START (R150). A queued calibration run starts when its conditions allow. -/
  | calRunStart (u : Nat)
  /-- CAL_RUN_END (R150). A calibration run ends, its corrections come into force and a calibration record is posted. -/
  | calRunEnd (u : Nat) (results : List Int)
  /-- CAL_CORRECTION_WRITE (R155). A host write to SV_MON_OFS, SV_TDC_LIN or SV_UNIT_TEMP is deferred or refused while the unit runs. -/
  | calCorrectionWrite (index sub : Nat) (w : Wr)
  /-- LEARN_INTERVAL_END (R156). A tracking lane's count reaches LEARN_WINDOWS and a refined lock value is formed. -/
  | learnIntervalEnd (e : Nat)
  /-- LEARNED_WRITE (R156). In the next slack window the learned value is written into the Tide Table entry. -/
  | learnedWrite (e : Nat)
  /-- TIME_READ_LATCH (R160). A read of TB_NOW subindex 0 latches all four time words for the reading port. -/
  | timeReadLatch (q : Rq)
  /-- WORD64_READ_LATCH (R235). A read of the low word of an RO 64-bit object latches its high word for that port. -/
  | word64ReadLatch (q : Rq) (index sub : Nat)
  /-- FRAME_MARK_RECEIVE (R164). A FRAME_MARK arrives and its arrival is captured for an exchange or for trimming. -/
  | frameMarkReceive (x : MarkMeas)
  /-- DREQ_SEND (R164). Every XCHG_INTERVAL frames the client sends a DREQ answering a received FRAME_MARK. -/
  | dreqSend (t3 : Nat)
  /-- DREQ_RECEIVE (R164). As server the device captures a DREQ's arrival and returns a DRESP. -/
  | dreqReceive (frame seq t4 : Nat)
  /-- DRESP_RECEIVE (R165). A DRESP completes an exchange, which is accepted or discarded as an outlier. -/
  | drespReceive (x : Dresp)
  /-- DRESP_TIMEOUT (R165). A DRESP not arrived within 2 fr makes the exchange lost. -/
  | drespTimeout
  /-- TIME_SET (R168). At the next tick after the first measurement in UNSET the frame number is corrected by whole frames. -/
  | timeSet (errs : FrameErrs)
  /-- STEP_AUTHORISE (R172). TB_STEP_AUTH GO schedules an authorised time step. -/
  | stepAuthorise (q : Rq) (id : Nat)
  /-- STEP_CANCEL (R172). TB_STEP_AUTH CANCEL removes a scheduled time step. -/
  | stepCancel (q : Rq) (id : Nat)
  /-- TIME_STEP (R173). At the tick that would begin AT_FRAME the frame number moves by FRAMES and a TIME_STEP record is posted. -/
  | timeStep (errs : FrameErrs)
  /-- LIGHT_CROSSING (R177). A port detector input crosses a threshold and, after DWELL, changes level with a timestamp. -/
  | lightCrossing (p bin ua lasts : Nat)
  /-- LIGHT_LEVEL (R178). A port starting to capture posts a LIGHT_LEVEL record of its level. -/
  | lightLevel (p : Nat)
  /-- PD_CONFIG_WRITE (R178). A write to PD_CFG changes thresholds or dwell at the next frame tick. -/
  | pdConfigWrite (p : Nat) (w : Wr)
  /-- LIGHT_RECORD_ENQUEUE (R179). A waiting light capture enters the event FIFO, one per quadrant per tc. -/
  | lightRecordEnqueue (quadrant : Nat)
  /-- EVIDENCE_RECORD_WRITE (R190). The evidence writer takes a record into the next event slot with its sequence number. -/
  | evidenceRecordWrite
  /-- SEAL_TIMEOUT (R192). An open block older than SEAL_TIMEOUT is closed by fill records. -/
  | sealTimeout
  /-- SEAL_NOW (R192). EV_CTRL SEAL_NOW closes the open block by fill records. -/
  | sealNow (w : Wr)
  /-- KEY_COMMIT (R193). EV_KEY_CTRL COMMIT starts a chain or changes the audit key. -/
  | keyCommit (w : Wr)
  /-- KEY_LOCK (R194). EV_KEY_CTRL LOCK forbids further key COMMITs until cold reset. -/
  | keyLock (w : Wr)
  /-- CHAIN_RESTART (R193). After a reset that kept the key the writer starts a new chain with LOG_KEY reason 2. -/
  | chainRestart
  /-- EVIDENCE_ACK (R199). EV_ACK frees the oldest sealed blocks. -/
  | evidenceAck (w : Wr)
  /-- EVIDENCE_READ (R200). A read of buffer words checks SECDED and may raise the evidence-buffer source. -/
  | evidenceRead (q : Rq) (index sub : Nat) (ecc : EccOutcome) (raw : Word)
  /-- REQUEST_RECEIVE (R246). A dictionary frame passes its CRC into a request buffer or is discarded when all four are full. -/
  | requestReceive (pair : Nat) (f : RxFrame)
  /-- READ_REQUEST (R241). The service executes a READ_REQ and answers with READ_RESP. -/
  | readRequest (q : Rq) (index sub : Nat)
  /-- BULK_READ_REQUEST (R243). The service reads COUNT consecutive subindices and answers with BULK_READ_RESP. -/
  | bulkReadRequest (q : Rq) (index sub : Nat) (run : ReadRun)
  /-- BULK_WRITE_REQUEST (R244). The service checks and executes the items of a BULK_WRITE_REQ. -/
  | bulkWriteRequest (q : Rq) (stop : Bool) (items : List BulkItem)
  /-- OBJECT_WRITE (R242). A write to an object without a row of its own is checked and stored by mask. -/
  | objectWrite (index sub : Nat) (w : Wr)
  /-- FRAME_FORWARD (R216). A block or frame not for this device is forwarded cut-through. -/
  | frameForward (pair : Nat) (x : RxItem)
  /-- OWN_FRAME_TRANSMIT (R217). A frame of the device's own starts once the through buffer has room. -/
  | ownFrameTransmit (pair : Nat)
  /-- LINK_SIGNAL_DETECT (R218). A receive lane detects signal and CDR lock in link-up. -/
  | linkSignalDetect (x : LaneSignal)
  /-- LINK_BLOCK_LOCK (R208). A lane pair reaches block lock after 64 valid sync headers. -/
  | linkBlockLock (pair : Nat)
  /-- HELLO_SEND (R218). A HELLO block is sent every 16 blocks during link-up. -/
  | helloSend (pair : Nat)
  /-- HELLO_RECEIVE (R218). A peer HELLO advances version agreement. -/
  | helloReceive (pair : Nat) (h : Hello)
  /-- LINK_LOSS (R225). A lane pair loses signal, CDR or block lock and is declared lost. -/
  | linkLoss (pair : Nat) (fine : Nat)
  /-- LOOP_ENGAGE (R225). At the next frame boundary the lost pair's stream is looped onto the other pair. -/
  | loopEngage (pair : Nat)
  /-- LOOP_RELEASE (R225). After LOOP_HOLD of UP the loop is released at a frame boundary. -/
  | loopRelease (pair : Nat)
  /-- ARB_TOKEN (R255). An ARB_HEAD and ARB_TAIL pair arrives and its HMAC check begins. -/
  | arbToken (pair dest epoch : Nat) (t : TokenTag)
  /-- TOKEN_OUTCOME (R256). At the next request boundary the token's outcome takes effect. -/
  | tokenOutcome
  /-- SE_ACQUIRE (R252). SE_ACQUIRE takes all named semaphore sections or none. -/
  | seAcquire (w : Wr)
  /-- SE_RELEASE (R253). SE_RELEASE frees the named sections held by the writing port. -/
  | seRelease (w : Wr)
  /-- ARB_KEY_WRITE (R254). A write of an SE_ARB_KEY word stores part of the arbitration key. -/
  | arbKeyWrite (k : Nat) (w : Wr)
  /-- WAKE_RECEIVE (R230). A WAKE block addressed to a DORMANT device is accepted. -/
  | wakeReceive (pair dest : Nat)
  /-- RING_RESET_RECEIVE (R224). A RING_RESET block is judged against the epoch and forwarded. -/
  | ringResetReceive (pair dest epoch : Nat)
  /-- BOOT_BEGIN (R273). BT_CTRL BEGIN starts an image download session. -/
  | bootBegin (w : Wr)
  /-- BOOT_END (R273). BT_CTRL END starts the image check. -/
  | bootEnd (w : Wr)
  /-- BOOT_RUN (R273). BT_CTRL RUN starts a checked image at ENTRY. -/
  | bootRun (w : Wr)
  /-- BOOT_ABORT (R273). BT_CTRL ABORT discards the chunks and returns to EMPTY. -/
  | bootAbort (w : Wr)
  /-- IMAGE_CHECK_DONE (R272). The image check completes with its RESULT and a FIRMWARE record. -/
  | imageCheckDone
  /-- IMAGE_FRAME (R274). An IMAGE frame stores its chunks or is refused. -/
  | imageFrame (q : Rq) (f : ImgFrame)
  /-- MODE_REQUEST_SERVICE (R277). MD_REQUEST SERVICE is checked against the transition's conditions. -/
  | modeRequestService (w : Wr)
  /-- MODE_REQUEST_DORMANT (R277). MD_REQUEST DORMANT is checked against the transition's conditions. -/
  | modeRequestDormant (w : Wr)
  /-- MODE_CHANGE (R277). At the frame tick a requested or caused mode change is judged again and takes effect with a MODE record. -/
  | modeChange
  /-- DORMANT_CLOCK_STOP (R278). At the tick after the Neap entry the frame counter and DCO stop and endpoints go to the repeater. -/
  | dormantClockStop
  /-- POWER_REQUEST (R287). PW_REQ GO requests a target state for named domains. -/
  | powerRequest (w : Wr)
  /-- POWER_REQUEST_START (R288). A running or pending power request starts at its frame tick. -/
  | powerRequestStart
  /-- NEAP_VOTE_CHECK (R290). One frame after prepare the votes are checked and a forbidding vote refuses the entry. -/
  | neapVoteCheck
  /-- NEAP_ISOLATE (R290). The next domain in order is isolated into retention. -/
  | neapIsolate
  /-- NEAP_POWER_DOWN (R290). After the commit point the supplies fall and domains read NEAP. -/
  | neapPowerDown
  /-- DOMAIN_WAKE (R293). An access, vote or request wakes a domain from Ebb or Neap. -/
  | domainWake (d client : Nat)
  /-- DOMAIN_WAKE_DONE (R292). A waking domain completes its exit and is RUN. -/
  | domainWakeDone (d : Nat)
  /-- PERF_LEVEL_REQUEST (R296). PL_REQUEST requests a performance level, checked against the budget and clocks. -/
  | perfLevelRequest (w : Wr)
  /-- PERF_STEP_START (R297). A pending performance-level step starts. -/
  | perfStepStart
  /-- PERF_FREQUENCY_CHANGE (R297). ECLK and FCLK change at the second tick after decision and a PERF_LEVEL record is posted. -/
  | perfFrequencyChange
  /-- PMBUS_TRANSACTION_DONE (R298). A PMBus transaction completes, confirming, retrying or failing the step. -/
  | pmbusTransactionDone (x : PmbusResult)
  /-- VOUT_SETTLE_END (R297). The PL_SETTLE time after VOUT_COMMAND ends and READ_VOUT is started. -/
  | voutSettleEnd
  /-- DOMAIN_RESET_REQUEST (R341). PW_DOMAIN_RESET GO requests a domain reset. -/
  | domainResetRequest (w : Wr)
  /-- DOMAIN_RESET_START (R342). At its tick the domain's clocks stop, breakwaters engage and tokens drop. -/
  | domainResetStart
  /-- DOMAIN_RESET_RELEASE (R342). The domain reset asserts and then releases with C0 content at defaults. -/
  | domainResetRelease
  /-- CROSSING_PEER_DROP (R340). A crossing's survivor sees the peer-alive token drop, flushes and answers PEER_RESET. -/
  | crossingPeerDrop (d : Nat)
  /-- CROSSING_HANDSHAKE_DONE (R340). A fresh handshake completes and traffic resumes across the crossing. -/
  | crossingHandshakeDone (d : Nat)
  /-- FAULT_REPORT (R304). A checker reports a fault code to the collector, which reacts by severity. -/
  | faultReport (reports : List Report)
  /-- REACTION_WINDOW_CLOSE (R308). The reaction window closes and the FAULT record is formed. -/
  | reactionWindowClose
  /-- CONTAINMENT_APPLY (R309). At the next tick S2 containment coasts or parks the lanes in scope. -/
  | containmentApply
  /-- FAULT_RECORD_ENQUEUE (R313). A closed fault record passes to the event FIFO when it has room, or is lost. -/
  | faultRecordEnqueue
  /-- SAFE_IN_LOW (R317). SAFE_IN_N low darkens the gates through the unclocked path and reports source 3. -/
  | safeInLow
  /-- FLT_READBACK_MISMATCH (R306). The FLT pair read-back differs for 4 tc and reports source 13. -/
  | fltReadbackMismatch
  /-- GATE_READBACK_MISMATCH (R318). A gate current disagreeing for 16 tc reports source 57 or 4. -/
  | gateReadbackMismatch (p : Nat)
  /-- FAULT_CLEAR_SOURCE (R314). FC_CLEAR with SOURCE clears one sticky bit and its containment. -/
  | faultClearSource (w : Wr)
  /-- FAULT_CLEAR_ALL (R314). FC_CLEAR ALL clears every sticky bit whose cause is absent. -/
  | faultClearAll (w : Wr)
  /-- FIRST_FAULT_CLEAR (R312). FC_CLEAR FIRST empties FC_FIRST. -/
  | firstFaultClear (w : Wr)
  /-- SAFE_RELEASE (R320). SF_RELEASE with the key requests release from S3. -/
  | safeRelease (w : Wr)
  /-- SAFE_RELEASE_EFFECT (R320). At the next tick the safe state ends, FLT deasserts and the next mode is chosen. -/
  | safeReleaseEffect
  /-- SUPPLY_WARNING_CROSS (R323). VCORE or VTIME falls below its warning level. -/
  | supplyWarningCross (rail lowest : Nat)
  /-- SUPPLY_DIP_QUALIFY (R323). A rail below warning for 100 ns sets SUPPLY_MARGINAL and reports source 8 or 9. -/
  | supplyDipQualify (rail lowest : Nat)
  /-- SUPPLY_RECOVER (R323). The rail rises back through warning; a dip posts SUPPLY_DIP, a short excursion counts as a glitch. -/
  | supplyRecover (x : RailReading)
  /-- SUPPLY_MARGINAL_CLEAR (R323). SUPPLY_MARGINAL clears 10 µs after the last recovery. -/
  | supplyMarginalClear
  /-- SUPPLY_RESET_LEVEL (R322). A rail below its reset level for 20 ns reports source 5 or 6 at S3. -/
  | supplyResetLevel (rail : Nat)
  /-- BROWNOUT_RESET_ASSERT (R322). The brownout reset asserts 64 tc after the reset-level detection. -/
  | brownoutResetAssert
  /-- TEMPERATURE_CONVERSION (R325). Every 16 fr each sensor is converted and compared with WARN and CRIT. -/
  | temperatureConversion (readings : List (Nat × Int))
  /-- PMBUS_ALERT (R326). PMB_ALERT_N low for 1 µs reports source 12 and reads STATUS_WORD. -/
  | pmbusAlert (status : Nat)
  /-- FAULT_INJECT (R327). TI_INJECT GO inverts the check bits of the next COUNT checks of a source. -/
  | faultInject (w : Wr)
  /-- COLD_RESET (R330). A monitored rail falls below its power-on threshold and cold reset asserts. -/
  | coldReset
  /-- PIN_RESET (R332). RST_N low for 100 ns is recognised as a pin reset. -/
  | pinReset (width : Nat)
  /-- RING_RESET_ASSERT (R330). An accepted RING_RESET asserts the ring reset 200 ns after arrival. -/
  | ringResetAssert
  /-- RESET_RELEASE (R333). A device reset releases: straps sampled, Fatal latch read, gate bits set dark and BOOT entered. -/
  | resetRelease (straps : Straps)
  /-- VGATE_CROSSING (R337). VGATE crosses its threshold, enabling or disabling the gates, FLT pair and safe latch. -/
  | vgateCrossing (up : Bool)
  /-- FAULT_CAUSE_END (R304). A checker's wire returns to the no-fault code, or SAFE_IN_N or PMB_ALERT_N returns high, so the source's cause is no longer reported and its FC_ACTIVE bit clears. -/
  | faultCauseEnd (src : Nat)
  /-- DOMAIN_START (R276). The running image starts the remaining switched domains from DOWN once SRC = 1, and sets DOMAINS_UP when all are started. -/
  | domainStart
  deriving DecidableEq, Repr

end Sys2Proof
end

