-- ==== Sys2Proof/Decode.lean ====
section
/-! DEFINITION. Commands from words: the operation table gives no row any bits, so no word spells a command. -/

namespace Sys2Proof

/-- The command that a word spells by the table's bits: the table has none for any row. -/
def decodeTableWord (_nbits _w : Nat) : Option Instr := none

end Sys2Proof
end

