-- ==== Sys2Proof/Config.lean ====
section
/-! DEFINITION. What one die or one integrator fixes, and the free values of the model. Each constant here is
opaque: no proof can see its value. -/

namespace Sys2Proof.Config

/-- The free values: the `n`-th value the manual leaves open (log entry 5). -/
opaque freeValue : Nat → BitVec 32

/-- A choice that the manual leaves open between two outcomes (log entry 5). -/
opaque freeBit : Nat → Bool

/-- 0x1001.00 ID_REVISION, "Per die" (Table 10-12). -/
opaque idRevision : BitVec 16

/-- 0x1002 ID_SERIAL, "Per die" (Table 10-12). -/
opaque idSerial : BitVec 64

/-- 0x1012.00 ID_OD_COUNTS.OBJECTS, "Profile" (Table 10-12): the manual gives only an approximate figure. -/
opaque odObjects : BitVec 32

/-- 0x1012.01 ID_OD_COUNTS.SUBENTRIES, "Profile" (Table 10-12). -/
opaque odSubentries : BitVec 32

/-- 0x1404 BT_KEY_HASH, fused at the integrator's order (R272): eight words, first at index 0. -/
opaque keyHash : Nat → BitVec 32

/-- 0x1405.00 BT_SVN_MIN, fused at the integrator's order (R272). -/
opaque svnMin : BitVec 32

end Sys2Proof.Config
end

