-- ==== Sys2Proof/Machine/Table.lean ====
section
/-! DEFINITION. Sparse arrays as plain data: a list of key and value pairs in one canonical form (keys strictly
rising, no entry equal to what an unlisted key reads as). -/

namespace Sys2Proof.Machine

/-- A sparse array: key and value pairs, keys rising. -/
abbrev Table (α : Type) := List (Nat × α)

/-- What key `k` reads as; `d k` where it is not listed. -/
def Table.find {α : Type} (d : Nat → α) (k : Nat) : Table α → α
  | [] => d k
  | (j, v) :: t => if j = k then v else if k < j then d k else Table.find d k t

/-- Writing `v` at key `k`, keeping the canonical form: the default value is not listed. -/
def Table.put {α : Type} [DecidableEq α] (d : Nat → α) (k : Nat) (v : α) : Table α → Table α
  | [] => if v = d k then [] else [(k, v)]
  | (j, w) :: t =>
    if j = k then (if v = d k then t else (k, v) :: t)
    else if k < j then (if v = d k then (j, w) :: t else (k, v) :: (j, w) :: t)
    else (j, w) :: Table.put d k v t

/-- Key `k` lies above the bound, where there is one. -/
def Table.above : Option Nat → Nat → Bool
  | none, _ => true
  | some n, k => decide (n < k)

/-- Every listed key is above the bound, keys rise, and no entry reads as the default. -/
def Table.wfFrom {α : Type} [DecidableEq α] (d : Nat → α) : Option Nat → Table α → Bool
  | _, [] => true
  | b, (j, v) :: t => Table.above b j && decide (v ≠ d j) && Table.wfFrom d (some j) t

/-- The canonical form. -/
def Table.wf {α : Type} [DecidableEq α] (d : Nat → α) (t : Table α) : Bool := Table.wfFrom d none t

/-- Every listed value rewritten; values that become the default are dropped. -/
def Table.mapVals {α : Type} [DecidableEq α] (d : Nat → α) (f : Nat → α → α) : Table α → Table α
  | [] => []
  | (j, v) :: t => if f j v = d j then Table.mapVals d f t else (j, f j v) :: Table.mapVals d f t

end Sys2Proof.Machine
end

