-- ==== Sys2Proof/Machine/Objects.lean ====
section
/-! DEFINITION. The object dictionary's layout: every field of the spec's field maps (chapters 2 to 14), its
bits, access class (Table 0-6), default and persistence class (Table 0-7), and the value an object that
nothing has written reads as. -/

namespace Sys2Proof.Machine

/-- Access classes (R7, Table 0-6). -/
inductive Access | ro | rw | wo | rwg | wog | w1 | const
  deriving DecidableEq, Repr

/-- Persistence classes (R8, Table 0-7); `latch` is the safe-state fatal latch of R318. -/
inductive Pers | c0 | c1 | c2 | c3 | c4 | latch
  deriving DecidableEq, Repr

/-- One row of a field map: bits, access, default, persistence. -/
structure FieldRow where
  hi : Nat
  lo : Nat
  acc : Access
  dflt : Nat
  pers : Pers
  deriving DecidableEq, Repr

/-- One object, or one group of its subindices, with its fields. Per-tile objects stand at tile 0 (R238). -/
structure ObjRow where
  index : Nat
  subLo : Nat
  subHi : Nat
  fields : List FieldRow
  deriving DecidableEq, Repr

/-- A named field: object index, first subindex, bits. -/
structure Field where
  index : Nat
  sub : Nat
  hi : Nat
  lo : Nat
  deriving DecidableEq, Repr

/-- Field-map rows of the objects 0x1000 to 0x10FF. -/
def objRows10 : List ObjRow := [
  ⟨0x1000, 0x0, 0x0, [⟨31, 16, .const, 20044, .c4⟩, ⟨15, 8, .const, 1, .c4⟩, ⟨7, 0, .const, 1, .c4⟩]⟩,
  ⟨0x1000, 0x1, 0x1, [⟨31, 0, .const, 4096, .c4⟩]⟩,
  ⟨0x1001, 0x0, 0x0, [⟨31, 24, .const, 0, .c4⟩, ⟨23, 16, .const, 0, .c4⟩]⟩,
  ⟨0x1002, 0x0, 0x1, [⟨31, 0, .const, 0, .c4⟩]⟩,
  ⟨0x1003, 0x0, 0x0, [⟨12, 12, .ro, 0, .c3⟩, ⟨11, 9, .ro, 0, .c3⟩, ⟨8, 7, .ro, 0, .c3⟩, ⟨6, 6, .ro, 0, .c3⟩, ⟨5, 0, .ro, 0, .c3⟩]⟩,
  ⟨0x1010, 0x0, 0x0, [⟨31, 24, .const, 1, .c4⟩, ⟨23, 16, .const, 0, .c4⟩, ⟨15, 0, .const, 0, .c4⟩]⟩,
  ⟨0x1011, 0x0, 0x0, [⟨31, 24, .ro, 0, .c1⟩, ⟨23, 16, .ro, 0, .c1⟩, ⟨15, 0, .ro, 0, .c1⟩]⟩,
  ⟨0x1012, 0x0, 0x0, [⟨31, 0, .ro, 0, .c1⟩]⟩,
  ⟨0x1012, 0x1, 0x1, [⟨31, 0, .ro, 0, .c1⟩]⟩,
  ⟨0x1040, 0x0, 0x3, [⟨31, 0, .ro, 0, .c1⟩]⟩,
  ⟨0x1040, 0x4, 0x7, [⟨31, 0, .ro, 0, .c1⟩]⟩]

/-- Field-map rows of the objects 0x1100 to 0x11FF. -/
def objRows11 : List ObjRow := [
  ⟨0x1100, 0x0, 0x3, [⟨31, 29, .ro, 0, .c0⟩, ⟨28, 28, .ro, 0, .c0⟩, ⟨27, 27, .ro, 0, .c0⟩, ⟨26, 26, .ro, 0, .c0⟩, ⟨23, 16, .ro, 255, .c0⟩]⟩,
  ⟨0x1101, 0x0, 0x1, [⟨25, 16, .rwg, 100, .c2⟩, ⟨8, 8, .rwg, 1, .c2⟩, ⟨0, 0, .rwg, 1, .c2⟩]⟩,
  ⟨0x1102, 0x0, 0x0, [⟨5, 0, .ro, 0, .c3⟩]⟩,
  ⟨0x1110, 0x0, 0x0, [⟨1, 1, .const, 1, .c4⟩, ⟨0, 0, .const, 1, .c4⟩]⟩,
  ⟨0x1120, 0x0, 0x3, [⟨16, 16, .ro, 0, .c0⟩, ⟨15, 8, .ro, 0, .c0⟩, ⟨7, 0, .ro, 0, .c0⟩]⟩,
  ⟨0x1140, 0x0, 0x1, [⟨31, 24, .ro, 0, .c0⟩, ⟨23, 16, .ro, 0, .c0⟩, ⟨15, 0, .ro, 0, .c0⟩]⟩,
  ⟨0x1150, 0x0, 0x3, [⟨15, 0, .ro, 0, .c0⟩]⟩,
  ⟨0x1151, 0x0, 0x3, [⟨7, 0, .rwg, 0, .c0⟩]⟩,
  ⟨0x1130, 0x0, 0x3, [⟨31, 0, .ro, 0, .c1⟩]⟩,
  ⟨0x1131, 0x0, 0x3, [⟨31, 0, .ro, 0, .c1⟩]⟩,
  ⟨0x1132, 0x0, 0x3, [⟨31, 0, .ro, 0, .c1⟩]⟩,
  ⟨0x1133, 0x0, 0x3, [⟨31, 0, .ro, 0, .c1⟩]⟩,
  ⟨0x1134, 0x0, 0x3, [⟨31, 0, .ro, 0, .c1⟩]⟩,
  ⟨0x1135, 0x0, 0x3, [⟨31, 0, .ro, 0, .c1⟩]⟩,
  ⟨0x1136, 0x0, 0x3, [⟨31, 0, .ro, 0, .c1⟩]⟩,
  ⟨0x1137, 0x0, 0x3, [⟨31, 0, .ro, 0, .c1⟩]⟩,
  ⟨0x1160, 0x0, 0x0, [⟨31, 0, .ro, 0, .c1⟩]⟩,
  ⟨0x1160, 0x1, 0x1, [⟨31, 0, .ro, 0, .c1⟩]⟩]

/-- Field-map rows of the objects 0x1300 to 0x13FF. -/
def objRows13 : List ObjRow := [
  ⟨0x1300, 0x0, 0xF, [⟨31, 30, .ro, 0, .c1⟩, ⟨15, 0, .ro, 0, .c1⟩]⟩,
  ⟨0x1301, 0x0, 0x0, [⟨15, 0, .wo, 0, .c0⟩]⟩,
  ⟨0x1302, 0x0, 0x0, [⟨15, 0, .wo, 0, .c0⟩]⟩,
  ⟨0x1303, 0x0, 0x0, [⟨31, 16, .ro, 0, .c1⟩, ⟨15, 0, .ro, 0, .c1⟩]⟩,
  ⟨0x1340, 0x0, 0x0, [⟨31, 0, .ro, 0, .c3⟩]⟩,
  ⟨0x1340, 0x1, 0x1, [⟨31, 31, .ro, 0, .c3⟩, ⟨27, 26, .ro, 0, .c3⟩]⟩,
  ⟨0x1341, 0x0, 0x7, [⟨31, 0, .w1, 0, .c3⟩]⟩,
  ⟨0x1342, 0x0, 0x5, [⟨31, 0, .ro, 0, .c1⟩]⟩,
  ⟨0x1343, 0x0, 0x0, [⟨31, 28, .ro, 0, .c1⟩, ⟨27, 26, .ro, 0, .c1⟩, ⟨7, 0, .ro, 0, .c1⟩]⟩,
  ⟨0x1343, 0x1, 0x1, [⟨31, 0, .ro, 0, .c1⟩]⟩]

/-- Field-map rows of the objects 0x1400 to 0x14FF. -/
def objRows14 : List ObjRow := [
  ⟨0x1400, 0x0, 0x0, [⟨31, 28, .ro, 0, .c1⟩, ⟨27, 24, .ro, 0, .c1⟩, ⟨23, 23, .ro, 0, .c0⟩, ⟨15, 0, .ro, 0, .c1⟩]⟩,
  ⟨0x1401, 0x0, 0x0, [⟨31, 16, .wog, 0, .c0⟩, ⟨2, 0, .wog, 0, .c0⟩]⟩,
  ⟨0x1401, 0x1, 0x1, [⟨19, 0, .rwg, 0, .c1⟩]⟩,
  ⟨0x1402, 0x0, 0x0, [⟨27, 16, .ro, 0, .c1⟩, ⟨11, 0, .ro, 0, .c1⟩]⟩,
  ⟨0x1402, 0x1, 0x1, [⟨31, 0, .ro, 0, .c1⟩]⟩,
  ⟨0x1403, 0x0, 0x0, [⟨31, 0, .ro, 0, .c1⟩]⟩,
  ⟨0x1404, 0x0, 0x7, [⟨31, 0, .const, 0, .c4⟩]⟩,
  ⟨0x1405, 0x0, 0x0, [⟨31, 0, .const, 0, .c4⟩]⟩,
  ⟨0x1406, 0x0, 0x0, [⟨31, 0, .ro, 0, .c1⟩]⟩,
  ⟨0x1406, 0x1, 0x1, [⟨31, 0, .ro, 0, .c1⟩]⟩,
  ⟨0x1407, 0x0, 0x0, [⟨31, 0, .ro, 0, .c1⟩]⟩]

/-- Field-map rows of the objects 0x1800 to 0x18FF. -/
def objRows18 : List ObjRow := [
  ⟨0x1800, 0x0, 0x0, [⟨31, 28, .ro, 0, .c0⟩, ⟨27, 24, .ro, 0, .c0⟩, ⟨23, 20, .ro, 0, .c0⟩, ⟨19, 19, .ro, 0, .c0⟩, ⟨14, 14, .ro, 1, .c0⟩, ⟨13, 13, .ro, 1, .c0⟩, ⟨12, 12, .ro, 1, .c0⟩]⟩,
  ⟨0x1801, 0x0, 0x0, [⟨3, 0, .rwg, 0, .c0⟩]⟩,
  ⟨0x1802, 0x0, 0x0, [⟨31, 0, .ro, 0, .c1⟩]⟩,
  ⟨0x1802, 0x1, 0x1, [⟨31, 0, .ro, 0, .c1⟩]⟩,
  ⟨0x1803, 0x0, 0x0, [⟨31, 28, .ro, 0, .c0⟩, ⟨27, 27, .ro, 0, .c0⟩, ⟨26, 25, .ro, 0, .c0⟩, ⟨1, 0, .ro, 0, .c0⟩]⟩,
  ⟨0x1803, 0x1, 0x1, [⟨31, 16, .ro, 0, .c3⟩, ⟨15, 0, .ro, 0, .c3⟩]⟩]

/-- Field-map rows of the objects 0x2000 to 0x20FF. -/
def objRows20 : List ObjRow := [
  ⟨0x2000, 0x0, 0x0, [⟨31, 28, .ro, 0, .c0⟩, ⟨27, 27, .ro, 0, .c0⟩, ⟨26, 26, .ro, 0, .c0⟩, ⟨25, 25, .ro, 0, .c0⟩, ⟨24, 24, .ro, 0, .c0⟩, ⟨23, 23, .ro, 0, .c0⟩, ⟨22, 22, .ro, 0, .c0⟩, ⟨21, 21, .ro, 0, .c0⟩, ⟨20, 19, .ro, 0, .c0⟩, ⟨15, 12, .ro, 3, .c0⟩]⟩,
  ⟨0x2001, 0x0, 0x0, [⟨6, 6, .rwg, 1, .c2⟩, ⟨5, 5, .rwg, 1, .c2⟩, ⟨4, 4, .rwg, 0, .c2⟩, ⟨3, 0, .rwg, 3, .c2⟩]⟩,
  ⟨0x2002, 0x0, 0x0, [⟨4, 4, .rwg, 0, .c3⟩, ⟨3, 3, .ro, 0, .c3⟩, ⟨2, 1, .ro, 0, .c3⟩, ⟨0, 0, .ro, 0, .c3⟩]⟩,
  ⟨0x2003, 0x0, 0x0, [⟨9, 8, .ro, 0, .c0⟩, ⟨6, 0, .ro, 38, .c0⟩]⟩,
  ⟨0x2004, 0x0, 0x0, [⟨9, 8, .rwg, 0, .c2⟩, ⟨6, 0, .rwg, 38, .c2⟩]⟩,
  ⟨0x2003, 0x1, 0x1, [⟨23, 0, .ro, 6710886, .c0⟩]⟩,
  ⟨0x2004, 0x1, 0x1, [⟨23, 0, .rwg, 6710886, .c2⟩]⟩,
  ⟨0x2005, 0x0, 0x0, [⟨0, 0, .wog, 0, .c0⟩]⟩,
  ⟨0x2006, 0x0, 0x0, [⟨31, 0, .rwg, 0, .c2⟩]⟩,
  ⟨0x2006, 0x1, 0x1, [⟨31, 0, .ro, 0, .c0⟩]⟩,
  ⟨0x2006, 0x2, 0x2, [⟨13, 0, .rwg, 1000, .c2⟩]⟩,
  ⟨0x2009, 0x0, 0x0, [⟨31, 0, .ro, 0, .c0⟩]⟩,
  ⟨0x2009, 0x1, 0x1, [⟨31, 0, .ro, 0, .c0⟩]⟩,
  ⟨0x2009, 0x2, 0x2, [⟨15, 0, .ro, 34133, .c0⟩]⟩,
  ⟨0x200A, 0x0, 0x0, [⟨31, 24, .ro, 0, .c0⟩, ⟨21, 16, .ro, 0, .c0⟩, ⟨15, 0, .ro, 0, .c0⟩]⟩,
  ⟨0x200A, 0x1, 0x1, [⟨31, 24, .ro, 0, .c1⟩, ⟨21, 16, .ro, 0, .c1⟩, ⟨15, 0, .ro, 0, .c1⟩]⟩,
  ⟨0x200A, 0x2, 0x2, [⟨31, 16, .ro, 0, .c1⟩, ⟨15, 0, .ro, 0, .c1⟩]⟩,
  ⟨0x200C, 0x0, 0x0, [⟨31, 0, .ro, 0, .c1⟩]⟩,
  ⟨0x200C, 0x1, 0x1, [⟨31, 0, .ro, 0, .c1⟩]⟩,
  ⟨0x200C, 0x2, 0x2, [⟨31, 0, .ro, 0, .c1⟩]⟩,
  ⟨0x200C, 0x3, 0x3, [⟨31, 0, .ro, 0, .c1⟩]⟩,
  ⟨0x200C, 0x4, 0x4, [⟨31, 0, .ro, 0, .c1⟩]⟩,
  ⟨0x200C, 0x5, 0x5, [⟨31, 0, .ro, 0, .c1⟩]⟩,
  ⟨0x200C, 0x6, 0x6, [⟨31, 0, .ro, 0, .c1⟩]⟩,
  ⟨0x2010, 0x0, 0x0, [⟨15, 0, .rwg, 100, .c2⟩]⟩,
  ⟨0x2011, 0x0, 0x0, [⟨15, 0, .rwg, 500, .c2⟩]⟩,
  ⟨0x2013, 0x0, 0x0, [⟨9, 0, .rwg, 10, .c2⟩]⟩,
  ⟨0x2012, 0x0, 0x0, [⟨31, 0, .ro, 0, .c0⟩]⟩,
  ⟨0x2012, 0x1, 0x1, [⟨31, 0, .ro, 0, .c0⟩]⟩,
  ⟨0x2012, 0x2, 0x2, [⟨31, 0, .ro, 0, .c0⟩]⟩,
  ⟨0x2012, 0x3, 0x3, [⟨31, 0, .ro, 0, .c0⟩]⟩,
  ⟨0x2014, 0x0, 0x0, [⟨12, 0, .rwg, 64, .c2⟩]⟩,
  ⟨0x2014, 0x1, 0x1, [⟨31, 0, .ro, 0, .c0⟩]⟩,
  ⟨0x2014, 0x2, 0x2, [⟨31, 0, .ro, 0, .c1⟩]⟩,
  ⟨0x2018, 0x0, 0x5, [⟨15, 8, .ro, 0, .c0⟩, ⟨1, 1, .ro, 0, .c0⟩, ⟨0, 0, .ro, 0, .c0⟩]⟩]

/-- Field-map rows of the objects 0x2100 to 0x21FF. -/
def objRows21 : List ObjRow := [
  ⟨0x2100, 0x0, 0x0, [⟨31, 28, .ro, 0, .c0⟩, ⟨27, 27, .ro, 0, .c0⟩, ⟨26, 26, .ro, 0, .c0⟩, ⟨25, 25, .ro, 0, .c0⟩, ⟨24, 24, .ro, 0, .c0⟩, ⟨23, 22, .ro, 0, .c0⟩, ⟨21, 16, .ro, 50, .c0⟩]⟩,
  ⟨0x2101, 0x0, 0x0, [⟨9, 8, .rwg, 0, .c2⟩, ⟨5, 0, .rwg, 50, .c2⟩]⟩,
  ⟨0x2102, 0x0, 0x0, [⟨6, 0, .const, 8, .c4⟩]⟩,
  ⟨0x2102, 0x1, 0x1, [⟨23, 0, .const, 8947848, .c4⟩]⟩,
  ⟨0x2103, 0x0, 0x0, [⟨31, 0, .ro, 0, .c1⟩]⟩,
  ⟨0x2103, 0x1, 0x1, [⟨31, 0, .ro, 0, .c1⟩]⟩,
  ⟨0x2103, 0x2, 0x2, [⟨31, 0, .ro, 0, .c1⟩]⟩,
  ⟨0x2104, 0x0, 0x0, [⟨5, 0, .ro, 0, .c1⟩]⟩]

/-- Field-map rows of the objects 0x2200 to 0x22FF. -/
def objRows22 : List ObjRow := [
  ⟨0x2200, 0x0, 0x0, [⟨31, 31, .ro, 0, .c0⟩, ⟨30, 30, .ro, 0, .c0⟩, ⟨29, 29, .ro, 0, .c0⟩, ⟨28, 28, .ro, 0, .c0⟩, ⟨27, 27, .ro, 0, .c0⟩]⟩,
  ⟨0x2201, 0x0, 0x0, [⟨0, 0, .wog, 0, .c0⟩]⟩,
  ⟨0x2202, 0x0, 0x0, [⟨3, 3, .rwg, 0, .c2⟩, ⟨2, 0, .rwg, 2, .c2⟩]⟩,
  ⟨0x2203, 0x0, 0x0, [⟨31, 0, .ro, 0, .c1⟩]⟩,
  ⟨0x2203, 0x1, 0x1, [⟨31, 0, .ro, 0, .c1⟩]⟩,
  ⟨0x2203, 0x2, 0x2, [⟨31, 0, .ro, 0, .c1⟩]⟩,
  ⟨0x2210, 0x0, 0x20, [⟨2, 2, .rwg, 0, .c2⟩, ⟨1, 1, .rwg, 0, .c2⟩, ⟨0, 0, .rwg, 1, .c2⟩]⟩,
  ⟨0x2210, 0x21, 0x22, [⟨2, 2, .const, 1, .c2⟩, ⟨1, 1, .const, 1, .c2⟩, ⟨0, 0, .const, 1, .c2⟩]⟩]

/-- Field-map rows of the objects 0x2400 to 0x24FF. -/
def objRows24 : List ObjRow := [
  ⟨0x2400, 0x0, 0x3, [⟨31, 0, .ro, 0, .c0⟩]⟩,
  ⟨0x2401, 0x0, 0x0, [⟨31, 28, .ro, 0, .c0⟩, ⟨27, 27, .ro, 0, .c0⟩, ⟨26, 26, .ro, 0, .c0⟩, ⟨25, 25, .ro, 0, .c0⟩, ⟨24, 24, .ro, 0, .c0⟩, ⟨23, 23, .ro, 0, .c0⟩]⟩,
  ⟨0x2402, 0x0, 0x1, [⟨31, 0, .ro, 0, .c0⟩]⟩,
  ⟨0x2402, 0x2, 0x2, [⟨31, 0, .ro, 0, .c0⟩]⟩,
  ⟨0x2402, 0x3, 0x3, [⟨31, 0, .ro, 0, .c0⟩]⟩,
  ⟨0x2403, 0x0, 0x0, [⟨10, 0, .rwg, 64, .c2⟩]⟩,
  ⟨0x2403, 0x1, 0x1, [⟨6, 0, .rwg, 16, .c2⟩]⟩,
  ⟨0x2403, 0x2, 0x2, [⟨15, 0, .rwg, 20, .c2⟩]⟩,
  ⟨0x2404, 0x0, 0x1, [⟨15, 0, .rwg, 0, .c2⟩]⟩,
  ⟨0x2405, 0x0, 0x3, [⟨31, 0, .ro, 0, .c0⟩]⟩,
  ⟨0x2406, 0x0, 0x0, [⟨15, 0, .rwg, 1000, .c2⟩]⟩,
  ⟨0x2406, 0x1, 0x1, [⟨15, 0, .rwg, 2000, .c2⟩]⟩,
  ⟨0x2407, 0x0, 0x6, [⟨31, 0, .ro, 0, .c1⟩]⟩,
  ⟨0x2410, 0x0, 0x0, [⟨15, 0, .rwg, 50, .c2⟩]⟩,
  ⟨0x2411, 0x0, 0x0, [⟨15, 8, .wog, 0, .c0⟩, ⟨1, 1, .wog, 0, .c0⟩, ⟨0, 0, .wog, 0, .c0⟩]⟩,
  ⟨0x2411, 0x1, 0x1, [⟨31, 0, .rwg, 0, .c0⟩]⟩,
  ⟨0x2411, 0x2, 0x3, [⟨31, 0, .rwg, 0, .c0⟩]⟩,
  ⟨0x2412, 0x0, 0x0, [⟨31, 31, .ro, 0, .c0⟩, ⟨7, 0, .ro, 0, .c0⟩]⟩]

/-- Field-map rows of the objects 0x2500 to 0x25FF. -/
def objRows25 : List ObjRow := [
  ⟨0x2500, 0x0, 0x0, [⟨15, 0, .ro, 8, .c0⟩]⟩,
  ⟨0x2501, 0x0, 0x0, [⟨31, 0, .ro, 0, .c1⟩]⟩,
  ⟨0x2501, 0x1, 0x1, [⟨31, 0, .ro, 0, .c1⟩]⟩,
  ⟨0x2502, 0x0, 0x0, [⟨31, 0, .ro, 0, .c0⟩]⟩,
  ⟨0x2502, 0x1, 0x1, [⟨31, 0, .rwg, 0, .c0⟩]⟩]

/-- Field-map rows of the objects 0x2600 to 0x26FF. -/
def objRows26 : List ObjRow := [
  ⟨0x2600, 0x0, 0x0, [⟨31, 31, .ro, 0, .c1⟩, ⟨30, 30, .ro, 0, .c0⟩, ⟨29, 29, .ro, 0, .c0⟩, ⟨28, 28, .ro, 0, .c1⟩, ⟨27, 27, .ro, 0, .c0⟩]⟩,
  ⟨0x2601, 0x0, 0x0, [⟨31, 31, .wog, 0, .c0⟩, ⟨19, 0, .rwg, 1000, .c2⟩]⟩,
  ⟨0x2602, 0x0, 0x7, [⟨31, 0, .wog, 0, .c3⟩]⟩,
  ⟨0x2603, 0x0, 0x0, [⟨31, 31, .wog, 0, .c0⟩, ⟨30, 30, .w1, 0, .c3⟩, ⟨15, 0, .rwg, 0, .c3⟩]⟩,
  ⟨0x2604, 0x0, 0x1, [⟨31, 0, .ro, 0, .c1⟩]⟩,
  ⟨0x2604, 0x2, 0x5, [⟨31, 0, .ro, 0, .c1⟩]⟩,
  ⟨0x2605, 0x0, 0x1, [⟨31, 0, .ro, 0, .c1⟩]⟩,
  ⟨0x2605, 0x2, 0x2, [⟨31, 16, .ro, 0, .c1⟩, ⟨9, 0, .ro, 0, .c1⟩]⟩,
  ⟨0x2605, 0x3, 0x4, [⟨31, 0, .ro, 0, .c1⟩]⟩,
  ⟨0x2606, 0x0, 0x0, [⟨31, 16, .wog, 0, .c0⟩, ⟨9, 0, .wog, 0, .c0⟩]⟩,
  ⟨0x2608, 0x0, 0x1FF, [⟨31, 0, .ro, 0, .c1⟩]⟩,
  ⟨0x2609, 0x0, 0x1EF, [⟨31, 0, .ro, 0, .c1⟩]⟩,
  ⟨0x260A, 0x0, 0x0, [⟨31, 0, .ro, 0, .c1⟩]⟩,
  ⟨0x260A, 0x1, 0x1, [⟨31, 0, .ro, 0, .c1⟩]⟩,
  ⟨0x260A, 0x2, 0x2, [⟨31, 0, .ro, 0, .c1⟩]⟩,
  ⟨0x260A, 0x3, 0x3, [⟨31, 0, .ro, 0, .c1⟩]⟩,
  ⟨0x260A, 0x4, 0x4, [⟨31, 0, .ro, 0, .c1⟩]⟩,
  ⟨0x260A, 0x5, 0x5, [⟨31, 0, .ro, 0, .c1⟩]⟩,
  ⟨0x260A, 0x6, 0x6, [⟨31, 0, .ro, 0, .c1⟩]⟩,
  ⟨0x260A, 0x7, 0x7, [⟨31, 0, .ro, 0, .c1⟩]⟩,
  ⟨0x260A, 0x8, 0x8, [⟨31, 0, .ro, 0, .c3⟩]⟩,
  ⟨0x260B, 0x0, 0x0, [⟨28, 16, .rwg, 0, .c0⟩, ⟨12, 0, .ro, 0, .c0⟩]⟩]

/-- Field-map rows of the objects 0x3000 to 0x30FF. -/
def objRows30 : List ObjRow := [
  ⟨0x3000, 0x0, 0x0, [⟨5, 4, .ro, 0, .c0⟩, ⟨3, 3, .ro, 0, .c0⟩, ⟨1, 0, .rwg, 1, .c1⟩]⟩,
  ⟨0x3001, 0x0, 0x0, [⟨23, 0, .rwg, 64, .c1⟩]⟩,
  ⟨0x3001, 0x1, 0x1, [⟨7, 0, .rwg, 2, .c1⟩]⟩,
  ⟨0x3001, 0x2, 0x2, [⟨23, 0, .rwg, 512, .c1⟩]⟩,
  ⟨0x3001, 0x3, 0x3, [⟨7, 0, .rwg, 2, .c1⟩]⟩,
  ⟨0x3001, 0x4, 0x4, [⟨15, 0, .rwg, 64, .c1⟩]⟩,
  ⟨0x3002, 0x0, 0x0, [⟨10, 0, .rwg, 16, .c1⟩]⟩,
  ⟨0x3003, 0x0, 0x6, [⟨12, 0, .ro, 0, .c0⟩]⟩,
  ⟨0x3004, 0x0, 0x0, [⟨31, 0, .ro, 0, .c1⟩]⟩,
  ⟨0x3004, 0x1, 0x1, [⟨31, 0, .ro, 0, .c1⟩]⟩]

/-- Field-map rows of the objects 0x4000 to 0x40FF. -/
def objRows40 : List ObjRow := [
  ⟨0x4000, 0x0, 0xFFF, [⟨2, 0, .rwg, 0, .c1⟩]⟩,
  ⟨0x4001, 0x0, 0xFFF, [⟨31, 28, .ro, 0, .c0⟩, ⟨27, 26, .ro, 0, .c0⟩, ⟨25, 25, .ro, 0, .c0⟩, ⟨24, 24, .ro, 0, .c0⟩, ⟨23, 23, .ro, 0, .c0⟩, ⟨22, 22, .ro, 0, .c0⟩, ⟨21, 21, .ro, 0, .c0⟩, ⟨20, 20, .ro, 0, .c0⟩, ⟨19, 19, .ro, 0, .c0⟩, ⟨18, 18, .ro, 0, .c0⟩, ⟨17, 17, .ro, 0, .c0⟩, ⟨16, 16, .ro, 0, .c0⟩, ⟨3, 0, .ro, 0, .c0⟩]⟩,
  ⟨0x4002, 0x0, 0xFFF, [⟨1, 1, .ro, 0, .c3⟩, ⟨0, 0, .ro, 0, .c3⟩]⟩,
  ⟨0x4003, 0x0, 0xFFF, [⟨31, 31, .rwg, 0, .c1⟩, ⟨25, 16, .rwg, 0, .c1⟩, ⟨3, 0, .rwg, 0, .c1⟩]⟩,
  ⟨0x4004, 0x0, 0xFFF, [⟨20, 16, .rwg, 0, .c1⟩, ⟨15, 0, .rwg, 0, .c1⟩]⟩,
  ⟨0x4005, 0x0, 0xFFF, [⟨20, 16, .rwg, 16, .c1⟩, ⟨15, 0, .rwg, 2560, .c1⟩]⟩,
  ⟨0x4006, 0x0, 0xFFF, [⟨17, 17, .rwg, 1, .c1⟩, ⟨16, 16, .rwg, 0, .c1⟩, ⟨15, 15, .rwg, 0, .c1⟩, ⟨9, 0, .rwg, 256, .c1⟩]⟩,
  ⟨0x4007, 0x0, 0xFFF, [⟨31, 16, .rwg, 65535, .c1⟩, ⟨15, 0, .rwg, 0, .c1⟩]⟩,
  ⟨0x4008, 0x0, 0xFFF, [⟨15, 0, .rwg, 0, .c1⟩]⟩,
  ⟨0x4009, 0x0, 0xFFF, [⟨9, 0, .rwg, 0, .c1⟩]⟩,
  ⟨0x400A, 0x0, 0xFFF, [⟨23, 0, .rwg, 0, .c1⟩]⟩,
  ⟨0x400B, 0x0, 0xFFF, [⟨19, 0, .rwg, 210, .c1⟩]⟩,
  ⟨0x4010, 0x0, 0xFFF, [⟨15, 0, .ro, 0, .c0⟩]⟩,
  ⟨0x4011, 0x0, 0xFFF, [⟨31, 0, .ro, 0, .c0⟩]⟩,
  ⟨0x4012, 0x0, 0xFFF, [⟨31, 0, .ro, 0, .c0⟩]⟩,
  ⟨0x4013, 0x0, 0xFFF, [⟨31, 0, .ro, 0, .c0⟩]⟩,
  ⟨0x4014, 0x0, 0xFFF, [⟨31, 0, .ro, 0, .c0⟩]⟩,
  ⟨0x4015, 0x0, 0xFFF, [⟨31, 16, .ro, 0, .c1⟩, ⟨15, 0, .ro, 0, .c1⟩]⟩]

/-- Field-map rows of the objects 0x4800 to 0x48FF. -/
def objRows48 : List ObjRow := [
  ⟨0x4800, 0x0, 0x3FF, [⟨7, 7, .rwg, 1, .c1⟩, ⟨6, 6, .rwg, 1, .c1⟩, ⟨5, 4, .rwg, 0, .c1⟩]⟩,
  ⟨0x4801, 0x0, 0x3FF, [⟨31, 30, .ro, 0, .c0⟩, ⟨29, 29, .ro, 0, .c0⟩, ⟨28, 28, .ro, 0, .c0⟩, ⟨20, 16, .ro, 0, .c0⟩]⟩,
  ⟨0x4802, 0x0, 0x3FF, [⟨20, 0, .ro, 0, .c0⟩]⟩,
  ⟨0x4803, 0x0, 0x3FF, [⟨31, 0, .ro, 0, .c1⟩]⟩]

/-- Field-map rows of the objects 0x4C00 to 0x4CFF. -/
def objRows4C : List ObjRow := [
  ⟨0x4C00, 0x0, 0xFF, [⟨31, 31, .rwg, 1, .c1⟩, ⟨23, 16, .rwg, 2, .c1⟩, ⟨15, 8, .rwg, 25, .c1⟩, ⟨7, 0, .rwg, 15, .c1⟩]⟩,
  ⟨0x4C01, 0x0, 0xFF, [⟨31, 31, .ro, 0, .c0⟩, ⟨30, 30, .ro, 0, .c0⟩, ⟨29, 29, .ro, 0, .c0⟩]⟩,
  ⟨0x4C02, 0x0, 0xFF, [⟨15, 0, .rwg, 0, .c1⟩]⟩,
  ⟨0x4C03, 0x0, 0xFF, [⟨31, 0, .ro, 0, .c1⟩]⟩,
  ⟨0x4C04, 0x0, 0xFF, [⟨31, 0, .ro, 0, .c1⟩]⟩,
  ⟨0x4C05, 0x0, 0xFF, [⟨31, 0, .ro, 0, .c1⟩]⟩,
  ⟨0x4C40, 0x0, 0xFF, [⟨5, 0, .rwg, 40, .c1⟩]⟩,
  ⟨0x4C41, 0x0, 0xFF, [⟨31, 31, .ro, 0, .c0⟩, ⟨30, 30, .ro, 0, .c0⟩, ⟨29, 29, .ro, 0, .c0⟩, ⟨28, 28, .ro, 0, .c0⟩]⟩]

/-- Field-map rows of the objects 0x5000 to 0x50FF. -/
def objRows50 : List ObjRow := [
  ⟨0x5000, 0x0, 0x0, [⟨31, 31, .rwg, 0, .c0⟩, ⟨16, 0, .rwg, 0, .c0⟩]⟩,
  ⟨0x5001, 0x0, 0x3, [⟨31, 0, .rwg, 0, .c0⟩]⟩,
  ⟨0x5002, 0x0, 0x0, [⟨1, 1, .wog, 0, .c0⟩, ⟨0, 0, .wog, 0, .c0⟩]⟩,
  ⟨0x5002, 0x1, 0x1, [⟨31, 30, .ro, 0, .c0⟩, ⟨16, 0, .ro, 0, .c0⟩]⟩,
  ⟨0x5003, 0x0, 0x0, [⟨31, 0, .ro, 0, .c1⟩]⟩,
  ⟨0x5003, 0x1, 0x1, [⟨31, 0, .ro, 0, .c1⟩]⟩,
  ⟨0x5003, 0x2, 0x2, [⟨31, 0, .ro, 0, .c1⟩]⟩,
  ⟨0x5003, 0x3, 0x3, [⟨31, 0, .ro, 0, .c1⟩]⟩,
  ⟨0x5004, 0x0, 0x0, [⟨16, 0, .ro, 0, .c1⟩]⟩,
  ⟨0x5008, 0x0, 0xFFF, [⟨5, 5, .ro, 0, .c1⟩, ⟨4, 0, .ro, 0, .c1⟩]⟩,
  ⟨0x5010, 0x0, 0xFFF, [⟨31, 31, .rwg, 0, .c1⟩, ⟨27, 16, .rwg, 0, .c1⟩, ⟨15, 15, .rwg, 0, .c1⟩, ⟨11, 0, .rwg, 0, .c1⟩]⟩,
  ⟨0x5011, 0x0, 0xFFF, [⟨31, 31, .rwg, 0, .c1⟩, ⟨27, 16, .rwg, 0, .c1⟩, ⟨15, 15, .rwg, 0, .c1⟩, ⟨11, 0, .rwg, 0, .c1⟩]⟩,
  ⟨0x5012, 0x0, 0xFFF, [⟨1, 1, .rwg, 0, .c1⟩, ⟨0, 0, .rwg, 1, .c1⟩]⟩]

/-- Field-map rows of the objects 0x5100 to 0x51FF. -/
def objRows51 : List ObjRow := [
  ⟨0x5100, 0x0, 0x1, [⟨31, 0, .rwg, 0, .c0⟩]⟩,
  ⟨0x5101, 0x0, 0x0, [⟨27, 16, .wog, 0, .c0⟩, ⟨9, 9, .wog, 0, .c0⟩, ⟨8, 8, .wog, 0, .c0⟩, ⟨4, 0, .wog, 0, .c0⟩]⟩,
  ⟨0x5102, 0x0, 0xFFF, [⟨3, 0, .ro, 0, .c1⟩]⟩,
  ⟨0x5103, 0x0, 0xFFF, [⟨31, 0, .ro, 4294967295, .c1⟩]⟩,
  ⟨0x5104, 0x0, 0xFFF, [⟨31, 0, .ro, 4294967295, .c1⟩]⟩,
  ⟨0x5105, 0x0, 0xFFF, [⟨0, 0, .wog, 0, .c0⟩]⟩,
  ⟨0x5106, 0x0, 0x0, [⟨0, 0, .wog, 0, .c0⟩]⟩,
  ⟨0x5107, 0x0, 0x1, [⟨31, 0, .ro, 4294967295, .c0⟩]⟩,
  ⟨0x5108, 0x0, 0x0, [⟨31, 0, .ro, 0, .c1⟩]⟩,
  ⟨0x5108, 0x1, 0x1, [⟨31, 0, .ro, 0, .c1⟩]⟩,
  ⟨0x5108, 0x2, 0x2, [⟨31, 0, .ro, 0, .c1⟩]⟩,
  ⟨0x5109, 0x0, 0x0, [⟨31, 28, .ro, 0, .c0⟩, ⟨27, 27, .ro, 0, .c0⟩]⟩]

/-- Field-map rows of the objects 0x5200 to 0x52FF. -/
def objRows52 : List ObjRow := [
  ⟨0x5200, 0x0, 0x87, [⟨31, 0, .rwg, 0, .c1⟩]⟩,
  ⟨0x5201, 0x0, 0x0, [⟨4, 4, .wog, 0, .c0⟩, ⟨3, 3, .wog, 0, .c0⟩, ⟨2, 2, .wog, 0, .c0⟩, ⟨1, 1, .wog, 0, .c0⟩, ⟨0, 0, .wog, 0, .c0⟩]⟩,
  ⟨0x5202, 0x0, 0x0, [⟨31, 28, .ro, 0, .c0⟩, ⟨27, 24, .ro, 0, .c0⟩, ⟨15, 0, .ro, 0, .c0⟩]⟩,
  ⟨0x5203, 0x0, 0x1, [⟨31, 0, .rwg, 0, .c1⟩]⟩,
  ⟨0x5204, 0x0, 0x87, [⟨31, 0, .ro, 0, .c1⟩]⟩,
  ⟨0x5205, 0x0, 0x0, [⟨1, 1, .rwg, 0, .c1⟩, ⟨0, 0, .rwg, 1, .c1⟩]⟩,
  ⟨0x5206, 0x0, 0x0, [⟨31, 0, .ro, 0, .c1⟩]⟩,
  ⟨0x5206, 0x1, 0x1, [⟨31, 0, .ro, 0, .c1⟩]⟩,
  ⟨0x5206, 0x2, 0x2, [⟨31, 0, .ro, 0, .c1⟩]⟩,
  ⟨0x5206, 0x3, 0x3, [⟨31, 0, .ro, 0, .c1⟩]⟩,
  ⟨0x5207, 0x0, 0x1, [⟨31, 0, .ro, 0, .c1⟩]⟩]

/-- Field-map rows of the objects 0x5400 to 0x54FF. -/
def objRows54 : List ObjRow := [
  ⟨0x5400, 0x0, 0xFFF, [⟨27, 16, .rwg, 0, .c1⟩, ⟨12, 12, .rwg, 0, .c1⟩, ⟨11, 0, .rwg, 0, .c1⟩]⟩,
  ⟨0x540C, 0x0, 0xFFF, [⟨15, 0, .rwg, 0, .c1⟩]⟩,
  ⟨0x540D, 0x0, 0xFFF, [⟨3, 0, .rwg, 3, .c1⟩]⟩,
  ⟨0x540E, 0x0, 0xFFF, [⟨5, 0, .rwg, 0, .c1⟩]⟩,
  ⟨0x540F, 0x0, 0xFFF, [⟨31, 0, .ro, 0, .c0⟩]⟩,
  ⟨0x5410, 0x0, 0x2, [⟨31, 16, .rwg, 0, .c1⟩, ⟨15, 0, .rwg, 0, .c1⟩]⟩]

/-- Field-map rows of the objects 0x5800 to 0x58FF. -/
def objRows58 : List ObjRow := [
  ⟨0x5800, 0x0, 0x0, [⟨2, 2, .wog, 0, .c0⟩, ⟨1, 1, .wog, 0, .c0⟩, ⟨0, 0, .wog, 0, .c0⟩]⟩,
  ⟨0x5801, 0x0, 0x0, [⟨31, 28, .ro, 0, .c0⟩, ⟨27, 24, .ro, 0, .c0⟩, ⟨23, 23, .ro, 0, .c3⟩, ⟨22, 22, .ro, 0, .c0⟩, ⟨15, 0, .ro, 0, .c0⟩]⟩,
  ⟨0x5801, 0x1, 0x1, [⟨12, 12, .ro, 0, .c0⟩, ⟨11, 0, .ro, 0, .c0⟩]⟩,
  ⟨0x5802, 0x0, 0x0, [⟨23, 16, .rwg, 64, .c1⟩, ⟨15, 0, .rwg, 500, .c1⟩]⟩,
  ⟨0x5802, 0x1, 0x1, [⟨31, 16, .rwg, 2048, .c1⟩, ⟨15, 0, .rwg, 500, .c1⟩]⟩,
  ⟨0x5802, 0x3, 0x3, [⟨15, 0, .rwg, 4000, .c1⟩]⟩,
  ⟨0x5810, 0x0, 0xFFF, [⟨2, 0, .rwg, 0, .c1⟩]⟩,
  ⟨0x5811, 0x0, 0xFFF, [⟨25, 16, .rwg, 0, .c1⟩, ⟨9, 0, .rwg, 0, .c1⟩]⟩,
  ⟨0x5812, 0x0, 0xFFF, [⟨12, 8, .rwg, 0, .c1⟩, ⟨5, 0, .rwg, 0, .c1⟩]⟩,
  ⟨0x5813, 0x0, 0xFFF, [⟨31, 0, .ro, 0, .c1⟩]⟩,
  ⟨0x5814, 0x0, 0xFFF, [⟨31, 16, .ro, 0, .c1⟩, ⟨15, 0, .ro, 0, .c1⟩]⟩,
  ⟨0x5815, 0x0, 0xFFF, [⟨15, 8, .ro, 0, .c1⟩, ⟨7, 0, .ro, 0, .c1⟩]⟩,
  ⟨0x5820, 0x0, 0x17F, [⟨31, 0, .ro, 0, .c1⟩]⟩,
  ⟨0x5821, 0x0, 0x17F, [⟨31, 0, .ro, 0, .c1⟩]⟩,
  ⟨0x5822, 0x0, 0x17F, [⟨31, 0, .ro, 0, .c1⟩]⟩,
  ⟨0x5823, 0x0, 0x17F, [⟨31, 31, .rwg, 0, .c1⟩, ⟨11, 0, .rwg, 0, .c1⟩]⟩,
  ⟨0x5824, 0x0, 0x0, [⟨15, 15, .wog, 0, .c0⟩, ⟨8, 0, .wog, 0, .c0⟩]⟩,
  ⟨0x5825, 0x0, 0x0, [⟨7, 0, .rwg, 32, .c1⟩]⟩,
  ⟨0x5830, 0x0, 0x3FF, [⟨31, 24, .rwg, 0, .c1⟩, ⟨23, 16, .rwg, 0, .c1⟩, ⟨15, 8, .rwg, 0, .c1⟩, ⟨7, 0, .rwg, 0, .c1⟩]⟩,
  ⟨0x5831, 0x0, 0x7FF, [⟨31, 0, .rwg, 0, .c1⟩]⟩,
  ⟨0x5840, 0x0, 0x0, [⟨31, 31, .rwg, 0, .c1⟩, ⟨19, 16, .rwg, 2, .c1⟩, ⟨15, 0, .rwg, 256, .c1⟩]⟩,
  ⟨0x5841, 0x0, 0x0, [⟨31, 0, .ro, 0, .c1⟩]⟩,
  ⟨0x5841, 0x1, 0x1, [⟨31, 0, .ro, 0, .c1⟩]⟩,
  ⟨0x5841, 0x2, 0x2, [⟨31, 0, .ro, 0, .c1⟩]⟩,
  ⟨0x5841, 0x3, 0x3, [⟨31, 0, .ro, 0, .c1⟩]⟩,
  ⟨0x5841, 0x4, 0x4, [⟨31, 0, .ro, 0, .c1⟩]⟩,
  ⟨0x5841, 0x5, 0x5, [⟨31, 0, .ro, 0, .c1⟩]⟩,
  ⟨0x5841, 0x6, 0x6, [⟨31, 0, .ro, 0, .c1⟩]⟩,
  ⟨0x5841, 0x7, 0x7, [⟨31, 0, .ro, 0, .c1⟩]⟩]

/-- Field-map rows of the objects 0x6000 to 0x60FF. -/
def objRows60 : List ObjRow := [
  ⟨0x6000, 0x0, 0x22, [⟨31, 30, .ro, 0, .c0⟩, ⟨29, 29, .ro, 0, .c0⟩, ⟨28, 27, .ro, 1, .c0⟩, ⟨26, 25, .ro, 1, .c0⟩, ⟨23, 16, .ro, 255, .c0⟩]⟩,
  ⟨0x6001, 0x0, 0x0, [⟨31, 0, .rwg, 0, .c0⟩]⟩,
  ⟨0x6001, 0x1, 0x1, [⟨0, 0, .rwg, 0, .c0⟩]⟩,
  ⟨0x6001, 0x2, 0x2, [⟨31, 31, .wog, 0, .c0⟩, ⟨1, 0, .wog, 0, .c0⟩]⟩,
  ⟨0x6002, 0x0, 0x0, [⟨31, 31, .ro, 0, .c0⟩, ⟨30, 30, .ro, 0, .c0⟩, ⟨29, 28, .ro, 0, .c0⟩, ⟨27, 24, .ro, 0, .c0⟩]⟩,
  ⟨0x6003, 0x0, 0x0, [⟨31, 0, .rwg, 0, .c2⟩]⟩,
  ⟨0x6003, 0x1, 0x1, [⟨0, 0, .rwg, 0, .c2⟩]⟩,
  ⟨0x6004, 0x0, 0x20, [⟨31, 16, .ro, 0, .c0⟩, ⟨15, 0, .ro, 0, .c0⟩]⟩,
  ⟨0x6010, 0x0, 0x5, [⟨31, 0, .ro, 0, .c1⟩]⟩,
  ⟨0x6011, 0x0, 0x0, [⟨31, 24, .ro, 0, .c1⟩, ⟨23, 16, .ro, 0, .c1⟩, ⟨15, 14, .ro, 0, .c1⟩, ⟨5, 0, .ro, 0, .c1⟩]⟩,
  ⟨0x6012, 0x0, 0x0, [⟨31, 31, .wog, 0, .c0⟩, ⟨30, 30, .ro, 0, .c0⟩, ⟨5, 0, .wog, 0, .c0⟩]⟩,
  ⟨0x6013, 0x0, 0x20, [⟨31, 16, .ro, 0, .c1⟩, ⟨15, 0, .ro, 0, .c1⟩]⟩]

/-- Field-map rows of the objects 0x6100 to 0x61FF. -/
def objRows61 : List ObjRow := [
  ⟨0x6100, 0x0, 0x0, [⟨31, 30, .ro, 1, .c0⟩, ⟨29, 28, .ro, 1, .c0⟩, ⟨27, 27, .ro, 0, .c0⟩, ⟨26, 26, .ro, 0, .c0⟩, ⟨25, 24, .ro, 1, .c0⟩, ⟨23, 23, .ro, 0, .c0⟩, ⟨22, 20, .ro, 0, .c0⟩]⟩,
  ⟨0x6101, 0x0, 0x0, [⟨1, 0, .rwg, 1, .c0⟩]⟩,
  ⟨0x6102, 0x0, 0x2, [⟨15, 0, .rwg, 0, .c2⟩]⟩,
  ⟨0x6103, 0x0, 0x0, [⟨31, 16, .rwg, 100, .c2⟩, ⟨9, 9, .rwg, 0, .c2⟩, ⟨8, 8, .rwg, 1, .c2⟩, ⟨6, 0, .rwg, 32, .c2⟩]⟩,
  ⟨0x6103, 0x1, 0x1, [⟨15, 0, .rwg, 1000, .c2⟩]⟩,
  ⟨0x6104, 0x0, 0x0, [⟨8, 8, .ro, 0, .c0⟩, ⟨7, 0, .ro, 0, .c0⟩]⟩,
  ⟨0x6104, 0x1, 0x1, [⟨15, 0, .ro, 0, .c0⟩]⟩,
  ⟨0x6105, 0x0, 0x3, [⟨31, 0, .ro, 0, .c1⟩]⟩]

/-- Field-map rows of the objects 0x7000 to 0x70FF. -/
def objRows70 : List ObjRow := [
  ⟨0x7000, 0x0, 0x0, [⟨31, 31, .ro, 0, .c3⟩, ⟨30, 28, .ro, 0, .c3⟩, ⟨27, 25, .ro, 0, .c3⟩, ⟨24, 24, .ro, 0, .c3⟩, ⟨23, 23, .ro, 0, .c3⟩, ⟨22, 16, .ro, 0, .c3⟩, ⟨15, 0, .ro, 0, .c3⟩]⟩,
  ⟨0x7000, 0x1, 0x2, [⟨31, 0, .ro, 0, .c3⟩]⟩,
  ⟨0x7000, 0x3, 0x3, [⟨29, 0, .ro, 0, .c3⟩]⟩,
  ⟨0x7000, 0x4, 0x4, [⟨15, 0, .ro, 0, .c3⟩]⟩,
  ⟨0x7000, 0x5, 0x8, [⟨31, 0, .ro, 0, .c3⟩]⟩,
  ⟨0x7000, 0x9, 0x9, [⟨15, 0, .ro, 0, .c3⟩]⟩,
  ⟨0x7001, 0x0, 0x0, [⟨31, 31, .ro, 0, .c0⟩, ⟨30, 28, .ro, 0, .c0⟩, ⟨27, 27, .ro, 0, .c0⟩, ⟨26, 26, .ro, 0, .c0⟩, ⟨6, 0, .ro, 0, .c0⟩]⟩,
  ⟨0x7002, 0x0, 0x7F, [⟨9, 8, .rwg, 0, .c2⟩, ⟨6, 4, .const, 0, .c4⟩, ⟨2, 0, .rwg, 0, .c2⟩]⟩,
  ⟨0x7003, 0x0, 0x3, [⟨31, 0, .ro, 0, .c3⟩]⟩,
  ⟨0x7004, 0x0, 0x7F, [⟨31, 0, .ro, 0, .c3⟩]⟩,
  ⟨0x7005, 0x0, 0x0, [⟨31, 31, .wog, 0, .c0⟩, ⟨30, 30, .wog, 0, .c0⟩, ⟨6, 0, .wog, 0, .c0⟩]⟩,
  ⟨0x7006, 0x0, 0x0, [⟨31, 0, .ro, 0, .c3⟩]⟩,
  ⟨0x7006, 0x1, 0x1, [⟨21, 16, .rwg, 0, .c0⟩, ⟨5, 0, .ro, 0, .c0⟩]⟩,
  ⟨0x7007, 0x0, 0x3, [⟨31, 0, .ro, 0, .c0⟩]⟩]

/-- Field-map rows of the objects 0x7100 to 0x71FF. -/
def objRows71 : List ObjRow := [
  ⟨0x7100, 0x0, 0x0, [⟨31, 30, .ro, 0, .c0⟩, ⟨29, 29, .ro, 0, .c0⟩, ⟨28, 28, .ro, 0, .c0⟩, ⟨27, 27, .ro, 0, .c0⟩, ⟨26, 26, .ro, 0, .c0⟩, ⟨22, 16, .ro, 0, .c0⟩]⟩,
  ⟨0x7101, 0x0, 0x0, [⟨31, 16, .wog, 0, .c0⟩, ⟨0, 0, .wog, 0, .c0⟩]⟩,
  ⟨0x7102, 0x0, 0x0, [⟨31, 31, .ro, 0, .latch⟩, ⟨6, 0, .ro, 0, .latch⟩]⟩,
  ⟨0x7102, 0x1, 0x1, [⟨31, 0, .ro, 0, .latch⟩]⟩,
  ⟨0x7102, 0x2, 0x2, [⟨29, 0, .ro, 0, .latch⟩]⟩,
  ⟨0x7103, 0x0, 0x3, [⟨31, 0, .ro, 0, .c3⟩]⟩]

/-- Field-map rows of the objects 0x7800 to 0x78FF. -/
def objRows78 : List ObjRow := [
  ⟨0x7810, 0x0, 0x0, [⟨31, 31, .ro, 0, .c0⟩, ⟨30, 30, .ro, 0, .c0⟩, ⟨29, 29, .ro, 0, .c0⟩, ⟨28, 28, .ro, 0, .c0⟩]⟩,
  ⟨0x7811, 0x0, 0x1, [⟨31, 16, .ro, 0, .c0⟩, ⟨15, 0, .ro, 0, .c0⟩]⟩,
  ⟨0x7812, 0x0, 0x0, [⟨31, 0, .ro, 0, .c3⟩]⟩,
  ⟨0x7812, 0x2, 0x2, [⟨31, 0, .ro, 0, .c3⟩]⟩,
  ⟨0x7812, 0x1, 0x1, [⟨15, 0, .ro, 0, .c3⟩]⟩,
  ⟨0x7812, 0x3, 0x3, [⟨15, 0, .ro, 0, .c3⟩]⟩,
  ⟨0x7813, 0x0, 0x5, [⟨31, 0, .ro, 0, .c3⟩]⟩,
  ⟨0x7814, 0x0, 0x0, [⟨15, 0, .ro, 0, .c0⟩]⟩,
  ⟨0x7800, 0x0, 0x0, [⟨11, 0, .ro, 0, .c0⟩]⟩,
  ⟨0x7801, 0x0, 0x0, [⟨27, 16, .rwg, 1760, .c2⟩, ⟨11, 0, .rwg, 1600, .c2⟩]⟩,
  ⟨0x7802, 0x0, 0x0, [⟨18, 12, .ro, 0, .c0⟩, ⟨11, 0, .rwg, 0, .c0⟩]⟩]

/-- Field-map rows of the objects 0x7C00 to 0x7CFF. -/
def objRows7C : List ObjRow := [
  ⟨0x7C00, 0x0, 0x0, [⟨31, 31, .wog, 0, .c0⟩, ⟨30, 30, .wog, 0, .c0⟩, ⟨23, 16, .wog, 0, .c0⟩, ⟨9, 8, .wog, 0, .c0⟩, ⟨6, 0, .wog, 0, .c0⟩]⟩,
  ⟨0x7C01, 0x0, 0x0, [⟨31, 31, .ro, 0, .c0⟩, ⟨23, 16, .ro, 0, .c0⟩, ⟨6, 0, .ro, 0, .c0⟩]⟩,
  ⟨0x7C02, 0x0, 0x0, [⟨31, 0, .ro, 0, .c1⟩]⟩]

/-- Field-map rows of the objects 0xA000 to 0xA0FF. -/
def objRowsA0 : List ObjRow := [
  ⟨0xA000, 0x0, 0x0, [⟨22, 16, .ro, 0, .c0⟩, ⟨10, 0, .ro, 168, .c0⟩]⟩,
  ⟨0xA001, 0x0, 0x0, [⟨10, 0, .ro, 832, .c0⟩]⟩,
  ⟨0xA002, 0x0, 0x0, [⟨31, 0, .ro, 0, .c1⟩]⟩,
  ⟨0xA003, 0x0, 0x0, [⟨31, 0, .ro, 0, .c1⟩]⟩,
  ⟨0xA010, 0x0, 0x0, [⟨19, 16, .rwg, 10, .c1⟩, ⟨11, 0, .rwg, 0, .c1⟩]⟩,
  ⟨0xA011, 0x0, 0x0, [⟨15, 0, .rwg, 0, .c1⟩]⟩,
  ⟨0xA012, 0x0, 0x0, [⟨15, 0, .ro, 0, .c0⟩]⟩,
  ⟨0xA013, 0x0, 0x0, [⟨31, 0, .ro, 0, .c0⟩]⟩,
  ⟨0xA030, 0x0, 0x0, [⟨31, 30, .ro, 0, .c0⟩]⟩,
  ⟨0xA031, 0x0, 0x0, [⟨31, 0, .ro, 0, .c1⟩]⟩,
  ⟨0xA020, 0x0, 0x0, [⟨11, 0, .ro, 0, .c0⟩]⟩,
  ⟨0xA021, 0x0, 0x0, [⟨11, 0, .rwg, 0, .c0⟩]⟩]

/-- The field-map rows of one page of 256 object indices (R233, R238). -/
def objPage : Nat → List ObjRow
  | 0x10 => objRows10
  | 0x11 => objRows11
  | 0x13 => objRows13
  | 0x14 => objRows14
  | 0x18 => objRows18
  | 0x20 => objRows20
  | 0x21 => objRows21
  | 0x22 => objRows22
  | 0x24 => objRows24
  | 0x25 => objRows25
  | 0x26 => objRows26
  | 0x30 => objRows30
  | 0x40 => objRows40
  | 0x48 => objRows48
  | 0x4C => objRows4C
  | 0x50 => objRows50
  | 0x51 => objRows51
  | 0x52 => objRows52
  | 0x54 => objRows54
  | 0x58 => objRows58
  | 0x60 => objRows60
  | 0x61 => objRows61
  | 0x70 => objRows70
  | 0x71 => objRows71
  | 0x78 => objRows78
  | 0x7C => objRows7C
  | 0xA0 => objRowsA0
  | _ => []

/-! The fields by name: MNEMONIC_FIELD, at the first subindex they stand at. -/

def TC_STATUS_STATE : Field := ⟨0x2000, 0x0, 31, 28⟩
def TC_STATUS_REF_PRESENT : Field := ⟨0x2000, 0x0, 27, 27⟩
def TC_STATUS_REF_OFF_FREQ : Field := ⟨0x2000, 0x0, 26, 26⟩
def TC_STATUS_LOCK : Field := ⟨0x2000, 0x0, 25, 25⟩
def TC_STATUS_CLK_READY : Field := ⟨0x2000, 0x0, 24, 24⟩
def TC_STATUS_TRIM_ACTIVE : Field := ⟨0x2000, 0x0, 23, 23⟩
def TC_STATUS_PHASE_BUSY : Field := ⟨0x2000, 0x0, 22, 22⟩
def TC_STATUS_DIV_DISCARD : Field := ⟨0x2000, 0x0, 21, 21⟩
def TC_STATUS_PRESCALE : Field := ⟨0x2000, 0x0, 20, 19⟩
def TC_STATUS_BW : Field := ⟨0x2000, 0x0, 15, 12⟩
def TC_CONTROL_TRIM_EN : Field := ⟨0x2001, 0x0, 6, 6⟩
def TC_CONTROL_DIV_MODE : Field := ⟨0x2001, 0x0, 5, 5⟩
def TC_CONTROL_JC : Field := ⟨0x2001, 0x0, 4, 4⟩
def TC_CONTROL_BW : Field := ⟨0x2001, 0x0, 3, 0⟩
def TC_REF_PORT_SEL : Field := ⟨0x2002, 0x0, 4, 4⟩
def TC_REF_PORT_STRAP : Field := ⟨0x2002, 0x0, 3, 3⟩
def TC_REF_REFDIV_STRAP : Field := ⟨0x2002, 0x0, 2, 1⟩
def TC_REF_STRAP_BAD : Field := ⟨0x2002, 0x0, 0, 0⟩
def TC_DIV_ACTIVE_PRESCALE : Field := ⟨0x2003, 0x0, 9, 8⟩
def TC_DIV_ACTIVE_NINT : Field := ⟨0x2003, 0x0, 6, 0⟩
def TC_DIV_NEXT_PRESCALE : Field := ⟨0x2004, 0x0, 9, 8⟩
def TC_DIV_NEXT_NINT : Field := ⟨0x2004, 0x0, 6, 0⟩
def TC_DIV_ACTIVE_FRAC : Field := ⟨0x2003, 0x1, 23, 0⟩
def TC_DIV_NEXT_FRAC : Field := ⟨0x2004, 0x1, 23, 0⟩
def TC_DIV_COMMIT_GO : Field := ⟨0x2005, 0x0, 0, 0⟩
def TC_TRACK_TARGET : Field := ⟨0x2006, 0x0, 31, 0⟩
def TC_TRACK_NOW : Field := ⟨0x2006, 0x1, 31, 0⟩
def TC_TRACK_RATE : Field := ⟨0x2006, 0x2, 13, 0⟩
def TC_LOOP_COEF_KP : Field := ⟨0x2009, 0x0, 31, 0⟩
def TC_LOOP_COEF_KI : Field := ⟨0x2009, 0x1, 31, 0⟩
def TC_LOOP_COEF_TDC_GAIN : Field := ⟨0x2009, 0x2, 15, 0⟩
def TC_DCO_COARSE : Field := ⟨0x200A, 0x0, 31, 24⟩
def TC_DCO_MEDIUM : Field := ⟨0x200A, 0x0, 21, 16⟩
def TC_DCO_FINE : Field := ⟨0x200A, 0x0, 15, 0⟩
def TC_DCO_COARSE_s01 : Field := ⟨0x200A, 0x1, 31, 24⟩
def TC_DCO_MEDIUM_s01 : Field := ⟨0x200A, 0x1, 21, 16⟩
def TC_DCO_FINE_s01 : Field := ⟨0x200A, 0x1, 15, 0⟩
def TC_DCO_MED_STEP : Field := ⟨0x200A, 0x2, 31, 16⟩
def TC_DCO_KDCO : Field := ⟨0x200A, 0x2, 15, 0⟩
def TC_COUNT_LOCK_COUNT : Field := ⟨0x200C, 0x0, 31, 0⟩
def TC_COUNT_UNLOCK_COUNT : Field := ⟨0x200C, 0x1, 31, 0⟩
def TC_COUNT_REF_LOSS_COUNT : Field := ⟨0x200C, 0x2, 31, 0⟩
def TC_COUNT_SEARCH_ABORTS : Field := ⟨0x200C, 0x3, 31, 0⟩
def TC_COUNT_SEARCH_FAILS : Field := ⟨0x200C, 0x4, 31, 0⟩
def TC_COUNT_RECENTRE_COUNT : Field := ⟨0x200C, 0x5, 31, 0⟩
def TC_COUNT_RELOCK_ABORTS : Field := ⟨0x200C, 0x6, 31, 0⟩
def TC_COAST_LIMIT_LIMIT : Field := ⟨0x2010, 0x0, 15, 0⟩
def TC_FERR_LIMIT_LIMIT : Field := ⟨0x2011, 0x0, 15, 0⟩
def TC_TRIM_WINDOW_WINDOW : Field := ⟨0x2013, 0x0, 9, 0⟩
def TC_COAST_COAST_TIME : Field := ⟨0x2012, 0x0, 31, 0⟩
def TC_COAST_FERR_EST : Field := ⟨0x2012, 0x1, 31, 0⟩
def TC_COAST_TRIM_TOTAL : Field := ⟨0x2012, 0x2, 31, 0⟩
def TC_COAST_RELOCK_OFFSET : Field := ⟨0x2012, 0x3, 31, 0⟩
def TC_PHASE_INTERVAL_INTERVAL : Field := ⟨0x2014, 0x0, 12, 0⟩
def TC_PHASE_PENDING_PENDING : Field := ⟨0x2014, 0x1, 31, 0⟩
def TC_PHASE_TOTAL_TOTAL : Field := ⟨0x2014, 0x2, 31, 0⟩
def TC_OUTDIV_RATIO : Field := ⟨0x2018, 0x0, 15, 8⟩
def TC_OUTDIV_ALIGN_ODD : Field := ⟨0x2018, 0x0, 1, 1⟩
def TC_OUTDIV_RUNNING : Field := ⟨0x2018, 0x0, 0, 0⟩
def CK_STATUS_CLK_READY : Field := ⟨0x2200, 0x0, 31, 31⟩
def CK_STATUS_READY_SEEN : Field := ⟨0x2200, 0x0, 30, 30⟩
def CK_STATUS_SRC : Field := ⟨0x2200, 0x0, 29, 29⟩
def CK_STATUS_SWITCH_BUSY : Field := ⟨0x2200, 0x0, 28, 28⟩
def CK_STATUS_FALLBACK : Field := ⟨0x2200, 0x0, 27, 27⟩
def CK_SWITCH_GO : Field := ⟨0x2201, 0x0, 0, 0⟩
def CK_LINK_CFG_FSEL : Field := ⟨0x2202, 0x0, 3, 3⟩
def CK_LINK_CFG_HDIV : Field := ⟨0x2202, 0x0, 2, 0⟩
def CK_COUNT_SWITCH_COUNT : Field := ⟨0x2203, 0x0, 31, 0⟩
def CK_COUNT_SWITCH_REFUSED : Field := ⟨0x2203, 0x1, 31, 0⟩
def CK_COUNT_FALLBACK_COUNT : Field := ⟨0x2203, 0x2, 31, 0⟩
def CK_GATE_NEAP_EN : Field := ⟨0x2210, 0x0, 2, 2⟩
def CK_GATE_EBB_EN : Field := ⟨0x2210, 0x0, 1, 1⟩
def CK_GATE_RUN_EN : Field := ⟨0x2210, 0x0, 0, 0⟩
def DS_STATUS_STATE : Field := ⟨0x2100, 0x0, 31, 28⟩
def DS_STATUS_LOCK : Field := ⟨0x2100, 0x0, 27, 27⟩
def DS_STATUS_READY : Field := ⟨0x2100, 0x0, 26, 26⟩
def DS_STATUS_BACKUP : Field := ⟨0x2100, 0x0, 25, 25⟩
def DS_STATUS_SSC_ACTIVE : Field := ⟨0x2100, 0x0, 24, 24⟩
def DS_STATUS_SSC_MODE : Field := ⟨0x2100, 0x0, 23, 22⟩
def DS_STATUS_SSC_DEPTH : Field := ⟨0x2100, 0x0, 21, 16⟩
def DS_CONTROL_SSC_MODE : Field := ⟨0x2101, 0x0, 9, 8⟩
def DS_CONTROL_SSC_DEPTH : Field := ⟨0x2101, 0x0, 5, 0⟩
def DS_DIV_NINT : Field := ⟨0x2102, 0x0, 6, 0⟩
def DS_DIV_FRAC : Field := ⟨0x2102, 0x1, 23, 0⟩
def DS_COUNT_LOCK_COUNT : Field := ⟨0x2103, 0x0, 31, 0⟩
def DS_COUNT_UNLOCK_COUNT : Field := ⟨0x2103, 0x1, 31, 0⟩
def DS_COUNT_BACKUP_COUNT : Field := ⟨0x2103, 0x2, 31, 0⟩
def DS_DCO_COARSE : Field := ⟨0x2104, 0x0, 5, 0⟩
def LP_WINDOW_W_PENDING : Field := ⟨0x3000, 0x0, 5, 4⟩
def LP_WINDOW_PENDING : Field := ⟨0x3000, 0x0, 3, 3⟩
def LP_WINDOW_W : Field := ⟨0x3000, 0x0, 1, 0⟩
def LP_LOCK_THRESH_THRESH : Field := ⟨0x3001, 0x0, 23, 0⟩
def LP_LOCK_WINDOWS_COUNT : Field := ⟨0x3001, 0x1, 7, 0⟩
def LP_UNLOCK_THRESH_THRESH : Field := ⟨0x3001, 0x2, 23, 0⟩
def LP_UNLOCK_WINDOWS_COUNT : Field := ⟨0x3001, 0x3, 7, 0⟩
def LP_SAT_WINDOWS_COUNT : Field := ⟨0x3001, 0x4, 15, 0⟩
def LP_TRIM_RATE_RATE : Field := ⟨0x3002, 0x0, 10, 0⟩
def LP_STATE_COUNT_LANES : Field := ⟨0x3003, 0x0, 12, 0⟩
def LP_ECC_CORRECTED_COUNT : Field := ⟨0x3004, 0x0, 31, 0⟩
def LP_ECC_UNCORRECTED_COUNT : Field := ⟨0x3004, 0x1, 31, 0⟩
def LP_CMD_CMD : Field := ⟨0x4000, 0x0, 2, 0⟩
def LP_STATE_STATE : Field := ⟨0x4001, 0x0, 31, 28⟩
def LP_STATE_PRIOR : Field := ⟨0x4001, 0x0, 27, 26⟩
def LP_STATE_HOST_COAST : Field := ⟨0x4001, 0x0, 25, 25⟩
def LP_STATE_SWITCH_STATE : Field := ⟨0x4001, 0x0, 24, 24⟩
def LP_STATE_EMPTY_HOP : Field := ⟨0x4001, 0x0, 23, 23⟩
def LP_STATE_SAT : Field := ⟨0x4001, 0x0, 22, 22⟩
def LP_STATE_LIMITED : Field := ⟨0x4001, 0x0, 21, 21⟩
def LP_STATE_TRIM_BUSY : Field := ⟨0x4001, 0x0, 20, 20⟩
def LP_STATE_HTR_OPEN : Field := ⟨0x4001, 0x0, 19, 19⟩
def LP_STATE_HTR_SHORT : Field := ⟨0x4001, 0x0, 18, 18⟩
def LP_STATE_EO_COMPLIANCE : Field := ⟨0x4001, 0x0, 17, 17⟩
def LP_STATE_MEM_ERROR : Field := ⟨0x4001, 0x0, 16, 16⟩
def LP_STATE_STALE_CAUSE : Field := ⟨0x4001, 0x0, 3, 0⟩
def LP_USE_EO_USED : Field := ⟨0x4002, 0x0, 1, 1⟩
def LP_USE_HTR_USED : Field := ⟨0x4002, 0x0, 0, 0⟩
def LP_MON_ASSIGNED : Field := ⟨0x4003, 0x0, 31, 31⟩
def LP_MON_MON : Field := ⟨0x4003, 0x0, 25, 16⟩
def LP_MON_SLOT : Field := ⟨0x4003, 0x0, 3, 0⟩
def LP_KP_SHIFT : Field := ⟨0x4004, 0x0, 20, 16⟩
def LP_KP_MANT : Field := ⟨0x4004, 0x0, 15, 0⟩
def LP_KI_SHIFT : Field := ⟨0x4005, 0x0, 20, 16⟩
def LP_KI_MANT : Field := ⟨0x4005, 0x0, 15, 0⟩
def LP_PILOT_NORM : Field := ⟨0x4006, 0x0, 17, 17⟩
def LP_PILOT_POL_CROSS : Field := ⟨0x4006, 0x0, 16, 16⟩
def LP_PILOT_POL_BAR : Field := ⟨0x4006, 0x0, 15, 15⟩
def LP_PILOT_AMP : Field := ⟨0x4006, 0x0, 9, 0⟩
def LP_HTR_LIMIT_HTR_MAX : Field := ⟨0x4007, 0x0, 31, 16⟩
def LP_HTR_LIMIT_HTR_MIN : Field := ⟨0x4007, 0x0, 15, 0⟩
def LP_PARK_CODE_CODE : Field := ⟨0x4008, 0x0, 15, 0⟩
def LP_EO_CODE_CODE : Field := ⟨0x4009, 0x0, 9, 0⟩
def LP_SETPOINT_TARGET : Field := ⟨0x400A, 0x0, 23, 0⟩
def LP_LIGHT_MIN_MIN : Field := ⟨0x400B, 0x0, 19, 0⟩
def LP_HTR_NOW_CODE : Field := ⟨0x4010, 0x0, 15, 0⟩
def LP_INTEG_I : Field := ⟨0x4011, 0x0, 31, 0⟩
def LP_ERR_VALUE : Field := ⟨0x4012, 0x0, 31, 0⟩
def LP_ERR_Q_VALUE : Field := ⟨0x4013, 0x0, 31, 0⟩
def LP_SETPOINT_NOW_VALUE : Field := ⟨0x4014, 0x0, 31, 0⟩
def LP_LOCK_COUNTS_LOCKS : Field := ⟨0x4015, 0x0, 31, 16⟩
def LP_LOCK_COUNTS_UNLOCKS : Field := ⟨0x4015, 0x0, 15, 0⟩
def MN_CFG_AUTO : Field := ⟨0x4800, 0x0, 7, 7⟩
def MN_CFG_BIAS_EN : Field := ⟨0x4800, 0x0, 6, 6⟩
def MN_CFG_RANGE : Field := ⟨0x4800, 0x0, 5, 4⟩
def MN_STATUS_RANGE : Field := ⟨0x4801, 0x0, 31, 30⟩
def MN_STATUS_CLIP : Field := ⟨0x4801, 0x0, 29, 29⟩
def MN_STATUS_CAL_STALE : Field := ⟨0x4801, 0x0, 28, 28⟩
def MN_STATUS_USERS : Field := ⟨0x4801, 0x0, 20, 16⟩
def MN_DC_D : Field := ⟨0x4802, 0x0, 20, 0⟩
def MN_RANGE_COUNT_COUNT : Field := ⟨0x4803, 0x0, 31, 0⟩
def LP_TILE_WORK_ACTIVE : Field := ⟨0xA000, 0x0, 22, 16⟩
def LP_TILE_WORK_WORK : Field := ⟨0xA000, 0x0, 10, 0⟩
def LP_TILE_MARGIN_MARGIN : Field := ⟨0xA001, 0x0, 10, 0⟩
def LP_TILE_OVERRUNS_COUNT : Field := ⟨0xA002, 0x0, 31, 0⟩
def LP_TILE_POST_LOST_COUNT : Field := ⟨0xA003, 0x0, 31, 0⟩
def TT_WIN_INDEX_AUTOINC : Field := ⟨0x5000, 0x0, 31, 31⟩
def TT_WIN_INDEX_INDEX : Field := ⟨0x5000, 0x0, 16, 0⟩
def TT_WIN_DATA_DATA : Field := ⟨0x5001, 0x0, 31, 0⟩
def TT_WIN_CMD_WRITE : Field := ⟨0x5002, 0x0, 1, 1⟩
def TT_WIN_CMD_READ : Field := ⟨0x5002, 0x0, 0, 0⟩
def TT_WIN_STATUS_ECC : Field := ⟨0x5002, 0x1, 31, 30⟩
def TT_WIN_STATUS_INDEX : Field := ⟨0x5002, 0x1, 16, 0⟩
def TT_ECC_CORRECTED_COUNT : Field := ⟨0x5003, 0x0, 31, 0⟩
def TT_ECC_UNCORRECTED_COUNT : Field := ⟨0x5003, 0x1, 31, 0⟩
def TT_WRITES_REFUSED_COUNT : Field := ⟨0x5003, 0x2, 31, 0⟩
def TT_EMPTY_HOPS_COUNT : Field := ⟨0x5003, 0x3, 31, 0⟩
def TT_LAST_UNCORR_INDEX : Field := ⟨0x5004, 0x0, 16, 0⟩
def TT_CONTEXT_VALID : Field := ⟨0x5008, 0x0, 5, 5⟩
def TT_CONTEXT_CTX : Field := ⟨0x5008, 0x0, 4, 0⟩
def TT_NEIGH_01_V_HI : Field := ⟨0x5010, 0x0, 31, 31⟩
def TT_NEIGH_01_N_HI : Field := ⟨0x5010, 0x0, 27, 16⟩
def TT_NEIGH_01_V_LO : Field := ⟨0x5010, 0x0, 15, 15⟩
def TT_NEIGH_01_N_LO : Field := ⟨0x5010, 0x0, 11, 0⟩
def TT_NEIGH_23_V_HI : Field := ⟨0x5011, 0x0, 31, 31⟩
def TT_NEIGH_23_N_HI : Field := ⟨0x5011, 0x0, 27, 16⟩
def TT_NEIGH_23_V_LO : Field := ⟨0x5011, 0x0, 15, 15⟩
def TT_NEIGH_23_N_LO : Field := ⟨0x5011, 0x0, 11, 0⟩
def TT_KICK_FALL_EN : Field := ⟨0x5012, 0x0, 1, 1⟩
def TT_KICK_RISE_EN : Field := ⟨0x5012, 0x0, 0, 0⟩
def SR_STAGE_FRAME : Field := ⟨0x5100, 0x0, 31, 0⟩
def SR_PUSH_ELEMENT : Field := ⟨0x5101, 0x0, 27, 16⟩
def SR_PUSH_NEXT : Field := ⟨0x5101, 0x0, 9, 9⟩
def SR_PUSH_OVR_EN : Field := ⟨0x5101, 0x0, 8, 8⟩
def SR_PUSH_OVR : Field := ⟨0x5101, 0x0, 4, 0⟩
def SR_FILL_COUNT : Field := ⟨0x5102, 0x0, 3, 0⟩
def SR_HEAD_LO_FRAME : Field := ⟨0x5103, 0x0, 31, 0⟩
def SR_HEAD_HI_FRAME : Field := ⟨0x5104, 0x0, 31, 0⟩
def SR_FLUSH_GO : Field := ⟨0x5105, 0x0, 0, 0⟩
def SR_FLUSH_ALL_GO : Field := ⟨0x5106, 0x0, 0, 0⟩
def SR_NEXT_FRAME : Field := ⟨0x5107, 0x0, 31, 0⟩
def SR_EXECUTED_COUNT : Field := ⟨0x5108, 0x0, 31, 0⟩
def SR_MISSED_COUNT : Field := ⟨0x5108, 0x1, 31, 0⟩
def SR_SUPERSEDED_COUNT : Field := ⟨0x5108, 0x2, 31, 0⟩
def SR_STATUS_STATE : Field := ⟨0x5109, 0x0, 31, 28⟩
def SR_STATUS_BASIS_CHANGED : Field := ⟨0x5109, 0x0, 27, 27⟩
def CM_SHADOW_BITS : Field := ⟨0x5200, 0x0, 31, 0⟩
def CM_ARM_SYNC : Field := ⟨0x5201, 0x0, 4, 4⟩
def CM_ARM_FORCE : Field := ⟨0x5201, 0x0, 3, 3⟩
def CM_ARM_DISARM : Field := ⟨0x5201, 0x0, 2, 2⟩
def CM_ARM_MODE : Field := ⟨0x5201, 0x0, 1, 1⟩
def CM_ARM_GO : Field := ⟨0x5201, 0x0, 0, 0⟩
def CM_ARMED_STATE : Field := ⟨0x5202, 0x0, 31, 28⟩
def CM_ARMED_RESULT : Field := ⟨0x5202, 0x0, 27, 24⟩
def CM_ARMED_ARM_NS : Field := ⟨0x5202, 0x0, 15, 0⟩
def CM_TARGET_FRAME_FRAME : Field := ⟨0x5203, 0x0, 31, 0⟩
def CM_STATE_BITS : Field := ⟨0x5204, 0x0, 31, 0⟩
def CM_TRIG_OUT_EN : Field := ⟨0x5205, 0x0, 1, 1⟩
def CM_TRIG_IN_EN : Field := ⟨0x5205, 0x0, 0, 0⟩
def CM_COMMITS_COUNT : Field := ⟨0x5206, 0x0, 31, 0⟩
def CM_MISSED_COUNT : Field := ⟨0x5206, 0x1, 31, 0⟩
def CM_TRIG_IGNORED_COUNT : Field := ⟨0x5206, 0x2, 31, 0⟩
def CM_DISARMED_COUNT : Field := ⟨0x5206, 0x3, 31, 0⟩
def CM_LAST_FRAME_FRAME : Field := ⟨0x5207, 0x0, 31, 0⟩
def XT_AGG_AGG : Field := ⟨0x5400, 0x0, 27, 16⟩
def XT_AGG_VALID : Field := ⟨0x5400, 0x0, 12, 12⟩
def XT_AGG_COEF : Field := ⟨0x5400, 0x0, 11, 0⟩
def XT_BASE_BASE : Field := ⟨0x540C, 0x0, 15, 0⟩
def XT_FILTER_SH : Field := ⟨0x540D, 0x0, 3, 0⟩
def XT_FLOOR_TILE : Field := ⟨0x540E, 0x0, 5, 0⟩
def XT_F_NOW_F : Field := ⟨0x540F, 0x0, 31, 0⟩
def XT_ACT_LANE : Field := ⟨0x5410, 0x0, 31, 16⟩
def XT_ACT_BASE : Field := ⟨0x5410, 0x0, 15, 0⟩
def XT_SELF_COEF_SHS : Field := ⟨0xA010, 0x0, 19, 16⟩
def XT_SELF_COEF_COEF : Field := ⟨0xA010, 0x0, 11, 0⟩
def XT_SELF_REF_AREF : Field := ⟨0xA011, 0x0, 15, 0⟩
def XT_SELF_ACT_A : Field := ⟨0xA012, 0x0, 15, 0⟩
def XT_SELF_NOW_S : Field := ⟨0xA013, 0x0, 31, 0⟩
def SV_START_CLEAR : Field := ⟨0x5800, 0x0, 2, 2⟩
def SV_START_ABORT : Field := ⟨0x5800, 0x0, 1, 1⟩
def SV_START_GO : Field := ⟨0x5800, 0x0, 0, 0⟩
def SV_STATUS_STATE : Field := ⟨0x5801, 0x0, 31, 28⟩
def SV_STATUS_RESULT : Field := ⟨0x5801, 0x0, 27, 24⟩
def SV_STATUS_TAP : Field := ⟨0x5801, 0x0, 23, 23⟩
def SV_STATUS_SUSPENDED : Field := ⟨0x5801, 0x0, 22, 22⟩
def SV_STATUS_STEP : Field := ⟨0x5801, 0x0, 15, 0⟩
def SV_COLOUR_BAD_VALID : Field := ⟨0x5801, 0x1, 12, 12⟩
def SV_COLOUR_BAD_ELEMENT : Field := ⟨0x5801, 0x1, 11, 0⟩
def SV_PASS_CAPTURE : Field := ⟨0x5802, 0x0, 23, 16⟩
def SV_PASS_PASS : Field := ⟨0x5802, 0x0, 15, 0⟩
def SV_XT_STEP : Field := ⟨0x5802, 0x1, 31, 16⟩
def SV_XT_DWELL : Field := ⟨0x5802, 0x1, 15, 0⟩
def SV_EXERCISE_EX : Field := ⟨0x5802, 0x3, 15, 0⟩
def SV_COLOUR_COLOUR : Field := ⟨0x5810, 0x0, 2, 0⟩
def SV_EO_CROSS : Field := ⟨0x5811, 0x0, 25, 16⟩
def SV_EO_BAR : Field := ⟨0x5811, 0x0, 9, 0⟩
def SV_KICK_DUR : Field := ⟨0x5812, 0x0, 12, 8⟩
def SV_KICK_AMP : Field := ⟨0x5812, 0x0, 5, 0⟩
def SV_CAPTURED_MAP : Field := ⟨0x5813, 0x0, 31, 0⟩
def SV_SLOPE_CROSS : Field := ⟨0x5814, 0x0, 31, 16⟩
def SV_SLOPE_BAR : Field := ⟨0x5814, 0x0, 15, 0⟩
def SV_PHASE_CROSS : Field := ⟨0x5815, 0x0, 15, 8⟩
def SV_PHASE_BAR : Field := ⟨0x5815, 0x0, 7, 0⟩
def SV_RUNS_COUNT : Field := ⟨0x5820, 0x0, 31, 0⟩
def SV_LAST_RUN_LO_FRAME : Field := ⟨0x5821, 0x0, 31, 0⟩
def SV_LAST_RUN_HI_FRAME : Field := ⟨0x5822, 0x0, 31, 0⟩
def SV_UNIT_TEMP_VALID : Field := ⟨0x5823, 0x0, 31, 31⟩
def SV_UNIT_TEMP_TEMP : Field := ⟨0x5823, 0x0, 11, 0⟩
def SV_CAL_REQ_ALL : Field := ⟨0x5824, 0x0, 15, 15⟩
def SV_CAL_REQ_UNIT : Field := ⟨0x5824, 0x0, 8, 0⟩
def SV_TEMP_DELTA_DELTA : Field := ⟨0x5825, 0x0, 7, 0⟩
def SV_MON_OFS_OFS_0 : Field := ⟨0x5830, 0x0, 31, 24⟩
def SV_MON_OFS_OFS_1 : Field := ⟨0x5830, 0x0, 23, 16⟩
def SV_MON_OFS_OFS_2 : Field := ⟨0x5830, 0x0, 15, 8⟩
def SV_MON_OFS_OFS_3 : Field := ⟨0x5830, 0x0, 7, 0⟩
def SV_TDC_LIN_C : Field := ⟨0x5831, 0x0, 31, 0⟩
def SV_LEARN_LEARN_EN : Field := ⟨0x5840, 0x0, 31, 31⟩
def SV_LEARN_SHIFT : Field := ⟨0x5840, 0x0, 19, 16⟩
def SV_LEARN_WINDOWS : Field := ⟨0x5840, 0x0, 15, 0⟩
def SV_LEARNED_COUNT : Field := ⟨0x5841, 0x0, 31, 0⟩
def SV_TT_GEN_COUNT : Field := ⟨0x5841, 0x1, 31, 0⟩
def SV_SUSPENDS_COUNT : Field := ⟨0x5841, 0x2, 31, 0⟩
def SV_CAPTURE_FAILS_COUNT : Field := ⟨0x5841, 0x3, 31, 0⟩
def SV_XT_FAILED_COUNT : Field := ⟨0x5841, 0x4, 31, 0⟩
def SV_XT_GROUPS_G : Field := ⟨0x5841, 0x5, 31, 0⟩
def SV_XT_SAT_COUNT : Field := ⟨0x5841, 0x6, 31, 0⟩
def SV_CAL_ABANDONED_COUNT : Field := ⟨0x5841, 0x7, 31, 0⟩
def TB_NOW_TIME : Field := ⟨0x2400, 0x0, 31, 0⟩
def TB_STATUS_STATE : Field := ⟨0x2401, 0x0, 31, 28⟩
def TB_STATUS_STEP_SCHEDULED : Field := ⟨0x2401, 0x0, 27, 27⟩
def TB_STATUS_STEP_CANCELLED : Field := ⟨0x2401, 0x0, 26, 26⟩
def TB_STATUS_SERVER_COAST : Field := ⟨0x2401, 0x0, 25, 25⟩
def TB_STATUS_SERVER_UNSET : Field := ⟨0x2401, 0x0, 24, 24⟩
def TB_STATUS_SUSPENDED : Field := ⟨0x2401, 0x0, 23, 23⟩
def TB_MEASURE_OFFSET : Field := ⟨0x2402, 0x0, 31, 0⟩
def TB_MEASURE_DELAY : Field := ⟨0x2402, 0x2, 31, 0⟩
def TB_MEASURE_RATE_ERR : Field := ⟨0x2402, 0x3, 31, 0⟩
def TB_XCHG_INTERVAL : Field := ⟨0x2403, 0x0, 10, 0⟩
def TB_XCHG_AVG : Field := ⟨0x2403, 0x1, 6, 0⟩
def TB_XCHG_OUTLIER : Field := ⟨0x2403, 0x2, 15, 0⟩
def TB_ASYM_ASYM : Field := ⟨0x2404, 0x0, 15, 0⟩
def TB_DEV_LAT_LAT : Field := ⟨0x2405, 0x0, 31, 0⟩
def TB_BANDS_SYNC_BAND : Field := ⟨0x2406, 0x0, 15, 0⟩
def TB_BANDS_SLEW_BAND : Field := ⟨0x2406, 0x1, 15, 0⟩
def TB_COUNT_COUNT : Field := ⟨0x2407, 0x0, 31, 0⟩
def TB_JUMP_LIMIT_LIMIT : Field := ⟨0x2410, 0x0, 15, 0⟩
def TB_STEP_AUTH_ID : Field := ⟨0x2411, 0x0, 15, 8⟩
def TB_STEP_AUTH_CANCEL : Field := ⟨0x2411, 0x0, 1, 1⟩
def TB_STEP_AUTH_GO : Field := ⟨0x2411, 0x0, 0, 0⟩
def TB_STEP_AUTH_FRAMES : Field := ⟨0x2411, 0x1, 31, 0⟩
def TB_STEP_AUTH_AT_FRAME : Field := ⟨0x2411, 0x2, 31, 0⟩
def TB_JUMP_PENDING_VALID : Field := ⟨0x2412, 0x0, 31, 31⟩
def TB_JUMP_PENDING_JUMP_ID : Field := ⟨0x2412, 0x0, 7, 0⟩
def TS_STATUS_FLAGS_NOW : Field := ⟨0x2500, 0x0, 15, 0⟩
def TS_LIGHT_RECORDS_COUNT : Field := ⟨0x2501, 0x0, 31, 0⟩
def TS_MERGED_COUNT : Field := ⟨0x2501, 0x1, 31, 0⟩
def TS_POST_LAST_NS : Field := ⟨0x2502, 0x0, 31, 0⟩
def TS_POST_MAX_NS : Field := ⟨0x2502, 0x1, 31, 0⟩
def PD_CFG_EN : Field := ⟨0x4C00, 0x0, 31, 31⟩
def PD_CFG_DWELL : Field := ⟨0x4C00, 0x0, 23, 16⟩
def PD_CFG_TH_ON : Field := ⟨0x4C00, 0x0, 15, 8⟩
def PD_CFG_TH_OFF : Field := ⟨0x4C00, 0x0, 7, 0⟩
def PD_STATUS_LEVEL : Field := ⟨0x4C01, 0x0, 31, 31⟩
def PD_STATUS_CAL_STALE : Field := ⟨0x4C01, 0x0, 30, 30⟩
def PD_STATUS_ACTIVE : Field := ⟨0x4C01, 0x0, 29, 29⟩
def PD_DELAY_DELAY : Field := ⟨0x4C02, 0x0, 15, 0⟩
def PD_EDGES_COUNT : Field := ⟨0x4C03, 0x0, 31, 0⟩
def PD_GLITCHES_COUNT : Field := ⟨0x4C04, 0x0, 31, 0⟩
def PD_LOST_COUNT : Field := ⟨0x4C05, 0x0, 31, 0⟩
def EV_STATUS_CHAIN : Field := ⟨0x2600, 0x0, 31, 31⟩
def EV_STATUS_HOLDING : Field := ⟨0x2600, 0x0, 30, 30⟩
def EV_STATUS_FILLING : Field := ⟨0x2600, 0x0, 29, 29⟩
def EV_STATUS_KEY_PENDING : Field := ⟨0x2600, 0x0, 28, 28⟩
def EV_STATUS_ECC_ERR : Field := ⟨0x2600, 0x0, 27, 27⟩
def EV_CTRL_SEAL_NOW : Field := ⟨0x2601, 0x0, 31, 31⟩
def EV_CTRL_SEAL_TIMEOUT : Field := ⟨0x2601, 0x0, 19, 0⟩
def EV_KEY_WORD : Field := ⟨0x2602, 0x0, 31, 0⟩
def EV_KEY_CTRL_COMMIT : Field := ⟨0x2603, 0x0, 31, 31⟩
def EV_KEY_CTRL_LOCK : Field := ⟨0x2603, 0x0, 30, 30⟩
def EV_KEY_CTRL_KEY_ID : Field := ⟨0x2603, 0x0, 15, 0⟩
def EV_CHAIN_BLOCK : Field := ⟨0x2604, 0x0, 31, 0⟩
def EV_CHAIN_TAG : Field := ⟨0x2604, 0x2, 31, 0⟩
def EV_READ_HEAD : Field := ⟨0x2605, 0x0, 31, 0⟩
def EV_READ_FILLED : Field := ⟨0x2605, 0x2, 31, 16⟩
def EV_READ_SEALED : Field := ⟨0x2605, 0x2, 9, 0⟩
def EV_READ_OPEN : Field := ⟨0x2605, 0x3, 31, 0⟩
def EV_ACK_HEAD16 : Field := ⟨0x2606, 0x0, 31, 16⟩
def EV_ACK_COUNT : Field := ⟨0x2606, 0x0, 9, 0⟩
def EV_RD_DATA_WORD : Field := ⟨0x2608, 0x0, 31, 0⟩
def EV_OPEN_DATA_WORD : Field := ⟨0x2609, 0x0, 31, 0⟩
def EV_COUNTS_WRITTEN : Field := ⟨0x260A, 0x0, 31, 0⟩
def EV_COUNTS_BLOCKS : Field := ⟨0x260A, 0x1, 31, 0⟩
def EV_COUNTS_FILLS : Field := ⟨0x260A, 0x2, 31, 0⟩
def EV_COUNTS_LOST_LIGHT : Field := ⟨0x260A, 0x3, 31, 0⟩
def EV_COUNTS_LOST_OTHER : Field := ⟨0x260A, 0x4, 31, 0⟩
def EV_COUNTS_LOST_NOCHAIN : Field := ⟨0x260A, 0x5, 31, 0⟩
def EV_COUNTS_ECC_CORRECTED : Field := ⟨0x260A, 0x6, 31, 0⟩
def EV_COUNTS_ECC_UNCORRECTED : Field := ⟨0x260A, 0x7, 31, 0⟩
def EV_COUNTS_KEY_CHANGES : Field := ⟨0x260A, 0x8, 31, 0⟩
def EV_FIFO_MAX : Field := ⟨0x260B, 0x0, 28, 16⟩
def EV_FIFO_NOW : Field := ⟨0x260B, 0x0, 12, 0⟩
def FL_STATUS_STATE : Field := ⟨0x1100, 0x0, 31, 29⟩
def FL_STATUS_LOOPED : Field := ⟨0x1100, 0x0, 28, 28⟩
def FL_STATUS_PEER_REPEATER : Field := ⟨0x1100, 0x0, 27, 27⟩
def FL_STATUS_SILENT : Field := ⟨0x1100, 0x0, 26, 26⟩
def FL_STATUS_PEER_ADDR : Field := ⟨0x1100, 0x0, 23, 16⟩
def FL_CTRL_LOOP_HOLD : Field := ⟨0x1101, 0x0, 25, 16⟩
def FL_CTRL_VERSION_MAX : Field := ⟨0x1101, 0x0, 8, 8⟩
def FL_CTRL_LOOP_EN : Field := ⟨0x1101, 0x0, 0, 0⟩
def FL_ADDR_ADDR : Field := ⟨0x1102, 0x0, 5, 0⟩
def FL_VERSION_SUPPORTED_L1_1 : Field := ⟨0x1110, 0x0, 1, 1⟩
def FL_VERSION_SUPPORTED_L1_0 : Field := ⟨0x1110, 0x0, 0, 0⟩
def FL_VERSION_AGREED_VALID : Field := ⟨0x1120, 0x0, 16, 16⟩
def FL_VERSION_AGREED_MAJOR : Field := ⟨0x1120, 0x0, 15, 8⟩
def FL_VERSION_AGREED_MINOR : Field := ⟨0x1120, 0x0, 7, 0⟩
def FL_BCAST_STATUS_TAG : Field := ⟨0x1140, 0x0, 31, 24⟩
def FL_BCAST_STATUS_FTYPE : Field := ⟨0x1140, 0x0, 23, 16⟩
def FL_BCAST_STATUS_STATUS : Field := ⟨0x1140, 0x0, 15, 0⟩
def FL_LOAD_UTIL : Field := ⟨0x1150, 0x0, 15, 0⟩
def FL_THRU_MAX_BLOCKS : Field := ⟨0x1151, 0x0, 7, 0⟩
def FL_LOSSES_COUNT : Field := ⟨0x1130, 0x0, 31, 0⟩
def FL_SYNC_ERRORS_COUNT : Field := ⟨0x1131, 0x0, 31, 0⟩
def FL_CRC_ERRORS_COUNT : Field := ⟨0x1132, 0x0, 31, 0⟩
def FL_LOOPS_COUNT : Field := ⟨0x1133, 0x0, 31, 0⟩
def FL_UNKNOWN_COUNT : Field := ⟨0x1134, 0x0, 31, 0⟩
def FL_TRUNCATED_COUNT : Field := ⟨0x1135, 0x0, 31, 0⟩
def FL_DISCARDED_COUNT : Field := ⟨0x1136, 0x0, 31, 0⟩
def FL_ARB_BROKEN_COUNT : Field := ⟨0x1137, 0x0, 31, 0⟩
def FL_WAKES_COUNT : Field := ⟨0x1160, 0x0, 31, 0⟩
def FL_RESETS_REFUSED_COUNT : Field := ⟨0x1160, 0x1, 31, 0⟩
def ID_DEVICE_VENDOR : Field := ⟨0x1000, 0x0, 31, 16⟩
def ID_DEVICE_FAMILY : Field := ⟨0x1000, 0x0, 15, 8⟩
def ID_DEVICE_MEMBER : Field := ⟨0x1000, 0x0, 7, 0⟩
def ID_DEVICE_PART : Field := ⟨0x1000, 0x1, 31, 0⟩
def ID_REVISION_STEP : Field := ⟨0x1001, 0x0, 31, 24⟩
def ID_REVISION_METAL : Field := ⟨0x1001, 0x0, 23, 16⟩
def ID_SERIAL_SERIAL : Field := ⟨0x1002, 0x0, 31, 0⟩
def ID_STRAPS_SAFEPOL : Field := ⟨0x1003, 0x0, 12, 12⟩
def ID_STRAPS_PROF : Field := ⟨0x1003, 0x0, 11, 9⟩
def ID_STRAPS_REFDIV : Field := ⟨0x1003, 0x0, 8, 7⟩
def ID_STRAPS_TPORT : Field := ⟨0x1003, 0x0, 6, 6⟩
def ID_STRAPS_ADDR : Field := ⟨0x1003, 0x0, 5, 0⟩
def ID_OD_VERSION_MAJOR : Field := ⟨0x1010, 0x0, 31, 24⟩
def ID_OD_VERSION_MINOR : Field := ⟨0x1010, 0x0, 23, 16⟩
def ID_OD_VERSION_PATCH : Field := ⟨0x1010, 0x0, 15, 0⟩
def ID_FW_IF_VERSION_MAJOR : Field := ⟨0x1011, 0x0, 31, 24⟩
def ID_FW_IF_VERSION_MINOR : Field := ⟨0x1011, 0x0, 23, 16⟩
def ID_FW_IF_VERSION_PATCH : Field := ⟨0x1011, 0x0, 15, 0⟩
def ID_OD_COUNTS_OBJECTS : Field := ⟨0x1012, 0x0, 31, 0⟩
def ID_OD_COUNTS_SUBENTRIES : Field := ⟨0x1012, 0x1, 31, 0⟩
def ID_SERVICE_COUNT : Field := ⟨0x1040, 0x0, 31, 0⟩
def ID_SERVICE_COUNT_s04 : Field := ⟨0x1040, 0x4, 31, 0⟩
def SE_SECTION_OWNER_OWNER : Field := ⟨0x1300, 0x0, 31, 30⟩
def SE_SECTION_OWNER_GRANTS : Field := ⟨0x1300, 0x0, 15, 0⟩
def SE_ACQUIRE_MASK : Field := ⟨0x1301, 0x0, 15, 0⟩
def SE_RELEASE_MASK : Field := ⟨0x1302, 0x0, 15, 0⟩
def SE_HELD_PORT_B : Field := ⟨0x1303, 0x0, 31, 16⟩
def SE_HELD_PORT_A : Field := ⟨0x1303, 0x0, 15, 0⟩
def SE_EPOCH_EPOCH : Field := ⟨0x1340, 0x0, 31, 0⟩
def SE_EPOCH_KEY_SET : Field := ⟨0x1340, 0x1, 31, 31⟩
def SE_EPOCH_ACTIVE : Field := ⟨0x1340, 0x1, 27, 26⟩
def SE_ARB_KEY_WORD : Field := ⟨0x1341, 0x0, 31, 0⟩
def SE_ARB_COUNTS_COUNT : Field := ⟨0x1342, 0x0, 31, 0⟩
def SE_LAST_TOKEN_RESULT : Field := ⟨0x1343, 0x0, 31, 28⟩
def SE_LAST_TOKEN_PORT : Field := ⟨0x1343, 0x0, 27, 26⟩
def SE_LAST_TOKEN_DEST : Field := ⟨0x1343, 0x0, 7, 0⟩
def SE_LAST_TOKEN_EPOCH : Field := ⟨0x1343, 0x1, 31, 0⟩
def BT_STATUS_STATE : Field := ⟨0x1400, 0x0, 31, 28⟩
def BT_STATUS_RESULT : Field := ⟨0x1400, 0x0, 27, 24⟩
def BT_STATUS_DOMAINS_UP : Field := ⟨0x1400, 0x0, 23, 23⟩
def BT_STATUS_SESSION : Field := ⟨0x1400, 0x0, 15, 0⟩
def BT_CTRL_SESSION : Field := ⟨0x1401, 0x0, 31, 16⟩
def BT_CTRL_CMD : Field := ⟨0x1401, 0x0, 2, 0⟩
def BT_LENGTH_BYTES : Field := ⟨0x1401, 0x1, 19, 0⟩
def BT_RX_FIRST_MISSING : Field := ⟨0x1402, 0x0, 27, 16⟩
def BT_RX_RECEIVED : Field := ⟨0x1402, 0x0, 11, 0⟩
def BT_IMAGE_REFUSED_COUNT : Field := ⟨0x1402, 0x1, 31, 0⟩
def BT_IMAGE_SVN_SVN : Field := ⟨0x1403, 0x0, 31, 0⟩
def BT_KEY_HASH_HASH : Field := ⟨0x1404, 0x0, 31, 0⟩
def BT_SVN_MIN_SVN : Field := ⟨0x1405, 0x0, 31, 0⟩
def BT_LOCK_TIME_US : Field := ⟨0x1406, 0x0, 31, 0⟩
def BT_CHECK_TIME_US : Field := ⟨0x1406, 0x1, 31, 0⟩
def BT_CHECK_FAILS_COUNT : Field := ⟨0x1407, 0x0, 31, 0⟩
def MD_MODE_MODE : Field := ⟨0x1800, 0x0, 31, 28⟩
def MD_MODE_PRIOR : Field := ⟨0x1800, 0x0, 27, 24⟩
def MD_MODE_CAUSE : Field := ⟨0x1800, 0x0, 23, 20⟩
def MD_MODE_ENTERING : Field := ⟨0x1800, 0x0, 19, 19⟩
def MD_MODE_BLK_TIME : Field := ⟨0x1800, 0x0, 14, 14⟩
def MD_MODE_BLK_CLOCK : Field := ⟨0x1800, 0x0, 13, 13⟩
def MD_MODE_BLK_IMAGE : Field := ⟨0x1800, 0x0, 12, 12⟩
def MD_REQUEST_REQ : Field := ⟨0x1801, 0x0, 3, 0⟩
def MD_CHANGES_COUNT : Field := ⟨0x1802, 0x0, 31, 0⟩
def MD_REFUSED_COUNT : Field := ⟨0x1802, 0x1, 31, 0⟩
def PW_DOMAIN_STATE : Field := ⟨0x6000, 0x0, 31, 30⟩
def PW_DOMAIN_TRANSIT : Field := ⟨0x6000, 0x0, 29, 29⟩
def PW_DOMAIN_TARGET : Field := ⟨0x6000, 0x0, 28, 27⟩
def PW_DOMAIN_LIMIT : Field := ⟨0x6000, 0x0, 26, 25⟩
def PW_DOMAIN_WOKEN_BY : Field := ⟨0x6000, 0x0, 23, 16⟩
def PW_REQ_MASK_LO_DOMAINS : Field := ⟨0x6001, 0x0, 31, 0⟩
def PW_REQ_MASK_HI_D32 : Field := ⟨0x6001, 0x1, 0, 0⟩
def PW_REQ_GO : Field := ⟨0x6001, 0x2, 31, 31⟩
def PW_REQ_TARGET : Field := ⟨0x6001, 0x2, 1, 0⟩
def PW_STATUS_BUSY : Field := ⟨0x6002, 0x0, 31, 31⟩
def PW_STATUS_PENDING : Field := ⟨0x6002, 0x0, 30, 30⟩
def PW_STATUS_PHASE : Field := ⟨0x6002, 0x0, 29, 28⟩
def PW_STATUS_RESULT : Field := ⟨0x6002, 0x0, 27, 24⟩
def PW_HOLD_LO_DOMAINS : Field := ⟨0x6003, 0x0, 31, 0⟩
def PW_HOLD_HI_D32 : Field := ⟨0x6003, 0x1, 0, 0⟩
def PW_VOTES_RUN_CLIENTS : Field := ⟨0x6004, 0x0, 31, 16⟩
def PW_VOTES_EBB_CLIENTS : Field := ⟨0x6004, 0x0, 15, 0⟩
def PW_COUNTS_COUNT : Field := ⟨0x6010, 0x0, 31, 0⟩
def PW_LAST_REFUSAL_CLIENT : Field := ⟨0x6011, 0x0, 31, 24⟩
def PW_LAST_REFUSAL_DOMAIN : Field := ⟨0x6011, 0x0, 23, 16⟩
def PW_LAST_REFUSAL_PHASE : Field := ⟨0x6011, 0x0, 15, 14⟩
def PW_LAST_REFUSAL_ISOLATED : Field := ⟨0x6011, 0x0, 5, 0⟩
def PW_TILE_STATE : Field := ⟨0xA030, 0x0, 31, 30⟩
def PW_TILE_STALLS_COUNT : Field := ⟨0xA031, 0x0, 31, 0⟩
def PL_STATUS_LEVEL : Field := ⟨0x6100, 0x0, 31, 30⟩
def PL_STATUS_VLEVEL : Field := ⟨0x6100, 0x0, 29, 28⟩
def PL_STATUS_BUSY : Field := ⟨0x6100, 0x0, 27, 27⟩
def PL_STATUS_PENDING : Field := ⟨0x6100, 0x0, 26, 26⟩
def PL_STATUS_TARGET : Field := ⟨0x6100, 0x0, 25, 24⟩
def PL_STATUS_VOLT_UNCONFIRMED : Field := ⟨0x6100, 0x0, 23, 23⟩
def PL_STATUS_RESULT : Field := ⟨0x6100, 0x0, 22, 20⟩
def PL_REQUEST_LEVEL : Field := ⟨0x6101, 0x0, 1, 0⟩
def PL_VOUT_MV : Field := ⟨0x6102, 0x0, 15, 0⟩
def PL_PMBUS_SETTLE : Field := ⟨0x6103, 0x0, 31, 16⟩
def PL_PMBUS_PEC_EN : Field := ⟨0x6103, 0x0, 9, 9⟩
def PL_PMBUS_FAST_PLUS : Field := ⟨0x6103, 0x0, 8, 8⟩
def PL_PMBUS_ADDR : Field := ⟨0x6103, 0x0, 6, 0⟩
def PL_MIN_INTERVAL_FRAMES : Field := ⟨0x6103, 0x1, 15, 0⟩
def PL_VOUT_MODE_VALID : Field := ⟨0x6104, 0x0, 8, 8⟩
def PL_VOUT_MODE_MODE : Field := ⟨0x6104, 0x0, 7, 0⟩
def PL_VOUT_READ_MV : Field := ⟨0x6104, 0x1, 15, 0⟩
def PL_COUNTS_COUNT : Field := ⟨0x6105, 0x0, 31, 0⟩
def FC_FIRST_VALID : Field := ⟨0x7000, 0x0, 31, 31⟩
def FC_FIRST_SEV : Field := ⟨0x7000, 0x0, 30, 28⟩
def FC_FIRST_ESCALATED : Field := ⟨0x7000, 0x0, 27, 25⟩
def FC_FIRST_WIRE : Field := ⟨0x7000, 0x0, 24, 24⟩
def FC_FIRST_INJECTED : Field := ⟨0x7000, 0x0, 23, 23⟩
def FC_FIRST_SOURCE : Field := ⟨0x7000, 0x0, 22, 16⟩
def FC_FIRST_UNIT : Field := ⟨0x7000, 0x0, 15, 0⟩
def FC_FIRST_SECONDS : Field := ⟨0x7000, 0x1, 31, 0⟩
def FC_FIRST_NS : Field := ⟨0x7000, 0x3, 29, 0⟩
def FC_FIRST_FRACTION : Field := ⟨0x7000, 0x4, 15, 0⟩
def FC_FIRST_SAME_CYCLE : Field := ⟨0x7000, 0x5, 31, 0⟩
def FC_FIRST_MERGED : Field := ⟨0x7000, 0x9, 15, 0⟩
def FC_STATUS_WINDOW : Field := ⟨0x7001, 0x0, 31, 31⟩
def FC_STATUS_WINDOW_SEV : Field := ⟨0x7001, 0x0, 30, 28⟩
def FC_STATUS_DEGRADED : Field := ⟨0x7001, 0x0, 27, 27⟩
def FC_STATUS_CONTAINED : Field := ⟨0x7001, 0x0, 26, 26⟩
def FC_STATUS_WINDOW_SOURCE : Field := ⟨0x7001, 0x0, 6, 0⟩
def FC_CFG_CONTAIN : Field := ⟨0x7002, 0x0, 9, 8⟩
def FC_CFG_FLOOR : Field := ⟨0x7002, 0x0, 6, 4⟩
def FC_CFG_SEVERITY : Field := ⟨0x7002, 0x0, 2, 0⟩
def FC_STICKY_BITS : Field := ⟨0x7003, 0x0, 31, 0⟩
def FC_COUNT_COUNT : Field := ⟨0x7004, 0x0, 31, 0⟩
def FC_CLEAR_ALL : Field := ⟨0x7005, 0x0, 31, 31⟩
def FC_CLEAR_FIRST : Field := ⟨0x7005, 0x0, 30, 30⟩
def FC_CLEAR_SOURCE : Field := ⟨0x7005, 0x0, 6, 0⟩
def FC_LOST_COUNT : Field := ⟨0x7006, 0x0, 31, 0⟩
def FC_FIFO_MAX : Field := ⟨0x7006, 0x1, 21, 16⟩
def FC_FIFO_NOW : Field := ⟨0x7006, 0x1, 5, 0⟩
def FC_ACTIVE_BITS : Field := ⟨0x7007, 0x0, 31, 0⟩
def SF_STATE_STATE : Field := ⟨0x7100, 0x0, 31, 30⟩
def SF_STATE_SAFE_IN : Field := ⟨0x7100, 0x0, 29, 29⟩
def SF_STATE_RELEASABLE : Field := ⟨0x7100, 0x0, 28, 28⟩
def SF_STATE_FLT_P_RB : Field := ⟨0x7100, 0x0, 27, 27⟩
def SF_STATE_FLT_N_RB : Field := ⟨0x7100, 0x0, 26, 26⟩
def SF_STATE_CAUSE : Field := ⟨0x7100, 0x0, 22, 16⟩
def SF_RELEASE_KEY : Field := ⟨0x7101, 0x0, 31, 16⟩
def SF_RELEASE_GO : Field := ⟨0x7101, 0x0, 0, 0⟩
def SF_FATAL_LATCHED : Field := ⟨0x7102, 0x0, 31, 31⟩
def SF_FATAL_SOURCE : Field := ⟨0x7102, 0x0, 6, 0⟩
def SF_FATAL_SECONDS : Field := ⟨0x7102, 0x1, 31, 0⟩
def SF_FATAL_NS : Field := ⟨0x7102, 0x2, 29, 0⟩
def SF_COUNTS_COUNT : Field := ⟨0x7103, 0x0, 31, 0⟩
def SM_STATUS_MARGINAL : Field := ⟨0x7810, 0x0, 31, 31⟩
def SM_STATUS_VCORE_LOW : Field := ⟨0x7810, 0x0, 30, 30⟩
def SM_STATUS_VTIME_LOW : Field := ⟨0x7810, 0x0, 29, 29⟩
def SM_STATUS_ALERT : Field := ⟨0x7810, 0x0, 28, 28⟩
def SM_LEVELS_WARN : Field := ⟨0x7811, 0x0, 31, 16⟩
def SM_LEVELS_RESET : Field := ⟨0x7811, 0x0, 15, 0⟩
def SM_LAST_DIP_DURATION : Field := ⟨0x7812, 0x0, 31, 0⟩
def SM_LAST_DIP_DURATION_s02 : Field := ⟨0x7812, 0x2, 31, 0⟩
def SM_LAST_DIP_LOWEST : Field := ⟨0x7812, 0x1, 15, 0⟩
def SM_LAST_DIP_LOWEST_s03 : Field := ⟨0x7812, 0x3, 15, 0⟩
def SM_COUNTS_COUNT : Field := ⟨0x7813, 0x0, 31, 0⟩
def SM_ALERT_STATUS_WORD : Field := ⟨0x7814, 0x0, 15, 0⟩
def TH_TIME_TEMP_TEMP : Field := ⟨0x7800, 0x0, 11, 0⟩
def TH_LIMITS_CRIT : Field := ⟨0x7801, 0x0, 27, 16⟩
def TH_LIMITS_WARN : Field := ⟨0x7801, 0x0, 11, 0⟩
def TH_MAX_SENSOR : Field := ⟨0x7802, 0x0, 18, 12⟩
def TH_MAX_TEMP : Field := ⟨0x7802, 0x0, 11, 0⟩
def TH_TILE_TEMP_TEMP : Field := ⟨0xA020, 0x0, 11, 0⟩
def TH_TILE_MAX_TEMP : Field := ⟨0xA021, 0x0, 11, 0⟩
def TI_INJECT_GO : Field := ⟨0x7C00, 0x0, 31, 31⟩
def TI_INJECT_ALLOW_FATAL : Field := ⟨0x7C00, 0x0, 30, 30⟩
def TI_INJECT_COUNT : Field := ⟨0x7C00, 0x0, 23, 16⟩
def TI_INJECT_INVERT : Field := ⟨0x7C00, 0x0, 9, 8⟩
def TI_INJECT_SOURCE : Field := ⟨0x7C00, 0x0, 6, 0⟩
def TI_STATUS_PENDING : Field := ⟨0x7C01, 0x0, 31, 31⟩
def TI_STATUS_REMAINING : Field := ⟨0x7C01, 0x0, 23, 16⟩
def TI_STATUS_SOURCE : Field := ⟨0x7C01, 0x0, 6, 0⟩
def TI_COUNT_COUNT : Field := ⟨0x7C02, 0x0, 31, 0⟩
def GT_CFG_CURRENT : Field := ⟨0x4C40, 0x0, 5, 0⟩
def GT_STATUS_DARK : Field := ⟨0x4C41, 0x0, 31, 31⟩
def GT_STATUS_DRIVEN : Field := ⟨0x4C41, 0x0, 30, 30⟩
def GT_STATUS_SAFE_FORCED : Field := ⟨0x4C41, 0x0, 29, 29⟩
def GT_STATUS_READBACK_FAULT : Field := ⟨0x4C41, 0x0, 28, 28⟩
def MD_RESET_CAUSE_KIND : Field := ⟨0x1803, 0x0, 31, 28⟩
def MD_RESET_CAUSE_FATAL_SEEN : Field := ⟨0x1803, 0x0, 27, 27⟩
def MD_RESET_CAUSE_RAIL : Field := ⟨0x1803, 0x0, 26, 25⟩
def MD_RESET_CAUSE_RING_PORT : Field := ⟨0x1803, 0x0, 1, 0⟩
def MD_RESET_COUNTS_PIN : Field := ⟨0x1803, 0x1, 31, 16⟩
def MD_RESET_COUNTS_RING : Field := ⟨0x1803, 0x1, 15, 0⟩
def PW_DOMAIN_RESET_GO : Field := ⟨0x6012, 0x0, 31, 31⟩
def PW_DOMAIN_RESET_BUSY : Field := ⟨0x6012, 0x0, 30, 30⟩
def PW_DOMAIN_RESET_DOMAIN : Field := ⟨0x6012, 0x0, 5, 0⟩
def PW_XING_RESETS : Field := ⟨0x6013, 0x0, 31, 16⟩
def PW_XING_PEER_RESETS : Field := ⟨0x6013, 0x0, 15, 0⟩

/-- The store's key of a subentry. -/
def objKey (index sub : Nat) : Nat := index * 65536 + sub

/-- The dictionary row of a subentry: per-tile objects of every tile share tile 0's rows (R239). -/
def objRow (index sub : Nat) : Option ObjRow :=
  let i := if 0xA000 ≤ index ∧ index < 0xB000 then 0xA000 + index % 0x40
    else if 0x5400 ≤ index ∧ index ≤ 0x540B then 0x5400 else index
  (objPage (i / 256)).find? (fun r => r.index = i ∧ r.subLo ≤ sub ∧ sub ≤ r.subHi)

/-- The bits of a field, as a mask. -/
def FieldRow.mask (f : FieldRow) : Nat := (2 ^ (f.hi + 1 - f.lo) - 1) * 2 ^ f.lo

/-- The bits of the fields that satisfy `p`, as a mask. -/
def ObjRow.maskOf (r : ObjRow) (p : FieldRow → Bool) : Nat :=
  r.fields.foldl (fun m f => if p f then m ||| f.mask else m) 0

/-- A field the host can write (Table 0-6). -/
def Access.writable : Access → Bool
  | .rw | .wo | .rwg | .wog | .w1 => true
  | .ro | .const => false

/-- A field that is written and never read (Table 0-6). -/
def Access.writeOnly : Access → Bool
  | .wo | .wog => true
  | _ => false

/-- The default severity, floor and containment of a fault source (Tables 13-2 and 13-3). -/
def sourceDefaults (s : Nat) : Nat × Nat × Nat :=
  if s = 0 ∨ s = 1 ∨ s = 2 ∨ s = 4 then (4, 4, 0)
  else if s = 3 ∨ s = 5 ∨ s = 6 ∨ s = 7 then (3, 3, 0)
  else if s = 8 ∨ s = 9 ∨ s = 10 ∨ s = 12 ∨ s = 13 then (1, 0, 0)
  else if s = 11 ∨ s = 16 ∨ s = 17 then (2, 0, 0)
  else if s = 18 ∨ s = 19 ∨ s = 24 ∨ s = 25 ∨ s = 26 ∨ s = 56 then (1, 0, 0)
  else if s = 20 ∨ s = 27 ∨ s = 57 then (3, 2, 0)
  else if s = 21 then (2, 1, 0)
  else if s = 28 then (2, 1, 2)
  else if 32 ≤ s ∧ s ≤ 47 then (1, 0, 0)
  else if 48 ≤ s ∧ s ≤ 51 then (2, 1, 2)
  else if 52 ≤ s ∧ s ≤ 55 then (2, 1, 1)
  else if 64 ≤ s ∧ s ≤ 79 then (2, 1, 2)
  else if 80 ≤ s ∧ s ≤ 83 then (2, 1, 1)
  else if s = 64 + 0x19 ∨ s = 64 + 0x22 then (3, 1, 0)
  else if s = 64 + 0x1C then (2, 1, 0)
  else if 84 ≤ s ∧ s ≤ 98 then (1, 1, 0)
  else (0, 0, 0)

/-- A word put together from the defaults of a row's fields. -/
def ObjRow.dflt (r : ObjRow) : Nat := r.fields.foldl (fun w f => w + f.dflt * 2 ^ f.lo) 0

/-- Defaults that differ within one row of the field maps, and the values fused per die (log entries 6, 7). -/
def objSpecial (index sub : Nat) : Option Word :=
  if index = 0x2018 then
    some (BitVec.ofNat 32 ([2, 6, 12, 32, 32, 150].getD sub 0 * 256))
  else if index = 0x7002 then
    let (sev, fl, co) := sourceDefaults sub
    some (BitVec.ofNat 32 (co * 256 + fl * 16 + sev))
  else if index = 0x6102 then some (BitVec.ofNat 32 ([800, 700, 600].getD sub 0))
  else if index = 0x6000 ∧ (sub = 0x21 ∨ sub = 0x22) then some 0x4AFF0000
  else if index = 0x7811 then some (BitVec.ofNat 32 (if sub = 0 then 6440 * 65536 + 5950 else 7820 * 65536 + 7225))
  else if index = 0x5410 then
    some (BitVec.ofNat 32 (if sub = 0 then 250 * 65536 + 4000 else if sub = 1 then 128 * 65536 + 2040 else 47 * 65536 + 750))
  else if index = 0x540E then some (BitVec.ofNat 32 (sub / 64))
  else if index = 0x1001 then some (BitVec.ofNat 32 (Config.idRevision.toNat * 65536))
  else if index = 0x1002 then some (BitVec.ofNat 32 (Config.idSerial.toNat / 2 ^ (32 * sub)))
  else if index = 0x1012 then some (if sub = 0 then Config.odObjects else Config.odSubentries)
  else if index = 0x1404 then some (Config.keyHash sub)
  else if index = 0x1405 then some Config.svnMin
  else none

/-- What a subentry that nothing has written reads as: its field map's defaults (R9). -/
def objDefault (k : Nat) : Word :=
  match objRow (k / 65536) (k % 65536) with
  | none => 0
  | some r =>
    match objSpecial (k / 65536) (k % 65536) with
    | some w => w
    | none => BitVec.ofNat 32 r.dflt

/-- A word after its fields of the lost persistence classes have returned to their defaults (R8, R9). -/
def objLose (lost : Pers → Bool) (k : Nat) (w : Word) : Word :=
  match objRow (k / 65536) (k % 65536) with
  | none => w
  | some r =>
    let m := BitVec.ofNat 32 (r.maskOf (fun f => lost f.pers))
    (w &&& ~~~m) ||| (objDefault k &&& m)

end Sys2Proof.Machine
end

