-- ==== Sys2Proof/Machine/State.lean ====
section
/-! DEFINITION. The state of the block as plain data: the dictionary's words, everything the chapters give the
device beside them, the queue of waiting commands, and the state right after reset. -/

namespace Sys2Proof.Machine

/-- Why a command has no next state: no command faults (log entry 9). -/
inductive Fault
  deriving DecidableEq, Repr

/-- Why the model does not run a command. -/
inductive Refusal
  /-- The command has no meaning in this model yet. Raised by the dispatcher alone. Safe: the machine stops. -/
  | notModelled (mnemonic : String)
  deriving DecidableEq, Repr

/-- The frame counter and the model's own clocks (R18, R19, R21). -/
structure FrameSt where
  /-- The frame counter counts (from first lock, R47). -/
  running : Bool := false
  /-- The timing cycle of the frame, 0 to 2,999. -/
  tc : Nat := 0
  /-- The frame number (R6). -/
  frame : Nat := 0
  /-- The model's own count of frame ticks, which no time step moves. -/
  ticks : Nat := 0
  /-- The model's own elapsed time in tc. -/
  up : Nat := 0
  /-- The slack window of this frame has begun. -/
  slack : Bool := false
  /-- The window-boundary actions of this frame have run. -/
  bound : Bool := false
  /-- The outcomes of the Tide Table reads of this frame, as its tick named them (R109). -/
  tide : List LaneEcc := []
  deriving DecidableEq, Repr

/-- An exact fraction: what R35 and R36 compute in real numbers is held without rounding (log entry 83). -/
structure Frac where
  n : Int := 0
  d : Nat := 1
  deriving DecidableEq, Repr

/-- The third-order MASH modulator of the divider (R40): its three accumulators over the modulus, the second stage's
last carry and the third stage's last two (log entry 83). -/
structure Mash where
  a1 : Nat := 0
  a2 : Nat := 0
  a3 : Nat := 0
  c2 : Nat := 0
  c3 : Nat := 0
  c3Old : Nat := 0
  deriving DecidableEq, Repr

/-- The second-order sigma-delta modulator of the fine code (R38): two accumulators of 5 bits and the second stage's
last carry (log entry 83). -/
structure Dither where
  a1 : Nat := 0
  a2 : Nat := 0
  c2 : Nat := 0
  deriving DecidableEq, Repr

/-- A phase-step pulse (R54): when it ends, the fine codes it adds, and by how much, in 1/256 LSB, it moves θ then. -/
structure Pulse where
  endUp : Nat
  codes : Int
  dTheta : Int
  deriving DecidableEq, Repr

/-- The loop of the timing synthesiser (R35, R36, R38, R40, R54). -/
structure LoopSt where
  /-- The last TDC reading in LSB, saturated at ±1,024. -/
  t : Int := 0
  /-- The TDC gain G as measured, UQ8.8 LSB per DCO period. -/
  gain : Nat := 0x8555
  /-- The phase target θ in 1/256 LSB, without the pulses that still run. -/
  theta : Int := 0
  mash : Mash := {}
  /-- The phase error φ in DCO periods, and the integrator I. -/
  phi : Frac := {}
  integ : Frac := {}
  /-- The fine code in 1/32 codes, pulses excluded, and its modulator. -/
  fine : Nat := 0
  dither : Dither := {}
  /-- Phase-step pulses, oldest first. -/
  pulses : List Pulse := []
  /-- When the next phase step may start, in fifths of a tc. -/
  slot : Nat := 0
  /-- The instant of the last divider commit's edge (R41). -/
  edge : Option Nat := none
  deriving DecidableEq, Repr

/-- The timing loop beside its objects (chapter 2). -/
structure TimingSt where
  loop : LoopSt := {}
  /-- Band search phase 1 to 7, 0 when none runs (R44). -/
  phase : Nat := 0
  /-- The search runs from the stored band, at DORMANT exit (R60). -/
  fromStored : Bool := false
  /-- An accepted divider commit that waits for its edge: PRESCALE, and in buffered mode the ratio in units of
  1/16,777,215; in tracking mode the ratio is formed when the commit applies (R41, R42). -/
  commit : Option (Nat × Option Nat) := none
  /-- When coasting began, and whether a reference loss began it and no lock loss has been counted since (R61). -/
  coastUp : Nat := 0
  byRef : Bool := false
  /-- TH_TIME_TEMP when coasting began (R52). -/
  coastTemp : Int := 0
  /-- The coast-limit source was raised in this episode (R53). -/
  coastRaised : Bool := false
  /-- The frequency-estimate source was raised in this episode (R53). -/
  ferrRaised : Bool := false
  /-- A trim window of this episode has been completed (R53). -/
  trimmed : Bool := false
  /-- The first and the last frame mark of the running trim window: arrival on the device's own clock and departure at
  the server, in 1/32 tc (R51). -/
  trimFirst : Option (Nat × Nat) := none
  trimLast : Option (Nat × Nat) := none
  /-- When the running trim window began. -/
  trimUp : Nat := 0
  /-- When the timing port reached block lock (R268). -/
  lockUp : Nat := 0
  deriving DecidableEq, Repr

/-- A FRAME_MARK that awaits its DREQ (R164): the server's frame number and departure, the arrival, the device's own
frame number then, and the model's tick. -/
structure Mark where
  frame : Nat
  t1 : Nat
  t2 : Nat
  atFrame : Nat
  tick : Nat
  deriving DecidableEq, Repr

/-- A DREQ that awaits its DRESP (R164). -/
structure Dreq where
  seq : Nat
  mark : Mark
  t3 : Nat
  sentTick : Nat
  deriving DecidableEq, Repr

/-- One accepted exchange of the measurement being formed (R165): offset and delay in 1/96 ps, and the signed
phase steps made so far. -/
structure Exch where
  delta : Int
  delay : Int
  steps : Int
  up : Nat
  deriving DecidableEq, Repr

/-- The time base beside its objects (chapter 7). -/
structure TimeSt where
  mark : Option Mark := none
  /-- DREQs sent and not yet answered, oldest first. -/
  dreqs : List Dreq := []
  /-- Frames since an exchange last fell due, and whether one is due in this frame and not yet sent. -/
  since : Nat := 0
  due : Bool := false
  /-- Sequence byte of the last DREQ. -/
  seq : Nat := 0
  /-- The last 16 accepted delays, 1/96 ps, newest first (R165). -/
  delays : List Int := []
  /-- Consecutive discards. -/
  discards : Nat := 0
  /-- The mean in force before a restart, 1/96 ps, summed over its 16 delays. -/
  oldMean : Option Int := none
  /-- Consecutive lost exchanges. -/
  lost : Nat := 0
  /-- Accepted exchanges of the measurement being formed, oldest first. -/
  acc : List Exch := []
  /-- The latest measurement, ps. -/
  delta : Int := 0
  /-- Signed steps made at its middle exchange. -/
  midSteps : Int := 0
  /-- Signed phase steps made, unbounded (TC_PHASE_TOTAL is its low 32 bits). -/
  steps : Int := 0
  /-- The measurement before: when, its value, its steps (R170). -/
  prev : Option (Nat × Int × Int) := none
  /-- A measurement whose whole-frame correction waits for the next tick (R168). -/
  setDelta : Option Int := none
  /-- A scheduled step: AT_FRAME, FRAMES (R172). -/
  step : Option (Nat × Int) := none
  /-- An authorised step was applied in the open episode (R173). -/
  stepped : Bool := false
  /-- When SYNC was last left, or CLK_READY set (Table 7-4). -/
  syncUp : Nat := 0
  /-- The state before HOLDOVER. -/
  prior : Nat := 0
  /-- COAST stays on records from a coasting detection (R175). -/
  coast : Bool := false
  /-- Stepping resumes at the next tick (R176). -/
  resume : Bool := false
  deriving DecidableEq, Repr

/-- A capture that waits to enter the event FIFO (R179). -/
structure Capture where
  /-- Time of the record, 1/768 ns since the epoch. -/
  time : Nat
  /-- When the crossing took place, in the model's tc. -/
  crossUp : Nat
  /-- From when it may enter the FIFO. -/
  readyUp : Nat
  code : Nat
  flags : Nat
  edges : Nat
  thr : Nat
  merges : Nat
  level : Bool
  bin : Nat
  deriving DecidableEq, Repr

/-- A port light detector beside its objects (R177, R178). -/
structure PdSt where
  /-- Input current, µA. -/
  input : Nat := 0
  /-- The LIGHT_LEVEL record of this start to capture has been posted. -/
  started : Bool := false
  wait : Option Capture := none
  /-- Glitches and merged edges since the port's previous record. -/
  merges : Nat := 0
  /-- The level of the last record posted. -/
  posted : Option Bool := none
  /-- PD_CFG in force (R178: a write takes effect at the next frame tick). -/
  cfg : Word := 0x8002190F
  deriving DecidableEq, Repr

/-- A record before it is written (Table 8-1 without its sequence number). -/
structure Rec where
  /-- 1/768 ns since the epoch. -/
  time : Nat
  code : Nat
  source : Nat
  flags : Nat
  payload : Nat
  deriving DecidableEq, Repr

/-- A record in the event FIFO: when it entered, and for a light record when its crossing took place. -/
structure FifoRec where
  r : Rec
  enterUp : Nat
  crossUp : Option Nat
  deriving DecidableEq, Repr

/-- An open loss episode (R197). -/
structure Gap where
  source : Nat
  count : Nat
  /-- Time of the first lost event, and the device-wide flags then. -/
  time : Nat
  flags : Nat
  firstUp : Nat
  lastUp : Nat
  /-- The episode has ended and its record waits to be written. -/
  ended : Bool := false
  deriving DecidableEq, Repr

/-- A sealed block: its number and its 64 stored records, 32 bytes each as one number. -/
structure Block where
  num : Nat
  recs : List (BitVec 256)
  deriving DecidableEq, Repr

/-- The evidence log beside its objects (chapter 8). -/
structure EvSt where
  fifo : List FifoRec := []
  /-- The tc in which light records were last taken in, and from which quadrants, as a mask (R179). -/
  tookUp : Nat := 0
  took : Nat := 0
  gaps : List Gap := []
  /-- The written records of the open block, slot 0 first. -/
  openRecs : List (BitVec 256) := []
  /-- When slot 0 of the open block was written. -/
  openUp : Nat := 0
  /-- Number of the open block. -/
  num : Nat := 0
  sealed : List Block := []
  /-- Tag of the previous block. -/
  prevTag : BitVec 128 := 0
  /-- The governing key. -/
  key : BitVec 256 := 0
  /-- A key has been committed since cold or brownout reset. -/
  keySet : Bool := false
  /-- A chain start awaiting the next writer cycle: its reason (R193). -/
  start : Option Nat := none
  /-- A key change accepted whose LOG_KEY record is not yet written: key, KEY_ID, and its time and flags. -/
  keyQueue : Option (BitVec 256 × Nat × Nat × Nat) := none
  /-- A key change written that governs from the next block: key and KEY_ID. -/
  keyNext : Option (BitVec 256 × Nat) := none
  deriving DecidableEq, Repr

/-- One lane pair beside its objects (chapter 9). -/
structure PairSt where
  /-- Consecutive consistent peer HELLOs, and the last one. -/
  hellos : Nat := 0
  peer : Option Hello := none
  /-- The version this side has agreed to, 0 while offering. -/
  agreed : Nat := 0
  /-- A HELLO that reports this agreement has been sent. -/
  toldAgreed : Bool := false
  /-- Whether L1.1 is offered at this link-up (R219). -/
  offer11 : Bool := true
  /-- Sequence byte of the last HELLO sent. -/
  seq : Nat := 0
  noVersion : Bool := false
  /-- When the pair was last lost, and when it last came UP. -/
  lostUp : Option Nat := none
  upUp : Nat := 0
  /-- When the transmission of the frame in progress ends, and when the receive lane's last block arrived. -/
  busyUp : Nat := 0
  rxUp : Nat := 0
  /-- Frame blocks sent in the last millisecond: when, how many. -/
  load : List (Nat × Nat) := []
  /-- The loop engages at the next frame boundary (R225). -/
  engage : Bool := false
  /-- What waits in the through buffer of this pair's transmitter, oldest first (R217). -/
  through : List RxItem := []
  own : List RxFrame := []
  /-- What the transmitter has sent last. -/
  sent : Option RxItem := none
  sentOwn : Option RxFrame := none
  /-- The control block of its own that the transmitter has sent last: type and payload bytes 1 to 7. -/
  ctl : Option (Nat × BitVec 56) := none
  deriving DecidableEq, Repr

/-- A request in one of the four buffers of an endpoint (R246). -/
structure ReqBuf where
  fromD : Bool
  frame : RxFrame
  deriving DecidableEq, Repr

/-- A token whose outcome waits for a request boundary (R255). -/
structure Token where
  port : Nat
  dest : Nat
  epoch : Nat
  tag : BitVec 64
  /-- The requests of its port that were there before it: side of arrival, source address, tag. -/
  ahead : List (Bool × Nat × Nat)
  deriving DecidableEq, Repr

/-- What a bulk write has done so far: first refusal (status, item, position), refused, done, stopped, whether the
running group has a refused word (R244), and whether it has started a source switch (R67). -/
structure Bulk where
  first : Option (Nat × Nat × Nat) := none
  refused : Nat := 0
  done : Nat := 0
  stop : Bool := false
  skip : Bool := false
  later : Bool := false
  deriving DecidableEq, Repr

/-- A step of a bulk write: a word of a run, a word of a group, or a group's trigger (R244). -/
inductive StepKind | word | member | trigger
  deriving DecidableEq, Repr

/-- One word that a bulk write writes, with its item and its position (R244). -/
structure BulkStep where
  kind : StepKind
  index : Nat
  sub : Nat
  item : Nat
  pos : Nat
  value : Word
  deriving DecidableEq, Repr

/-- A request in the dictionary service (R241 to R246), with what is still to do: of a bulk read the words read, newest
first, and what the SECDED check finds for those to come; of a bulk write its outcome so far and the steps to come. -/
inductive Service
  | malformed (q : Rq) (ftype index sub : Nat)
  | read (q : Rq) (index sub : Nat) (ecc : EccOutcome) (raw : Word)
  | write (q : Rq) (ecc : EccOutcome) (index sub : Nat) (value mask : Word)
  | bulkRead (q : Rq) (index sub : Nat) (got : List Word) (left : List (EccOutcome × Word))
  | bulkWrite (q : Rq) (stop : Bool) (b : Bulk) (left : List BulkStep)
  | image (q : Rq) (f : ImgFrame)
  deriving DecidableEq, Repr

/-- The dictionary service (R246, R249): the request that holds it while a domain wakes, requests whose domain's clocks
stand (R69), and requests that wait, oldest first. -/
structure Svc where
  held : Option Service := none
  aside : List Service := []
  queue : List Service := []
  deriving DecidableEq, Repr

/-- One port's endpoint. -/
structure PortSt where
  reqs : List ReqBuf := []
  /-- The high words latched for the port, by store key (R235). -/
  latch : List (Nat × Word) := []
  /-- The four words of TB_NOW latched for the port (R160). -/
  now : List Word := [0, 0, 0, 0]
  deriving DecidableEq, Repr

/-- Boot and firmware beside their objects (chapter 11). -/
structure BootSt where
  /-- Image chunks received, 256 bytes each (R274). -/
  chunks : List (Nat × BitVec 2048) := []
  /-- HKP, LINKA, LINKB and EVID have been started and the endpoints have taken up (Table 11-3 step 2). -/
  served : Bool := false
  /-- Length of the download in force, fixed at BEGIN (Table 11-6). -/
  length : Nat := 0
  /-- FW_IF_VERSION of the checked image's header. -/
  fwIf : Word := 0
  /-- A domain reset of HKP has restarted the image, which does not serve its objects yet (R343). -/
  restart : Bool := false
  /-- The device leaves DORMANT (R279). -/
  waking : Bool := false
  deriving DecidableEq, Repr

/-- Modes beside their objects (section 11.5). -/
structure ModeSt where
  /-- A mode change that takes effect at the next tick: new mode, cause, the tick it is due at. -/
  next : Option (Nat × Nat × Nat) := none
  /-- Steps of DORMANT entry done (Table 11-8). -/
  entry : Nat := 0
  /-- A wake has been accepted while entry still ran (R279). -/
  wake : Bool := false
  /-- The mode SAFE was entered from. -/
  safeFrom : Nat := 0
  /-- When SAFE was entered. -/
  safeUp : Nat := 0
  deriving DecidableEq, Repr

/-- A power request: domains by number, target, the tick it starts at (R287, R288). -/
structure PowReq where
  doms : List Nat
  target : Nat
  due : Nat
  /-- The Neap entry belongs to DORMANT entry (R278). -/
  dormant : Bool
  deriving DecidableEq, Repr

/-- A domain that is leaving EBB or NEAP. -/
structure Waking where
  dom : Nat
  fromState : Nat
  /-- The state the exit leads to: 1 RUN, 2 EBB (R287). -/
  target : Nat
  client : Nat
  cause : Nat
  up : Nat
  deriving DecidableEq, Repr

/-- The power manager beside its objects (chapter 12). -/
structure PowSt where
  run : Option PowReq := none
  /-- When the running request started, in the model's tc. -/
  runUp : Nat := 0
  pend : Option PowReq := none
  /-- Domains isolated by the running Neap entry, oldest first (Table 12-3). -/
  isolated : List Nat := []
  /-- Domains still to be isolated, in order. -/
  toIsolate : List Nat := []
  /-- The states the named domains held before the request. -/
  before : List (Nat × Nat) := []
  wakes : List Waking := []
  /-- Domains to be woken once the Neap entry has reached step 5 (R294): domain, client. -/
  late : List (Nat × Nat) := []
  deriving DecidableEq, Repr

/-- A PMBus transaction in progress (R298). -/
inductive PmbusOp
  | readMode | writeVout (mv : Nat) (back : Bool) | readVout (target : Nat) | readStatus
  deriving DecidableEq, Repr

/-- Performance levels beside their objects (section 12.8). -/
structure PerfSt where
  /-- The step in progress: from, to. -/
  step : Option (Nat × Nat) := none
  /-- The tick at which the frequency changes. -/
  freqTick : Option Nat := none
  /-- The tick of the last frequency change. -/
  lastTick : Option Nat := none
  op : Option PmbusOp := none
  retries : Nat := 0
  /-- The regulator settles until VOUT_SETTLE_END. -/
  settling : Bool := false
  /-- An up step whose voltage is confirmed and whose frequency tick waits. -/
  confirmed : Bool := false
  /-- STATUS_WORD is to be read once no transaction runs (R326). -/
  statusDue : Bool := false
  /-- The request or remainder in the pending slot. -/
  pend : Option Nat := none
  /-- A performance level has been requested since the last reset: PMBus transactions are made (R331). -/
  asked : Bool := false
  deriving DecidableEq, Repr

/-- A FAULT record as its window forms it (R310, R311): opening report, then what merges into it. -/
structure FaultRec where
  time : Nat
  flags : Nat
  source : Nat
  unit : Nat
  sev : Nat
  escalated : Nat
  contain : Nat
  wire : Bool
  injected : Bool
  first : Bool
  merged : Nat
  /-- Sources that reported in the opening tc, as a mask. -/
  same : Nat
  deriving DecidableEq, Repr

/-- The open reaction window (R308). -/
structure Window where
  r : FaultRec
  /-- It closes then at the latest: 3,000 cycles of the collector's clock after it opened (R308, R304). -/
  boundUp : Nat
  closeUp : Nat
  /-- The window also waits for a containment of this tick (Table 13-4, S2). -/
  waitTick : Option Nat
  deriving DecidableEq, Repr

/-- The fault collector beside its objects (chapter 13). -/
structure FaultSt where
  window : Option Window := none
  fifo : List Rec := []
  /-- Records lost since the collector last passed one on: count, time, first and last (R313). -/
  gap : Option Gap := none
  /-- Containments in force or due: source, action, unit, due tick, applied. -/
  contain : List (Nat × Nat × Nat × Nat × Bool) := []
  /-- Sources whose last report was taken at S1 or above, as a mask. -/
  taken : Nat := 0
  /-- INVERT of the pending injection, when it was accepted, and the source and instant of the last memory check that
  it met (R327). -/
  invert : Nat := 0
  injUp : Nat := 0
  hit : Option (Nat × Nat) := none
  /-- Sensors whose warning, and critical, cause is reported (R325). -/
  warm : List Nat := []
  crit : List Nat := []
  deriving DecidableEq, Repr

/-- One rail of the supply monitor (R321 to R323). -/
structure RailSt where
  low : Bool := false
  crossUp : Nat := 0
  dip : Bool := false
  lowest : Nat := 0
  deriving DecidableEq, Repr

/-- The safe latch, the gates and the pins (R315 to R320, R334, R337). -/
structure SafeSt where
  /-- The reset hold of R334: gates dark until the first shadow commit after release. -/
  hold : Bool := true
  /-- The unclocked hold of R317. -/
  latchHold : Bool := false
  /-- SAFE_IN_N is low. -/
  inLow : Bool := false
  /-- VGATE is above its threshold. -/
  vgate : Bool := true
  /-- VAON is below its threshold. -/
  vaonLow : Bool := false
  /-- SAFEPOL has been sampled since the last cold or brownout release (R265). -/
  sampled : Bool := true
  /-- The level on the SAFEPOL pin. -/
  pin : Bool := false
  /-- The FLT pair is driven asserted, from instant `fltUp` on (Table 1-8). -/
  flt : Bool := true
  fltUp : Nat := 0
  /-- A release that ends the safe state at this tick (R320). -/
  release : Option Nat := none
  /-- Gates that stand dark, bit p for port p. -/
  dark : BitVec 256 := 0
  /-- When each gate last began to move; unlisted gates never have (R318). -/
  moved : List (Nat × Nat) := []
  deriving DecidableEq, Repr

/-- Supply and its window (R323). -/
structure SupplySt where
  vcore : RailSt := {}
  vtime : RailSt := {}
  /-- The last recovery. -/
  recoverUp : Option Nat := none
  /-- When the brownout reset begins: 64 tc after its detection; and the rail. -/
  brown : Option (Nat × Nat) := none
  deriving DecidableEq, Repr

/-- A domain reset (Table 14-6): its domain, the tick it begins at, its phase (0 accepted, 1 begun, 2 released), and the
crossings that have dropped their token and not yet made a fresh handshake. -/
structure DomReset where
  dom : Nat
  due : Nat
  phase : Nat
  drops : Nat
  deriving DecidableEq, Repr

/-- Resets (chapter 14). -/
structure ResetSt where
  /-- The device resets that hold the device, strongest first: 1 cold, 2 brownout, 3 pin, 4 ring. -/
  held : List Nat := []
  rail : Nat := 0
  ringPort : Nat := 0
  /-- A ring reset accepted and not yet asserted. -/
  ringDue : Option Nat := none
  /-- The mode in which the running device reset was asserted. -/
  mode : Nat := 0
  /-- The running domain reset. -/
  dom : Option DomReset := none
  /-- Quadrants whose monitor streams broke since the last tick, as a mask (R340). -/
  broken : Nat := 0
  deriving DecidableEq, Repr

/-- Loop states (Table 4-2). -/
inductive LState | off | park | acquire | track | coast | staleHold | fault
  deriving DecidableEq, Repr

/-- What slice 1 of a window update has formed (R90, R91, R93). -/
structure Win where
  e : Int
  q : Int
  /-- The set-point latched as T_n. -/
  t : Int
  part : Bool
  /-- Invalid causes: bit 0 no light, 1 clip, 2 CAL_STALE. -/
  bad : Nat
  hi : Bool
  lo : Bool
  deriving DecidableEq, Repr

/-- What a window update leaves: I, P, the set-point in force, the lock detector's counts (R93, R95, R96). -/
structure Update where
  integ : Int
  prop : Int
  sp : Int
  lockCnt : Nat
  unlockCnt : Nat
  deriving DecidableEq, Repr

/-- A state decision that takes effect at the next tick (Table 4-3), with the invalid causes that STALE_CAUSE then
reports (R91). -/
structure Decision where
  state : LState
  cause : Nat
  bad : Nat
  lock : Bool
  unlock : Bool
  deriving DecidableEq, Repr

/-- A change of the electro-optic output (R100, R124): the code and, with a kick, its amplitude and the instant it ends;
it takes effect at `at_`. -/
structure EoEdge where
  code : Nat
  at_ : Nat
  kick : Option (Nat × Nat)
  deriving DecidableEq, Repr

/-- What a tile's work of one frame changes in a lane at once, as it stood when the frame began: an overrun puts it back
(R28). -/
structure Shown where
  err : Int
  errQ : Int
  sat : Bool
  satCnt : Nat
  satRaised : Bool
  hi : Bool
  lo : Bool
  part : Bool
  limited : Bool
  susp : Bool
  learnWins : Nat
  learnSum : Int
  learnCur : Int
  deriving DecidableEq, Repr

/-- One lane: its drivers and the lane state memory (R77 to R101). -/
structure Lane where
  st : LState := .off
  prior : LState := .off
  hostCoast : Bool := false
  /-- CMD RESUME accepted, or the last coast cause has ended: resume at the next window boundary. -/
  resume : Bool := false
  emptyHop : Bool := false
  sat : Bool := false
  limited : Bool := false
  htrOpen : Bool := false
  htrShort : Bool := false
  eoComp : Bool := false
  memErr : Bool := false
  staleCause : Nat := 0
  /-- B, I (sixteenths), P of Table 4-1 and the pilot phase. -/
  base : Nat := 0
  integ : Int := 0
  prop : Int := 0
  ph : Nat := 0
  /-- H in force, and the H formed in this frame. -/
  h : Nat := 0
  hNext : Option Nat := none
  /-- Pilot value merged into the heater drive. -/
  pilot : Int := 0
  /-- The 16-bit accumulator of the heater's pulse-density modulator (R97). -/
  pdm : Nat := 0
  /-- The park code of a lane in PARK that came from an active state: the last H in force then (R79). -/
  parkHeld : Option Nat := none
  /-- The pilot is suspended in this frame (R98). -/
  susp : Bool := false
  /-- Electro-optic code at the last settled edge, the edges commanded since, oldest first, and the kick of the last
  settled edge: amplitude and the instant it ends. -/
  eo : Nat := 0
  eoEdges : List EoEdge := []
  kick : Option (Nat × Nat) := none
  /-- A host write to LP_EO_CODE that waits for the next tick. -/
  eoHost : Option Nat := none
  /-- Accumulators of R90 over Q1.15 references, and the samples taken. -/
  accC : Int := 0
  accS : Int := 0
  samples : Nat := 0
  /-- The window being measured: partial, saturated high or low, pilot suspended. -/
  part : Bool := true
  hi : Bool := false
  lo : Bool := false
  /-- Windows that begin at this frame or before are partial: the frame at whose head a hop or an activation took its
  terms, or the one before a return from COAST (R91, R131). -/
  freshUntil : Option Nat := none
  win : Option Win := none
  decide : Option Decision := none
  /-- What the window update of this frame leaves; the next tick makes it the lane's own (held here so that an overrun
  can drop it). -/
  update : Option Update := none
  /-- What an overrun of this frame puts back. -/
  back : Option Shown := none
  lockCnt : Nat := 0
  unlockCnt : Nat := 0
  satCnt : Nat := 0
  satRaised : Bool := false
  /-- LP_ERR, LP_ERR_Q. -/
  err : Int := 0
  errQ : Int := 0
  /-- LP_SETPOINT_NOW. -/
  sp : Int := 0
  /-- The cap C of R98 for the next frame, and the last on-current, µA. -/
  cap : Option Nat := none
  on : Option Nat := none
  locks : Nat := 0
  unlocks : Nat := 0
  /-- A command that takes effect at the next tick: the state it leads to. -/
  cmd : Option LState := none
  /-- An activation or deactivation accepted and not yet in force. -/
  act : Option LState := none
  /-- The outcome of the SECDED check of the entry that an accepted RUN fetches, and the context and entry fetched for
  the tick that begins (R81). -/
  fetched : Option EccOutcome := none
  run : Option (Nat × BitVec 128) := none
  /-- Hop terms taken at the next frame head after a trigger decode: entry (R119). -/
  hop : Option (BitVec 128) := none
  /-- Open-loop code of a survey sweep (R145). -/
  openCode : Option Nat := none
  /-- Learning (R156): windows counted, the sum of B + I + P over their frames in sixteenths, the sum of the window in
  progress, and a refined lock value that waits for its write, with the context it refines. -/
  learnWins : Nat := 0
  learnSum : Int := 0
  learnCur : Int := 0
  learned : Option (Nat × Int) := none
  deriving DecidableEq, Repr

/-- A monitor input beside its objects (R87 to R91). -/
structure Mon where
  sum : Nat := 0
  count : Nat := 0
  /-- The last sample delivered. -/
  last : Nat := 0
  top : Bool := false
  high : Bool := false
  low : Bool := true
  lowWins : Nat := 0
  cal : Bool := false
  /-- The finished window: D valid, clipped, touched by calibration. -/
  whole : Bool := false
  clip : Bool := false
  stale : Bool := false
  deriving DecidableEq, Repr

/-- A lane transition to be recorded (R83): element, states, cause (Table 7-6), event code. -/
structure Note where
  elem : Nat
  old : LState
  new : LState
  cause : Nat
  code : Nat
  deriving DecidableEq, Repr

/-- One entry of a schedule ring (R120). -/
structure RingEntry where
  frame : Nat
  next : Bool
  ovr : Option Nat
  deriving DecidableEq, Repr

/-- What an arming has captured (R114, R115, R25). -/
structure Arm where
  /-- Next states of the 4,096 elements and 256 gates, layout of R113. -/
  bits : BitVec 4352
  target : Nat
  trig : Bool
  force : Bool
  /-- Context overrides of ring entries, and the elements with an entry due. -/
  ovr : List (Nat × Nat)
  due : List Nat
  /-- Neighbour words and Tide Table as fetched; elements whose entry is treated as empty (R109). -/
  neigh : Table Word
  tide : Table (BitVec 128)
  bad : List Nat
  startUp : Nat
  /-- FCLK cycles of Table 5-2 done by instant `clkUp` (R115). -/
  clk : Nat
  clkUp : Nat
  /-- The arming waits for the other one (R115). -/
  waits : Bool
  /-- Tile groups that hold an affected element, as a mask (R115). -/
  groups : Nat
  deriving DecidableEq, Repr

/-- The commit engine and the feed-forward engine beside their objects (chapter 5). -/
structure CommitSt where
  tide : Table (BitVec 128) := []
  /-- Contexts in force, 32 + context where valid (R112). -/
  ctx : Table Nat := []
  rings : Table (List RingEntry) := []
  shadow : Option Arm := none
  ring : Option Arm := none
  /-- TRIG_OUT is high until this instant. -/
  trigOut : Option Nat := none
  /-- From when RESULT reads EXECUTED, and what it reads before (R117). -/
  executed : Option (Nat × Nat) := none
  /-- Elements that hop at the frame head of this frame, with the code X of R126, the latest first. -/
  hopping : List (Nat × Nat) := []
  fAgg : Table Int := []
  self : Table Int := []
  /-- GT_CFG of the gates in force. -/
  gateCur : Table Nat := []
  deriving DecidableEq, Repr

/-- The tile engines' posting queues (R83). -/
structure TileSt where
  queue : List Rec := []
  gap : Option Gap := none
  deriving DecidableEq, Repr

/-- A calibration run: its unit, the model's tick it started at, the sensor reading then, and whether it belongs
to a survey's calibration stage (R150). -/
structure CalRun where
  unit : Nat
  start : Nat
  temp : Int
  survey : Bool
  deriving DecidableEq, Repr

/-- Calibration units beside their objects (R150, R155). -/
structure CalSt where
  queue : List Nat := []
  runs : List CalRun := []
  /-- Units whose CAL_STALE clears at the next tick. -/
  clear : List Nat := []
  deriving DecidableEq, Repr

/-- What a surveyed element gathers over the capture windows of a stage (R146): the sum of B + I + P in sixteenths,
the frames added, and whether every condition has held so far. -/
structure Gather where
  sum : Int := 0
  n : Nat := 0
  ok : Bool := true
  deriving DecidableEq, Repr

/-- The survey engine beside its objects (chapter 6). -/
structure SurveySt where
  /-- The tick at which an accepted survey enters SURVEY, or at which a reference loss stops it (R141); whether CLEAR
  came with GO. -/
  entry : Option Nat := none
  clear : Bool := false
  /-- The surveyed elements, and those among them that held PARK at acceptance. -/
  elems : List Nat := []
  parked : List Nat := []
  /-- The stage waits for its first window boundary. -/
  wait : Bool := false
  /-- The tick at which the stage (or its dwell) began, and the dwell of a group or probe. -/
  start : Nat := 0
  dwell : Nat := 0
  /-- Contexts captured in this survey, 32 bits per element. -/
  got : Table Nat := []
  /-- Elements whose current context this pass captures. -/
  take : List Nat := []
  /-- Sweep results so far, newest first: D, e, q. -/
  sweeps : Table (List (Nat × Int × Int)) := []
  /-- The pass whose switch configuration is in force (R143); none: that of CM_STATE. -/
  conf : Option Nat := none
  gather : Table Gather := []
  /-- Frames gathered, and the sums of the tile sensors over them. -/
  frames : Nat := 0
  temps : Table Int := []
  /-- Participating elements, aggressor groups, and what the first dwell gave: element to sum and frames. -/
  parts : List Nat := []
  groups : List (List Nat) := []
  plus : Table Gather := []
  /-- Codes at which the members of the running group are parked: X+, X−. -/
  xs : List (Nat × Nat × Nat) := []
  /-- The group's victims whose plus dwell, and minus dwell, gave a mean. -/
  minus : Table Gather := []
  /-- Tiles that the running probe exercises. -/
  tiles : List Nat := []
  /-- Result of the survey when the restore stage has run. -/
  result : Nat := 0
  /-- An abort accepted: the stage stops at the next window boundary. -/
  abort : Bool := false
  /-- The restore stage has begun at this tick. -/
  restore : Option Nat := none
  deriving DecidableEq, Repr

/-- A request whose response waits for the source switch (R67): who sent it, and for a bulk write its outcome. -/
structure SwitchReply where
  q : Rq
  bulk : Option Bulk
  deriving DecidableEq, Repr

/-- The clock tree and the drive synthesiser beside their objects (chapter 3). -/
structure ClockSt where
  /-- The source a running switch leads to: 1 DCO, 0 link (Table 3-3). -/
  switchTo : Nat := 0
  /-- The request that awaits its response after step 4 (R67): a write, or a bulk write with what its response says. -/
  reply : Option SwitchReply := none
  /-- The response of a switch that completed while CLK_READY cleared (Table 3-5). -/
  owed : Option SwitchReply := none
  /-- FSEL and HDIV in force on the link source. -/
  link : Word := 2
  /-- Phase of the drive synthesiser's start, 0 when none runs (Table 3-4). -/
  dsPhase : Nat := 0
  dsStored : Bool := false
  /-- The tick at which PDM moves to the synthesiser. -/
  pdmTick : Option Nat := none
  /-- An SSC change that waits for a zero of the profile, and when the running profile began (R74). -/
  ssc : Bool := false
  sscUp : Nat := 0
  deriving DecidableEq, Repr

/-- The state of the block. -/
structure State where
  /-- The commands that wait, first in first out. -/
  pending : List Instr
  /-- The dictionary's words that differ from their defaults, by store key. -/
  objs : Table Word
  /-- The words in force of the objects whose writes are deferred (R23). -/
  force : Table Word
  /-- Deferred writes not yet in force, oldest first: store key, accepted in or after a slack window. -/
  deferred : List (Nat × Bool)
  /-- How many free values have been taken (log entry 5). -/
  fresh : Nat
  frame : FrameSt
  timing : TimingSt
  time : TimeSt
  pds : Table PdSt
  ev : EvSt
  pairs : List PairSt
  portA : PortSt
  portB : PortSt
  /-- The port served last, and the tokens checked whose outcome waits. -/
  lastPort : Nat
  tokens : List Token
  svc : Svc
  /-- Words of SE_ARB_KEY written since the last cold or brownout reset, as a mask (R237, R254). -/
  arbMask : Nat
  boot : BootSt
  mode : ModeSt
  pow : PowSt
  perf : PerfSt
  fault : FaultSt
  safe : SafeSt
  supply : SupplySt
  rst : ResetSt
  lanes : Table Lane
  mons : Table Mon
  commit : CommitSt
  tiles : Table TileSt
  /-- Lane transitions to be handed to their tile's posting queue in the next posting phase. -/
  notes : List Note
  clocks : ClockSt
  cal : CalSt
  survey : SurveySt
  deriving DecidableEq, Repr

/-- Every field at its default: the state before anything has happened. -/
def State.blank : State := {
  pending := [], objs := [], force := [], deferred := [], fresh := 0, frame := {}, timing := {}, time := {}, pds := [],
  ev := {}, pairs := [{}, {}, {}, {}], portA := {}, portB := {}, lastPort := 0, tokens := [], svc := {},
  arbMask := 0, boot := {}, mode := {},
  pow := {}, perf := {}, fault := {}, safe := {}, supply := {}, rst := {}, lanes := [], mons := [], commit := {},
  tiles := [], notes := [], clocks := {}, cal := {}, survey := {} }

/-- The words that differ from their defaults right after the release of the first cold reset: one mode change, KIND
cold, the timing loop awaiting its reference, the MODE record counted while no chain runs, and the gate words of
CM_STATE all ones (R333, R334, R339). -/
def resetWords : Table Word := [
  (objKey 0x1802 0, 1), (objKey 0x1803 0, 0x10000000), (objKey 0x2000 0, 0x10003000), (objKey 0x260A 5, 1),
  (objKey 0x5204 0x80, 0xFFFFFFFF), (objKey 0x5204 0x81, 0xFFFFFFFF), (objKey 0x5204 0x82, 0xFFFFFFFF),
  (objKey 0x5204 0x83, 0xFFFFFFFF), (objKey 0x5204 0x84, 0xFFFFFFFF), (objKey 0x5204 0x85, 0xFFFFFFFF),
  (objKey 0x5204 0x86, 0xFFFFFFFF), (objKey 0x5204 0x87, 0xFFFFFFFF)]

/-- Right after the release of the first cold reset, every strap at 0 (R333, R334; log entry 22): BOOT, gates dark
under the reset hold, the FLT pair asserted, every switched domain DOWN. -/
def State.reset : State := { State.blank with
  objs := resetWords
  ev := { gaps := [{ source := 2, count := 1, time := 0, flags := 8, firstUp := 0, lastUp := 0 }] }
  safe := { dark := BitVec.allOnes 256 } }

end Sys2Proof.Machine
end

