-- ==== Sys2Proof/Machine/Ops.lean ====
section
/-! DEFINITION. The named operations over the dictionary's words (R7, R9, R10, R23), the model's clocks (R18,
R19), power-domain tests (R14, R283) and the free values. -/

namespace Sys2Proof.Machine

/-! Words and fields of the dictionary. -/

/-- The word a subentry holds. -/
def State.word (s : State) (index sub : Nat) : Word := s.objs.find objDefault (objKey index sub)

/-- A subentry replaced. -/
def State.setWord (s : State) (index sub : Nat) (v : Word) : State :=
  { s with objs := s.objs.put objDefault (objKey index sub) v }

/-- A field of an object with one subindex per element, input, port or unit. -/
def State.rd (s : State) (F : Field) (e : Nat) : Nat := (s.word F.index (F.sub + e)).bits F.hi F.lo

/-- Write a field at subindex offset `e`; a value too wide loses its high bits. -/
def State.wr (s : State) (F : Field) (e v : Nat) : State :=
  s.setWord F.index (F.sub + e) ((s.word F.index (F.sub + e)).put F.hi F.lo v)

/-- A field at its first subindex. -/
def State.get (s : State) (F : Field) : Nat := s.rd F 0

/-- Write a field at its first subindex. -/
def State.set (s : State) (F : Field) (v : Nat) : State := s.wr F 0 v

/-- A one-bit field as a truth value. -/
def State.on (s : State) (F : Field) : Bool := s.rd F 0 = 1

/-- Write a one-bit field. -/
def State.setB (s : State) (F : Field) (b : Bool) : State := s.wr F 0 b.toNat

/-- A signed field (R10). -/
def State.rdI (s : State) (F : Field) (e : Nat) : Int := signedOf (F.hi + 1 - F.lo) (s.rd F e)

/-- A signed field at its first subindex. -/
def State.getI (s : State) (F : Field) : Int := s.rdI F 0

/-- Write a signed field in two's complement. -/
def State.wrI (s : State) (F : Field) (e : Nat) (v : Int) : State := s.wr F e (toBits (F.hi + 1 - F.lo) v)

/-- Write a signed field at its first subindex. -/
def State.setI (s : State) (F : Field) (v : Int) : State := s.wrI F 0 v

/-- The field of tile `t` of a per-tile object (R239: one object every 0x40 indices). -/
def Field.tile (F : Field) (t : Nat) : Field := { F with index := F.index + 0x40 * t }

/-- Add to a saturating counter field. -/
def State.bumpBy (s : State) (F : Field) (e n : Nat) : State :=
  s.wr F e (satAdd (F.hi + 1 - F.lo) (s.rd F e) n)

/-- Count one event (counters saturate). -/
def State.bump (s : State) (F : Field) : State := s.bumpBy F 0 1

/-- Count one event at subindex offset `e`. -/
def State.bumpAt (s : State) (F : Field) (e : Nat) : State := s.bumpBy F e 1

/-- Keep the larger of a field and a value. -/
def State.raiseTo (s : State) (F : Field) (v : Nat) : State := if s.get F < v then s.set F v else s

/-- A 64-bit object: low word at `sub`, high word after it (R235). -/
def State.get64 (s : State) (index sub : Nat) : Nat :=
  (s.word index sub).toNat + (s.word index (sub + 1)).toNat * 2 ^ 32

/-- Write a 64-bit object. -/
def State.put64 (s : State) (index sub v : Nat) : State :=
  (s.setWord index sub (BitVec.ofNat 32 v)).setWord index (sub + 1) (BitVec.ofNat 32 (v / 2 ^ 32))

/-! Deferred objects (R23): `objs` holds what was written, `force` what is in force. -/

/-- The word in force of an object whose writes are deferred. -/
def State.forceWord (s : State) (index sub : Nat) : Word := s.force.find objDefault (objKey index sub)

/-- A field of the word in force. -/
def State.frc (s : State) (F : Field) (e : Nat) : Nat := (s.forceWord F.index (F.sub + e)).bits F.hi F.lo

/-- A signed field of the word in force. -/
def State.frcI (s : State) (F : Field) (e : Nat) : Int := signedOf (F.hi + 1 - F.lo) (s.frc F e)

/-- The word comes into force. -/
def State.enforce (s : State) (k : Nat) : State :=
  { s with force := s.force.put objDefault k (s.objs.find objDefault k) }

/-- The word written and in force at once. -/
def State.setBoth (s : State) (index sub : Nat) (v : Word) : State :=
  (s.setWord index sub v).enforce (objKey index sub)

/-- An accepted deferred write (R23): read back at once, in force at the slack window of this frame, or of the next
one where it was accepted in or after the start of this frame's slack window. -/
def State.defer (s : State) (index sub : Nat) (v : Word) : State :=
  let k := objKey index sub
  { s.setWord index sub v with deferred := s.deferred.filter (fun p => p.1 ≠ k) ++ [(k, s.frame.slack)] }

/-- Objects whose writes are deferred by R23: monitor and neighbour assignment, loop filter coefficients, pilot
word, feed-forward coefficients, monitor and TDC corrections. -/
def deferredObject (index : Nat) : Bool :=
  index = 0x4003 || index = 0x4004 || index = 0x4005 || index = 0x4006 || index = 0x5010 || index = 0x5011 ||
  (0x5400 ≤ index && index ≤ 0x5410) || index = 0x5823 || index = 0x5830 || index = 0x5831 ||
  (0xA000 ≤ index && index < 0xB000 && (index % 0x40 = 0x10 || index % 0x40 = 0x11))

/-! The model's clocks. -/

/-- Timing cycles of one engine cycle at the level in force (R18). -/
def tcPerEc (level : Nat) : Nat := if level = 0 then 2 else if level = 1 then 3 else 6

/-- Engine cycles of a frame at a level (R26): 1,500 at P0, 1,000 at P1, 500 at P2. -/
def frameBudget (level : Nat) : Nat := 3000 / tcPerEc level

/-- The tc at which the slack window starts (Table 1-3). -/
def State.slackStart (s : State) : Nat := 3000 - 64 * tcPerEc (s.get PL_STATUS_LEVEL)

/-- Device time now, in 1/768 ns since the epoch (R6, R160). -/
def State.now (s : State) : Nat := s.frame.frame * 768000 + s.frame.tc * 256

/-- The model's time moves to position `tc` of the frame. -/
def State.atTc (s : State) (tc : Nat) : State :=
  { s with frame := { s.frame with up := s.frame.up + (tc - s.frame.tc), tc := max tc s.frame.tc } }

/-- The device's time moves on to instant `t` of the model's tc, where that is still to come. -/
def State.passTo (s : State) (t : Nat) : State :=
  { s with frame := { s.frame with
    up := max s.frame.up t
    tc := if s.frame.running then min (s.frame.tc + (t - s.frame.up)) 2999 else s.frame.tc } }

/-- `n` cycles of a path that starts at the fault collector, in tc: timing cycles from CLK_READY on, before it cycles of
the word clock of 6.4 ns (R31). -/
def State.pathTc (s : State) (n : Nat) : Nat :=
  if s.on TC_STATUS_CLK_READY then n else (roundDiv (96 * n) 5).toNat

/-- The cycles of the clock the collector samples on since an instant (R304). -/
def State.pathCycles (s : State) (up : Nat) : Nat :=
  if s.on TC_STATUS_CLK_READY then s.frame.up - up else 5 * (s.frame.up - up) / 96

/-- Microseconds since an instant of the model's tc, saturating in 32 bits. -/
def State.usSince (s : State) (up : Nat) : Nat := min ((s.frame.up - up) / 3000) 0xFFFFFFFF

/-- Nanoseconds since an instant of the model's tc, rounded, saturating in 32 bits. -/
def State.nsSince (s : State) (up : Nat) : Nat := min ((2 * (s.frame.up - up) + 3) / 6) 0xFFFFFFFF

/-! Power domains by number (Table 12-1). -/

/-- The state code of a domain: 0 DOWN, 1 RUN, 2 EBB, 3 NEAP (R283). AON (0x21) and TIME (0x22) always run. -/
def State.domState (s : State) (d : Nat) : Nat :=
  if d = 0x21 ∨ d = 0x22 then 1 else s.rd PW_DOMAIN_STATE d

/-- The domain is in domain reset: begun and not yet complete (Table 14-6). -/
def State.inReset (s : State) (d : Nat) : Bool := s.rst.dom.any fun r => r.dom = d && 0 < r.phase

/-- A domain runs: it is in RUN, no Neap entry has isolated it (R290), and it is not in domain reset. -/
def State.running (s : State) (d : Nat) : Bool :=
  s.domState d = 1 && !s.pow.isolated.contains d && !s.inReset d

/-- The domain's clocks include FCLK or HCLK, which the link source feeds before the switch (Table 3-1). -/
def usesLink (d : Nat) : Bool := !(d < 16 || d = 0x1B || d = 0x20)

/-- The link source is in force and the timing port's line gives no word clock: what it clocks stands still (R34, R64;
log entry 82). -/
def State.linkStopped (s : State) : Bool :=
  !s.on CK_STATUS_SRC && decide (s.rd FL_STATUS_STATE (2 * s.get TC_REF_PORT_SEL) < 3)

/-- A domain's clocks are delivered while it runs (R34, R69). -/
def State.delivers (s : State) (d : Nat) : Bool := s.frc CK_GATE_RUN_EN d = 1 && !(usesLink d && s.linkStopped)

/-- A domain runs and its clocks are delivered (R69). -/
def State.clocked (s : State) (d : Nat) : Bool := s.running d && s.delivers d

/-- From the entry tick of a survey until the end of its restore stage (R139). -/
def State.surveying (s : State) : Bool := s.get MD_MODE_MODE = 1 || s.get SV_STATUS_STATE ≠ 0

/-- The tile group of an element (R13): four tiles of 64 elements. -/
def groupOf (e : Nat) : Nat := e / 256

/-- The quadrant of an element (R13). -/
def quadOf (e : Nat) : Nat := e / 1024

/-- The loop window length in force: 4, 8, 16 or 32 frames (R20). -/
def State.window (s : State) : Nat := 4 * 2 ^ s.get LP_WINDOW_W

/-! Lanes, inputs, ports. -/

/-- A lane; a lane nothing has touched is OFF. -/
def State.lane (s : State) (e : Nat) : Lane := s.lanes.find (fun _ => {}) e

/-- A lane replaced. -/
def State.setLane (s : State) (e : Nat) (l : Lane) : State := { s with lanes := s.lanes.put (fun _ => {}) e l }

/-- A monitor input. -/
def State.mon (s : State) (m : Nat) : Mon := s.mons.find (fun _ => {}) m

/-- A monitor input replaced. -/
def State.setMon (s : State) (m : Nat) (x : Mon) : State := { s with mons := s.mons.put (fun _ => {}) m x }

/-- A port detector. -/
def State.pd (s : State) (p : Nat) : PdSt := s.pds.find (fun _ => {}) p

/-- A port detector replaced. -/
def State.setPd (s : State) (p : Nat) (x : PdSt) : State := { s with pds := s.pds.put (fun _ => {}) p x }

/-- A tile engine's posting queue. -/
def State.tile (s : State) (t : Nat) : TileSt := s.tiles.find (fun _ => {}) t

/-- A tile engine's posting queue replaced. -/
def State.setTile (s : State) (t : Nat) (x : TileSt) : State := { s with tiles := s.tiles.put (fun _ => {}) t x }

/-- Who sent a request in the service. -/
def Service.rq : Service → Rq
  | .malformed q _ _ _ | .read q _ _ _ _ | .write q _ _ _ _ _ | .bulkRead q _ _ _ _ | .bulkWrite q _ _ _ | .image q _ => q

/-- The service without the requests of a port. -/
def Svc.without (x : Svc) (port : Nat) : Svc :=
  { held := x.held.filter fun v => v.rq.port ≠ port
    aside := x.aside.filter fun v => v.rq.port ≠ port
    queue := x.queue.filter fun v => v.rq.port ≠ port }

/-- A lane pair: 0 U of port A, 1 D of port A, 2 U of port B, 3 D of port B. -/
def State.pair (s : State) (p : Nat) : PairSt := s.pairs.getD p {}

/-- A lane pair replaced. -/
def State.setPair (s : State) (p : Nat) (x : PairSt) : State := { s with pairs := s.pairs.set p x }

/-- A port's endpoint. -/
def State.port (s : State) (p : Nat) : PortSt := if p = 0 then s.portA else s.portB

/-- A port's endpoint replaced. -/
def State.setPort (s : State) (p : Nat) (x : PortSt) : State :=
  if p = 0 then { s with portA := x } else { s with portB := x }

/-! Free values (log entry 5). -/

/-- A free value; the counter moves on so that the next one is unrelated. -/
def State.free (s : State) : Word × State := (Config.freeValue s.fresh, { s with fresh := s.fresh + 1 })

/-- A free choice between two outcomes. -/
def State.freeBit (s : State) : Bool × State := (Config.freeBit s.fresh, { s with fresh := s.fresh + 1 })

/-! Repeating an operation. -/

/-- Apply an operation for each of `0 … n-1`. -/
def State.each (n : Nat) (f : Nat → State → State) (s : State) : State :=
  (List.range n).foldl (fun t i => f i t) s

/-- Apply an operation for each listed number. -/
def State.eachIn (l : List Nat) (f : Nat → State → State) (s : State) : State :=
  l.foldl (fun t i => f i t) s

end Sys2Proof.Machine
end

