-- ==== Sys2Proof/Machine/Records.lean ====
section
/-! DEFINITION. Records and the event FIFO: the stored layout (R188), record times (R6, R160), quality flags
(R183), admission and loss (R195, R197). -/

namespace Sys2Proof.Machine

/-! Time words. -/

/-- Seconds of a time in 1/768 ns. -/
def timeSeconds (t : Nat) : Nat := t / (768 * 1000000000)

/-- Nanoseconds of a time in 1/768 ns. -/
def timeNs (t : Nat) : Nat := t / 768 % 1000000000

/-- The fraction, units of 1/65,536 ns (R180): 1/768 ns never rounds up to 65,536. -/
def timeFraction (t : Nat) : Nat := (512 * (t % 768) + 3) / 6

/-- The stored 32 bytes of a record, least significant byte first (Table 8-1). -/
def Rec.stored (r : Rec) (seq : Nat) : BitVec 256 :=
  BitVec.ofNat 256 (timeSeconds r.time % 2 ^ 64 + timeNs r.time * 2 ^ 64 + timeFraction r.time * 2 ^ 96 +
    r.code % 2 ^ 16 * 2 ^ 112 + r.source % 2 ^ 16 * 2 ^ 128 + r.flags % 2 ^ 16 * 2 ^ 144 +
    seq % 2 ^ 32 * 2 ^ 160 + r.payload % 2 ^ 64 * 2 ^ 192)

/-! Quality flags. -/

/-- The time base is in UNSET or SETTING (Table 7-7, TIME_UNSET), or holds over before time was first set (R161). -/
def State.timeUnset (s : State) : Bool :=
  s.get TB_STATUS_STATE ≤ 1 || (s.get TB_STATUS_STATE = 5 && s.time.prior = 0)

/-- The device-wide quality flags as they stand (R183): COAST, SUPPLY_MARGINAL, TIME_UNSET,
JUMP_REFUSED_PENDING. -/
def State.flagsNow (s : State) : Nat :=
  (if s.time.coast || s.on TB_STATUS_SERVER_COAST then 1 else 0) +
  (if s.on SM_STATUS_MARGINAL then 2 else 0) +
  (if s.timeUnset then 8 else 0) +
  (if s.on TB_JUMP_PENDING_VALID then 16 else 0)

/-- Flag bits of Table 7-7. -/
def flagCalStale : Nat := 4
def flagMerged : Nat := 32
def flagLossBefore : Nat := 64

/-! The FIFO. -/

/-- Light and lane records: the class admitted only below 4,032 entries (R195). -/
def lightClass (code : Nat) : Bool :=
  (1 ≤ code && code ≤ 3) || (0x20 ≤ code && code ≤ 0x22)

/-- A light record (Table 7-4). -/
def isLight (code : Nat) : Bool := 1 ≤ code && code ≤ 3

/-- Entries below which a record's class is admitted (R195). -/
def fifoLimit (code : Nat) : Nat := if lightClass code then 4032 else 4096

/-- Order among records that enter in one tc (R179, R184): fault collector, commit engine, light by quadrant, others by
code. -/
def recRank (r : Rec) : Nat :=
  if r.code = 0x40 ∨ (r.code = 0x70 ∧ r.source = 0x0200) then 0
  else if r.code = 0x10 then 1
  else if isLight r.code then 2 + r.source / 64
  else 6 + r.code

/-- Insert a record that enters at `up`: after every earlier entry, and among those of the same tc by rank. -/
def fifoInsert (x : FifoRec) : List FifoRec → List FifoRec
  | [] => [x]
  | y :: ys => if y.enterUp = x.enterUp ∧ recRank x.r < recRank y.r then x :: y :: ys else y :: fifoInsert x ys

/-- The device-wide ones among a record's flags (R183): bits 0, 1, 3 and 4. -/
def Rec.wide (r : Rec) : Nat := r.flags &&& 27

/-- A loss episode opened by the loss of a record (R197). -/
def Rec.newGap (r : Rec) (source up : Nat) : Gap :=
  { source := source, count := 1, time := r.time, flags := r.wide, firstUp := up, lastUp := up }

/-- One more lost event in an episode. -/
def Gap.more (g : Gap) (up : Nat) : Gap := { g with count := satAdd 32 g.count 1, lastUp := up }

/-- One more lost event of a source in its open episode; one that has ended takes no more (R197). -/
def addGap (source : Nat) (r : Rec) (up : Nat) : List Gap → List Gap
  | [] => [r.newGap source up]
  | g :: gs => if g.source = source ∧ !g.ended then g.more up :: gs else g :: addGap source r up gs

/-- Count a lost event in the writer's episode of a source. -/
def State.lose (s : State) (source : Nat) (r : Rec) : State :=
  { s with ev := { s.ev with gaps := addGap source r s.frame.up s.ev.gaps } }

/-- The writer can take events: a chain runs or is about to start, and EVID runs (R201). -/
def State.recording (s : State) : Bool :=
  (s.on EV_STATUS_CHAIN || s.ev.start.isSome) && s.running 0x1A

/-- The FIFO has room for the class of `code` (R195). -/
def State.fifoRoom (s : State) (code : Nat) : Bool := s.ev.fifo.length < fifoLimit code

/-- A record enters the FIFO: its occupancy mark follows. -/
def State.enqueue (s : State) (r : Rec) (cross : Option Nat) : State :=
  let s := { s with ev := { s.ev with fifo := fifoInsert ⟨r, s.frame.up, cross⟩ s.ev.fifo } }
  s.raiseTo EV_FIFO_MAX s.ev.fifo.length

/-- Post a record: into the FIFO where its class is admitted; lost and counted otherwise (R195); counted in AON
while no chain runs or EVID is not running (R201). -/
def State.postRec (s : State) (r : Rec) (cross : Option Nat) : State :=
  if s.recording then
    if s.fifoRoom r.code then s.enqueue r cross
    else if lightClass r.code then (s.bump EV_COUNTS_LOST_LIGHT).lose 0 r
    else (s.bump EV_COUNTS_LOST_OTHER).lose 1 r
  else (s.bump EV_COUNTS_LOST_NOCHAIN).lose 2 r

/-- Post an event registered now, with the device-wide flags (R183). -/
def State.post (s : State) (code source payload : Nat) : State :=
  s.postRec { time := s.now, code := code, source := source, flags := s.flagsNow, payload := payload } none

/-- A LOG_GAP record of a source of the FIFO's non-light class (R197, Table 8-4). -/
def Gap.toRec (g : Gap) : Rec :=
  { time := g.time, code := 0x70, source := g.source, flags := g.flags,
    payload := g.count * 2 ^ 32 + min ((g.lastUp - g.firstUp) / 3000) 0xFFFFFFFF }

/-! Injected memory errors (R327). -/

/-- A check of the memory checker `src` has found `o`; the next COUNT checks of an injection find at least what its
inverted check bits give: INVERT 1 a correction, 2 and 3 an uncorrectable error. -/
def State.checked (s : State) (src : Nat) (o : EccOutcome) : EccOutcome × State :=
  if s.on TI_STATUS_PENDING && s.get TI_STATUS_SOURCE = src then
    let n := s.get TI_STATUS_REMAINING - 1
    let s := (s.set TI_STATUS_REMAINING n).setB TI_STATUS_PENDING (decide (0 < n))
    let s : State := { s with fault := { s.fault with hit := some (src, s.frame.up) } }
    (if s.fault.invert = 1 && o ≠ .uncorrected then .corrected else .uncorrected, s)
  else (o, s)

/-- The same for the errors met on a list of lanes. -/
def State.checkedLanes (s : State) (src : Nat) : List LaneEcc → List LaneEcc × State
  | [] => ([], s)
  | x :: xs =>
    let (o, s) := s.checked src x.ecc
    let (ys, s) := s.checkedLanes src xs
    ({ x with ecc := o } :: ys, s)

/-- The payload built of fields given as (value, low bit). -/
def payloadOf (l : List (Nat × Nat)) : Nat := l.foldl (fun a p => a + p.1 * 2 ^ p.2) 0

end Sys2Proof.Machine
end

