-- ==== Sys2Proof/Machine/Trig.lean ====
section
/-! DEFINITION. Cosine and sine at multiples of 1/1280 turn, which is what the pilot (R84) and the demodulation
references (R90) need: one quarter as integers over 2^48, the rest by symmetry. -/

namespace Sys2Proof.Machine

/-- round(2^48 cos(2π i / 1280)), i from 0. -/
def cosTable0 : List Nat := [
  281474976710656, 281471585547215, 281461412138605, 281444456729961, 281420719729834, 281390201710184,
  281352903406363, 281308825717097, 281257969704469, 281200336593887, 281135927774060, 281064744796961,
  280986789377792, 280902063394939, 280810568889933, 280712308067394, 280607283294981, 280495497103338,
  280376952186026, 280251651399463, 280119597762857, 279980794458127, 279835244829831, 279682952385084,
  279523920793475, 279358153886975, 279185655659847, 279006430268553, 278820482031646, 278627815429673,
  278428435105065, 278222345862022, 278009552666403, 277790060645601, 277563875088422, 277331001444957,
  277091445326453, 276845212505174, 276592308914262, 276332740647598, 276066513959654, 275793635265336,
  275514111139840, 275227948318486, 274935153696556, 274635734329132, 274329697430924, 274017050376093,
  273697800698078, 273371956089414, 273039524401543, 272700513644627, 272354931987356, 272002787756751]

/-- round(2^48 cos(2π i / 1280)), i from 54. -/
def cosTable1 : List Nat := [
  271644089437960, 271278845674059, 270907065265839, 270528757171597, 270143930506917, 269752594544455,
  269354758713711, 268950432600803, 268539625948240, 268122348654679, 267698610774696, 267268422518537,
  266831794251873, 266388736495554, 265939259925351, 265483375371702, 265021093819447, 264552426407569,
  264077384428920, 263595979329954, 263108222710447, 262614126323218, 262113702073849, 261606962020396,
  261093918373097, 260574583494081, 260048969897066, 259517090247063, 258978957360065, 258434584202743,
  257883983892129, 257327169695306, 256764155029081, 256194953459667, 255619578702356, 255038044621185,
  254450365228604, 253856554685139, 253256627299052, 252650597525991, 252038479968647, 251420289376400,
  250796040644963, 250165748816026, 249529429076890, 248887096760101, 248238767343086, 247584456447771,
  246924179840214, 246257953430220, 245585793270956, 244907715558569, 244223736631794, 243533872971556]

/-- round(2^48 cos(2π i / 1280)), i from 108. -/
def cosTable2 : List Nat := [
  242838141200581, 242136558082988, 241429140523890, 240715905568983, 239996870404138, 239272052354986,
  238541468886501, 237805137602576, 237063076245605, 236315302696049, 235561834972011, 234802691228796,
  234037889758477, 233267448989456, 232491387486015, 231709723947873, 230922477209733, 230129666240828,
  229331310144467, 228527428157572, 227718039650213, 226903164125146, 226082821217338, 225257030693498,
  224425812451598, 223589186520394, 222747173058946, 221899792356128, 221047064830142, 220189011028024,
  219325651625154, 218457007424749, 217583099357370, 216703948480414, 215819575977605, 214930003158488,
  214035251457913, 213135342435515, 212230297775204, 211320139284631, 210404888894671, 209484568658892,
  208559200753021, 207628807474416, 206693411241520, 205753034593329, 204807700188843, 203857430806525,
  202902249343747, 201942178816242, 200977242357549, 200007463218454, 199032864766430, 198053470485077]

/-- round(2^48 cos(2π i / 1280)), i from 162. -/
def cosTable3 : List Nat := [
  197069303973550, 196080388945996, 195086749230983, 194088408770919, 193085391621483, 192077721951039,
  191065424040061, 190048522280538, 189027041175397, 188001005337904, 186970439491074, 185935368467080,
  184895817206644, 183851810758447, 182803374278519, 181750533029635, 180693312380705, 179631737806164,
  178565834885359, 177495629301928, 176421146843189, 175342413399511, 174259454963694, 173172297630342,
  172080967595235, 170985491154696, 169885894704960, 168782204741533, 167674447858562, 166562650748184,
  165446840199891, 164327043099881, 163203286430410, 162075597269143, 160944002788501, 159808530255005,
  158669207028623, 157526060562105, 156379118400326, 155228408179622, 154073957627120, 152915794560074,
  151753946885196, 150588442597977, 149419309782019, 148246576608356, 147070271334773, 145890422305129,
  144707057948671, 143520206779352, 142329897395140, 141136158477331, 139939018789860, 138738507178603]

/-- round(2^48 cos(2π i / 1280)), i from 216. -/
def cosTable4 : List Nat := [
  137534652570687, 136327483973790, 135117030475443, 133903321242328, 132686385519577, 131466252630066,
  130242951973708, 129016513026748, 127786965341048, 126554338543377, 125318662334700, 124079966489455,
  122838280854844, 121593635350109, 120346059965811, 119095584763110, 117842239873037, 116586055495772,
  115327061899914, 114065289421750, 112800768464529, 111533529497725, 110263603056303, 108991019739987,
  107715810212518, 106438005200918, 105157635494750, 103874731945374, 102589325465205, 101301447026966,
  100011127662947, 98718398464251, 97423290580048, 96125835216825, 94826063637631, 93524007161329,
  92219697161836, 90913165067368, 89604442359687, 88293560573336, 86980551294885, 85665446162167,
  84348276863514, 83029075136997, 81707872769660, 80384701596753, 79059593500967, 77732580411662,
  76403694304102, 75072967198682, 73740431160157, 72406118296871, 71070060759978, 69732290742676]

/-- round(2^48 cos(2π i / 1280)), i from 270. -/
def cosTable5 : List Nat := [
  68392840479422, 67051742245163, 65709028354552, 64364731161174, 63018883056765, 61671516470431,
  60322663867866, 58972357750571, 57620630655070, 56267515152129, 54913043845964, 53557249373464,
  52200164403399, 50841821635634, 49482253800342, 48121493657216, 46759573994675, 45396527629081,
  44032387403943, 42667186189128, 41300956880066, 39933732396964, 38565545684004, 37196429708557,
  35826417460381, 34455541950835, 33083836212076, 31711333296267, 30338066274778, 28964068237393,
  27589372291508, 26214011561338, 24838019187114, 23461428324289, 22084272142734, 20706583825946,
  19328396570240, 17949743583957, 16570658086656, 15191173308321, 13811322488556, 12431138875784,
  11050655726448, 9669906304209, 8288923879142, 6907741726938, 5526393128100, 4144911367141,
  2763329731785, 1381681512160, 0]

/-- The quarter table. -/
def cosTable : List Nat := cosTable0 ++ cosTable1 ++ cosTable2 ++ cosTable3 ++ cosTable4 ++ cosTable5

/-- 2^48 cos of `a`/1280 turn, rounded. -/
def cos48 (a : Int) : Int :=
  let k := (a % 1280).toNat
  let k := if k ≤ 640 then k else 1280 - k
  if k ≤ 320 then (cosTable.getD k 0 : Int) else -(cosTable.getD (640 - k) 0 : Int)

/-- 2^48 sin of `a`/1280 turn, rounded. -/
def sin48 (a : Int) : Int := cos48 (a - 320)

/-- Halves to the greater value (R371), over 2^33: from 2^48 to Q1.15, saturated (R90). -/
def toQ15 (x : Int) : Int := min ((x + 2 ^ 32) / 2 ^ 33) 32767

end Sys2Proof.Machine
end

