-- ==== Sys2Proof/Machine/Lanes.lean ====
section
/-! DEFINITION. The element loops' shared operations (chapter 4): loop states and what each does, hops, the
heater code, pilots, demodulation, window updates, coast causes, and the tiles' work. -/

namespace Sys2Proof.Machine

/-! Loop states (Table 4-2). -/

/-- Table 4-2 codes. -/
def LState.toCode : LState → Nat
  | .off => 0 | .park => 1 | .acquire => 2 | .track => 3 | .coast => 4 | .staleHold => 5 | .fault => 6

/-- States with a heater code per frame, pilot and F (Table 4-2). -/
def LState.runs : LState → Bool
  | .acquire | .track | .coast | .staleHold => true
  | .off | .park | .fault => false

/-- States whose windows are judged: the monitor input is used (Table 4-2). -/
def LState.listens : LState → Bool
  | .acquire | .track | .staleHold => true
  | .off | .park | .coast | .fault => false

/-! Scopes of fault sources (Tables 13-2 and 13-3), which containment and coast causes need. -/

/-- The scopes of section 13.2. -/
inductive Scope | element | tile | group | quadrant | port | sensor | device
  deriving DecidableEq, Repr

/-- The scope of a source. -/
def sourceScope (s : Nat) : Scope :=
  if s = 4 ∨ s = 56 ∨ s = 57 then .port
  else if s = 7 ∨ s = 10 then .sensor
  else if s = 25 ∨ s = 28 ∨ (32 ≤ s ∧ s ≤ 47) then .element
  else if 48 ≤ s ∧ s ≤ 51 then .tile
  else if 52 ≤ s ∧ s ≤ 55 then .quadrant
  else if 64 ≤ s ∧ s ≤ 79 then .group
  else if 80 ≤ s ∧ s ≤ 83 then .quadrant
  else .device

/-- Element `e` lies in unit `u` of a scope; ports and the device contain no lane (R309). -/
def inScope (sc : Scope) (u e : Nat) : Bool :=
  match sc with
  | .element => e = u
  | .tile => e / 64 = u
  | .group => e / 256 = u
  | .quadrant => e / 1024 = u
  | .sensor => u < 64 && e / 64 = u
  | .port | .device => false

/-- A lane is named by a containment in force with action 1 coast or 2 park (R309). -/
def State.contained (s : State) (action e : Nat) : Bool :=
  s.fault.contain.any fun (src, act, u, _, on) => on && act = action && inScope (sourceScope src) u e

/-! Reading lanes. -/

/-- The switch state of an element, true for cross: what the commit engine holds (R113), or the pass of a survey: bit
χ(e) of its number (R143). -/
def State.cross (s : State) (e : Nat) : Bool :=
  match s.survey.conf with
  | some k => k.testBit (s.rd SV_COLOUR_COLOUR e)
  | none => (s.rd CM_STATE_BITS (e / 32)).testBit (e % 32)

/-- The context in force of an element, where valid (R112). -/
def State.context (s : State) (e : Nat) : Option Nat :=
  let c := s.commit.ctx.find (fun _ => 0) e
  if c < 32 then none else some (c - 32)

/-- Set or invalidate the context in force. -/
def State.setContext (s : State) (e : Nat) (c : Option Nat) : State :=
  let v := match c with
    | some c => 32 + c % 32
    | none => 0
  { s with commit := { s.commit with ctx := s.commit.ctx.put (fun _ => 0) e v } }

/-- Layout profiles (Table 11-2): which drivers an element uses, from PROF of ID_STRAPS: heater, electro-optic. -/
def profileUse (prof e : Nat) : Bool × Bool :=
  let step := if prof / 2 = 0 then 1 else if prof / 2 = 1 then 2 else if prof / 2 = 2 then 4 else 8
  if e % step = 0 then (true, prof % 2 = 0) else (false, false)

/-- HTR_USED of LP_USE (R78). -/
def State.htrUsed (s : State) (e : Nat) : Bool := (profileUse (s.get ID_STRAPS_PROF) e).1

/-- EO_USED of LP_USE (R78). -/
def State.eoUsed (s : State) (e : Nat) : Bool := (profileUse (s.get ID_STRAPS_PROF) e).2

/-- One edge passes: its code is in force, and a kick with it. -/
def Lane.passEdge (l : Lane) (x : EoEdge) : Lane := { l with eo := x.code, kick := x.kick <|> l.kick }

/-- Every edge up to an instant has passed (R100). -/
def Lane.settleEo (l : Lane) (up : Nat) : Lane :=
  { (l.eoEdges.filter fun x => x.at_ ≤ up).foldl Lane.passEdge l with eoEdges := l.eoEdges.filter fun x => up < x.at_ }

/-- The electro-optic code in force now (R100): a change counts from its edge. -/
def Lane.eoAt (l : Lane) (up : Nat) : Nat := (l.settleEo up).eo

/-- A new code takes effect at `t`, with or without a kick; edges commanded before still take place (R123). -/
def Lane.eoChange (l : Lane) (up code t : Nat) (kick : Option (Nat × Nat)) : Lane :=
  let l := l.settleEo up
  { l with eoEdges := l.eoEdges ++ [{ code := code, at_ := t, kick := kick }] }

/-- The electro-optic current goes to zero at `t` (safe state, electro-optic fault; Table 1-8). -/
def Lane.eoZero (l : Lane) (up t : Nat) : Lane := { l.eoChange up 0 t (some (0, t)) with eoHost := none }

/-- A kick is running at an instant (R124). -/
def Lane.kicking (l : Lane) (up : Nat) : Bool := (l.settleEo up).kick.any fun k => up < k.2

/-- What EOA[e] carries, code and kick amplitude: nothing in OFF and in FAULT after an electro-optic fault (Table 4-2). -/
def Lane.eoDrive (l : Lane) (up : Nat) : Nat × Nat :=
  if l.st = .off || (l.st = .fault && l.eoComp) then (0, 0)
  else (l.eoAt up, if l.kicking up then ((l.settleEo up).kick.map Prod.fst).getD 0 else 0)

/-- `n` cycles of the pulse-density modulator at the density in force (R97): the carries are its pulses. -/
def Lane.pdmStep (l : Lane) (n : Nat) : Lane :=
  { l with pdm := (l.pdm + n * ((l.h : Int) + l.pilot).toNat) % 65536 }

/-- Pulses of the heater in the next `n` cycles. -/
def Lane.pdmPulses (l : Lane) (n : Nat) : Nat := (l.pdm + n * ((l.h : Int) + l.pilot).toNat) / 65536

/-! Tide Table entries (Table 5-1). -/

/-- Bits `hi` to `lo` of an entry. -/
def entryBits (en : BitVec 128) (hi lo : Nat) : Nat := en.toNat / 2 ^ lo % 2 ^ (hi + 1 - lo)

def entryHtr (en : BitVec 128) : Nat := entryBits en 127 112
def entryEo (en : BitVec 128) : Nat := entryBits en 111 102
def entryKickAmp (en : BitVec 128) : Nat := entryBits en 101 96
def entryKickDur (en : BitVec 128) : Nat := entryBits en 95 91
def entryPhase (en : BitVec 128) : Nat := entryBits en 90 83
def entryPreload (en : BitVec 128) : Int := signedOf 20 (entryBits en 82 63)
def entrySource (en : BitVec 128) : Nat := entryBits en 50 48

/-- An entry put together from its fields (Table 5-1). -/
def entryOf (htr eo amp dur ph : Nat) (pre temp : Int) (src sec : Nat) : BitVec 128 :=
  BitVec.ofNat 128 (htr % 2 ^ 16 * 2 ^ 112 + eo % 2 ^ 10 * 2 ^ 102 + amp % 2 ^ 6 * 2 ^ 96 + dur % 2 ^ 5 * 2 ^ 91 +
    ph % 2 ^ 8 * 2 ^ 83 + toBits 20 pre * 2 ^ 63 + toBits 12 temp * 2 ^ 51 + src % 8 * 2 ^ 48 + sec % 2 ^ 32 * 2 ^ 16)

/-- A Tide Table entry as stored. -/
def State.entry (s : State) (i : Nat) : BitVec 128 := s.commit.tide.find (fun _ => 0) i

/-- A Tide Table entry replaced. -/
def State.setEntry (s : State) (i : Nat) (v : BitVec 128) : State :=
  { s with commit := { s.commit with tide := s.commit.tide.put (fun _ => 0) i v } }

/-! Transitions and their records (R80, R83). -/

/-! Lane records (R83, Table 7-6). -/

/-- The record of a transition that this frame's tick makes. -/
def State.laneRec (s : State) (n : Note) : Rec :=
  let l := s.lane n.elem
  let (v, c) := match s.context n.elem with
    | some c => (1, c)
    | none => (0, 0)
  let stale := s.rd MN_STATUS_CAL_STALE (s.frc LP_MON_MON n.elem) = 1 && s.frc LP_MON_ASSIGNED n.elem = 1
  { time := s.frame.frame * 768000, code := n.code, source := n.elem,
    flags := s.flagsNow + (if stale then flagCalStale else 0),
    payload := payloadOf [(l.h, 48), (n.new.toCode, 28), (n.old.toCode, 24), (n.cause, 20), (v, 19), (c, 14)] }

/-- A record joins its tile's posting queue of 128, or is counted as lost (R83). -/
def State.queueLane (s : State) (n : Note) : State :=
  let t := n.elem / 64
  let x := s.tile t
  let r := s.laneRec n
  if x.queue.length < 128 then s.setTile t { x with queue := x.queue ++ [r] }
  else
    let g := match x.gap with
      | some g => g.more s.frame.up
      | none => r.newGap (0x100 + t) s.frame.up
    (s.setTile t { x with gap := some g }).bump (LP_TILE_POST_LOST_COUNT.tile t)

/-- The lane moves to state `new`; a change of state is recorded: of this frame's tick at once (`now`), otherwise noted
for the tick of the next posting phase. -/
def State.moveLane (s : State) (e : Nat) (l : Lane) (new : LState) (cause code : Nat) (now : Bool) : State :=
  let n : Note := { elem := e, old := (s.lane e).st, new := new, cause := cause, code := code }
  let s := s.setLane e { l with st := new }
  if n.old = new then s
  else if now then s.queueLane n
  else { s with notes := s.notes ++ [n] }

/-- The state a lane remembers (PRIOR): its own where it is ACQUIRE or TRACK. -/
def Lane.remembered (l : Lane) : LState :=
  match l.st with
  | .acquire => .acquire
  | .track => .track
  | _ => l.prior

/-- Learning restarts, and a refined value not yet written is dropped (R156, Table 6-7). -/
def Lane.unlearn (l : Lane) : Lane := { l with learnWins := 0, learnSum := 0, learnCur := 0, learned := none }

/-- What ends with a window update in progress. -/
def Lane.dropUpdate (l : Lane) : Lane := { l with win := none, update := none, decide := none }

/-- What stops on entry to PARK, OFF and FAULT: the pilot, updates, host coast, hop terms not yet taken. -/
def Lane.still (l : Lane) : Lane :=
  { l.dropUpdate with
    pilot := 0, susp := false, hNext := none, hostCoast := false, resume := false, hop := none,
    limited := false, samples := 0, accC := 0, accS := 0, part := true, openCode := none,
    learnWins := 0, learnSum := 0, learnCur := 0 }

/-- Entry to PARK with the heater code in force kept as the park code (Table 4-3, R79, R315); hop terms of a decoded
trigger are still taken (Table 4-8). -/
def State.parkLane (s : State) (e cause : Nat) : State :=
  let l := s.lane e
  s.moveLane e { l.still with hop := l.hop, parkHeld := if l.st = .park then l.parkHeld else some l.h } .park cause 0x22 false

/-- Entry to OFF (Table 4-2): heater code 0, terms not kept, no kick, context invalid (R112). The electro-optic code
stays and drives no current (R100). -/
def State.offLane (s : State) (e cause : Nat) : State :=
  let l := { (s.lane e).still with
    kick := none, h := 0, base := 0, integ := 0, prop := 0, lockCnt := 0, unlockCnt := 0,
    satCnt := 0, satRaised := false, fetched := none, parkHeld := none }
  (s.moveLane e l .off cause 0x22 false).setContext e none

/-- Entry to COAST (R82): the update in progress is discarded and the lock counters clear. -/
def State.coastLane (s : State) (e cause : Nat) : State :=
  let l := s.lane e
  s.moveLane e { l.dropUpdate with prior := l.remembered, lockCnt := 0, unlockCnt := 0, resume := false } .coast cause
    0x22 false

/-- A lane fault (Table 4-3): the last H in force is held; 0 after a heater short. An accepted OFF still comes (R80). -/
def State.faultLane (s : State) (e : Nat) (f : Lane → Lane) : State :=
  let l := f (s.lane e)
  if (s.lane e).st = .off then s
  else s.moveLane e { l.still with
    cmd := if l.cmd = some .off then l.cmd else none, fetched := none, parkHeld := none
    h := if l.htrShort then 0 else l.h } .fault 5 0x22 false

/-! Coast causes (R82). -/

/-- The MONADC domain of the lane's quadrant does not run or has its clocks stopped (R16, R69), or its stream has broken
since the last tick (R340). -/
def State.monStopped (s : State) (q : Nat) : Bool :=
  !(s.clocked (0x10 + q)) || s.rst.broken.testBit q

/-- Some coast cause of lane `e` stands. -/
def State.coastCause (s : State) (e : Nat) : Bool :=
  s.monStopped (quadOf e) || s.domState (groupOf e) = 2 || s.contained 1 e || (s.lane e).hostCoast

/-- Coast causes other than CMD COAST. -/
def State.otherCoastCause (s : State) (e : Nat) : Bool :=
  s.monStopped (quadOf e) || s.domState (groupOf e) = 2 || s.contained 1 e

/-! The tiles' work (R26, R102). -/

/-- A lane counts in its tile's work: active, or its activation accepted; released at acceptance of CMD OFF. -/
def Lane.counted (l : Lane) : Bool :=
  match l.act with
  | some .off => false
  | some _ => true
  | none => l.st ≠ .off

/-- Active and pending lanes of a tile. -/
def State.tileLanes (s : State) (t : Nat) : Nat :=
  (s.lanes.filter fun p => p.1 / 64 = t && p.2.counted).length

/-- E of R26 for `n` lanes at window length `w`. -/
def frameWork (n w : Nat) : Nat := 168 + 12 * n + 32 * n / w

/-- Window lengths that the checks of R26 take: in force, and pending where a change is. -/
def State.windows (s : State) : List Nat :=
  s.window :: (if s.on LP_WINDOW_PENDING then [4 * 2 ^ s.get LP_WINDOW_W_PENDING] else [])

/-- Performance levels that the checks of R26 take: in force, that of the running step, that of the pending request or
remainder. -/
def State.levels (s : State) : List Nat :=
  s.get PL_STATUS_LEVEL :: ((s.perf.step.map Prod.snd).toList ++ s.perf.pend.toList)

/-- `n` lanes of a tile fit at every window length and level of the lists (R26). -/
def fits (ws ls : List Nat) (n : Nat) : Bool := ws.all fun w => ls.all fun p => frameWork n w ≤ frameBudget p

/-- Every tile fits at these window lengths and levels (R26). -/
def State.allFit (s : State) (ws ls : List Nat) : Bool :=
  (List.range 64).all fun t => fits ws ls (s.tileLanes t)

/-- LP_TILE_WORK.WORK: E at the W in force or pending, whichever is larger. -/
def State.tileWork (s : State) (t : Nat) : Nat :=
  (s.windows.map (frameWork (s.tileLanes t))).foldl max 0

/-! Hops (R81). -/

/-- Round sixteenths to a whole code, half up. -/
def wholeCode (x : Int) : Int := (x + 8) / 16

/-- The park code of a lane (R79): in PARK after an active state the last H in force then, otherwise LP_PARK_CODE. -/
def State.parkTerm (s : State) (e : Nat) : Nat :=
  let l := s.lane e
  if l.st = .park then l.parkHeld.getD (s.rd LP_PARK_CODE_CODE e) else s.rd LP_PARK_CODE_CODE e

/-- The lane takes the hop terms of an entry; its electro-optic code is the caller's. A lane in PARK
stays there with the static code of R81 from the next tick. -/
def State.takeTerms (s : State) (e : Nat) (en : BitVec 128) : State :=
  let l := s.lane e
  let empty := entrySource en = 0
  let b := if empty then s.parkTerm e else entryHtr en
  let i : Int := if empty then 0 else entryPreload en
  let l : Lane := { l.dropUpdate.unlearn with
    base := b, integ := i, prop := 0, ph := if empty then 0 else entryPhase en,
    emptyHop := empty, lockCnt := 0, unlockCnt := 0, freshUntil := some s.frame.frame }
  let stat := (clampInt (s.rd LP_HTR_LIMIT_HTR_MIN e) (s.rd LP_HTR_LIMIT_HTR_MAX e) (wholeCode (16 * b + i))).toNat
  let l := if l.st = .park then { l with hNext := some (if s.htrUsed e then stat else 0) } else l
  let s := s.setLane e l
  if empty then s.bump TT_EMPTY_HOPS_COUNT else s

/-- The code X of R126 for a hop: clamp(B + I), or the park code where the entry is empty. -/
def State.hopCode (s : State) (e : Nat) (en : BitVec 128) : Nat :=
  if entrySource en = 0 then s.parkTerm e
  else (clampInt (s.rd LP_HTR_LIMIT_HTR_MIN e) (s.rd LP_HTR_LIMIT_HTR_MAX e)
    (wholeCode (16 * entryHtr en + entryPreload en))).toNat

/-! The heater code (R77, R98). -/

/-- Saturation to signed Q16.4 of 20 bits. -/
def sat20 (x : Int) : Int := clampInt (-524288) 524287 x

/-- The feed-forward term of an element: filtered aggressor term plus its floor tile's self-heating (R128);
0 in SURVEY (R139). -/
def State.ffTerm (s : State) (e : Nat) : Int :=
  if s.surveying then 0
  else sat20 (s.commit.fAgg.find (fun _ => 0) e + s.commit.self.find (fun _ => 0) (s.frc XT_FLOOR_TILE e))

/-- The heater code formed in this frame with the terms of `l` (R77), the heater cap of the last frame (R98) and
the saturation it causes (R93). -/
def State.formCode (s : State) (e : Nat) (l : Lane) : Lane :=
  let amp : Int := s.frc LP_PILOT_AMP e
  let mn : Int := s.rd LP_HTR_LIMIT_HTR_MIN e
  let mx0 : Int := s.rd LP_HTR_LIMIT_HTR_MAX e
  let capped := match l.cap with
    | some c => decide ((c : Int) < mx0)
    | none => false
  let mx : Int := if capped then ((l.cap.getD 0 : Nat) : Int) else mx0
  let susp := capped && decide (mx - amp < mn + amp)
  let aOn := if susp then 0 else amp
  let raw : Int := 16 * l.base + l.integ + 16 * l.prop + s.ffTerm e
  let lo := mn + aOn
  let hi := mx - aOn
  let h : Int := if susp then (if mx < mn then mx else clampInt mn mx (wholeCode raw)) else clampInt lo hi (wholeCode raw)
  let above := decide (16 * hi < raw)
  match l.openCode with
  | some c => { l with hNext := some c, susp := false, limited := false }
  | none =>
  { l with
    hNext := some h.toNat, susp := susp, limited := capped && (above || susp),
    hi := l.hi || above || susp, lo := l.lo || decide (raw < 16 * lo), part := l.part || susp }

/-! Pilots and demodulation (R84, R90). -/

/-- The pilot value at tc 600k (R84): phase zero at the first tick of the window. -/
def pilotValue (w pos k slot amp : Nat) : Int :=
  roundDiv (amp * cos48 ((2 + slot) * (5 * pos + k) * (256 / w) : Nat)) (2 ^ 48)

/-- The demodulation angle in 1/1280 turn of sample `n` of input `j` (R90). -/
def demodAngle (w n j slot ph : Nat) : Int :=
  (((2 + slot) * (8 * n + j) * (32 / w) : Nat) : Int) - ((5 * ph : Nat) : Int)

/-- A sample enters a lane's accumulators against both references. -/
def Lane.accumulate (l : Lane) (a : Int) (x : Nat) : Lane :=
  { l with accC := l.accC + x * toQ15 (cos48 a), accS := l.accS + x * toQ15 (sin48 a), samples := l.samples + 1 }

/-- A raw error from an accumulator over Q1.15 references (R90). -/
def rawError (acc : Int) (n : Nat) : Int := roundDiv acc (1024 * n)

/-- Saturation to 24 signed bits. -/
def sat24 (x : Int) : Int := clampInt (-8388608) 8388607 x

/-- The error of a window: normalised to D where NORM = 1 (R90). -/
def windowError (norm : Bool) (raw : Int) (d : Nat) : Int :=
  sat24 (if norm then roundDiv (raw * 8192) d else raw)

/-- The loop polarity bit of the element's switch state (R92): true for s = −1. -/
def State.inverted (s : State) (e : Nat) : Bool :=
  if s.cross e then s.frc LP_PILOT_POL_CROSS e = 1 else s.frc LP_PILOT_POL_BAR e = 1

/-! The window update (R91, R93 to R96). -/

/-- Slice 1 (R93): the finished window's error, validity and saturation; T_n latched. -/
def State.slice1 (s : State) (e : Nat) (wasPart : Bool) : Lane :=
  let l := s.lane e
  let w := s.window
  let m := s.mon (s.frc LP_MON_MON e)
  let d := s.rd MN_DC_D (s.frc LP_MON_MON e)
  let norm := s.frc LP_PILOT_NORM e = 1
  let part := wasPart || l.part || l.samples ≠ 5 * w || !m.whole
  let dark := d < s.rd LP_LIGHT_MIN_MIN e || (norm && d = 0)
  let bad := (if dark then 1 else 0) + (if m.clip then 2 else 0) + (if m.stale then 4 else 0)
  let valid := !part && bad = 0
  let er := windowError norm (rawError l.accC (5 * w)) d
  let q := windowError norm (rawError l.accS (5 * w)) d
  { l with
    win := if l.st.listens then some { e := er, q := q, t := l.sp, part := part, bad := bad, hi := l.hi, lo := l.lo } else none
    err := if valid && l.st.listens then er else l.err
    errQ := if valid && l.st.listens then q else l.errQ
    sat := l.hi || l.lo
    satCnt := if (l.st = .acquire || l.st = .track) && (l.hi || l.lo) then l.satCnt + 1 else 0
    satRaised := l.satRaised && (l.hi || l.lo)
    accC := 0, accS := 0, samples := 0, hi := false, lo := false }

/-- The set-point moves toward its target by at most TRIM_RATE (R96). -/
def State.rampSetpoint (s : State) (e : Nat) (l : Lane) : Lane :=
  let rate : Int := s.get LP_TRIM_RATE_RATE
  let goal := s.rdI LP_SETPOINT_TARGET e
  { l with sp := if goal < l.sp then max goal (l.sp - rate) else min goal (l.sp + rate) }

/-- The lock detector (R95): new counters, and whether it decides a lock or an unlock. -/
def State.lockDetector (s : State) (l : Lane) (st : LState) (d : Int) : Lane × Option Bool :=
  let a := d.natAbs
  match st with
  | .acquire =>
    let n := if a ≤ s.get LP_LOCK_THRESH_THRESH then l.lockCnt + 1 else 0
    if s.get LP_LOCK_WINDOWS_COUNT ≤ n then ({ l with lockCnt := 0, unlockCnt := 0 }, some true)
    else ({ l with lockCnt := n }, none)
  | .track =>
    let n := if s.get LP_UNLOCK_THRESH_THRESH < a then l.unlockCnt + 1 else 0
    if s.get LP_UNLOCK_WINDOWS_COUNT ≤ n then ({ l with lockCnt := 0, unlockCnt := 0 }, some false)
    else ({ l with unlockCnt := n }, none)
  | _ => (l, none)

/-- The last slice (R93): new I and P, the lock detector, the set-point's step, the state decision; all take effect at the
next tick. A partial or invalid window runs no update, and no step of the set-point (R91, R96). -/
def State.lastSlice (s : State) (e : Nat) (l : Lane) : Lane :=
  match l.win with
  | none => l
  | some w =>
    if !l.st.listens || l.openCode.isSome then { l with win := none }
    else
      let l := { l with win := none }
      if w.part then l
      else if w.bad ≠ 0 then
        { l with decide := some { state := .staleHold, cause := 3, bad := w.bad, lock := false, unlock := false } }
      else
        let st := l.remembered
        let d := w.e - w.t
        let sgn : Int := if s.inverted e then 1 else -1
        let di := roundDiv (16 * (sgn * s.frcI LP_KI_MANT e * d)) (2 ^ s.frc LP_KI_SHIFT e)
        let p := sat20 (roundDiv (sgn * s.frcI LP_KP_MANT e * d) (2 ^ s.frc LP_KP_SHIFT e))
        let di := if (w.hi && decide (0 < di)) || (w.lo && decide (di < 0)) then 0 else di
        let (k, lk) := s.lockDetector l st d
        let goal := match lk with
          | some true => LState.track
          | some false => LState.acquire
          | none => st
        { l with
          update := some { integ := sat20 (l.integ + di), prop := p, sp := (s.rampSetpoint e l).sp, lockCnt := k.lockCnt,
                           unlockCnt := k.unlockCnt }
          decide := if goal = l.st then none
            else some { state := goal, cause := if lk.isSome then 4 else 3, bad := 0, lock := lk = some true, unlock := lk = some false } }

/-- The lane with its pending update taken, for the heater code of the same frame and for reads (R93, Table 4-6). -/
def Lane.withUpdate (l : Lane) : Lane :=
  match l.update with
  | some u => { l with integ := u.integ, prop := u.prop, sp := u.sp, lockCnt := u.lockCnt, unlockCnt := u.unlockCnt }
  | none => l

/-- A containment that parks the lane is due at this tick (R309): the code in force stays. -/
def State.parkDue (s : State) (e : Nat) : Bool :=
  s.fault.contain.any fun (src, act, u, due, on) =>
    !on && act = 2 && due ≤ s.frame.ticks && inScope (sourceScope src) u e

/-- The window update of the last frame takes effect at this tick (R93); one pending at entry to COAST is discarded
(R82). -/
def State.settleLane (s : State) (e : Nat) : State :=
  let l := s.lane e
  if l.st.listens && (s.coastCause e || l.cmd = some .coast) then s.setLane e { l with update := none }
  else s.setLane e { l.withUpdate with update := none }

/-- The state decision of the last frame takes effect at this tick (Table 4-3), where no hop, command, coast cause or
containment has taken the lane (Table 4-8, R82; log entry 79). -/
def State.decideLane (s : State) (e : Nat) : State :=
  let l := { s.lane e with decide := none }
  match (s.lane e).decide with
  | none => s
  | some d =>
    if !l.st.listens || s.parkDue e then s.setLane e l
    else
      let l := if d.lock then { l with locks := satAdd 16 l.locks 1 }
        else if d.unlock then { l with unlocks := satAdd 16 l.unlocks 1 } else l
      let l := { l with staleCause := d.bad, prior := if d.state = .staleHold then l.remembered else l.prior }
      s.moveLane e l d.state d.cause (if d.lock then 0x20 else if d.unlock then 0x21 else 0x22) false

/-! The posting phase (R83). -/

/-- The posting phase of tile `t`: a pending gap record, then up to 40 records (R83, R197). -/
def State.postTile (s : State) (t : Nat) : State :=
  let x := s.tile t
  let s := s.setTile t { x with queue := x.queue.drop 40 }
  let s := (x.queue.take 40).foldl (fun s r => s.postRec r none) s
  match x.gap with
  | some g =>
    if (s.tile t).queue.length < 128 then
      (s.setTile t { s.tile t with gap := none }).postRec g.toRec none
    else s
  | none => s

/-- The posting phase of every tile (Table 1-4): the noted transitions join the queues and the queues empty. -/
def State.postLanes (s : State) : State :=
  let s := s.notes.foldl State.queueLane { s with notes := [] }
  (s.tiles.map Prod.fst).foldl State.postTile s

end Sys2Proof.Machine
end

