-- ==== Sys2Proof/Machine/Votes.lean ====
section
/-! DEFINITION. Power domains as the other blocks need them: which objects a domain holds (Table 12-1), the
clients' votes (Table 12-2), waking (R293, R294), and the change of mode with its record (section 11.5). -/

namespace Sys2Proof.Machine

/-! Modes (Table 11-7). -/

/-- MD_MODE codes. -/
def modeBoot : Nat := 0
def modeSurvey : Nat := 1
def modeService : Nat := 2
def modeHoldover : Nat := 3
def modeDormant : Nat := 4
def modeSafe : Nat := 5

/-- The mode in force. -/
def State.modeNow (s : State) : Nat := s.get MD_MODE_MODE

/-- The mode changes, with its MODE record (section 11.5). -/
def State.setMode (s : State) (new cause : Nat) : State :=
  let old := s.modeNow
  let s := ((s.set MD_MODE_PRIOR old).set MD_MODE_MODE new).set MD_MODE_CAUSE cause
  (s.bump MD_CHANGES_COUNT).post 0x30 0 (payloadOf [(new, 56), (old, 48), (cause, 40)])

/-! Objects and domains. -/

/-- The switched domain that holds an object (Table 12-1, section 1.1; log entry 12); none for AON and TIME. -/
def objDomain (index sub : Nat) : Option Nat :=
  if 0x1000 ≤ index ∧ index ≤ 0x10FF then some 0x1C
  else if 0x1300 ≤ index ∧ index ≤ 0x14FF then some 0x1C
  else if 0x2100 ≤ index ∧ index ≤ 0x21FF then some 0x1B
  else if 0x2600 ≤ index ∧ index ≤ 0x26FF then some 0x1A
  else if 0x4000 ≤ index ∧ index ≤ 0x47FF then some (sub / 256)
  else if 0x4800 ≤ index ∧ index ≤ 0x4BFF then some (0x10 + sub / 256)
  else if 0x4C00 ≤ index ∧ index ≤ 0x4C3F then some 0x14
  else if 0x5000 ≤ index ∧ index ≤ 0x50FF then some 0x19
  else if 0x5100 ≤ index ∧ index ≤ 0x52FF then some 0x19
  else if 0x5400 ≤ index ∧ index ≤ 0x54FF then some 0x20
  else if 0x5800 ≤ index ∧ index ≤ 0x58FF then some 0x1F
  else if 0xA000 ≤ index ∧ index < 0xB000 then
    (if index % 0x40 < 0x10 then some ((index - 0xA000) / 0x100)
     else if index % 0x40 < 0x20 then some 0x20 else none)
  else none

/-- The domains a domain depends on (Table 12-1). -/
def domDepends (d : Nat) : List Nat := if d < 16 then [0x1B, 0x20] else []

/-- The order of isolation of R290. -/
def neapOrder : List Nat :=
  List.range 16 ++ [0x1F, 0x10, 0x11, 0x12, 0x13, 0x14, 0x15, 0x16, 0x17, 0x18, 0x20, 0x1B, 0x1D, 0x1E, 0x1A, 0x19, 0x1C]

/-- The switched domains. -/
def allDomains : List Nat := List.range 0x21

/-! Votes (Table 12-2). -/

/-- Some lane of the group is out of OFF, or its activation is accepted (R103). -/
def State.groupBusy (s : State) (g : Nat) : Bool :=
  s.lanes.any fun p => p.1 / 256 = g && (p.2.st ≠ .off || p.2.counted)

/-- Some lane of any group is out of OFF. -/
def State.lanesBusy (s : State) : Bool := s.lanes.any fun p => p.2.st ≠ .off || p.2.counted

/-- Some tile group other than those of a sleep request is in RUN. -/
def State.someGroupRuns (s : State) (but : List Nat) : Bool :=
  (List.range 16).any fun g => s.running g && !(but.contains g)

/-- The domain a calibration unit belongs to (section 6.6): MONADC of its quadrant, or PORTDET. -/
def unitDomain (u : Nat) : Nat := if u < 128 then 0x10 + u / 32 else 0x14

/-- The armings past step 2 that vote (R115). -/
def State.votingArms (s : State) : List Arm :=
  ([s.commit.shadow, s.commit.ring].filterMap id).filter fun a => !a.waits

/-- Clients, as a mask by ID, that vote RUN on domain `d` (Table 12-2); `but` are domains of a sleep request, whose
own running does not hold a vote of client 0x01. A safe state entered from DORMANT leaves the domains as DORMANT has them
until its release (R280, R281). -/
def State.runVotes (s : State) (but : List Nat) (d : Nat) : Nat :=
  let hold := if d < 32 then (s.get PW_HOLD_LO_DOMAINS).testBit d else d = 32 && s.on PW_HOLD_HI_D32
  let lanes := (d = 0x1B && (s.someGroupRuns but || s.lanesBusy)) || (d = 0x20 && s.someGroupRuns but)
  let awake := s.modeNow ≠ modeDormant && !(s.modeNow = modeSafe && s.mode.safeFrom = modeDormant)
  let commit := (d = 0x19 && awake) ||
    s.votingArms.any fun a => (0x15 ≤ d && d ≤ 0x18) || (d < 16 && a.groups.testBit d)
  let cal := s.cal.runs.any fun r => unitDomain r.unit = d
  let survey := s.modeNow = modeSurvey && d ≠ 0x1D && d ≠ 0x1E
  let evid := d = 0x1A && awake
  let hkp := d = 0x1C && awake
  hold.toNat + 2 * lanes.toNat + 4 * commit.toNat + 8 * cal.toNat + 16 * survey.toNat + 32 * evid.toNat + 64 * hkp.toNat

/-- Clients that vote EBB on domain `d`: the lanes of a tile group (R103). -/
def State.ebbVotes (s : State) (d : Nat) : Nat := if d < 16 ∧ s.groupBusy d then 2 else 0

/-- The first client of a mask, in client order. -/
def firstClient (m : Nat) : Nat := ((List.range 7).find? fun k => m.testBit k).getD 0

/-! Domain states and their records (Table 12-11). -/

/-- A domain's transition is complete: its state, and one POWER_STATE record. -/
def State.setDomain (s : State) (d new cause client up : Nat) : State :=
  let old := s.domState d
  let s := (s.wr PW_DOMAIN_STATE d new).wr PW_DOMAIN_TRANSIT d 0
  if old = new then s
  else s.post 0x31 d (payloadOf [(new, 56), (old, 48), (cause, 40), (client, 32), (s.nsSince up, 0)])

/-- A wake that is no host request (cause 0) sets the host target to RUN, names its client and counts (R293). -/
def State.demanded (s : State) (d cause client : Nat) : State :=
  if cause = 0 then s
  else ((s.wr PW_DOMAIN_TARGET d 1).wr PW_DOMAIN_WOKEN_BY d client).bumpAt PW_COUNTS_COUNT 5

/-- Domain `d` starts to leave EBB or NEAP for `target` (R287, R293); one that leaves NEAP for EBB goes on to RUN where
RUN is asked for meanwhile. -/
def State.beginWake (s : State) (d target cause client : Nat) : State :=
  let st := s.domState d
  if (st = 2 ∨ st = 3) ∧ ¬ s.pow.wakes.any (fun w => w.dom = d) then
    let s := (s.wr PW_DOMAIN_TRANSIT d 1)
    let s : State := { s with pow := { s.pow with
      wakes := s.pow.wakes ++ [{ dom := d, fromState := st, target := target, client := client, cause := cause, up := s.frame.up }] } }
    s.demanded d cause client
  else if target = 1 && s.pow.wakes.any (fun w => w.dom = d && w.target = 2) then
    let s : State := { s with pow := { s.pow with
      wakes := s.pow.wakes.map fun (w : Waking) => if w.dom = d then { w with target := 1, client := client, cause := cause } else w } }
    s.demanded d cause client
  else s

/-- A domain isolated by the Neap entry in progress, or being taken down after its commit point. -/
def State.isolatedNow (s : State) (d : Nat) : Bool := s.pow.isolated.contains d

/-- A demand wake of `d` by `client` (R293, Table 12-5) with the domains it depends on; a wake during a Neap entry of
the same domain waits for the entry's end (R294). -/
def State.demandWake (s : State) (client d : Nat) : State :=
  (d :: domDepends d).foldl (fun s d =>
    if s.isolatedNow d then
      (if s.pow.late.any (fun p => p.1 = d) then s
       else { s with pow := { s.pow with late := s.pow.late ++ [(d, client)] } })
    else s.beginWake d 1 1 client) s

end Sys2Proof.Machine
end

