-- ==== Sys2Proof/Machine/Commits.lean ====
section
/-! DEFINITION. The commit engine (chapter 5): configurations, contexts, arming, execution, missed commits,
schedule rings and the feed-forward engine. -/

namespace Sys2Proof.Machine

/-! Configurations as bit masks. -/

/-- `n` words of an object from subindex `lo`, as one number. -/
def State.maskOf (s : State) (index lo n : Nat) : Nat :=
  (List.range n).foldl (fun a k => a + (s.word index (lo + k)).toNat * 2 ^ (32 * k)) 0

/-- `n` words of an object from subindex `lo` written from one number. -/
def State.setMask (s : State) (index lo n v : Nat) : State :=
  State.each n (fun k s => s.setWord index (lo + k) (BitVec.ofNat 32 (v / 2 ^ (32 * k)))) s

/-- The element states of CM_STATE (R113). -/
def State.elementBits (s : State) : Nat := s.maskOf 0x5204 0 128

/-- The gate bits of CM_STATE: 1 is dark. -/
def State.gateBits (s : State) : Nat := s.maskOf 0x5204 0x80 8

/-- Ones among the first `32 n` bits. -/
def popCount (n x : Nat) : Nat :=
  (List.range n).foldl (fun a k => a + ((List.range 32).countP fun b => x.testBit (32 * k + b))) 0

/-- The mask of a list of bit numbers. -/
def maskBits (l : List Nat) : Nat := l.foldl (fun a e => a ||| 2 ^ e) 0

/-! Contexts (R110, R111). -/

/-- Bit `b` of the class: the next state of a neighbour slot where the slot is valid. -/
def neighbourBit (next : Nat → Bool) (w : Word) (high : Bool) : Bool :=
  if high then w.bits 31 31 = 1 && next (w.bits 27 16) else w.bits 15 15 = 1 && next (w.bits 11 0)

/-- The context of an element: its own next state and its neighbourhood class. -/
def contextOf (next : Nat → Bool) (w01 w23 : Word) (e : Nat) : Nat :=
  (next e).toNat * 16 + (neighbourBit next w01 false).toNat + (neighbourBit next w01 true).toNat * 2 +
    (neighbourBit next w23 false).toNat * 4 + (neighbourBit next w23 true).toNat * 8

/-- The context from CM_STATE, as for entry to ACQUIRE (R81). -/
def State.contextNow (s : State) (e : Nat) : Nat :=
  contextOf (fun n => s.cross n) (s.forceWord 0x5010 e) (s.forceWord 0x5011 e) e

/-- The context an arming has formed for an element; an override replaces its own element's (R110). -/
def Arm.context (a : Arm) (e : Nat) : Nat :=
  match a.ovr.lookup e with
  | some c => c
  | none => contextOf (fun n => a.bits.getLsbD n) (a.neigh.find objDefault (objKey 0x5010 e))
      (a.neigh.find objDefault (objKey 0x5011 e)) e

/-- The entry an arming has fetched for an element; empty where its read was uncorrectable (R109). -/
def Arm.entry (a : Arm) (e : Nat) : BitVec 128 :=
  if a.bad.contains e then 0 else a.tide.find (fun _ => 0) (32 * e + a.context e)

/-- An element is affected (R112). -/
def State.affected (s : State) (a : Arm) (e : Nat) : Bool :=
  a.force || s.context e ≠ some (a.context e)

/-- Tile groups that hold an affected element: all but those whose 256 elements all keep a valid context. -/
def State.affectedGroups (s : State) (a : Arm) : Nat :=
  let kept := s.commit.ctx.filter fun p => !s.affected a p.1
  maskBits ((List.range 16).filter fun g => (kept.filter fun p => p.1 / 256 = g).length < 256)

/-! Arming (R114, R115, R121). -/

/-- The arming with its tile groups formed. -/
def Arm.regroup (a : Arm) (s : State) : Arm := { a with groups := s.affectedGroups a }

/-- The configuration in the shadow (R113). -/
def State.shadowBits (s : State) : BitVec 4352 := BitVec.ofNat 4352 (s.maskOf 0x5200 0 136)

/-- An arming of these next states, with neighbours and Tide Table as they stand (R25). -/
def State.newArm (s : State) (bits : BitVec 4352) (target : Nat) (trig force : Bool) (ovr : List (Nat × Nat))
    (due : List Nat) (waits : Bool) : Arm :=
  let a : Arm := {
    bits := bits, target := target, trig := trig, force := force, ovr := ovr, due := due,
    neigh := s.force, tide := s.commit.tide, bad := [], startUp := s.frame.up, clk := 0, clkUp := s.frame.up,
    waits := waits, groups := 0 }
  a.regroup s

/-- The wakes an arming causes: TIDE banks and tile groups of affected elements (R17, R115). -/
def State.armWakes (s : State) (a : Arm) : State :=
  if a.waits then s
  else ([0x15, 0x16, 0x17, 0x18] ++ (List.range 16).filter fun g => a.groups.testBit g).foldl
    (fun s d => s.demandWake 2 d) s

/-- The banks, tile groups and SCHED that an arming needs all run. -/
def State.armReady (s : State) (a : Arm) : Bool :=
  ([0x15, 0x16, 0x17, 0x18, 0x19] ++ (List.range 16).filter fun g => a.groups.testBit g).all fun d => s.clocked d

/-- FCLK cycles in tc at a performance level: FCLK is half of ECLK. -/
def fclkTc (level : Nat) : Nat := 2 * tcPerEc level

/-- FCLK cycles of Table 5-2 that an arming has done. -/
def Arm.cycles (a : Arm) (s : State) : Nat :=
  min 352 (a.clk + (s.frame.up - a.clkUp) / fclkTc (s.get PL_STATUS_LEVEL))

/-- ARM_NS of an arming: its 352 FCLK cycles at the levels they ran at, or the time that has passed where wakes have
stalled it longer (R115). -/
def State.armNs (s : State) (a : Arm) : Nat :=
  let t := (a.clkUp - a.startUp) + (352 - a.clk) * fclkTc (s.get PL_STATUS_LEVEL)
  min (max (s.nsSince a.startUp) ((2 * t + 3) / 6)) 0xFFFF

/-- The shadow arming that runs now. -/
def State.shadowArming (s : State) : Option Arm :=
  s.commit.shadow.filter fun a => s.get CM_ARMED_STATE = 1 && !a.waits

/-- The ring arming that runs now. -/
def State.ringArming (s : State) : Option Arm :=
  s.commit.ring.filter fun a => s.get SR_STATUS_STATE = 1 && !a.waits

/-- Rewrite the arming that runs now. -/
def State.mapArming (s : State) (f : Arm → Arm) : State :=
  match s.shadowArming, s.ringArming with
  | some a, _ => { s with commit := { s.commit with shadow := some (f a) } }
  | none, some r => { s with commit := { s.commit with ring := some (f r) } }
  | none, none => s

/-- The cycles done so far are kept where the level changes (R115). -/
def State.armsClock (s : State) : State := s.mapArming fun a => { a with clk := a.cycles s, clkUp := s.frame.up }

/-- A neighbour word comes into force before step 2 has formed its element's context (Table 5-2). -/
def State.seeNeighbours (s : State) (k : Nat) : State :=
  let s := s.mapArming fun a =>
    if a.cycles s ≤ 8 + k % 65536 % 1024 / 16 then
      ({ a with neigh := a.neigh.put objDefault k (s.force.find objDefault k) } : Arm).regroup s
    else a
  match s.shadowArming, s.ringArming with
  | some a, _ => s.armWakes a
  | none, some r => s.armWakes r
  | none, none => s

/-- A Tide Table entry is replaced; an arming whose step 3 has not yet fetched it takes the new one (Table 5-2, R25). -/
def State.writeEntry (s : State) (i : Nat) (v : BitVec 128) : State :=
  (s.setEntry i v).mapArming fun a =>
    if a.cycles s ≤ 72 + i / 32 % 1024 / 4 then { a with tide := a.tide.put (fun _ => 0) i v } else a

/-- SECDED outcomes of the entries an arming has fetched (R109): counters, and the elements treated as empty. -/
def State.countEcc (s : State) (i : Nat) (o : EccOutcome) : State :=
  match o with
  | .clean => s
  | .corrected => s.bump TT_ECC_CORRECTED_COUNT
  | .uncorrected => (s.bump TT_ECC_UNCORRECTED_COUNT).set TT_LAST_UNCORR_INDEX i

/-! Hops (R81, R112, R124). -/

/-- A kick applies (R124): own state changes, entry not empty, KICK_AMP not 0, direction enabled. -/
def State.kicks (s : State) (e : Nat) (en : BitVec 128) (changes up : Bool) : Bool :=
  changes && s.eoUsed e && entrySource en ≠ 0 && entryKickAmp en ≠ 0 &&
    (if up then s.rd TT_KICK_RISE_EN e = 1 else s.rd TT_KICK_FALL_EN e = 1)

/-- The electro-optic edge of a hop at instant `t` (R100, R124). -/
def State.eoEdge (s : State) (e : Nat) (en : BitVec 128) (changes up : Bool) (t : Nat) : State :=
  let l := s.lane e
  if s.eoUsed e && entrySource en ≠ 0 then
    let kick := if s.kicks e en changes up then some (entryKickAmp en, t + entryKickDur en + 1) else none
    s.setLane e (l.eoChange s.frame.up (entryEo en) t kick)
  else s

/-- The frame head takes a commit's hop terms: a lane in TRACK, or one that returns from STALE_HOLD at this tick, enters
ACQUIRE; one that stays in COAST or STALE_HOLD remembers ACQUIRE; one in PARK stays parked; OFF and FAULT take nothing
(R81, Tables 4-3 and 4-8). -/
def State.takeHop (s : State) (e : Nat) (en : BitVec 128) : State :=
  match (s.lane e).st with
  | .off | .fault => s
  | .track | .acquire => (s.takeTerms e en).moveLane e ((s.takeTerms e en).lane e) .acquire 1 0x22 false
  | .coast | .staleHold =>
    let back := (s.lane e).st = .staleHold && (s.lane e).decide.any fun d => d.state ≠ .staleHold
    let s := s.takeTerms e en
    let l := { s.lane e with prior := .acquire }
    if back then s.moveLane e { l with staleCause := 0 } .acquire 1 0x22 false else s.setLane e l
  | .park => s.takeTerms e en

/-- What a commit has counted for its record (Table 5-7). -/
structure Tally where
  hopped : Nat := 0
  notTaken : Nat := 0
  empty : Bool := false
  deriving DecidableEq, Repr

/-- One listed lane at a commit's execution: context, edge, terms. A trigger commit leaves the terms for the next
frame head (R119). -/
def State.commitLane (a : Arm) (changed new skipped edge : Nat) (st : State × Tally) (e : Nat) : State × Tally :=
  let (s, t) := st
  let l := s.lane e
  if skipped.testBit e then (s, t)
  else
    match l.st with
    | .off => (s, t)
    | .fault =>
      let counts := changed.testBit e || (s.context e).any (fun c => c ≠ a.context e)
      (s.setContext e none, { t with notTaken := t.notTaken + counts.toNat })
    | _ =>
      if s.affected a e then
        let en := a.entry e
        let s := (s.setContext e (some (a.context e))).eoEdge e en (changed.testBit e) (new.testBit e) edge
        let s := if a.trig then s.setLane e { s.lane e with hop := some en }
          else
            let s := s.takeHop e en
            { s with commit := { s.commit with hopping := (e, s.hopCode e en) :: s.commit.hopping } }
        (s, { t with hopped := t.hopped + 1, empty := t.empty || entrySource en = 0 })
      else (s, t)

/-- The commit record (R135, Table 5-7). -/
def State.commitRecord (s : State) (source time : Nat) (t : Tally) (changed gates src flags : Nat) : State :=
  s.postRec
    { time := time, code := 0x10, source := source % 2 ^ 16, flags := s.flagsNow,
      payload := payloadOf [(t.hopped, 51), (changed, 38), (gates, 29), (t.notTaken, 16), (src, 12), (flags, 0)] } none

/-- Gates whose bit changes begin to move at an instant (R118, R370). -/
def State.moveGates (s : State) (changed at_ : Nat) : State :=
  let l := (List.range 256).filter fun p => changed.testBit p
  { s with safe := { s.safe with
    moved := l.map (fun p => (p, at_)) ++ s.safe.moved.filter fun m => !changed.testBit m.1 } }

/-- Execution of a commit (R117, Table 5-3; R119, Table 5-4): `src` 0 frame shadow, 1 trigger, 2 ring. -/
def State.execCommit (s : State) (a : Arm) (src : Nat) (superseded : Bool) : State :=
  let edge := s.frame.up + 4
  let old := s.elementBits
  let armed := a.bits.toNat % 2 ^ 4096
  let due := maskBits a.due
  let new := if src = 2 then (armed &&& due) ||| (old ^^^ (old &&& due)) else armed
  let changed := old ^^^ new
  let skipped := if src = 2 then (armed ^^^ old) ^^^ ((armed ^^^ old) &&& due) else 0
  let live := maskBits ((s.lanes.filter fun p => p.2.st ≠ .off).map Prod.fst)
  let off := changed ^^^ (changed &&& live)
  let s := s.setMask 0x5204 0 128 new
  let t0 : Tally := { notTaken := popCount 128 off + popCount 128 skipped }
  let (s, t) := (s.lanes.map Prod.fst).foldl (State.commitLane a changed new skipped edge) (s, t0)
  let gold := s.gateBits
  let gnew := if src = 2 then gold else a.bits.toNat / 2 ^ 4096
  let s := if src = 2 then s else
    let s := (s.setMask 0x5204 0x80 8 gnew).moveGates (gold ^^^ gnew) edge
    { s with safe := { s.safe with hold := false, dark := BitVec.ofNat 256 gnew, flt := false } }
  let basis := src = 2 && s.on SR_STATUS_BASIS_CHANGED
  let s := s.bump CM_COMMITS_COUNT
  let s := s.put64 0x5207 0 s.frame.frame
  let s := if src = 2 then s.bumpAt SR_EXECUTED_COUNT 0
    else
      let s := { s with commit := { s.commit with
        executed := if src = 0 then some (edge, s.get CM_ARMED_RESULT) else none } }
      (s.set CM_ARMED_STATE 0).set CM_ARMED_RESULT 1
  let s := if s.on CM_TRIG_OUT_EN then { s with commit := { s.commit with trigOut := some (edge + 16) } } else s
  let flags := (if superseded then 16 else 0) + (if a.bad = [] then 0 else 8) + (if t.empty then 4 else 0) +
    (if basis then 2 else 0) + (if a.force then 1 else 0)
  s.commitRecord (s.get CM_COMMITS_COUNT) (s.now + 1024) t (popCount 128 changed) (popCount 8 (gold ^^^ gnew)) src flags

/-! Ends of the shadow commit without execution. -/

/-- The shadow arming is released with a result (R115 to R117). -/
def State.endShadow (s : State) (result : Nat) : State :=
  let s := (s.set CM_ARMED_STATE 0).set CM_ARMED_RESULT result
  { s with commit := { s.commit with shadow := none, executed := none } }

/-- A missed shadow commit (R117, R133, R135): RESULT 2 MISSED_LATE or 3 MISSED_MODE, counted and recorded. -/
def State.missShadow (s : State) (result : Nat) : State :=
  match s.commit.shadow with
  | none => s
  | some a =>
    let s := (s.endShadow result).bump CM_MISSED_COUNT
    s.commitRecord (s.get CM_MISSED_COUNT) s.now {} 0 0 (if a.trig then 1 else 0) (32 + a.force.toNat)

/-! Schedule rings (R120 to R123). -/

/-- A ring's entries, soonest first. -/
def State.ringOf (s : State) (e : Nat) : List RingEntry := s.commit.rings.find (fun _ => []) e

/-- A ring replaced. -/
def State.setRing (s : State) (e : Nat) (l : List RingEntry) : State :=
  { s with commit := { s.commit with rings := s.commit.rings.put (fun _ => []) e l } }

/-- Every pending activation frame. -/
def State.ringFrames (s : State) : List Nat := s.commit.rings.flatMap fun p => p.2.map RingEntry.frame

/-- SR_NEXT: the earliest pending activation frame. -/
def State.ringNext (s : State) : Option Nat := s.ringFrames.min?

/-- Entries of frame `f` are consumed. -/
def State.consumeRing (s : State) (f : Nat) : State :=
  (s.commit.rings.map Prod.fst).foldl (fun s e => s.setRing e ((s.ringOf e).filter fun r => r.frame ≠ f)) s

/-- The ring arming is released. -/
def State.endRing (s : State) : State :=
  let s := (s.set SR_STATUS_STATE 0).set SR_STATUS_BASIS_CHANGED 0
  { s with commit := { s.commit with ring := none } }

/-- Ring entries of frame `f` consumed without execution: one missed record (R121, R133, R174). -/
def State.missRing (s : State) (f : Nat) : State :=
  let s := if s.commit.ring.any (fun a => a.target = f) then s.endRing else s
  let s := (s.consumeRing f).bump SR_MISSED_COUNT
  s.commitRecord (s.get SR_MISSED_COUNT) s.now {} 0 0 2 32

/-- Distinct pending frames below `f`, rising; a ring commit armed for one is due though a flush has emptied the rings. -/
def State.passedFrames (s : State) (f : Nat) : List Nat :=
  (((s.ringFrames ++ (s.commit.ring.map Arm.target).toList).filter fun g => g < f).mergeSort (fun a b => a ≤ b)).dedup

/-- The entries due in frame `f`, by element. -/
def State.dueAt (s : State) (f : Nat) : List (Nat × RingEntry) :=
  s.commit.rings.flatMap fun p => (p.2.filter fun r => r.frame = f).map fun r => (p.1, r)

/-- The basis of a ring commit at `f`: CM_STATE with a frame-mode shadow commit armed for a frame before it (R122). -/
def State.ringBasis (s : State) (f : Nat) : Nat :=
  match s.commit.shadow with
  | some a => if !a.trig && a.target < f then a.bits.toNat % 2 ^ 4096 else s.elementBits
  | none => s.elementBits

/-- The arming of the ring commit due at `f`, on the basis that stands now (R121, R122). -/
def State.ringArm (s : State) (f : Nat) (waits : Bool) : Arm :=
  let d := s.dueAt f
  let es := d.map Prod.fst
  let base := s.ringBasis f
  let keep := base ^^^ (base &&& maskBits es)
  let next := keep ||| maskBits ((d.filter fun p => p.2.next).map Prod.fst)
  let ovr := d.filterMap fun p => p.2.ovr.map fun c => (p.1, c)
  s.newArm (BitVec.ofNat 4352 next) f false false ovr es waits

/-- A shadow arming that waited begins: neighbours and Tide Table are taken from now on (R115). -/
def Arm.begin (a : Arm) (s : State) : Arm :=
  ({ a with waits := false, startUp := s.frame.up, clk := 0, clkUp := s.frame.up, neigh := s.force,
            tide := s.commit.tide } : Arm).regroup s

/-- A shadow arming that waited for a ring arming starts (R115). -/
def State.startShadow (s : State) : State :=
  match s.commit.shadow with
  | some a =>
    if a.waits && s.ringArming.isNone then
      ({ s with commit := { s.commit with shadow := some (a.begin s) } } : State).armWakes (a.begin s)
    else s
  | none => s

/-- A ring arming that waited for a shadow arming starts, on the basis and the entries that stand then (R115, R122). -/
def State.startRing (s : State) : State :=
  match s.commit.ring with
  | some r =>
    if r.waits && s.shadowArming.isNone then
      if (s.dueAt r.target).isEmpty then s.endRing
      else
        let r := s.ringArm r.target false
        ({ s with commit := { s.commit with ring := some r } } : State).armWakes r
    else s
  | none => s

/-- The arming that waited for the other one starts (R115). -/
def State.startWaiting (s : State) : State := s.startShadow.startRing

/-- Shadow and ring commits meet (R122): the armed ring commit's basis changes when a trigger commit executes, or a
frame commit that was armed after it. -/
def State.markBasis (s : State) (a : Arm) : State :=
  match s.commit.ring with
  | some r => if a.trig || r.startUp ≤ a.startUp then s.set SR_STATUS_BASIS_CHANGED 1 else s
  | none => s

/-! Feed-forward (R126 to R128). -/

/-- A Neap entry has begun to prepare the domain (Table 12-3 step 1). -/
def State.enteringNeap (s : State) (d : Nat) : Bool :=
  s.get PW_STATUS_PHASE ≠ 0 && s.pow.run.any fun r => r.target = 3 && r.doms.contains d

/-- Activity of a tile in 0.01 mW at a level (R127); 0 while its group is in Ebb or Neap or a Neap entry prepares it. -/
def State.tileActivity (s : State) (t level : Nat) : Nat :=
  if s.domState (t / 4) ≠ 1 || s.enteringNeap (t / 4) then 0
  else s.frc XT_ACT_BASE level + s.tileLanes t * s.frc XT_ACT_LANE level

/-- The code X_a of R126 that aggressor `a` will hold from the next tick, F and pilot left out. -/
def State.aggCode (s : State) (a : Nat) : Nat :=
  match s.commit.hopping.lookup a with
  | some x => x
  | none => (s.lane a).h

/-- The aggressor target T_e of R126, in sixteenths. -/
def State.aggTarget (s : State) (e : Nat) : Int :=
  let sum := (List.range 12).foldl (fun (x : Int) j =>
    let w := s.forceWord (0x5400 + j) e
    if w.bits 12 12 = 1 then
      let g := w.bits 27 16
      x + signedOf 12 (w.bits 11 0) * ((s.aggCode g : Int) - (s.frc XT_BASE_BASE g : Int))
    else x) 0
  roundDiv sum 1024

/-- Elements with an aggressor word in force or a filter still moving: for every other one F_agg stays 0. -/
def State.aggElements (s : State) : List Nat :=
  ((s.force.filter fun p => 0x5400 ≤ p.1 / 65536 && p.1 / 65536 ≤ 0x540B).map fun p => p.1 % 65536) ++
    s.commit.fAgg.map Prod.fst

/-- One step of the aggressor filter of an element (R128). -/
def State.filterAgg (s : State) (e : Nat) : Int :=
  let f := s.commit.fAgg.find (fun _ => 0) e
  f + roundDiv (s.aggTarget e - f) (2 ^ s.frc XT_FILTER_SH e)

/-- One step of a tile's self-heating filter at a level (R127, R128). -/
def State.filterSelf (s : State) (t level : Nat) : Int :=
  let c := s.frcI (XT_SELF_COEF_COEF.tile t) 0
  let u := roundDiv (c * ((s.tileActivity t level : Int) - (s.frc (XT_SELF_REF_AREF.tile t) 0 : Int))) 1024
  let x := s.commit.self.find (fun _ => 0) t
  x + roundDiv (u - x) (2 ^ s.frc (XT_SELF_COEF_SHS.tile t) 0)

/-- XT_SELF_ACT: every tile's activity at a level (R127). -/
def State.showActivity (s : State) (level : Nat) : State :=
  if s.clocked 0x20 then State.each 64 (fun t s => s.set (XT_SELF_ACT_A.tile t) (s.tileActivity t level)) s else s

/-- The feed-forward engine's work of one frame (R128), at the level that will be in force from the next tick. It
does nothing while XTALK does not run. -/
def State.feedForward (s : State) (level : Nat) : State :=
  if !s.clocked 0x20 then s
  else
    let agg := s.aggElements.dedup.foldl (fun t e => Table.put (fun _ => 0) e (s.filterAgg e) t) s.commit.fAgg
    let self := (List.range 64).foldl (fun t k => Table.put (fun _ => 0) k (s.filterSelf k level) t) s.commit.self
    { s with commit := { s.commit with fAgg := agg, self := self } }

end Sys2Proof.Machine
end

