-- ==== Sys2Proof/Machine/Faults.lean ====
section
/-! DEFINITION. The fault collector's reactions (chapter 13): reports, windows, merging, FC_FIRST, containment,
the safe state and the Fatal latch. -/

namespace Sys2Proof.Machine

/-! What a safe state and a dip end elsewhere. -/

/-- Running calibrations are abandoned; their units stay queued and CAL_STALE clears at the next tick (R155). -/
def State.abandonCal (s : State) : State :=
  let us := s.cal.runs.map CalRun.unit
  let s := s.bumpBy SV_CAL_ABANDONED_COUNT 0 us.length
  { s with cal := { s.cal with
    runs := [], queue := s.cal.queue ++ us.filter (fun u => !s.cal.queue.contains u), clear := s.cal.clear ++ us } }

/-- The survey stops at once with a result and no restore stage (R141). -/
def State.surveyCut (s : State) (result : Nat) : State :=
  if s.get SV_STATUS_STATE = 0 then { s with survey := {} }
  else
    let s := ((s.set SV_STATUS_STATE 0).set SV_STATUS_RESULT result).set SV_STATUS_SUSPENDED 0
    { s with survey := {} }

/-! Masked sources (R305). -/

/-- The switched domain whose checker a source is (Tables 13-2, 12-1; log entry 13). -/
def sourceDomain (src unit : Nat) : Option Nat :=
  if src = 18 then some 0x1B
  else if src = 20 ∨ src = 21 then some 0x1C
  else if src = 24 ∨ src = 27 then some 0x19
  else if src = 25 then some (0x15 + unit / 1024)
  else if src = 26 then some 0x1A
  else if src = 28 then some 0x20
  else if 32 ≤ src ∧ src ≤ 47 then some (unit / 256)
  else if 48 ≤ src ∧ src ≤ 51 then some (unit / 4)
  else if 52 ≤ src ∧ src ≤ 55 then some (0x10 + (src - 52))
  else if src = 56 then some 0x14
  else if 64 ≤ src ∧ src ≤ 64 + 0x20 then some (src - 64)
  else none

/-- The domain is isolated, in NEAP, in DOWN or in domain reset: its sources are masked. -/
def State.domMasked (s : State) (d : Nat) : Bool :=
  s.domState d = 0 || s.domState d = 3 || s.isolatedNow d ||
    s.rst.dom.any fun r => r.dom = d && 0 < r.phase

/-- A source that is masked reports nothing (R305). -/
def State.masked (s : State) (src unit : Nat) : Bool :=
  match sourceDomain src unit with
  | some d => s.domMasked d
  | none => false

/-- Reserved sources, never raised (Table 13-2), and source 64 + 0x21, not used. -/
def reservedSource (src : Nat) : Bool :=
  src = 14 || src = 15 || src = 22 || src = 23 || (29 ≤ src && src ≤ 31) || (58 ≤ src && src ≤ 63) ||
    (99 ≤ src && src ≤ 111) || src = 64 + 0x21 || 128 ≤ src

/-! Bits by source. -/

/-- Bit `src` of an object of four words (layout of SAME_CYCLE). -/
def State.sourceBit (s : State) (F : Field) (src : Nat) : Bool := (s.rd F (src / 32)).testBit (src % 32)

/-- Set or clear bit `src` of an object of four words. -/
def State.setSourceBit (s : State) (F : Field) (src : Nat) (b : Bool) : State :=
  let w := s.rd F (src / 32)
  let m := 2 ^ (src % 32)
  s.wr F (src / 32) (if b then w ||| m else w ^^^ (w &&& m))

/-! The safe state (R315). -/

/-- The lanes' part: PARK with electro-optic output 0, hop terms of a decoded trigger dropped (Table 4-3, R119); an
accepted OFF, and the PARK of an accepted CLEAR, still come (R80). -/
def State.safeLane (s : State) (e : Nat) : State :=
  let l := s.lane e
  let s := if l.hop.isSome then s.setContext e none else s
  let act := if l.act = some .acquire then some .park else l.act
  let cmd := if l.st = .fault && l.cmd = some .park then l.cmd else if l.cmd = l.act then act else none
  let l : Lane := {
    l.eoZero s.frame.up (s.frame.up + s.pathTc 6) with
    hop := none, cmd := cmd, fetched := none, run := none, act := act }
  let s := s.setLane e l
  if l.st = .off ∨ l.st = .fault then s else s.parkLane e 6

/-- The FLT pair is asserted from an instant on (Table 1-8). -/
def State.assertFlt (s : State) (at_ : Nat) : State :=
  if s.safe.flt then s else { s with safe := { s.safe with flt := true, fltUp := at_ } }

/-- Every gate dark from an instant on (R370). -/
def State.darken (s : State) (at_ : Nat) : State :=
  let s := s.moveGates (2 ^ 256 - 1 - s.safe.dark.toNat) at_
  { s with safe := { s.safe with dark := BitVec.allOnes 256 } }

/-- Entry to the safe state by a report of `src` at S3 or S4: outputs of Table 13-6, armed commits missed (Table
5-8), survey and calibration ended, mode SAFE by cause 8. -/
def State.enterSafe (s : State) (src : Nat) : State :=
  if s.get SF_STATE_STATE ≠ 0 then s
  else
    let s := (s.set SF_STATE_STATE 1).set SF_STATE_CAUSE src
    let s := (s.lanes.map Prod.fst).foldl State.safeLane s
    let s := (s.darken (s.frame.up + s.pathTc 12)).assertFlt (s.frame.up + s.pathTc 8)
    let s : State := { s with safe := { s.safe with release := none } }
    let s := (s.missShadow 3).endRing
    let s := (s.surveyCut 4).abandonCal
    let s := { s with mode := { s.mode with safeFrom := s.modeNow, safeUp := s.frame.up } }
    if s.modeNow = modeSafe then s else s.setMode modeSafe 8

/-- The Fatal latch is set by the first S4 report (R319). -/
def State.setFatal (s : State) (src : Nat) : State :=
  if s.on SF_FATAL_LATCHED then s
  else
    let s := ((s.set SF_FATAL_LATCHED 1).set SF_FATAL_SOURCE src).set SF_FATAL_SECONDS (timeSeconds s.now)
    (s.set SF_FATAL_NS (timeNs s.now)).bumpAt SF_COUNTS_COUNT 1

/-- The S3 or S4 part of a reaction; with the Fatal latch set an S3 reaction changes nothing (Table 13-11). In the safe
state it calls off a release that has not taken effect (log entry 40). -/
def State.reactSafe (s : State) (src sev : Nat) : State :=
  if sev < 3 then s
  else if sev = 3 then
    (if s.get SF_STATE_STATE = 0 then (s.bumpAt SF_COUNTS_COUNT 0).enterSafe src
     else { s with safe := { s.safe with release := none } })
  else
    let s := ((s.enterSafe src).setFatal src).set SF_STATE_STATE 2
    { s with safe := { s.safe with release := none } }

/-! Reactions (Table 13-4). -/

/-- The containment action that a reaction of this severity takes: 0 where no lane is in scope (R309). -/
def State.containAction (s : State) (src sev : Nat) : Nat :=
  if sev < 2 then 0
  else
    match sourceScope src with
    | .device | .port => 0
    | _ => s.rd FC_CFG_CONTAIN src

/-- One reaction: S1 DEGRADED, S2 containment due at the next tick, S3 and S4 the safe state. -/
def State.react (s : State) (src unit sev : Nat) : State :=
  let s := if 1 ≤ sev then s.set FC_STATUS_DEGRADED 1 else s
  let act := s.containAction src sev
  let s := if act = 0 then s else
    { s with fault := { s.fault with contain := s.fault.contain ++ [(src, act, unit, if s.on TC_STATUS_CLK_READY then s.frame.ticks + 1 else s.frame.ticks, false)] } }
  let s := if act = 0 then s else s.set FC_STATUS_CONTAINED 1
  s.reactSafe src sev

/-- When the window of a reaction closes after its detection (Table 13-4): 64 tc at S0 and S1, the next frame tick at
S2 (at once before CLK_READY), 3,000 tc at S3 and S4; before CLK_READY in word clock cycles (R304). -/
def State.windowEnd (s : State) (sev : Nat) : Nat × Option Nat :=
  if sev ≤ 1 then (s.frame.up + s.pathTc 64, none)
  else if sev = 2 then (s.frame.up, if s.on TC_STATUS_CLK_READY then some (s.frame.ticks + 1) else none)
  else (s.frame.up + s.pathTc 3000, none)

/-! Reports (R304, R310, R312). -/

/-- The severity a report is taken at: the source's, or S2 for a wire fault where that is greater. -/
def State.taken (s : State) (r : Report) : Nat :=
  if r.wire then max (s.rd FC_CFG_SEVERITY r.src) 2 else s.rd FC_CFG_SEVERITY r.src

/-- What every accepted report does: sticky bit, count, and the mark of reports taken at S1 or above. -/
def State.countReport (s : State) (r : Report) : State :=
  let s := (s.setSourceBit FC_STICKY_BITS r.src true).bumpAt FC_COUNT_COUNT r.src
  if 1 ≤ s.taken r then { s with fault := { s.fault with taken := s.fault.taken ||| 2 ^ r.src } } else s

/-- Sources whose checker checks a memory (Table 13-2); the others report on what their wires carry. -/
def memoryChecker (src : Nat) : Bool := src = 20 || (25 ≤ src && src ≤ 28) || (40 ≤ src && src ≤ 43)

/-- Checks that a pending injection still inverts: a wire is checked once per tc (R304, R327). -/
def State.injLeft (s : State) : Nat :=
  if !s.on TI_STATUS_PENDING then 0
  else if memoryChecker (s.get TI_STATUS_SOURCE) then s.get TI_STATUS_REMAINING
  else s.get TI_STATUS_REMAINING - s.pathCycles s.fault.injUp

/-- An injection on this source is what the check met (R327). -/
def State.injected (s : State) (src : Nat) : Bool :=
  if memoryChecker src then s.fault.hit = some (src, s.frame.up)
  else s.on TI_STATUS_PENDING && s.get TI_STATUS_SOURCE = src &&
    s.pathCycles s.fault.injUp ≤ s.get TI_STATUS_REMAINING

/-- The report that opens a window: highest severity taken, then lowest source (R310). -/
def State.opener (s : State) (rs : List Report) : Option Report :=
  rs.foldl (fun b r =>
    match b with
    | none => some r
    | some q => if s.taken q < s.taken r ∨ (s.taken q = s.taken r ∧ r.src < q.src) then some r else some q) none

/-- FC_FIRST captures the window record while it is empty (R312). -/
def State.captureFirst (s : State) (f : FaultRec) : State :=
  if s.on FC_FIRST_VALID then s
  else
    let s := ((s.set FC_FIRST_VALID 1).set FC_FIRST_SEV f.sev).set FC_FIRST_ESCALATED f.escalated
    let s := ((s.setB FC_FIRST_WIRE f.wire).setB FC_FIRST_INJECTED f.injected).set FC_FIRST_SOURCE f.source
    let s := (s.set FC_FIRST_UNIT f.unit).put64 0x7000 1 (timeSeconds f.time)
    let s := (s.set FC_FIRST_NS (timeNs f.time)).set FC_FIRST_FRACTION (timeFraction f.time)
    (s.setMask 0x7000 5 4 f.same).set FC_FIRST_MERGED f.merged

/-- MERGED and ESCALATED of FC_FIRST follow its own window (R312). -/
def State.followFirst (s : State) (f : FaultRec) : State :=
  if f.first then (s.set FC_FIRST_MERGED f.merged).set FC_FIRST_ESCALATED f.escalated else s

/-- Reports that arrive while no window is open: they open one (R310). -/
def State.openWindow (s : State) (rs : List Report) : State :=
  match s.opener rs with
  | none => s
  | some r =>
    let sev := s.taken r
    let f : FaultRec := {
      time := s.now, flags := s.flagsNow, source := r.src, unit := r.unit, sev := sev, escalated := sev,
      contain := s.containAction r.src sev, wire := r.wire, injected := s.injected r.src,
      first := !s.on FC_FIRST_VALID, merged := rs.length - 1, same := maskBits (rs.map Report.src) }
    let (t, w) := s.windowEnd sev
    let s := (s.captureFirst f).react r.src r.unit sev
    let s := ((s.set FC_STATUS_WINDOW 1).set FC_STATUS_WINDOW_SEV sev).set FC_STATUS_WINDOW_SOURCE r.src
    { s with fault := { s.fault with window := some { r := f, boundUp := s.frame.up + s.pathTc 3000, closeUp := t, waitTick := w } } }

/-- A report that merges into the open window; a higher severity runs its reaction at once (R310). -/
def State.mergeReport (s : State) (w : Window) (r : Report) : State :=
  let sev := s.taken r
  let up := decide (w.r.escalated < sev)
  let act := s.containAction r.src sev
  let f := { w.r with
    merged := satAdd 16 w.r.merged 1, escalated := if up then sev else w.r.escalated
    contain := if up && act ≠ 0 then act else w.r.contain }
  let (t, k) := s.windowEnd sev
  let w' : Window := { w with
    r := f
    closeUp := if up then min (max w.closeUp t) w.boundUp else w.closeUp
    waitTick := if up && k.isSome then k else w.waitTick }
  let s := if up then s.react r.src r.unit sev else s
  let s := (s.followFirst f).set FC_STATUS_WINDOW_SEV f.escalated
  { s with fault := { s.fault with window := some w' } }

/-- The collector has a clock, and no device reset holds it (R304): the timing clock, or the word clock of the timing
port's line. -/
def State.collects (s : State) : Bool :=
  s.rst.held = [] && (s.on TC_STATUS_CLK_READY || 2 ≤ s.rd FL_STATUS_STATE (2 * s.get TC_REF_PORT_SEL))

/-- Reports of one tc that the collector has sampled (R304, R310): masked and reserved sources report nothing. -/
def State.reportNow (s : State) (rs : List Report) : State :=
  let rs := rs.filter fun r => !reservedSource r.src && !s.masked r.src r.unit
  let s := rs.foldl State.countReport s
  match s.fault.window with
  | none => s.openWindow rs
  | some _ => rs.foldl (fun s r =>
      match s.fault.window with
      | some w => s.mergeReport w r
      | none => s) s

/-- Reports of one tc; without a clock the collector samples nothing. -/
def State.report (s : State) (rs : List Report) : State := if s.collects then s.reportNow rs else s

/-- An event of the device raises a source once (its checker pulses the fault code). -/
def State.raise (s : State) (src unit : Nat) : State := s.report [{ src := src, unit := unit, wire := false }]

/-- The UNIT of sources whose scope is the device. -/
def unitDevice : Nat := 0xFFFF

/-- Causes that last, as source and unit, begin to be reported in one tc: new reports but for those reported already
(R304). -/
def State.raiseLevels (s : State) (l : List (Nat × Nat)) : State :=
  if !s.collects then s
  else
    let l := l.filter fun p => !s.sourceBit FC_ACTIVE_BITS p.1 && !s.masked p.1 p.2
    let s := l.foldl (fun s p => s.setSourceBit FC_ACTIVE_BITS p.1 true) s
    s.report (l.map fun p => { src := p.1, unit := p.2, wire := false })

/-- One such cause. -/
def State.raiseLevel (s : State) (src unit : Nat) : State := s.raiseLevels [(src, unit)]

/-- The cause of a source is no longer reported. -/
def State.endCause (s : State) (src : Nat) : State := s.setSourceBit FC_ACTIVE_BITS src false

/-! The record FIFO (R311, R313). -/

/-- The FAULT record of a closed window (Table 13-5). -/
def FaultRec.toRec (f : FaultRec) : Rec :=
  let others := (List.range 128).filter fun k => k ≠ f.source && f.same.testBit k
  { time := f.time, code := 0x40, source := f.source, flags := f.flags + (if f.merged = 0 then 0 else flagMerged),
    payload := payloadOf [(f.unit, 48), (f.sev, 45), (f.escalated, 42), (f.contain, 40), (f.wire.toNat, 39),
      (f.injected.toNat, 38), (f.first.toNat, 37), (f.merged, 16), (others.length, 8), (others.headD 0, 0)] }

/-- The window closes: its record joins the collector's FIFO of 32, or is lost and counted (R313). -/
def State.closeWindow (s : State) : State :=
  match s.fault.window with
  | none => s
  | some w =>
    let s := ((s.set FC_STATUS_WINDOW 0).set FC_STATUS_WINDOW_SEV 0).set FC_STATUS_WINDOW_SOURCE 0
    let s := { s with fault := { s.fault with window := none } }
    if s.fault.fifo.length < 32 then
      let s := { s with fault := { s.fault with fifo := s.fault.fifo ++ [w.r.toRec] } }
      s.raiseTo FC_FIFO_MAX s.fault.fifo.length
    else
      let g := match s.fault.gap with
        | some g => g.more s.frame.up
        | none => w.r.toRec.newGap 0x200 s.frame.up
      { s.bump FC_LOST_COUNT with fault := { s.fault with gap := some g } }

/-! Clearing (R314). -/

/-- The sticky bit of a source clears, and its containment ends. -/
def State.clearSource (s : State) (src : Nat) : State :=
  let s := s.setSourceBit FC_STICKY_BITS src false
  let m := s.fault.taken
  { s with fault := { s.fault with
    taken := m ^^^ (m &&& 2 ^ src), contain := s.fault.contain.filter fun c => c.1 ≠ src } }

/-- DEGRADED and CONTAINED follow what remains (R314). -/
def State.settleStatus (s : State) : State :=
  let s := if s.fault.taken = 0 then s.set FC_STATUS_DEGRADED 0 else s
  if s.fault.contain = [] then s.set FC_STATUS_CONTAINED 0 else s

/-- Some source configured at S3 or above still reports (R320). -/
def State.severeActive (s : State) : Bool :=
  (List.range 128).any fun k => s.sourceBit FC_ACTIVE_BITS k && 3 ≤ s.rd FC_CFG_SEVERITY k

/-- Every condition of a release but the key (R320): RELEASABLE. -/
def State.releasable (s : State) : Bool :=
  s.modeNow = modeSafe && !s.on SF_FATAL_LATCHED && !s.severeActive && !s.safe.inLow && s.fault.window.isNone

end Sys2Proof.Machine
end

