-- ==== Sys2Proof/Machine/Light.lean ====
section
/-! DEFINITION. Port light detectors (sections 7.7 and 7.8): crossings, glitches, captures, LIGHT_LEVEL, merging and
entry to the event FIFO. -/

namespace Sys2Proof.Machine

/-- A field of the detector configuration in force. -/
def PdSt.field (x : PdSt) (F : Field) : Nat := x.cfg.bits F.hi F.lo

/-- A port captures only while EN = 1, PORTDET runs and CLK_READY is set (R178). -/
def State.pdActive (s : State) (p : Nat) : Bool :=
  (s.pd p).field PD_CFG_EN = 1 && s.clocked 0x14 && s.on TC_STATUS_CLK_READY

/-- The port's detector unit is under calibration: its records carry CAL_STALE (R150, R180). -/
def State.pdStale (s : State) (p : Nat) : Bool := s.cal.runs.any (fun r => r.unit = 128 + p) || s.cal.clear.contains (128 + p)

/-- Compact profiles apply corrections as analog trims (R153). -/
def State.compact (s : State) : Bool := 4 ≤ s.get ID_STRAPS_PROF

/-- φ_k in 1/256 tc: the bin's centre and, in full profiles, its correction in force (R180). -/
def State.binPhase (s : State) (p bin : Nat) : Int :=
  let c := signedOf 8 ((s.forceWord 0x5831 (8 * p + bin / 4)).bits (8 * (bin % 4) + 7) (8 * (bin % 4)))
  (8 * bin + 4 : Nat) + (if s.compact then 0 else c)

/-- The time of a crossing in this tc, in 1/768 ns (R180). -/
def State.crossTime (s : State) (p bin : Nat) : Nat :=
  ((s.now : Int) + s.binPhase p bin - s.rdI PD_DELAY_DELAY p).toNat

/-- The level changes: the edge is counted modulo 2^32 and captured, or merged while a capture waits (R179). -/
def State.edge (s : State) (p bin : Nat) (level : Bool) : State :=
  let s := s.wr PD_EDGES_COUNT p (s.rd PD_EDGES_COUNT p + 1)
  let s := s.wr PD_STATUS_LEVEL p level.toNat
  let x := s.pd p
  match x.wait with
  | some _ => (s.bump TS_MERGED_COUNT).setPd p { x with merges := x.merges + 1 }
  | none =>
    let dwell := x.field PD_CFG_DWELL
    s.setPd p { x with
      wait := some { time := s.crossTime p bin, crossUp := s.frame.up, readyUp := s.frame.up + 7 + dwell,
                     code := if level then 1 else 2, flags := s.flagsNow + (if s.pdStale p then flagCalStale else 0),
                     edges := s.rd PD_EDGES_COUNT p, thr := if level then x.field PD_CFG_TH_ON else x.field PD_CFG_TH_OFF,
                     merges := 0, level := level, bin := bin } }

/-- A glitch: no record and no level change (R177). -/
def State.glitch (s : State) (p : Nat) : State :=
  let x := s.pd p
  ((s.bumpAt PD_GLITCHES_COUNT p).bump TS_MERGED_COUNT).setPd p { x with merges := x.merges + 1 }

/-- The input current of port `p` moves to `ua` µA in TDC bin `bin` of this tc and stays for `lasts` tc (R177). -/
def State.crossing (s : State) (p bin ua lasts : Nat) : State :=
  let x := s.pd p
  let level := s.rd PD_STATUS_LEVEL p = 1
  let leaves := if level then ua ≤ 2 * x.field PD_CFG_TH_OFF else 2 * x.field PD_CFG_TH_ON ≤ ua
  if !s.pdActive p then s.setPd p { x with input := ua }
  else if leaves then
    (if x.field PD_CFG_DWELL ≤ lasts then (s.setPd p { x with input := ua }).edge p bin (!level) else s.glitch p)
  else s.setPd p { x with input := ua }

/-- LIGHT_CROSSING (R177, R180): a crossing of a port, 0 to 255, in a bin, 0 to 31. -/
def execLightCrossing (p bin ua lasts : Nat) (s : State) : Host.Outcome State Fault Refusal :=
  .next (s.crossing (p % 256) (bin % 32) ua lasts)

/-- The level of a port that starts to capture: by its thresholds, and between them as it stood. -/
def State.startLevel (s : State) (p : Nat) : Bool :=
  let x := s.pd p
  if 2 * x.field PD_CFG_TH_ON ≤ x.input then true
  else if x.input ≤ 2 * x.field PD_CFG_TH_OFF then false
  else s.rd PD_STATUS_LEVEL p = 1

/-- The LIGHT_LEVEL record of a start to capture (R178). -/
def State.lightLevel (s : State) (p : Nat) : State :=
  let x := s.pd p
  if s.pdActive p && !x.started && x.wait.isNone then
    let lv := s.startLevel p
    let s := s.wr PD_STATUS_LEVEL p lv.toNat
    s.setPd p { x with
      started := true
      wait := some { time := s.now, crossUp := s.frame.up, readyUp := s.frame.up, code := 3,
                     flags := s.flagsNow + (if s.pdStale p then flagCalStale else 0), edges := s.rd PD_EDGES_COUNT p,
                     thr := if lv then x.field PD_CFG_TH_ON else x.field PD_CFG_TH_OFF,
                     merges := 0, level := lv, bin := 0 } }
  else s

/-- LIGHT_LEVEL (R178). -/
def execLightLevel (p : Nat) (s : State) : Host.Outcome State Fault Refusal := .next (s.lightLevel (p % 256))

/-- The record of a waiting capture (Table 7-5), with MERGED and LOSS_BEFORE as they stand (Table 7-7). -/
def PdSt.lightRec (x : PdSt) (p : Nat) (c : Capture) : Rec :=
  let m := min x.merges 255
  let loss := match x.posted with
    | none => false
    | some lv => if c.code = 3 then lv ≠ c.level else lv = c.level
  { time := c.time, code := c.code, source := p,
    flags := c.flags + (if m = 0 then 0 else flagMerged) + (if loss then flagLossBefore else 0),
    payload := payloadOf [(c.edges, 32), (c.thr, 24), (m, 16), (c.level.toNat, 8), (c.bin, 0)] }

/-- The lowest port of a quadrant whose capture may enter the FIFO in this tc (R179). -/
def State.nextLight (s : State) (q : Nat) : Option Nat :=
  (s.pds.find? fun (p, x) => p / 64 = q && x.wait.any fun c => c.readyUp ≤ s.frame.up).map Prod.fst

/-- One light record of a quadrant enters the FIFO, or is lost and counted in PD_LOST (R179, R195). -/
def State.takeLight (s : State) (q : Nat) : State :=
  let used := if s.ev.tookUp = s.frame.up then s.ev.took else 0
  match s.nextLight q with
  | none => s
  | some p =>
    if used.testBit q then s
    else
      let x := s.pd p
      match x.wait with
      | none => s
      | some c =>
        let s := { s with ev := { s.ev with tookUp := s.frame.up, took := used ||| 2 ^ q } }
        let refused := s.recording && !s.fifoRoom c.code
        let s := s.postRec (x.lightRec p c) (some c.crossUp)
        if refused then (s.bumpAt PD_LOST_COUNT p).setPd p { x with wait := none }
        else
          let s := if s.recording then s.bump TS_LIGHT_RECORDS_COUNT else s
          s.setPd p { x with wait := none, merges := 0, posted := some c.level }

/-- LIGHT_RECORD_ENQUEUE (R179). -/
def execLightRecordEnqueue (quadrant : Nat) (s : State) : Host.Outcome State Fault Refusal :=
  .next (s.takeLight (quadrant % 4))

/-- Thresholds and dwell written since the last tick take effect; a level they change is an edge at this tick (R178). -/
def State.retunePort (s : State) (p : Nat) : State :=
  let x := s.pd p
  let w := s.word 0x4C00 p
  if x.cfg = w then s
  else
    let s := s.setPd p { x with cfg := w }
    let lv := s.rd PD_STATUS_LEVEL p = 1
    if s.pdActive p && s.startLevel p ≠ lv then s.edge p 0 (!lv) else s

/-- The tick's part for every port whose configuration has changed. -/
def State.retunePorts (s : State) : State :=
  let ps := (s.objs.filter fun k => k.1 / 65536 = 0x4C00).map (fun k => k.1 % 65536) ++ s.pds.map Prod.fst
  ps.dedup.foldl State.retunePort s

/-- PD_CFG: thresholds and dwell wait for the next tick; EN is in force at once, and a port without it stops capturing
(R178). -/
def State.wPdCfg (s : State) (p : Nat) (v : Word) : State :=
  let s := s.setWord 0x4C00 p v
  let x := s.pd p
  let x := { x with cfg := x.cfg.put 31 31 (v.bits 31 31) }
  s.setPd p (if v.bits 31 31 = 1 then x else { x with started := false, wait := none })

/-- Every port stops capturing: PORTDET stops or CLK_READY clears; the next start posts its level again. -/
def State.stopPorts (s : State) : State :=
  { s with pds := Table.mapVals (fun _ => {}) (fun _ x => { x with started := false, wait := none }) s.pds }

/-- An enable in force has stopped PORTDET's clocks (R69): no port captures. -/
def State.gateStops (s : State) : State := if s.frc CK_GATE_RUN_EN 0x14 = 1 then s else s.stopPorts

end Sys2Proof.Machine
end

