-- ==== Sys2Proof/Machine/Loop.lean ====
section
/-! DEFINITION. The loop of the timing synthesiser, cycle by cycle (R35, R36, R38, R40, R54): TDC reading, phase error,
filter, fine code and its modulator, the divider's modulator, phase-step pulses; and what an idle timing cycle does. -/

namespace Sys2Proof.Machine

/-! Exact fractions (log entry 83). -/

/-- A fraction in lowest terms. -/
def Frac.of (n : Int) (d : Nat) : Frac := { n := n / (Nat.gcd n.natAbs d : Nat), d := d / Nat.gcd n.natAbs d }

/-- Sum. -/
def Frac.add (a b : Frac) : Frac := .of (a.n * b.d + b.n * a.d) (a.d * b.d)

/-- Difference. -/
def Frac.sub (a b : Frac) : Frac := .of (a.n * b.d - b.n * a.d) (a.d * b.d)

/-- Product. -/
def Frac.mul (a b : Frac) : Frac := .of (a.n * b.n) (a.d * b.d)

/-- A fraction divided by a number. -/
def Frac.div (a : Frac) (k : Nat) : Frac := .of a.n (a.d * k)

/-- The value of a positive normal binary32 number below 2^23. -/
def binary32 (w : Nat) : Frac := .of (2 ^ 23 + w % 2 ^ 23 : Nat) (2 ^ (150 - w / 2 ^ 23))

/-! The divider and its modulator (R40). -/

/-- The modulus 2^24 − 1. -/
def modulus : Nat := 16777215

/-- Nominal NINT and FRAC per PRESCALE code (Table 2-6). -/
def nominalDiv (pre : Nat) : Nat × Nat :=
  if pre = 1 then (19, 3355443) else if pre = 2 then (76, 13421772) else (38, 6710886)

/-- N in units of 1/16,777,215. -/
def ratioOf (nint frac : Nat) : Nat := nint * modulus + frac

/-- The nominal ratio in the same units. -/
def nominalRatio (pre : Nat) : Nat := ratioOf (nominalDiv pre).1 (nominalDiv pre).2

/-- The reference frequency in units of 78.125 MHz (Table 2-2). -/
def refUnits (pre : Nat) : Nat := if pre = 1 then 4 else if pre = 2 then 1 else 2

/-- The pre-scaler in force. -/
def State.prescale (s : State) : Nat := s.get TC_DIV_ACTIVE_PRESCALE

/-- The ratio in force. -/
def State.ratio (s : State) : Nat := ratioOf (s.get TC_DIV_ACTIVE_NINT) (s.get TC_DIV_ACTIVE_FRAC)

/-- One reference cycle of the MASH modulator for a fraction `f` (R40). -/
def Mash.next (m : Mash) (f : Nat) : Mash :=
  let a1 := m.a1 + f
  let a2 := m.a2 + a1 % modulus
  let a3 := m.a3 + a2 % modulus
  { a1 := a1 % modulus, a2 := a2 % modulus, a3 := a3 % modulus, c2 := a2 / modulus, c3 := a3 / modulus, c3Old := m.c3 }

/-- The cumulative phase residue r of the modulator, in DCO periods (R35): what it has divided by so far less the
cycles times N, which its own state gives. -/
def Mash.residue (m : Mash) : Frac := .sub (.of ((m.c2 : Int) + m.c3 - m.c3Old) 1) (.of m.a1 modulus)

/-! The loop filter (R36, R37). -/

/-- KP and KI as binary32 for a bandwidth code and a PRESCALE code (Table 2-3, R36). -/
def loopCoef (bw pre : Nat) : Nat × Nat :=
  let row : List (Nat × Nat) :=
    if pre = 1 then
      [(0x3A83C498, 0x3487A595), (0x3B03C498, 0x3587A595), (0x3B83C498, 0x3687A595), (0x3C24B5BE, 0x37D3F2B9),
       (0x3CA4B5BE, 0x38D3F2B9), (0x3D24B5BE, 0x39D3F2B9), (0x3DA4B5BE, 0x3AD3F2B9), (0x37A8A9B8, 0x2EDE3E65)]
    else if pre = 2 then
      [(0x3B83C498, 0x3687A595), (0x3C03C498, 0x3787A595), (0x3C83C498, 0x3887A595), (0x3D24B5BE, 0x39D3F2B9),
       (0x3DA4B5BE, 0x3AD3F2B9), (0x3E24B5BE, 0x3BD3F2B9), (0x3EA4B5BE, 0x3CD3F2B9), (0x38A8A9B8, 0x30DE3E65)]
    else
      [(0x3B03C498, 0x3587A595), (0x3B83C498, 0x3687A595), (0x3C03C498, 0x3787A595), (0x3CA4B5BE, 0x38D3F2B9),
       (0x3D24B5BE, 0x39D3F2B9), (0x3DA4B5BE, 0x3AD3F2B9), (0x3E24B5BE, 0x3BD3F2B9), (0x3828A9B8, 0x2FDE3E65)]
  row.getD (if bw = 0xF then 7 else bw) (0, 0)

/-- A reference period in fifths of a tc: 96 at ×1, 48 at ×2, 192 at ÷2 (Table 2-2). -/
def State.refFifths (s : State) : Nat := 192 / refUnits s.prescale

/-- The loop's part of the state replaced. -/
def State.setLoop (s : State) (l : LoopSt) : State := { s with timing := { s.timing with loop := l } }

/-- The fine code, integer part (Table 2-20). -/
def State.fine (s : State) : Nat := s.timing.loop.fine / 32

/-- u in DCO periods per reference cycle that a fine code stands for: codes from the band centre times KDCO / fref
(R36). -/
def State.codeFreq (s : State) (codes : Int) : Frac :=
  .of (codes * s.get TC_DCO_KDCO) (256 * 78125000 * refUnits s.prescale)

/-- A fine code comes into force with the integrator at its equivalent (R49). -/
def State.setFine (s : State) (f : Nat) : State :=
  s.setLoop { s.timing.loop with fine := 32 * f, integ := s.codeFreq ((f : Int) - 32768) }

/-- The fine code that u asks for, in 1/32 codes: 32,768 + u · fref / KDCO, held at the ends of the range (R36,
R38; log entry 83). -/
def State.fineOf (s : State) (u : Frac) : Nat :=
  let x := roundDiv (32 * u.n * (256 * 78125000 * refUnits s.prescale : Nat)) (u.d * s.get TC_DCO_KDCO)
  (clampInt 0 (32 * 65535 + 31) (32 * 32768 + x)).toNat

/-- Pulses that have ended move θ (R54). -/
def State.settlePulses (s : State) : State :=
  let l := s.timing.loop
  let ended := l.pulses.filter fun p => p.endUp ≤ s.frame.up
  s.setLoop { l with
    theta := l.theta + (ended.map Pulse.dTheta).sum, pulses := l.pulses.filter fun p => s.frame.up < p.endUp }

/-- The instant at which no phase-step pulse runs any more (R54). -/
def State.pulsesOver (s : State) : Nat := (s.timing.loop.pulses.map Pulse.endUp).foldl max s.frame.up

/-- Divider commits and recentrings wait for the running pulses to end, and no new pulse starts meanwhile (R39, R41,
R55): the wait, at most 24 tc, passes inside the command. -/
def State.waitPulses (s : State) : State := (s.passTo s.pulsesOver).settlePulses

/-- One reference cycle of the closed loop (R35, R36). What the TDC reads and the gain it measures against the DCO
period are the die's and are free (log entry 83); the reading saturates at ±1,024 LSB, and a gain is not 0. -/
def State.refCycle (s : State) : State :=
  let s := s.settlePulses
  let (x, s) := s.free
  let (g, s) := s.free
  let l := s.timing.loop
  let t := clampInt (-1024) 1024 (signedOf 32 x.toNat)
  let gain := if g.toNat % 65536 = 0 then l.gain else g.toNat % 65536
  let mash := l.mash.next (s.get TC_DIV_ACTIVE_FRAC)
  let G := Frac.of gain 256
  let e := ((Frac.of t 1).sub (G.mul mash.residue)).sub (.of l.theta 256)
  let phi := Frac.of (e.n * G.d) (e.d * G.n.toNat)
  let (kp, ki) := loopCoef (s.get TC_STATUS_BW) s.prescale
  let integ := l.integ.add ((binary32 ki).mul phi)
  let u := ((binary32 kp).mul phi).add integ
  s.setLoop { l with t := t, gain := gain, mash := mash, phi := phi, integ := integ, fine := s.fineOf u }

/-- The loop is closed: phases 5 to 7, locked, and re-lock after its first step (R44, R50). -/
def State.closed (s : State) : Bool :=
  s.get TC_STATUS_STATE = 3 || s.get TC_STATUS_STATE = 4 || s.get TC_STATUS_STATE = 6

/-- One cycle of the fine code's modulator, at DCO ÷ 8 (R38). -/
def Dither.next (d : Dither) (f : Nat) : Dither :=
  let a1 := d.a1 + f % 32
  let a2 := d.a2 + a1 % 32
  { a1 := a1 % 32, a2 := a2 % 32, c2 := a2 / 32 }

/-- The whole fine code that the modulator drives in a cycle (R38). -/
def Dither.out (d : Dither) (f : Nat) : Int :=
  let n := d.next f
  f / 32 + (d.a1 + f % 32) / 32 + (n.c2 : Int) - d.c2

/-- The timing synthesiser's part of a timing cycle: the fine code's modulator every 4 tc, and the loop at each
reference edge. -/
def State.loopTick (s : State) : State :=
  let l := s.timing.loop
  let s := if 2 ≤ s.get TC_STATUS_STATE && s.frame.up % 4 = 0 then s.setLoop { l with dither := l.dither.next l.fine } else s
  if s.closed && decide (5 * s.frame.up % s.refFifths < 5) then s.refCycle else s

/-- A timing cycle passes with nothing commanded; the frame's counter waits in its last cycle for the tick. -/
def State.idle (s : State) : State :=
  let s := { s with frame := { s.frame with
    up := s.frame.up + 1, tc := if s.frame.running then min (s.frame.tc + 1) 2999 else s.frame.tc } }
  s.loopTick

end Sys2Proof.Machine
end

