-- ==== Sys2Proof/Machine/TimeBase.lean ====
section
/-! DEFINITION. The time base (chapter 7): the ring time exchange, measurements, setting and slewing, the jump guard
and authorised steps. -/

namespace Sys2Proof.Machine

/-! Who acts (R163, R226). -/

/-- The device is out of reset and not DORMANT: its endpoints, client and server act. -/
def State.acting (s : State) : Bool := s.rst.held = [] && s.modeNow ≠ modeDormant

/-- The timing port (R32): 0 A, 1 B. -/
def State.timingPort (s : State) : Nat := s.get TC_REF_PORT_SEL

/-- A lane pair is UP (Table 9-9). -/
def State.pairUp (s : State) (p : Nat) : Bool := s.rd FL_STATUS_STATE p = 4

/-- The other pair of the same port. -/
def otherPair (p : Nat) : Nat := if p % 2 = 0 then p + 1 else p - 1

/-- A control block of the device's own leaves on a pair that is UP, or on the other pair where the stream is looped
(R218, R225). -/
def State.sendCtl (s : State) (p ty : Nat) (payload : BitVec 56) : State :=
  let out := fun (s : State) (k : Nat) => s.setPair k { s.pair k with ctl := some (ty, payload) }
  if s.pairUp p then out s p
  else if s.rd FL_STATUS_LOOPED p = 1 && s.pairUp (otherPair p) then out s (otherPair p)
  else s

/-- Bits 0 and 1 of the last byte of FRAME_MARK and DRESP (Table 9-7): UNSET, COAST. -/
def State.timeBits (s : State) : Nat := s.timeUnset.toNat + 2 * (s.time.coast || s.on TB_STATUS_SERVER_COAST).toNat

/-- The FRAME_MARK of this frame on the timing port's D lane (R164, R222): it departs within one block of the tick, 614
units of 1/32 tc; where in it is what the wait for a block slot makes it, a free value. -/
def State.sendMark (s : State) : State :=
  if s.acting && s.on TC_STATUS_CLK_READY then
    let (t1, s) := s.free
    s.sendCtl (2 * s.timingPort + 1) 0x30
      (BitVec.ofNat 56 (s.frame.frame % 2 ^ 32 + t1.toNat % 615 * 2 ^ 32 + s.timeBits * 2 ^ 48))
  else s

/-! State, offset in force, pending steps. -/

/-- The state of Table 7-1. -/
def State.tb (s : State) : Nat := s.get TB_STATUS_STATE

/-- A new state; leaving SYNC is remembered for the TIME_SYNC record (Table 7-4). -/
def State.setTb (s : State) (n : Nat) : State :=
  let s := if s.tb = 2 ∧ n ≠ 2 then { s with time := { s.time with syncUp := s.frame.up } } else s
  s.set TB_STATUS_STATE n

/-- Pending phase steps (R54): the count and PHASE_BUSY. -/
def State.setSteps (s : State) (n : Int) : State :=
  (s.setI TC_PHASE_PENDING_PENDING n).setB TC_STATUS_PHASE_BUSY (decide (n ≠ 0))

/-- The offset in force times 768, in ps (R169): a positive step delays the device and so adds to Δ. -/
def State.offset768 (s : State) : Int := s.time.delta * 768 + (s.time.steps - s.time.midSteps) * 1000

/-- The offset in force is within a band given in ps. -/
def State.offsetWithin (s : State) (ps : Nat) : Bool := decide (s.offset768.natAbs ≤ ps * 768)

/-- Each measurement replaces the pending count (R169). -/
def State.restate (s : State) : State :=
  s.setSteps (-(roundDiv (s.time.delta * 768) 1000) - (s.time.steps - s.time.midSteps))

/-- The jump limit in ps. -/
def State.jumpLimit (s : State) : Nat := s.get TB_JUMP_LIMIT_LIMIT * 1000

/-- TIME_SYNC (Table 7-4), and the state SYNC. -/
def State.enterSync (s : State) : State :=
  let us := s.usSince s.time.syncUp
  let off := toBits 32 (roundDiv s.offset768 768)
  (s.setTb 2).post 0x53 s.timingPort (payloadOf [(us, 32), (off, 0)])

/-- The open episode ends (R171, R173). -/
def State.endEpisode (s : State) : State :=
  let s := s.set TB_JUMP_PENDING_VALID 0
  { s with time := { s.time with stepped := false } }

/-- A scheduled step is cancelled by the device (R173). -/
def State.cancelStep (s : State) : State :=
  match s.time.step with
  | none => s
  | some _ =>
    let s := ((s.set TB_STATUS_STEP_SCHEDULED 0).set TB_STATUS_STEP_CANCELLED 1).bumpAt TB_COUNT_COUNT 5
    { s with time := { s.time with step := none } }

/-- The offset in force is compared with the bands (R169): at every step and at every measurement. -/
def State.judgeOffset (s : State) : State :=
  let inBand := s.offsetWithin (s.get TB_BANDS_SYNC_BAND)
  if s.tb = 1 then (if inBand then s.enterSync else s)
  else if s.tb = 2 then (if inBand then s else s.setTb 3)
  else if s.tb = 3 then (if inBand then s.enterSync else s)
  else if s.tb = 4 && s.time.stepped && s.offsetWithin s.jumpLimit then
    (let s := s.cancelStep.endEpisode
     if inBand then s.enterSync else s.setTb 3)
  else s

/-! Holdover (R175). -/

/-- HOLDOVER from the coasting detection: COAST on records, a scheduled step cancelled, no measurement applied. -/
def State.holdTime (s : State) : State :=
  if s.tb = 5 then s
  else
    let s := s.cancelStep
    let prior := s.tb
    let s := s.setTb 5
    { s with time := { s.time with prior := prior, coast := true, acc := [], setDelta := none } }

/-- Re-lock: the state before HOLDOVER again; the count of lost exchanges restarts (R165). -/
def State.resumeTime (s : State) : State :=
  if s.tb = 5 then
    let s := s.setTb s.time.prior
    { s with time := { s.time with lost := 0, acc := [] } }
  else s

/-- CLK_READY clears: UNSET (R161), and nothing of the exchange is kept. -/
def State.unsetTime (s : State) : State :=
  let s := ((s.set TB_STATUS_STATE 0).set TB_STATUS_STEP_SCHEDULED 0).set TB_STATUS_SERVER_COAST 0
  let s := (s.set TB_STATUS_SERVER_UNSET 0).setSteps 0
  { s.set TB_JUMP_PENDING_VALID 0 with time := { steps := s.time.steps, seq := s.time.seq } }

/-! Measurements (R165, R168 to R171). -/

/-- An exchange is lost (R165); after 64 in a row the source is raised once, not in HOLDOVER. -/
def State.loseExchange (s : State) : State :=
  let s := s.bumpAt TB_COUNT_COUNT 2
  let n := s.time.lost + 1
  let s := { s with time := { s.time with lost := n } }
  if n = 64 ∧ s.tb ≠ 5 then s.raise 19 unitDevice else s

/-- RATE_ERR from two measurements (R170), 1/256 ppb: what the offset moved, steps between them allowed for. -/
def rateError (up1 : Nat) (d1 s1 : Int) (up2 : Nat) (d2 s2 : Int) : Int :=
  roundDiv (((d1 - d2) * 768 + (s2 - s1) * 1000) * 1000000) (up2 - up1)

/-- A jump is refused (R171). -/
def State.refuseJump (s : State) : State :=
  let id := (s.get TB_JUMP_PENDING_JUMP_ID + 1) % 256
  let s := ((s.setSteps 0).setTb 4).set TB_JUMP_PENDING_JUMP_ID id
  let s := (s.set TB_JUMP_PENDING_VALID 1).bumpAt TB_COUNT_COUNT 3
  let s := { s with time := { s.time with stepped := false } }
  s.post 0x51 id (payloadOf [(id, 56), (toBits 56 (roundDiv s.time.delta 1000), 0)])

/-- COAST ends at the first measurement after re-lock within SYNC_BAND (R175). -/
def State.endCoast (s : State) : State :=
  let s := { s with time := { s.time with coast := false } }
  s.enterSync

/-- What a new measurement Δ does in the state it meets (R168, R169, R171, R173, R175). In an episode a measurement
beyond the limit issues no steps, also after an authorised step: it only moves the offset in force. -/
def State.applyMeasure (s : State) : State :=
  let d := s.time.delta
  let small := decide (d.natAbs ≤ s.jumpLimit)
  let settled := s.time.coast && decide (d.natAbs ≤ s.get TB_BANDS_SYNC_BAND)
  if s.tb = 0 then { s with time := { s.time with setDelta := some d } }
  else if s.tb = 1 then
    (if 600000 < d.natAbs then { s with time := { s.time with setDelta := some d } }
     else if settled then s.restate.endCoast else s.restate.judgeOffset)
  else if s.tb = 2 ∨ s.tb = 3 then
    (if !small then s.refuseJump else if settled then s.restate.endCoast else s.restate.judgeOffset)
  else if s.tb = 4 then
    (if small then
       let s := s.cancelStep.endEpisode.restate
       if settled then s.endCoast
       else if s.offsetWithin (s.get TB_BANDS_SYNC_BAND) then s.enterSync else s.setTb 3
     else
       let s := match s.time.step with
         | some (_, n) => if 600000 < (d - n * 1000000).natAbs then s.cancelStep else s
         | none => s
       s.judgeOffset)
  else s

/-- A measurement is formed of the accepted exchanges (R165): TB_MEASURE, and its effect. -/
def State.measure (s : State) : State :=
  let acc := s.time.acc
  let n := acc.length
  let mid := acc.getD (n / 2) { delta := 0, delay := 0, steps := s.time.steps, up := s.frame.up }
  let d := roundDiv ((acc.map Exch.delta).sum) (96 * n)
  let dl := roundDiv ((acc.map Exch.delay).sum) (96 * n)
  let s := s.put64 0x2402 0 (toBits 64 (clampInt (-9223372036854775808) 9223372036854775807 d))
  let s := s.set TB_MEASURE_DELAY (toBits 32 dl)
  let s := match s.time.prev with
    | some (u1, d1, s1) => s.setI TB_MEASURE_RATE_ERR (rateError u1 d1 s1 mid.up d mid.steps)
    | none => s
  let s := { s with time := { s.time with
    acc := [], delta := d, midSteps := mid.steps, prev := some (mid.up, d, mid.steps) } }
  s.applyMeasure

/-- d and Δ of an exchange in 1/96 ps (R164): instants in 1/32 tc with frames of 96,000, ASYM in 1/16 ps. -/
def exchangeOf (t1 t2 t3 t4 asym : Int) : Int × Int :=
  (500 * ((t2 - t1) + (t4 - t3)), 500 * ((t4 - t3) - (t2 - t1)) + 3 * asym)

/-- A delay that lies within OUTLIER of the mean of the last 16, or met while the mean forms (R165). -/
def State.delayFits (s : State) (d : Int) : Bool :=
  decide (s.time.delays.length < 16) ||
    decide ((16 * d - s.time.delays.sum).natAbs ≤ 16 * 96 * s.get TB_XCHG_OUTLIER)

/-- A discarded exchange; the mean restarts after 16 in a row (R165). -/
def State.discardExchange (s : State) : State :=
  let s := s.bumpAt TB_COUNT_COUNT 1
  let n := s.time.discards + 1
  if n = 16 then { s with time := { s.time with discards := 0, oldMean := some s.time.delays.sum, delays := [] } }
  else { s with time := { s.time with discards := n } }

/-- The new mean after a restart is formed: TIME_DELAY_CHANGE (R165). -/
def State.newMean (s : State) : State :=
  match s.time.oldMean with
  | none => s
  | some o =>
    if s.time.delays.length < 16 then s
    else
      let ps := fun (x : Int) => toBits 32 (roundDiv x (96 * 16))
      let new := s.time.delays.sum
      let s := { s with time := { s.time with oldMean := none } }
      (s.bumpAt TB_COUNT_COUNT 6).post 0x54 s.timingPort (payloadOf [(ps o, 32), (ps new, 0)])

/-- An accepted exchange (R165); in HOLDOVER it forms no measurement (R175). -/
def State.acceptExchange (s : State) (d delta : Int) : State :=
  let s := s.bumpAt TB_COUNT_COUNT 0
  let s := { s with time := { s.time with discards := 0, delays := (d :: s.time.delays).take 16 } }
  let s := s.newMean
  if s.tb = 5 then s
  else
    let x : Exch := { delta := delta, delay := d, steps := s.time.steps, up := s.frame.up }
    let s := { s with time := { s.time with acc := s.time.acc ++ [x] } }
    if s.get TB_XCHG_AVG ≤ s.time.acc.length then s.measure else s

/-! The exchange's steps (R164, R165, R166, R51). -/

/-- FRAME_MARK_RECEIVE. On the timing port the mark opens an exchange unless it carries UNSET; on the other port it
serves the trimming of a coasting loop. -/
def State.markReceive (s : State) (x : MarkMeas) : State :=
  if !s.acting || !s.on TC_STATUS_CLK_READY then s
  else if x.port % 2 = s.timingPort then
    let s := (s.setB TB_STATUS_SERVER_UNSET x.unset).setB TB_STATUS_SERVER_COAST x.coast
    let m : Mark := { frame := x.frame, t1 := x.t1, t2 := x.t2, atFrame := s.frame.frame, tick := s.frame.ticks }
    { s with time := { s.time with mark := if x.unset then none else some m } }
  else if s.get TC_STATUS_STATE = 5 && s.on TC_CONTROL_TRIM_EN then
    let m := (s.frame.ticks * 96000 + x.t2, x.frame * 96000 + x.t1)
    { s with timing := { s.timing with
      trimFirst := some (s.timing.trimFirst.getD m), trimLast := if s.timing.trimFirst.isNone then none else some m } }
  else s

/-- FRAME_MARK_RECEIVE (R164, R166, R51). -/
def execFrameMarkReceive (x : MarkMeas) (s : State) : Host.Outcome State Fault Refusal := .next (s.markReceive x)

/-- DREQ_SEND: in the frame in which the exchange is due and its mark has arrived. -/
def State.dreqSend (s : State) (t3 : Nat) : State :=
  match s.time.mark with
  | none => s
  | some m =>
    if s.acting && s.time.due && m.tick = s.frame.ticks then
      let q := (s.time.seq + 1) % 256
      let d : Dreq := { seq := q, mark := m, t3 := t3, sentTick := s.frame.ticks }
      let s := { s with time := { s.time with seq := q, due := false, mark := none, dreqs := s.time.dreqs ++ [d] } }
      s.sendCtl (2 * s.timingPort) 0x31 (BitVec.ofNat 56 (m.frame % 2 ^ 32 + q * 2 ^ 32))
    else s

/-- DREQ_SEND (R164). -/
def execDreqSend (t3 : Nat) (s : State) : Host.Outcome State Fault Refusal := .next (s.dreqSend t3)

/-- DREQ_RECEIVE (R164, R222): the DRESP with the arrival's frame and instant. -/
def execDreqReceive (_frame seq t4 : Nat) (s : State) : Host.Outcome State Fault Refusal :=
  .next (if s.acting && s.on TC_STATUS_CLK_READY then
    s.sendCtl (2 * s.timingPort + 1) 0x32
      (BitVec.ofNat 56 (seq % 256 + s.frame.frame % 2 ^ 16 * 2 ^ 8 + t4 % 2 ^ 24 * 2 ^ 24 + s.timeBits * 2 ^ 48))
  else s)

/-- The frame of the server in which a DREQ arrived: the first at or after the mark's with these low 16 bits. -/
def serverFrame (mark low : Nat) : Nat := mark + (low % 65536 + 65536 - mark % 65536) % 65536

/-- DRESP_RECEIVE: the exchange is complete and is accepted or discarded. -/
def State.drespReceive (s : State) (x : Dresp) : State :=
  match s.time.dreqs.find? (fun d => d.seq = x.seq % 256) with
  | none => s
  | some q =>
    let s := { s with time := { s.time with dreqs := s.time.dreqs.erase q, lost := 0 } }
    let m := q.mark
    let t1 : Int := (m.frame * 96000 + m.t1 : Nat)
    let t4 : Int := (serverFrame m.frame x.frame16 * 96000 + x.t4 : Nat)
    let (d, delta) := exchangeOf t1 ((m.atFrame * 96000 + m.t2 : Nat) : Int) ((m.atFrame * 96000 + q.t3 : Nat) : Int) t4
      (s.rdI TB_ASYM_ASYM s.timingPort)
    if s.delayFits d then s.acceptExchange d delta else s.discardExchange

/-- DRESP_RECEIVE (R165). -/
def execDrespReceive (x : Dresp) (s : State) : Host.Outcome State Fault Refusal := .next (s.drespReceive x)

/-- DRESP_TIMEOUT: the oldest DREQ has waited 2 fr (R165). -/
def State.drespTimeout (s : State) : State :=
  match s.time.dreqs with
  | [] => s
  | q :: qs =>
    if q.sentTick + 2 ≤ s.frame.ticks then { s with time := { s.time with dreqs := qs } }.loseExchange else s

/-- DRESP_TIMEOUT (R165). -/
def execDrespTimeout (s : State) : Host.Outcome State Fault Refusal := .next s.drespTimeout

/-! The tick's part (R165, R168, R173). -/

/-- The exchanges at a frame tick: one unanswered since the last tick is lost, and one may fall due. -/
def State.tickExchange (s : State) : State :=
  if !s.acting || !s.on TC_STATUS_CLK_READY then s
  else
    let s := if s.time.due then { s with time := { s.time with due := false } }.loseExchange else s
    let n := s.time.since + 1
    if s.get TB_XCHG_INTERVAL ≤ n then { s with time := { s.time with since := 0, due := true } }
    else { s with time := { s.time with since := n } }

/-- Frames are renumbered by `n` (R57, R168, R173): what was measured in the old numbers follows. -/
def State.renumber (s : State) (n : Int) : State :=
  let mv := fun (m : Mark) => { m with atFrame := (m.atFrame + n).toNat }
  let s := if n % 2 = 0 then s
    else State.eachIn [3, 4] (fun k s => s.wr TC_OUTDIV_ALIGN_ODD k (1 - s.rd TC_OUTDIV_ALIGN_ODD k)) s
  { s with time := { s.time with
    mark := s.time.mark.map mv, dreqs := s.time.dreqs.map fun d => { d with mark := mv d.mark }
    acc := s.time.acc.map fun x => { x with delta := x.delta - n * 96000000 }
    delta := s.time.delta - n * 1000000, prev := s.time.prev.map fun (u, d, k) => (u, d - n * 1000000, k) } }

/-- The number of the frame that the next tick begins, and by how many frames it leaves the count (R168, R173). -/
def State.nextFrame (s : State) : Nat × Int :=
  match s.time.setDelta with
  | some d => let m := roundDiv d 1000000; (((s.frame.frame : Int) + 1 + m).toNat, m)
  | none =>
    match s.time.step with
    | some (f, n) => if f = s.frame.frame + 1 then (((f : Int) + n).toNat, n) else (s.frame.frame + 1, 0)
    | none => (s.frame.frame + 1, 0)

/-- At the tick of a correction by `n` frames in UNSET or SETTING (R168). -/
def State.setTime (s : State) (d n : Int) : State :=
  let first := s.tb = 0
  let s := s.renumber n
  let s := { s with time := { s.time with setDelta := none } }
  let s := if first then (s.setTb 1).post 0x50 s.timingPort (toBits 64 (roundDiv d 1000)) else s
  s.restate.judgeOffset

/-- At the tick of an authorised step (R173). -/
def State.stepTime (s : State) (n : Int) : State :=
  let r := s.time.delta - n * 1000000
  let s := (s.renumber n).bumpAt TB_COUNT_COUNT 4
  let s := { s.set TB_STATUS_STEP_SCHEDULED 0 with time := { s.time with step := none, stepped := true } }
  let id := s.get TB_JUMP_PENDING_JUMP_ID
  let s := s.post 0x52 id (payloadOf [(id, 56), (toBits 32 n, 24), (toBits 24 (roundDiv r 1000), 0)])
  s.restate.judgeOffset

/-! Phase steps (R54, R55, R176). -/

/-- The step engine may make a step: locked, not suspended, no divider commit waiting, room for a pulse, and the slot of
the interval has come. -/
def State.mayStep (s : State) : Bool :=
  s.on TC_STATUS_CLK_READY && s.on TC_STATUS_LOCK && !s.on TB_STATUS_SUSPENDED && !s.on SM_STATUS_MARGINAL &&
    s.timing.commit.isNone && decide (s.settlePulses.timing.loop.pulses.length < 2) &&
    decide (s.timing.loop.slot ≤ 5 * s.frame.up)

/-- Reference cycles from a step to the next (R168, R169): the setting interval in SETTING, the fast one while the
pending count stands for more than SLEW_BAND, else TC_PHASE_INTERVAL. -/
def State.stepInterval (s : State) : Nat :=
  let pre := s.prescale
  if s.tb = 1 then (if pre = 1 then 2 else 1)
  else if s.get TB_BANDS_SLEW_BAND * 768 < (s.getI TC_PHASE_PENDING_PENDING).natAbs * 1000 then
    (if pre = 1 then 40 else if pre = 2 then 10 else 20)
  else s.get TC_PHASE_INTERVAL_INTERVAL

/-- A pulse starts that moves the DCO by one step `d`, and the slot of the next step is set, in whole reference cycles
from the slot that this one uses (R54, R55): a positive step delays the edges, so its pulse slows the DCO. -/
def State.startPulse (s : State) (d : Int) : State :=
  let s := s.settlePulses
  let l := s.timing.loop
  let p : Pulse := {
    endUp := s.frame.up + 24, codes := -d * roundDiv (16000 * 0x3D09) (s.get TC_DCO_KDCO)
    dTheta := d * roundDiv l.gain 128 }
  let now := 5 * s.frame.up
  s.setLoop { l with
    pulses := l.pulses ++ [p], slot := now - (now - l.slot) % s.refFifths + s.stepInterval * s.refFifths }

/-- One step toward zero pending (R54). -/
def State.phaseStep (s : State) : State :=
  let n := s.getI TC_PHASE_PENDING_PENDING
  if s.mayStep && decide (n ≠ 0) then
    let d : Int := if n < 0 then -1 else 1
    let s := (s.startPulse d).setSteps (n - d)
    let s := s.setI TC_PHASE_TOTAL_TOTAL (s.getI TC_PHASE_TOTAL_TOTAL + d)
    ({ s with time := { s.time with steps := s.time.steps + d } } : State).judgeOffset
  else s

/-- PHASE_STEP (R54, R169). -/
def execPhaseStep (s : State) : Host.Outcome State Fault Refusal := .next s.phaseStep

/-! Authorised steps (R172). -/

/-- The scheduled frame and frames as written. -/
def State.stepWords (s : State) : Nat × Int := (s.get64 0x2411 2, s.getI TB_STEP_AUTH_FRAMES)

/-- GO with an ID: mode, state, range. -/
def State.authorise (s : State) (id : Nat) : Nat × State :=
  let (f, n) := s.stepWords
  if s.modeNow ≠ modeService then (0x301, s)
  else if !s.on TB_JUMP_PENDING_VALID || s.on SM_STATUS_MARGINAL || s.time.step.isSome then (0x300, s)
  else if id ≠ s.get TB_JUMP_PENDING_JUMP_ID ∨ f < s.frame.frame + 3 ∨ 600000 < (s.time.delta - n * 1000000).natAbs then
    (0x305, s)
  else
    let s := (s.set TB_STATUS_STEP_SCHEDULED 1).set TB_STATUS_STEP_CANCELLED 0
    (0, { s with time := { s.time with step := some (f, n) } })

/-- CANCEL: a scheduled step is removed. -/
def State.withdrawStep (s : State) : Nat × State :=
  (0, { s.set TB_STATUS_STEP_SCHEDULED 0 with time := { s.time with step := none } })

end Sys2Proof.Machine
end

