-- ==== Sys2Proof/Machine/Frame.lean ====
section
/-! DEFINITION. The frame (chapters 1, 4, 5): the tick with everything Table 1-3 places at it, the slack window, the
loop window boundary, monitor samples and pilot updates. -/

namespace Sys2Proof.Machine

/-! Lanes as a whole. -/

/-- The elements whose lane is not in its untouched state. -/
def State.liveLanes (s : State) : List Nat := s.lanes.map Prod.fst

/-- Apply to every such lane. -/
def State.eachLane (s : State) (f : State → Nat → State) : State := s.liveLanes.foldl f s

/-- Rewrite every such lane. -/
def State.mapLanes (s : State) (f : Nat → Lane → Lane) : State :=
  { s with lanes := Table.mapVals (fun _ => {}) f s.lanes }

/-- The tile engine of lane `e` runs its loops: not in Ebb (R79), and not in BOOT (Table 1-7). -/
def State.engineRuns (s : State) (e : Nat) : Bool := s.running (groupOf e) && decide (s.modeNow ≠ modeBoot)

/-! The head of the tick. -/

/-- The heater code formed in the last frame comes into force (R77). -/
def State.tickHeater (s : State) (e : Nat) : State :=
  let l := s.lane e
  if (l.st.runs && !s.engineRuns e) || s.parkDue e then s
  else s.setLane e { l with h := l.hNext.getD l.h, hNext := none }

/-- A lane state memory error (R101): the lanes and counts now, its report to the collector after the tick's commits
(R369). -/
def State.laneError (st : State × List Report) (x : LaneErr) : State × List Report :=
  let (s, rs) := st
  let e := x.lane % 4096
  let (o, s) := s.checked (40 + quadOf e) (if x.double then .uncorrected else .corrected)
  if o = .uncorrected then
    ((s.bump LP_ECC_UNCORRECTED_COUNT).faultLane e fun l => { l with memErr := true },
      rs ++ [{ src := 40 + quadOf e, unit := e, wire := false }])
  else (s.bump LP_ECC_CORRECTED_COUNT, rs)

/-- A host write to LP_EO_CODE takes effect 4 tc after this tick (R100); in the safe state the current stays zero. -/
def State.tickEo (s : State) (e : Nat) : State :=
  let l := s.lane e
  match l.eoHost with
  | some c =>
    if s.get SF_STATE_STATE ≠ 0 then s.setLane e { l with eoHost := none }
    else s.setLane e { l.eoChange s.frame.up c (s.frame.up + 4) none with eoHost := none }
  | none => s

/-- The park code that drives a lane: an unused heater holds zero (R12, R79). -/
def State.parkCode (s : State) (e : Nat) : Nat := if s.htrUsed e then s.rd LP_PARK_CODE_CODE e else 0

/-- Commands other than RUN and COAST take effect (Table 4-3). -/
def State.tickCmd (s : State) (e : Nat) : State :=
  let l := s.lane e
  match l.cmd with
  | some .off => s.offLane e 0
  | some .park =>
    let l : Lane := { l with cmd := none, act := if l.st = .off then none else l.act }
    if l.st = .off then s.moveLane e { l.still with h := s.parkCode e, parkHeld := none } .park 0 0x22 false
    else (s.setLane e l).parkLane e 0
  | _ => s

/-- The deactivated lane's command and activation are spent. -/
def State.spendCmd (s : State) (e : Nat) : State :=
  let l := s.lane e
  if l.st = .off && l.cmd = some .off then s.setLane e { l with cmd := none, act := none } else s

/-- The hop terms of a trigger decode are taken at this frame head (R119). -/
def State.tickHop (s : State) (e : Nat) : State :=
  let l := s.lane e
  match l.hop with
  | none => s
  | some en =>
    let s := (s.setLane e { l with hop := none }).takeHop e en
    { s with commit := { s.commit with hopping := (e, s.hopCode e en) :: s.commit.hopping } }

/-! Commits at the tick (R117, R121, R123, R133). -/

/-- The ring entries due in this frame: those of the ring commit armed for it, which a flush leaves (0x5105 SR_FLUSH),
else those the rings hold. -/
def State.ringDue (s : State) : Nat :=
  let held := (s.ringFrames.filter fun f => f = s.frame.frame).length
  match s.commit.ring with
  | some a => if a.target = s.frame.frame then a.due.length else held
  | none => held

/-- The report of a missed commit (R117, R121). -/
def missReport : Report := { src := 24, unit := unitDevice, wire := false }

/-- The shadow commit: executed at its frame, missed where it is not armed or its frame is passed over. Whether it ran,
and what it reports. -/
def State.tickShadow (s : State) (due : Nat) : State × Bool × List Report :=
  match s.commit.shadow with
  | none => (s, false, [])
  | some a =>
    if a.trig || s.frame.frame < a.target then (s, false, [])
    else if a.target = s.frame.frame && s.get CM_ARMED_STATE = 2 then
      let s := (s.markBasis a).execCommit a 0 (decide (0 < due))
      ({ s with commit := { s.commit with shadow := none } }, true, [])
    else (s.missShadow 2, false, [missReport])

/-- The ring commit due at this frame, and entries of frames passed over (R121, R133, R174); what it reports. -/
def State.tickRing (s : State) (due : Nat) (ran : Bool) : State × List Report :=
  if s.modeNow = modeSurvey || s.modeNow = modeDormant then (s, [])
  else
    let f := s.frame.frame
    let s := (s.passedFrames f).foldl State.missRing s
    let mine := s.commit.ring.any fun a => a.target = f
    if ran then
      let s := (s.bumpBy SR_SUPERSEDED_COUNT 0 due).consumeRing f
      (if mine then s.endRing else s, [])
    else
      match s.commit.ring with
      | some a =>
        if a.target = f && s.get SR_STATUS_STATE = 2 then (((s.execCommit a 2 false).consumeRing f).endRing, [])
        else if a.target = f || 0 < due then (s.missRing f, [missReport])
        else (s, [])
      | none =>
        if due = 0 then (s, [])
        else if s.modeNow = modeSafe then (s.missRing f, [])
        else (s.missRing f, [missReport])

/-- Gate currents written since the last tick are in force (R118). -/
def State.tickGates (s : State) : State :=
  { s with commit := { s.commit with
    gateCur := (s.objs.filter fun p => p.1 / 65536 = 0x4C40).map fun p => (p.1 % 65536, p.2.bits 5 0) } }

/-! RUN, coasting. -/

/-- Before the tick at which RUN takes effect the commit engine forms the lane's context and fetches its entry with the
SECDED check (R81, R109): empty where it is uncorrectable (log entry 78). -/
def State.fetchRun (s : State) (e : Nat) : State :=
  let l := s.lane e
  match l.cmd, l.fetched with
  | some .acquire, some ecc =>
    let c := s.contextNow e
    let i := 32 * e + c
    let (ecc, s) := s.checked 25 ecc
    let s := s.countEcc i ecc
    let s := s.setLane e { s.lane e with fetched := none, run := some (c, if ecc = .uncorrected then 0 else s.entry i) }
    if ecc = .uncorrected then s.raise 25 e else s
  | _, _ => s

/-- The hop of an entry to ACQUIRE (R81), with the context and entry fetched before the tick. -/
def State.enterAcquire (s : State) (e c : Nat) (en : BitVec 128) : State :=
  let x := s.hopCode e en
  let s := (s.setContext e (some c)).takeTerms e en
  let s := s.eoEdge e en false false (s.frame.up + 4)
  let s := { s with commit := { s.commit with hopping := (e, x) :: s.commit.hopping } }
  s.moveLane e { s.lane e with parkHeld := none } .acquire 0 0x22 false

/-- RUN takes effect (R80, R81): one hop, and ACQUIRE. In SAFE a lane goes to or stays in PARK. -/
def State.tickRun (s : State) (e : Nat) : State :=
  let l := s.lane e
  match l.cmd with
  | some .acquire =>
    let l : Lane := { l with cmd := none, act := if l.st = .off then none else l.act, fetched := none, run := none }
    if s.modeNow = modeSafe then
      (if l.st = .off then s.moveLane e { l.still with h := s.parkCode e, parkHeld := none } .park 0 0x22 false
       else s.setLane e l)
    else if (s.commit.hopping.lookup e).isSome then s.moveLane e { l with parkHeld := none } .acquire 0 0x22 false
    else
      match (s.lane e).run with
      | none => s.setLane e l
      | some (c, en) => (s.setLane e l).enterAcquire e c en
  | _ => s

/-- Coast causes take effect at the tick after they begin (R82). -/
def State.tickCoast (s : State) (e : Nat) : State :=
  let l := s.lane e
  let s := if l.cmd = some .coast then
      s.setLane e { l with cmd := none, hostCoast := l.hostCoast || l.st.listens || l.st = .coast }
    else s
  if l.st.listens && s.coastCause e then
    s.coastLane e (if s.contained 1 e then 5 else if s.otherCoastCause e then 2 else 0)
  else s

/-! The lane phase (Table 1-4). -/

/-- The performance level that will be in force from the next tick. -/
def State.nextLevel (s : State) : Nat :=
  match s.perf.freqTick, s.perf.step with
  | some t, some (_, lv) => if t ≤ s.frame.ticks + 1 then lv else s.get PL_STATUS_LEVEL
  | _, _ => s.get PL_STATUS_LEVEL

/-- B + I + P in force, in sixteenths. -/
def Lane.held (l : Lane) : Int := 16 * l.base + l.integ + 16 * l.prop

/-- The finished window was valid and unsaturated (R156), and whether it was saturated or limited (R146). -/
def Win.clean (w : Win) : Bool := !w.part && w.bad = 0 && !w.hi && !w.lo

/-- Learning counts a finished window, or restarts (R156). -/
def State.learnWindow (s : State) (e : Nat) (l : Lane) : Lane :=
  let on := s.on SV_LEARN_LEARN_EN && (s.modeNow = modeService || s.modeNow = modeHoldover) && !s.on SM_STATUS_MARGINAL
  let clean := match l.win with
    | some w => w.clean
    | none => false
  if on && l.st = .track && (s.context e).isSome && clean then
    { l with learnWins := l.learnWins + 1, learnSum := l.learnSum + l.learnCur, learnCur := 0 }
  else { l with learnWins := 0, learnSum := 0, learnCur := 0 }

/-- What an overrun of this frame will put back (R28). -/
def Lane.shown (l : Lane) : Shown := {
  err := l.err, errQ := l.errQ, sat := l.sat, satCnt := l.satCnt, satRaised := l.satRaised, hi := l.hi, lo := l.lo
  part := l.part, limited := l.limited, susp := l.susp, learnWins := l.learnWins, learnSum := l.learnSum
  learnCur := l.learnCur }

/-- What the lane showed when the frame began. -/
def Lane.putBack (l : Lane) (b : Shown) : Lane := { l with
  err := b.err, errQ := b.errQ, sat := b.sat, satCnt := b.satCnt, satRaised := b.satRaised, hi := b.hi, lo := b.lo
  part := b.part, limited := b.limited, susp := b.susp, learnWins := b.learnWins, learnSum := b.learnSum
  learnCur := b.learnCur }

/-- Slice 1 of a lane at a window's first frame. A lane that stopped in the finished window shows what its frames in it
showed. -/
def State.firstSlice (s : State) (e : Nat) : State :=
  let l := s.lane e
  if !l.st.runs then
    s.setLane e { l with sat := l.hi || l.lo, satCnt := 0, satRaised := l.satRaised && (l.hi || l.lo), hi := false, lo := false }
  else if !s.engineRuns e then s
  else
    let f := s.frame.frame
    let fresh := match l.freshUntil with
      | some t => decide (f ≤ t + s.window)
      | none => false
    s.setLane e (s.learnWindow e { s.slice1 e fresh with part := false })

/-- The lane-saturation source, once the lane phase that counted the window has ended without an overrun (R28, R94). -/
def State.raiseSat (s : State) (e : Nat) : State :=
  let l := s.lane e
  if s.get LP_SAT_WINDOWS_COUNT ≤ l.satCnt && !l.satRaised && 0 < l.satCnt then
    (s.setLane e { l with satRaised := true }).raise (44 + quadOf e) e
  else s

/-- The rest of a lane's work in this frame: the last slice where it is due, and the heater code. -/
def State.laneWork (s : State) (e : Nat) : State :=
  let l := s.lane e
  if !l.st.runs || !s.engineRuns e then s
  else
    let l := { l with learnCur := l.learnCur + l.held }
    let l := if s.frame.frame % s.window = s.window - 1 then s.lastSlice e l else l
    let h := s.formCode e l.withUpdate
    s.setLane e { l with hNext := h.hNext, susp := h.susp, limited := h.limited, hi := h.hi, lo := h.lo, part := h.part }

/-! What the survey gathers (R146 to R149). -/

/-- The length of a stage's dwell in windows. -/
def State.stageLength (s : State) : Nat :=
  if s.get SV_STATUS_STATE = 2 then s.get SV_PASS_PASS else s.get SV_XT_DWELL

/-- This frame lies in the capture windows of the stage in progress. -/
def State.capturing (s : State) : Bool :=
  let st := s.get SV_STATUS_STATE
  let k := s.frame.ticks - s.survey.start
  2 ≤ st && st ≤ 5 && !s.survey.wait && !s.on SV_STATUS_SUSPENDED &&
    (s.stageLength - s.get SV_PASS_CAPTURE) * s.window ≤ k && k < s.stageLength * s.window

/-- One frame of one element: the sum, and the conditions of R146 that a frame shows. -/
def Gather.frame (g : Gather) (l : Lane) : Gather :=
  { sum := g.sum + l.held, n := g.n + 1, ok := g.ok && l.st = .track && !l.limited }

/-- The window just judged lies among the capture windows: the stage's last frame may be the one before. -/
def State.judging (s : State) : Bool :=
  let st := s.get SV_STATUS_STATE
  let k := s.frame.ticks - s.survey.start
  2 ≤ st && st ≤ 5 && !s.survey.wait && s.frame.frame % s.window = 0 &&
    (s.stageLength - s.get SV_PASS_CAPTURE) * s.window < k && k ≤ s.stageLength * s.window

/-- A gathering that failed. -/
def Gather.fail (g : Gather) : Gather := { g with ok := false }

/-- What a stage has gathered is discarded; sweeps stop driving lanes (R141, R142). -/
def State.discardStage (s : State) : State :=
  let s := s.mapLanes fun _ l => { l with openCode := none }
  { s with survey := { s.survey with
    wait := true, dwell := 0, take := [], sweeps := [], gather := [], frames := 0, temps := []
    plus := [], minus := [], xs := [] } }

/-- The stage in progress. -/
def State.stage (s : State) : Nat := s.get SV_STATUS_STATE

/-- A stage, or the next step of one, is about to begin. -/
def State.toStage (s : State) (stage step : Nat) : State :=
  let s := (s.set SV_STATUS_STATE stage).set SV_STATUS_STEP step
  { s.discardStage with survey := { s.discardStage.survey with wait := true } }

/-- A reference loss stops the survey at this tick (R141). -/
def State.holdoverStop (s : State) : Bool :=
  s.survey.abort && s.survey.result = 3 && 1 ≤ s.stage && s.stage ≤ 5 &&
    match s.survey.entry with
    | some t => decide (t ≤ s.frame.ticks)
    | none => false

/-- The stage in progress stops at the tick after a reference loss; the restore stage begins at the next boundary (R139,
R141). -/
def State.stopSurvey (s : State) : State :=
  if s.holdoverStop then (if s.stage = 1 then s.abandonCal else s).toStage 6 0 else s

/-- At the tick after SUPPLY_MARGINAL has set, the stage in progress stops (R142). -/
def State.suspendSurvey (s : State) : State :=
  let st := s.get SV_STATUS_STATE
  if s.on SM_STATUS_MARGINAL && 1 ≤ st && !s.on SV_STATUS_SUSPENDED then
    ((s.set SV_STATUS_SUSPENDED 1).bump SV_SUSPENDS_COUNT).discardStage
  else s

/-- The survey's part of the lane phase. -/
def State.tickSurvey (s : State) : State :=
  let s := s.stopSurvey.suspendSurvey
  let judge := fun (t : Table Gather) e =>
    let ok := match (s.lane e).win with
      | some w => w.clean
      | none => false
    if ok then t else t.put (fun _ => ({} : Gather)) e (t.find (fun _ => ({} : Gather)) e).fail
  let s := if s.judging then
      { s with survey := { s.survey with gather := s.survey.elems.foldl judge s.survey.gather } }
    else s
  if s.capturing then
    let add := fun (t : Table Gather) e => t.put (fun _ => ({} : Gather)) e ((t.find (fun _ => ({} : Gather)) e).frame (s.lane e))
    let temp := fun (t : Table Int) k =>
      t.put (fun _ => 0) k (t.find (fun _ => 0) k + s.rdI (TH_TILE_TEMP_TEMP.tile k) 0)
    { s with survey := { s.survey with
      gather := s.survey.elems.foldl add s.survey.gather
      frames := s.survey.frames + 1
      temps := (List.range 64).foldl temp s.survey.temps } }
  else s

/-! The tick. -/

/-- A frame begins with number `num` (R18, R21, R22). -/
def State.beginFrame (s : State) (num : Nat) : State :=
  { s with
    frame := {
      s.frame with
      up := s.frame.up + (3000 - s.frame.tc), tc := 0, frame := num, ticks := s.frame.ticks + 1,
      slack := false, bound := false }
    commit := { s.commit with hopping := [] } }

/-- Units whose run has ended deliver again (R150). -/
def State.tickCal (s : State) : State :=
  let us := s.cal.clear
  let ms := (us.filter fun u => u < 128).flatMap fun u => (List.range 8).map fun j => 8 * u + j
  let s := ms.foldl (fun s m => (s.wr MN_STATUS_CAL_STALE m 0).setMon m { s.mon m with cal := false }) s
  { s with cal := { s.cal with clear := [] } }

/-- The commits of this tick and what they report; an arming that has waited for one that ended starts (R115, R121). -/
def State.tickCommits (s : State) : State × List Report :=
  let due := s.ringDue
  let (s, ran, r1) := s.tickShadow due
  let (s, r2) := s.tickRing due ran
  (s.startWaiting, (r1 ++ r2).dedup)

/-- Work at tc 0 in the order of Table 4-8: codes, errors, electro-optic writes, updates, commands, commits, coasting,
decisions; the collector's detection comes after it (R369). -/
def State.frameHead (s : State) (errs : FrameErrs) : State :=
  let s := s.tickCal.retunePorts.tickGates
  let s := s.eachLane State.tickHeater
  let (s, r1) := errs.lanes.foldl State.laneError (s, [])
  let s := s.eachLane State.tickEo
  let s := s.eachLane fun s e => if s.engineRuns e then s.settleLane e else s
  let s := (s.eachLane State.tickCmd).eachLane State.spendCmd
  let s := s.eachLane State.tickHop
  let (s, r2) := s.tickCommits
  let s := (s.eachLane State.tickRun).eachLane State.tickCoast
  let s := s.eachLane fun s e => if s.engineRuns e then s.decideLane e else s
  let s : State := { s with rst := { s.rst with broken := 0 } }
  if (r1 ++ r2).isEmpty then s else s.report (r1 ++ r2)

/-- Work of the frame's lane phase and posting (Table 1-4). In a survey the feed-forward engine only reports the
activities (R127, R139). -/
def State.frameWork (s : State) : State :=
  let s := s.mapLanes fun _ l => { l with back := if l.st.runs then some l.shown else none }
  let s := if s.frame.frame % s.window = 0 then s.eachLane State.firstSlice else s
  let s := s.tickSurvey
  let s := if s.surveying then s else s.feedForward s.nextLevel
  let s := s.showActivity s.nextLevel
  (s.eachLane State.laneWork).postLanes

/-- Stepping resumes at the first tick after SUPPLY_MARGINAL clears (R176). -/
def State.tickResume (s : State) : State :=
  if s.time.resume then { s.set TB_STATUS_SUSPENDED 0 with time := { s.time with resume := false } } else s

/-- The outcomes of this frame's Tide Table reads. -/
def State.noteTide (s : State) (xs : List LaneEcc) : State := { s with frame := { s.frame with tide := xs } }

/-- The next tick, whatever number its frame takes (R168, R173). -/
def State.nextTick (s : State) (errs : FrameErrs) : State :=
  let (num, n) := s.nextFrame
  let set := s.time.setDelta
  let stepping := s.time.step.any fun p => p.1 = s.frame.frame + 1
  let s := s.eachLane State.fetchRun
  let s := (s.mapLanes fun _ l => l.pdmStep 40).beginFrame num
  let part := fun (s : State) => s.mapLanes fun _ l => { l with
    part := true, freshUntil := l.freshUntil.map fun f => ((f : Int) + n).toNat }
  let s := match set with
    | some d => part (s.setTime d n)
    | none => if stepping then part (s.stepTime n) else s
  ((((s.noteTide errs.tide).tickResume.frameHead errs).frameWork).sendMark).tickExchange

/-- FRAME_TICK (R21). -/
def execFrameTick (errs : FrameErrs) (s : State) : Host.Outcome State Fault Refusal :=
  .next (if s.frame.running then s.nextTick errs else s)

/-- TIME_SET (R168): the tick that corrects the frame number by whole frames. -/
def execTimeSet (errs : FrameErrs) (s : State) : Host.Outcome State Fault Refusal :=
  .next (if s.frame.running && s.time.setDelta.isSome then s.nextTick errs else s)

/-- TIME_STEP (R173): the tick that would have begun AT_FRAME. -/
def execTimeStep (errs : FrameErrs) (s : State) : Host.Outcome State Fault Refusal :=
  .next (if s.frame.running && s.time.step.any (fun p => p.1 = s.frame.frame + 1) then s.nextTick errs else s)

/-! The slack window (R23, R24, R28). -/

/-- An overrun of tile `t`: no code and no slice of this frame stands, and the window being updated is discarded
(R28, R102). -/
def State.overrun (s : State) (t : Nat) : State :=
  let s := s.bump (LP_TILE_OVERRUNS_COUNT.tile t)
  let s := s.mapLanes fun e l =>
    if e / 64 = t && l.st.runs then
      let l := match l.back with
        | some b => l.putBack b
        | none => l
      { l with
        hNext := none, update := none, decide := none, back := none
        win := if s.frame.frame % s.window = 0 then none else l.win.map fun w => { w with part := true } }
    else l
  let s := { s with survey := { s.survey with
    gather := Table.mapVals (fun _ => ({} : Gather)) (fun e g => if e / 64 = t then g.fail else g) s.survey.gather } }
  s.raise (48 + t / 16) t

/-- One deferred change comes into force; a lane command's takes effect at the next tick. -/
def State.enforceChange (s : State) (k : Nat) : State :=
  if k / 65536 = 0x4000 then
    let e := k % 65536
    let l := s.lane e
    match l.act with
    | some g => s.setLane e { l with cmd := some g }
    | none => s
  else if k / 65536 = 0x5010 ∨ k / 65536 = 0x5011 then (s.enforce k).seeNeighbours k
  else s.enforce k

/-- A pending window length whose boundary the next frame begins comes into force (R24). -/
def State.newWindow (s : State) : State :=
  let w := 4 * 2 ^ s.get LP_WINDOW_W_PENDING
  if s.on LP_WINDOW_PENDING && (s.frame.frame + 1) % w = 0 then
    let s := ((s.set LP_WINDOW_W (s.get LP_WINDOW_W_PENDING)).set LP_WINDOW_PENDING 0).set LP_WINDOW_W_PENDING 0
    let s := s.mapLanes fun _ l => { l with
      win := none, part := true, accC := 0, accS := 0, samples := 0, learnWins := 0, learnSum := 0, learnCur := 0 }
    { s with mons := Table.mapVals (fun _ => {}) (fun _ m =>
      { m with sum := 0, count := 0, top := false, high := false, whole := false, lowWins := 0 }) s.mons }
  else s

/-- SLACK_WINDOW: the deferred changes accepted so far come into force in their order. -/
def State.slackWindow (s : State) (late : List Nat) : State :=
  let s := s.atTc s.slackStart
  let s := { s with frame := { s.frame with slack := true } }
  let s := (late.map (· % 64)).foldl State.overrun s
  let s := if s.frame.frame % s.window = 0 then s.eachLane State.raiseSat else s
  let ks := s.deferred.map Prod.fst
  (ks.foldl State.enforceChange { s with deferred := [] }).newWindow.gateStops

/-! Monitor samples (R87 to R90, R153). -/

/-- A monitor sample as delivered, in MU. -/
def State.sampleMu (s : State) (m code : Nat) : Nat :=
  let r := s.rd MN_STATUS_RANGE m
  let w := s.forceWord 0x5830 m
  let ofs := signedOf 8 (w.bits (31 - 8 * r) (24 - 8 * r))
  if s.compact then code * 4 ^ (3 - r)
  else (clampInt 0 0xFFFFF (roundDiv ((4 * (code : Int) - ofs) * ((4 ^ (3 - r) : Nat) : Int)) 4)).toNat

/-- The sample enters the accumulators of every lane that listens to the input (R90). -/
def State.accumulateAll (s : State) (m n x : Nat) : State :=
  s.mapLanes fun e l =>
    if s.frc LP_MON_ASSIGNED e = 1 && s.frc LP_MON_MON e = m && l.st.listens && s.engineRuns e then
      l.accumulate (demodAngle s.window n (m % 8) (s.frc LP_MON_SLOT e) l.ph) x
    else l

/-- The range of an input changes (R89). -/
def State.setRange (s : State) (m r : Nat) : State :=
  if s.rd MN_STATUS_RANGE m = r then s else (s.wr MN_STATUS_RANGE m r).bumpAt MN_RANGE_COUNT_COUNT m

/-- After the last sample of a window: the mean rounded to whole MU, which is also what divides in R90 (log entry 95),
the marks of R91, automatic ranging (R89). -/
def State.closeMon (s : State) (m : Nat) : State :=
  let x := s.mon m
  let n := 5 * s.window
  let whole := decide (x.count = n)
  let s := if whole then s.wr MN_DC_D m (roundDiv x.sum n).toNat else s
  let s := s.wr MN_STATUS_CLIP m x.clip.toNat
  let r := s.rd MN_STATUS_RANGE m
  let low := if whole && !x.high then x.lowWins + 1 else 0
  let free := s.rd MN_CFG_AUTO m = 1 && !x.cal
  let down := free && x.top && 0 < r
  let up := free && !x.top && 4 ≤ low
  let s := if down then s.setRange m (r - 1) else if up then s.setRange m (min 3 (r + 1)) else s
  s.setMon m { x with
    sum := 0, count := 0, top := false, high := false, lowWins := if down || up then 0 else low, whole := whole }

/-- MONITOR_SAMPLE: sample `k` of this frame of input `m`. A unit under calibration delivers its last sample. -/
def State.monitorSample (s : State) (m k code : Nat) : State :=
  let s := s.atTc (75 * (m % 8) + 600 * k)
  let x := s.mon m
  let mu := if x.cal then x.last else s.sampleMu m code
  let pos := s.frame.frame % s.window
  let first := pos = 0 && k = 0
  let x := { x with
    sum := x.sum + mu, count := x.count + 1, last := mu
    top := x.top || (!x.cal && 15565 ≤ code), high := x.high || x.cal || 3277 ≤ code
    clip := (!first && x.clip) || (!x.cal && code = 16383)
    stale := (!first && x.stale) || x.cal }
  let s := (s.setMon m x).accumulateAll m (5 * pos + k) mu
  if pos = s.window - 1 && k = 4 then s.closeMon m else s

/-- MONITOR_SAMPLE (R88). -/
def execMonitorSample (m k code : Nat) (s : State) : Host.Outcome State Fault Refusal :=
  let m := m % 1024
  let k := k % 5
  .next (if s.frame.running && !s.monStopped (m / 256) && s.frame.tc ≤ 75 * (m % 8) + 600 * k then
    s.monitorSample m k (code % 16384) else s)

/-! Pilots (R84). -/

/-- PILOT_UPDATE: the pilot value of every running lane at tc 600k, and the modulators' 40 cycles since the last change of
the drive codes (R97). In the frame at whose head a hop took its terms the code in force is still the old one, which the
limits of R77 need not bound (log entry 96). -/
def State.pilotUpdate (s : State) (k : Nat) : State :=
  let s := s.atTc (600 * k)
  let w := s.window
  s.mapLanes fun e l =>
    let l := if k = 0 then l else l.pdmStep 40
    if l.st.runs && s.engineRuns e then
      { l with pilot := if l.susp then 0
          else pilotValue w (s.frame.frame % w) k (s.frc LP_MON_SLOT e) (s.frc LP_PILOT_AMP e) }
    else if l.st.runs && decide (s.modeNow ≠ modeBoot) then l
    else { l with pilot := 0 }

/-- PILOT_UPDATE (R84). -/
def execPilotUpdate (k : Nat) (s : State) : Host.Outcome State Fault Refusal :=
  .next (if s.frame.running && s.frame.tc ≤ 600 * (k % 5) then s.pilotUpdate (k % 5) else s)

end Sys2Proof.Machine
end

