-- ==== Sys2Proof/Machine/LaneEvents.lean ====
section
/-! DEFINITION. Lane commands and lane objects (chapter 4): what each write checks and does; heater and electro-optic
faults; learning in tracking (R156). A handler answers the status of R245 and the state. -/

namespace Sys2Proof.Machine

/-! Statuses (Table 10-7). -/
def stOk : Nat := 0
def stDeferred : Nat := 1
def stFormat : Nat := 0x100
def stNoObject : Nat := 0x101
def stUnavailable : Nat := 0x102
def stNotActive : Nat := 0x200
def stAccess : Nat := 0x201
def stGuard : Nat := 0x202
def stState : Nat := 0x300
def stMode : Nat := 0x301
def stBudget : Nat := 0x302
def stRouting : Nat := 0x303
def stSlot : Nat := 0x304
def stRange : Nat := 0x305
def stProfile : Nat := 0x306
def stPeerReset : Nat := 0x400

/-! Lane commands (R80, R102). -/

/-- One more lane in the tile fits at every length and level in force or pending (R26). -/
def State.laneFits (s : State) (e : Nat) : Bool := fits s.windows s.levels (s.tileLanes (e / 64) + 1)

/-- An entry will be fetched for the lane's entry to ACQUIRE (R81): its Tide Table quadrant is wanted. -/
def State.fetchEntry (s : State) (e : Nat) (ecc : EccOutcome) : State :=
  let s := s.demandWake 2 (0x15 + quadOf e)
  s.setLane e { s.lane e with fetched := some ecc }

/-- A deferred activation or deactivation is accepted (R23, R80). -/
def State.deferCmd (s : State) (e : Nat) (v : Word) (g : LState) : Nat × State :=
  let s := s.setLane e { s.lane e with act := some g }
  (stDeferred, s.defer 0x4000 e v)

/-- A command that takes effect at the next tick is accepted. -/
def State.takeCmd (s : State) (e : Nat) (v : Word) (g : LState) : Nat × State :=
  (stOk, (s.setLane e { s.lane e with cmd := some g }).setWord 0x4000 e v)

/-- A CLEAR is refused while the heater open fault is still measured (R80). -/
def Lane.openPersists (l : Lane) : Bool := l.htrOpen && l.h ≠ 0 && l.on.any fun ua => ua < 1500

/-- CMD OFF. -/
def State.cmdOff (s : State) (e : Nat) (v : Word) : Nat × State :=
  let l := s.lane e
  if l.act.isSome || l.st = .off then (stState, s)
  else if s.surveying then (stMode, s)
  else s.deferCmd e v .off

/-- CMD PARK. -/
def State.cmdPark (s : State) (e : Nat) (v : Word) : Nat × State :=
  let l := s.lane e
  if !s.htrUsed e && !s.eoUsed e then (stProfile, s)
  else if l.act.isSome || l.st = .park || l.st = .fault then (stState, s)
  else if s.surveying then (stMode, s)
  else if l.st = .off then (if s.laneFits e then s.deferCmd e v .park else (stBudget, s))
  else s.takeCmd e v .park

/-- CMD RUN. -/
def State.cmdRun (s : State) (e : Nat) (v : Word) (ecc : EccOutcome) : Nat × State :=
  let l := s.lane e
  if !s.htrUsed e then (stProfile, s)
  else if l.act.isSome || (l.st ≠ .off && l.st ≠ .park) then (stState, s)
  else if s.surveying then (stMode, s)
  else if l.st = .off && !s.laneFits e then (stBudget, s)
  else if s.rd LP_MON_ASSIGNED e = 0 then (stRouting, s)
  else if l.st = .off then (s.fetchEntry e ecc).deferCmd e v .acquire
  else (s.fetchEntry e ecc).takeCmd e v .acquire

/-- CMD COAST; a lane that parks at the same tick stays parked (log entry 79). -/
def State.cmdCoast (s : State) (e : Nat) (v : Word) : Nat × State :=
  let l := s.lane e
  if !s.htrUsed e && !s.eoUsed e then (stProfile, s)
  else if l.act.isSome || !l.st.listens then (stState, s)
  else if s.surveying then (stMode, s)
  else s.takeCmd e v (if l.cmd = some .park then .park else .coast)

/-- CMD RESUME: HOST_COAST clears at acceptance (log entry 94); the boundary returns the lane. -/
def State.cmdResume (s : State) (e : Nat) (v : Word) : Nat × State :=
  let l := s.lane e
  if !s.htrUsed e && !s.eoUsed e then (stProfile, s)
  else if l.act.isSome || l.st ≠ .coast || !l.hostCoast then (stState, s)
  else if s.surveying then (stMode, s)
  else (stOk, (s.setLane e { l with hostCoast := false, resume := true }).setWord 0x4000 e v)

/-- CMD CLEAR. -/
def State.cmdClear (s : State) (e : Nat) (v : Word) : Nat × State :=
  let l := s.lane e
  if !s.htrUsed e && !s.eoUsed e then (stProfile, s)
  else if l.act.isSome || l.st ≠ .fault || l.openPersists then (stState, s)
  else if s.surveying then (stMode, s)
  else
    let l := { l with
      htrOpen := false, htrShort := false, eoComp := false, memErr := false, integ := 0, prop := 0 }
    (s.setLane e l).takeCmd e v .park

/-- A write to LP_CMD: codes 6 and 7 are refused after the lane's other checks (R102). -/
def State.wLpCmd (s : State) (e : Nat) (v : Word) (ecc : EccOutcome) : Nat × State :=
  match v.bits 2 0 with
  | 0 => s.cmdOff e v
  | 1 => s.cmdPark e v
  | 2 => s.cmdRun e v ecc
  | 3 => s.cmdCoast e v
  | 4 => s.cmdResume e v
  | 5 => s.cmdClear e v
  | _ =>
    if !s.htrUsed e && !s.eoUsed e then (stProfile, s)
    else if (s.lane e).act.isSome then (stState, s)
    else if s.surveying then (stMode, s)
    else (stRange, s)

/-! Other lane objects. -/

/-- Active lanes, and those whose activation is pending (R85, R86). -/
def State.activeLanes (s : State) : List Nat :=
  (s.lanes.filter fun p => decide (p.2.st ≠ .off) || p.2.act.isSome).map Prod.fst

/-- Slots 8 to 15 alias at W = 4 (R85). -/
def slotUsable (slot w : Nat) : Bool := w ≠ 4 || slot < 8

/-- LP_MON (R86): state, mode, routing, slot. -/
def State.wLpMon (s : State) (e : Nat) (v : Word) : Nat × State :=
  let l := s.lane e
  let m := v.bits 25 16
  let slot := v.bits 3 0
  let clash := s.activeLanes.any fun o =>
    o ≠ e && s.rd LP_MON_ASSIGNED o = 1 && s.rd LP_MON_MON o = m && s.rd LP_MON_SLOT o = slot
  if l.st ≠ .off && l.st ≠ .park then (stState, s)
  else if s.surveying then (stMode, s)
  else if m / 256 ≠ quadOf e then (stRouting, s)
  else if clash || !(s.windows.all fun w => slotUsable slot w) then (stSlot, s)
  else (stDeferred, s.defer 0x4003 e v)

/-- LP_WINDOW (R24, R26, R85). -/
def State.wLpWindow (s : State) (v : Word) : Nat × State :=
  let c := v.bits 1 0
  let w := 4 * 2 ^ c
  if s.surveying then (stMode, s)
  else if c = s.get LP_WINDOW_W then (stOk, (s.set LP_WINDOW_PENDING 0).set LP_WINDOW_W_PENDING 0)
  else if s.on LP_WINDOW_PENDING && c = s.get LP_WINDOW_W_PENDING then (stDeferred, s)
  else if !s.allFit [w] s.levels then (stBudget, s)
  else if s.activeLanes.any fun o => s.rd LP_MON_ASSIGNED o = 1 && !slotUsable (s.rd LP_MON_SLOT o) w then (stSlot, s)
  else (stDeferred, (s.set LP_WINDOW_PENDING 1).set LP_WINDOW_W_PENDING c)

/-- LP_SETPOINT (R96). -/
def State.wLpSetpoint (s : State) (e : Nat) (v : Word) : Nat × State :=
  if (s.lane e).st = .fault then (stState, s)
  else if v.bits 23 0 = 0x800000 then (stRange, s)
  else (stOk, s.setWord 0x400A e v)

/-- LP_EO_CODE (R100): the code changes 4 tc after the next tick. -/
def State.wLpEoCode (s : State) (e : Nat) (v : Word) : Nat × State :=
  if !s.eoUsed e then (stProfile, s)
  else (stOk, s.setLane e { s.lane e with eoHost := some (v.bits 9 0) })

/-- LP_PARK_CODE (R79): a parked lane's output follows at the next tick. -/
def State.wLpParkCode (s : State) (e : Nat) (v : Word) : Nat × State :=
  let s := s.setWord 0x4008 e v
  let l := s.lane e
  (stOk, if l.st = .park then s.setLane e { l with hNext := some (s.parkCode e), parkHeld := none } else s)

/-- LP_HTR_LIMIT (R94). -/
def State.wLpHtrLimit (s : State) (e : Nat) (v : Word) : Nat × State :=
  if v.bits 31 16 < v.bits 15 0 + 2 * s.rd LP_PILOT_AMP e then (stRange, s) else (stOk, s.setWord 0x4007 e v)

/-- LP_PILOT (R94), deferred. -/
def State.wLpPilot (s : State) (e : Nat) (v : Word) : Nat × State :=
  if s.rd LP_HTR_LIMIT_HTR_MAX e < s.rd LP_HTR_LIMIT_HTR_MIN e + 2 * v.bits 9 0 then (stRange, s)
  else (stDeferred, s.defer 0x4006 e v)

/-- The global loop parameters 0x3001 and 0x3002 (R94 to R96). -/
def State.wLpGlobal (s : State) (index sub : Nat) (v : Word) : Nat × State :=
  let bad :=
    if index = 0x3001 ∧ sub = 0 then decide (s.get LP_UNLOCK_THRESH_THRESH ≤ v.bits 23 0)
    else if index = 0x3001 ∧ sub = 2 then decide (v.bits 23 0 ≤ s.get LP_LOCK_THRESH_THRESH)
    else if index = 0x3001 ∧ (sub = 1 ∨ sub = 3) then decide (v.bits 7 0 = 0)
    else if index = 0x3001 ∧ sub = 4 then decide (v.bits 15 0 = 0)
    else if index = 0x3002 then decide (v.bits 10 0 = 0 ∨ 1024 < v.bits 10 0)
    else false
  if bad then (stRange, s) else (stOk, s.setWord index sub v)

/-! The window boundary's part for lanes and inputs. -/

/-- A coasting lane whose causes have ended resumes (Table 4-3): cause 0 after RESUME, else 2. -/
def State.resumeLane (s : State) (e : Nat) : State :=
  let l := s.lane e
  if l.st = .coast && !s.coastCause e then
    let f := max (l.freshUntil.getD 0) (s.frame.frame - 1)
    s.moveLane e { l with resume := false, freshUntil := some f } l.prior (if l.resume then 0 else 2) 0x22
      true
  else s

/-- In PARK and COAST the set-point in force moves at each boundary (R96). -/
def State.rampIdle (s : State) (e : Nat) : State :=
  let l := s.lane e
  if l.st = .park || l.st = .coast then s.setLane e (s.rampSetpoint e l) else s

/-- A range written with AUTO = 0 takes effect (R89). -/
def State.fixedRange (s : State) (m : Nat) : State :=
  if s.rd MN_CFG_AUTO m = 0 && !(s.mon m).cal then s.setRange m (s.rd MN_CFG_RANGE m) else s

/-! Heater and electro-optic faults (R98, R99, R101). -/

/-- HEATER_CURRENT_MEASURE: faults below 1.5 mA and above 30 mA; otherwise the cap for the next frame. -/
def State.heaterMeasure (s : State) (e ua : Nat) : State :=
  let l := s.lane e
  if l.st = .off || l.h = 0 || !s.htrUsed e then s
  else
    let s := s.setLane e { l with on := some ua }
    if ua < 1500 then
      (if l.htrOpen then s
       else (s.faultLane e fun l => { l with htrOpen := true }).raise (32 + quadOf e) e)
    else if 30000 < ua then (s.faultLane e fun l => { l with htrShort := true }).raise (32 + quadOf e) e
    else s.setLane e { s.lane e with cap := some (12000 * 65536 / ua) }

/-- HEATER_CURRENT_MEASURE (R98, R99). -/
def execHeaterCurrentMeasure (e ua : Nat) (s : State) : Host.Outcome State Fault Refusal :=
  .next (s.heaterMeasure (e % 4096) ua)

/-- EO_COMPLIANCE_FAULT: outside a kick the lane faults and its current goes to zero within 6 tc (R101). -/
def State.eoFault (s : State) (e : Nat) : State :=
  let l := s.lane e
  if l.st = .off || l.st = .fault || !s.eoUsed e || l.kicking s.frame.up then s
  else (s.faultLane e fun l => { l.eoZero s.frame.up (s.frame.up + 6) with eoComp := true }).raise (36 + quadOf e) e

/-- EO_COMPLIANCE_FAULT (R101). -/
def execEoComplianceFault (e : Nat) (s : State) : Host.Outcome State Fault Refusal := .next (s.eoFault (e % 4096))

/-! Learning in tracking (R156). -/

/-- Learning is allowed: enabled, in SERVICE or HOLDOVER, no supply dip. -/
def State.mayLearn (s : State) : Bool :=
  s.on SV_LEARN_LEARN_EN && (s.modeNow = modeService || s.modeNow = modeHoldover) && !s.on SM_STATUS_MARGINAL

/-- V of R156 in sixteenths. -/
def entryValue (en : BitVec 128) : Int := 16 * entryHtr en + entryPreload en

/-- LEARN_INTERVAL_END: N is formed and the count restarts. -/
def State.learnEnd (s : State) (e : Nat) : State :=
  let l := s.lane e
  match s.context e with
  | none => s
  | some c =>
    if s.mayLearn && l.st = .track && s.get SV_LEARN_WINDOWS ≤ l.learnWins && 0 < l.learnWins then
      let n := l.learnWins * s.window
      let v := entryValue (s.entry (32 * e + c))
      let new := v + roundDiv (l.learnSum - v * n) (n * 2 ^ s.get SV_LEARN_SHIFT)
      s.setLane e { l with learned := some (c, new), learnWins := 0, learnSum := 0 }
    else s

/-- LEARN_INTERVAL_END (R156). -/
def execLearnIntervalEnd (e : Nat) (s : State) : Host.Outcome State Fault Refusal := .next (s.learnEnd (e % 4096))

/-- Q16.4 of 20 signed bits. -/
def inQ16 (x : Int) : Bool := decide (-524288 ≤ x) && decide (x ≤ 524287)

/-- HTR and PRELOAD for a value in sixteenths, keeping a base where the preload fits (R146, R156). -/
def splitValue (n : Int) (base : Option Nat) : Nat × Int :=
  let whole := (clampInt 0 65535 (wholeCode n)).toNat
  match base with
  | some b => if inQ16 (n - 16 * b) then (b, n - 16 * b) else (whole, n - 16 * whole)
  | none => (whole, n - 16 * whole)

/-- The sensor of an element's floor tile. -/
def State.floorTemp (s : State) (e : Nat) : Int := s.rdI (TH_TILE_TEMP_TEMP.tile (s.frc XT_FLOOR_TILE e)) 0

/-- The learned entry (R156). -/
def State.learnedEntry (s : State) (e : Nat) (en : BitVec 128) (n : Int) : BitVec 128 :=
  let sec := timeSeconds s.now
  let l := s.lane e
  if entrySource en = 0 then
    let (b, i) := splitValue n none
    entryOf b (l.eoAt s.frame.up) 0 0 l.ph i (s.floorTemp e) 3 sec
  else
    let (b, i) := splitValue n (some (entryHtr en))
    entryOf b (entryEo en) (entryKickAmp en) (entryKickDur en) (entryPhase en) i (s.floorTemp e) 3 sec

/-- SV_TT_GEN counts modulo 2^32. -/
def State.bumpGen (s : State) : State := s.set SV_TT_GEN_COUNT (s.get SV_TT_GEN_COUNT + 1)

/-- LEARNED_WRITE: in the slack window that follows. -/
def State.learnedWrite (s : State) (e : Nat) : State :=
  let l := s.lane e
  match l.learned, s.context e with
  | some (k, n), some c =>
    if s.frame.slack && s.mayLearn && k = c then
      let i := 32 * e + c
      let s := s.writeEntry i (s.learnedEntry e (s.entry i) n)
      (((s.bump SV_LEARNED_COUNT).bumpGen).setLane e { l with learned := none })
    else s
  | _, _ => s

/-- LEARNED_WRITE (R156). -/
def execLearnedWrite (e : Nat) (s : State) : Host.Outcome State Fault Refusal := .next (s.learnedWrite (e % 4096))

/-- A host write to an entry restarts the learning of the element whose context in force it is (R156, Table 6-7). -/
def State.unlearn (s : State) (i : Nat) : State :=
  let e := i / 32
  if s.context e = some (i % 32) then
    s.setLane e (s.lane e).unlearn
  else s

end Sys2Proof.Machine
end

