-- ==== Sys2Proof/Machine/CommitEvents.lean ====
section
/-! DEFINITION. The commit engine's steps and objects (chapter 5): arming, disarming, triggers, schedule rings, the Tide
Table window, neighbours and aggressors. -/

namespace Sys2Proof.Machine

/-! CM_ARM (R113, R114, R116). -/

/-- GO: the snapshot, and arming begins or waits for a ring arming (R114, R115). -/
def State.armGo (s : State) (trig force : Bool) : Nat × State :=
  let f := s.get64 0x5203 0
  if s.modeNow ≠ modeService ∧ s.modeNow ≠ modeHoldover then (stMode, s)
  else if s.get CM_ARMED_STATE ≠ 0 then (stState, s)
  else if !trig && f < s.frame.frame + 3 then (stRange, s)
  else
    let a := s.newArm s.shadowBits f trig force [] [] (decide (s.get SR_STATUS_STATE = 1))
    let s := { s.set CM_ARMED_STATE 1 with commit := { s.commit with shadow := some a } }
    (stOk, s.armWakes a)

/-- DISARM (R116). -/
def State.armDisarm (s : State) : Nat × State :=
  if s.get CM_ARMED_STATE = 0 then (stState, s)
  else (stOk, ((s.endShadow 4).bump CM_DISARMED_COUNT).startWaiting)

/-- SYNC: the configuration in force becomes the shadow (R113). -/
def State.shadowSync (s : State) : Nat × State := (stOk, s.setMask 0x5200 0 136 (s.maskOf 0x5204 0 136))

/-- A write to CM_ARM: exactly one of GO, DISARM, SYNC (R114). -/
def State.wCmArm (s : State) (v : Word) : Nat × State :=
  match v.bits 0 0, v.bits 2 2, v.bits 4 4 with
  | 1, 0, 0 => s.armGo (v.bits 1 1 = 1) (v.bits 3 3 = 1)
  | 0, 1, 0 => s.armDisarm
  | 0, 0, 1 => s.shadowSync
  | _, _, _ => (stRange, s)

/-! Arming (R109, R115). -/

/-- The SECDED outcomes of what an arming has fetched: counters, the source, and the elements treated as empty. -/
def State.armEcc (s : State) (a : Arm) (xs : List LaneEcc) : State × Arm :=
  let (xs, s) := s.checkedLanes 25 xs
  let s := xs.foldl (fun s x => s.countEcc (32 * (x.lane % 4096) + a.context (x.lane % 4096)) x.ecc) s
  let bad := (xs.filter fun x => x.ecc = .uncorrected).map fun x => x.lane % 4096
  (bad.foldl (fun s e => s.raise 25 e) s, { a with bad := bad })

/-- The shadow arming completes. -/
def State.shadowArmed (s : State) (a : Arm) (xs : List LaneEcc) : State :=
  let s := (s.set CM_ARMED_STATE (if a.trig then 3 else 2)).set CM_ARMED_ARM_NS (s.armNs a)
  let (s, a) := s.armEcc a xs
  let s := if s.commit.shadow.isSome then { s with commit := { s.commit with shadow := some a } } else s
  s.startWaiting

/-- The ring arming completes. -/
def State.ringArmed (s : State) (a : Arm) (xs : List LaneEcc) : State :=
  let s := (s.set SR_STATUS_STATE 2).set CM_ARMED_ARM_NS (s.armNs a)
  let (s, a) := s.armEcc a xs
  let s := if s.commit.ring.isSome then { s with commit := { s.commit with ring := some a } } else s
  s.startWaiting

/-- ARMING_COMPLETE: the arming in progress is armed once every domain it needs runs (R17, R115). -/
def State.armComplete (s : State) (xs : List LaneEcc) : State :=
  match s.shadowArming, s.ringArming with
  | some a, _ => if s.armReady a then s.shadowArmed a xs else s
  | none, some b => if s.armReady b then s.ringArmed b xs else s
  | none, none => s

/-- ARMING_COMPLETE (R115). -/
def execArmingComplete (eccs : List LaneEcc) (s : State) : Host.Outcome State Fault Refusal := .next (s.armComplete eccs)

/-! Ring armings (R121, R122). -/

/-- RING_COMMIT_ARM_START: from the tick of frame F − 3, one ring commit at a time. -/
def State.ringArmStart (s : State) : State :=
  match s.commit.ring, s.ringNext with
  | none, some f =>
    if (s.modeNow = modeService || s.modeNow = modeHoldover) && f ≤ s.frame.frame + 3 && s.frame.frame < f then
      let a := s.ringArm f s.shadowArming.isSome
      let s := (s.set SR_STATUS_STATE 1).set SR_STATUS_BASIS_CHANGED 0
      ({ s with commit := { s.commit with ring := some a } } : State).armWakes a
    else s
  | _, _ => s

/-- TRIG_IN_EDGE: the trigger commit at the decode, or an ignored edge (R119, R122). -/
def State.trigEdge (s : State) : State :=
  match s.commit.shadow with
  | some a =>
    if a.trig && s.get CM_ARMED_STATE = 3 && s.on CM_TRIG_IN_EN then
      let s := (s.markBasis a).execCommit a 1 false
      { s with commit := { s.commit with shadow := none } }
    else s.bump CM_TRIG_IGNORED_COUNT
  | none => s.bump CM_TRIG_IGNORED_COUNT

/-- TRIG_IN_EDGE (R119). -/
def execTrigInEdge (s : State) : Host.Outcome State Fault Refusal := .next (if s.frame.running then s.trigEdge else s)

/-! Schedule rings (R120). -/

/-- SR_PUSH. -/
def State.wSrPush (s : State) (v : Word) : Nat × State :=
  let e := v.bits 27 16
  let f := s.get64 0x5100 0
  let r := s.ringOf e
  let last := (r.getLast?.map RingEntry.frame)
  let next := v.bits 9 9
  let ovr := v.bits 8 8 = 1
  if f < s.frame.frame + 4 || last.any (fun g => f ≤ g) || (ovr && v.bits 4 4 ≠ next) then (stRange, s)
  else if 8 ≤ r.length then (stState, s)
  else (stOk, s.setRing e (r ++ [{ frame := f, next := next = 1, ovr := if ovr then some (v.bits 4 0) else none }]))

/-- SR_FLUSH of element `e`. -/
def State.wSrFlush (s : State) (e : Nat) (v : Word) : Nat × State :=
  (stOk, if v.bits 0 0 = 1 then s.setRing e [] else s)

/-- SR_FLUSH_ALL. -/
def State.wSrFlushAll (s : State) (v : Word) : Nat × State :=
  (stOk, if v.bits 0 0 = 1 then { s with commit := { s.commit with rings := [] } } else s)

/-! The Tide Table window (R107 to R109). -/

/-- The four data words as an entry; the reserved bits are stored as zero (R9). -/
def State.windowEntry (s : State) : BitVec 128 := BitVec.ofNat 128 (s.maskOf 0x5001 0 4 / 2 ^ 16 * 2 ^ 16)

/-- The status of an executed command, and the index's increment. -/
def State.windowDone (s : State) (i ecc : Nat) : State :=
  let s := (s.set TT_WIN_STATUS_ECC ecc).set TT_WIN_STATUS_INDEX i
  if s.on TT_WIN_INDEX_AUTOINC then s.set TT_WIN_INDEX_INDEX (i + 1) else s

/-- READ: an uncorrectable entry gives its raw bits, which are open (R109). -/
def State.windowRead (s : State) (ecc : EccOutcome) : Nat × State :=
  let i := s.get TT_WIN_INDEX_INDEX
  let (ecc, s) := s.checked 25 ecc
  let s := s.countEcc i ecc
  match ecc with
  | .uncorrected =>
    let s := State.each 4 (fun k s => let (w, s) := s.free; s.setWord 0x5001 k w) s
    (stOk, (s.windowDone i 2).raise 25 (i / 32))
  | .corrected => (stOk, (s.setMask 0x5001 0 4 (s.entry i).toNat).windowDone i 1)
  | .clean => (stOk, (s.setMask 0x5001 0 4 (s.entry i).toNat).windowDone i 0)

/-- The refusal of a WRITE: state, mode, range in this order (R108). -/
def State.windowRefusal (s : State) : Option Nat :=
  if s.on SM_STATUS_MARGINAL then some stState
  else if s.modeNow = modeSurvey then some stMode
  else if 3 < entrySource s.windowEntry then some stRange
  else none

/-- The bank that a command of TT_WIN_CMD reads or writes. -/
def State.windowBank (s : State) (v : Word) : Option Nat :=
  if v.bits 1 0 = 1 ∨ (v.bits 1 0 = 2 ∧ s.windowRefusal = none) then some (0x15 + s.get TT_WIN_INDEX_INDEX / 32768)
  else none

/-- WRITE (R108). -/
def State.windowWrite (s : State) : Nat × State :=
  let i := s.get TT_WIN_INDEX_INDEX
  let en := s.windowEntry
  match s.windowRefusal with
  | some st => (st, s)
  | none => (stOk, (((s.writeEntry i en).bumpGen).unlearn i).windowDone i 0)

/-- A write to TT_WIN_CMD. -/
def State.wTtWinCmd (s : State) (v : Word) (ecc : EccOutcome) : Nat × State :=
  match v.bits 1 1, v.bits 0 0 with
  | 1, 1 => (stRange, s)
  | 1, _ => s.windowWrite
  | _, 1 => s.windowRead ecc
  | _, _ => (stOk, s)

/-! Neighbours and aggressors (R111, R126). -/

/-- The valid slots of a neighbour word. -/
def neighbours (w : Word) : List Nat :=
  (if w.bits 15 15 = 1 then [w.bits 11 0] else []) ++ (if w.bits 31 31 = 1 then [w.bits 27 16] else [])

/-- TT_NEIGH_01, TT_NEIGH_23: no valid slot names the element itself or an element named before. -/
def State.wTtNeigh (s : State) (index e : Nat) (v : Word) : Nat × State :=
  let mine := neighbours v
  let others := neighbours (s.word (if index = 0x5010 then 0x5011 else 0x5010) e)
  if s.surveying then (stMode, s)
  else if mine.contains e || !decide (mine ++ others).Nodup then (stRange, s)
  else (stDeferred, s.defer index e v)

/-- XT objects, deferred (R126): no valid slot names the element itself; SH at most 10. -/
def State.wXt (s : State) (index sub : Nat) (v : Word) : Nat × State :=
  if s.surveying then (stMode, s)
  else if 0x5400 ≤ index ∧ index ≤ 0x540B ∧ v.bits 12 12 = 1 ∧ v.bits 27 16 = sub then (stRange, s)
  else if index = 0x540D ∧ 10 < v.bits 3 0 then (stRange, s)
  else (stDeferred, s.defer index sub v)

end Sys2Proof.Machine
end

