-- ==== Sys2Proof/Machine/Crypto.lean ====
section
/-! DEFINITION. The standard functions the manual names: SHA-256 (FIPS 180-4), HMAC (FIPS 198-1) and ECDSA
verification over P-256 (FIPS 186-5), for the seal chain (R189), the arbitration token (R255) and the image check
(R272). -/

namespace Sys2Proof.Machine

/-- A string of bytes. -/
abbrev Bytes := List (BitVec 8)

/-! Bytes and numbers. -/

/-- The `n` bytes of a number, least significant first. -/
def leBytes (n x : Nat) : Bytes := (List.range n).map fun k => BitVec.ofNat 8 (x / 2 ^ (8 * k))

/-- The `n` bytes of a number, most significant first. -/
def beBytes (n x : Nat) : Bytes := (leBytes n x).reverse

/-- The number that bytes spell, least significant first. -/
def leValue (b : Bytes) : Nat := b.foldr (fun x a => x.toNat + 256 * a) 0

/-- The number that bytes spell, most significant first. -/
def beValue (b : Bytes) : Nat := b.foldl (fun a x => 256 * a + x.toNat) 0

/-! SHA-256. -/

/-- The round constants (FIPS 180-4, 4.2.2). -/
def shaK : List (BitVec 32) :=
  [0x428A2F98, 0x71374491, 0xB5C0FBCF, 0xE9B5DBA5, 0x3956C25B, 0x59F111F1, 0x923F82A4, 0xAB1C5ED5,
   0xD807AA98, 0x12835B01, 0x243185BE, 0x550C7DC3, 0x72BE5D74, 0x80DEB1FE, 0x9BDC06A7, 0xC19BF174,
   0xE49B69C1, 0xEFBE4786, 0x0FC19DC6, 0x240CA1CC, 0x2DE92C6F, 0x4A7484AA, 0x5CB0A9DC, 0x76F988DA,
   0x983E5152, 0xA831C66D, 0xB00327C8, 0xBF597FC7, 0xC6E00BF3, 0xD5A79147, 0x06CA6351, 0x14292967] ++
  [0x27B70A85, 0x2E1B2138, 0x4D2C6DFC, 0x53380D13, 0x650A7354, 0x766A0ABB, 0x81C2C92E, 0x92722C85,
   0xA2BFE8A1, 0xA81A664B, 0xC24B8B70, 0xC76C51A3, 0xD192E819, 0xD6990624, 0xF40E3585, 0x106AA070,
   0x19A4C116, 0x1E376C08, 0x2748774C, 0x34B0BCB5, 0x391C0CB3, 0x4ED8AA4A, 0x5B9CCA4F, 0x682E6FF3,
   0x748F82EE, 0x78A5636F, 0x84C87814, 0x8CC70208, 0x90BEFFFA, 0xA4506CEB, 0xBEF9A3F7, 0xC67178F2]

/-- The initial hash value (FIPS 180-4, 5.3.3). -/
def shaInit : List (BitVec 32) :=
  [0x6A09E667, 0xBB67AE85, 0x3C6EF372, 0xA54FF53A, 0x510E527F, 0x9B05688C, 0x1F83D9AB, 0x5BE0CD19]

/-- One more word of the message schedule, which is held newest first. -/
def shaExtend (w : List (BitVec 32)) : List (BitVec 32) :=
  let a := w.getD 1 0
  let b := w.getD 14 0
  let s1 := a.rotateRight 17 ^^^ a.rotateRight 19 ^^^ a >>> 10
  let s0 := b.rotateRight 7 ^^^ b.rotateRight 18 ^^^ b >>> 3
  (s1 + w.getD 6 0 + s0 + w.getD 15 0) :: w

/-- The 64 words of the schedule of a block of 16. -/
def shaSchedule (b : List (BitVec 32)) : List (BitVec 32) :=
  ((List.range 48).foldl (fun w _ => shaExtend w) b.reverse).reverse

/-- One round, over the eight working variables. -/
def shaRound (v : List (BitVec 32)) (kw : BitVec 32 × BitVec 32) : List (BitVec 32) :=
  match v with
  | [a, b, c, d, e, f, g, h] =>
    let t1 := h + (e.rotateRight 6 ^^^ e.rotateRight 11 ^^^ e.rotateRight 25) + ((e &&& f) ^^^ (~~~e &&& g)) + kw.1 + kw.2
    let t2 := (a.rotateRight 2 ^^^ a.rotateRight 13 ^^^ a.rotateRight 22) + ((a &&& b) ^^^ (a &&& c) ^^^ (b &&& c))
    [t1 + t2, a, b, c, d + t1, e, f, g]
  | _ => v

/-- The hash value after one block. -/
def shaBlock (h b : List (BitVec 32)) : List (BitVec 32) :=
  List.zipWith (· + ·) h ((shaK.zip (shaSchedule b)).foldl shaRound h)

/-- Groups of four bytes as words, most significant byte first. -/
def shaWords : Bytes → List (BitVec 32)
  | a :: b :: c :: d :: t => (a ++ b ++ c ++ d) :: shaWords t
  | _ => []

/-- The hash value after `n` blocks of a padded message. -/
def shaBlocks : Nat → List (BitVec 32) → List (BitVec 32) → List (BitVec 32)
  | 0, _, h => h
  | n + 1, w, h => shaBlocks n (w.drop 16) (shaBlock h (w.take 16))

/-- The message with its padding (FIPS 180-4, 5.1.1). -/
def shaPad (m : Bytes) : Bytes :=
  m ++ [0x80] ++ List.replicate ((119 - m.length % 64) % 64) 0 ++ beBytes 8 (8 * m.length)

/-- SHA-256. -/
def sha256 (m : Bytes) : Bytes :=
  let p := shaPad m
  (shaBlocks (p.length / 64) (shaWords p) shaInit).flatMap fun w => beBytes 4 w.toNat

/-- HMAC-SHA-256 under a key of at most 64 bytes. -/
def hmacSha256 (key m : Bytes) : Bytes :=
  let k := key ++ List.replicate (64 - key.length) 0
  sha256 (k.map (· ^^^ 0x5C) ++ sha256 (k.map (· ^^^ 0x36) ++ m))

/-! ECDSA over P-256. -/

/-- The field prime of P-256. -/
def p256p : Nat := 0xFFFFFFFF00000001000000000000000000000000FFFFFFFFFFFFFFFFFFFFFFFF

/-- The group order. -/
def p256n : Nat := 0xFFFFFFFF00000000FFFFFFFFFFFFFFFFBCE6FAADA7179E84F3B9CAC2FC632551

/-- The coefficient b of the curve y² = x³ − 3x + b. -/
def p256b : Nat := 0x5AC635D8AA3A93E7B3EBBD55769886BC651D06B0CC53B0F63BCE3C3E27D2604B

/-- The base point. -/
def p256g : Nat × Nat :=
  (0x6B17D1F2E12C4247F8BCE6E563A440F277037D812DEB33A0F4A13945D898C296,
   0x4FE342E2FE1A7F9B8EE7EB4A7C0F9E162BCE33576B315ECECBB6406837BF51F5)

/-- `x ^ e` modulo `m`, for an exponent of 256 bits. -/
def powMod (m x e : Nat) : Nat :=
  (List.range 256).foldl (fun a k => if e.testBit (255 - k) then a * a % m * x % m else a * a % m) 1

/-- The inverse modulo a prime. -/
def invMod (m x : Nat) : Nat := powMod m (x % m) (m - 2)

/-- The third point of the line of slope `l` through two points of the curve. -/
def chord (l x1 y1 x2 : Nat) : Nat × Nat :=
  let x3 := (l * l + 2 * p256p - x1 - x2) % p256p
  (x3, (l * (x1 + p256p - x3) + p256p - y1) % p256p)

/-- Addition of points; `none` is the point at infinity. -/
def addPoint (a b : Option (Nat × Nat)) : Option (Nat × Nat) :=
  match a, b with
  | none, b => b
  | a, none => a
  | some (x1, y1), some (x2, y2) =>
    if x1 = x2 then
      (if (y1 + y2) % p256p = 0 then none
       else some (chord ((3 * x1 * x1 + p256p - 3) * invMod p256p (2 * y1) % p256p) x1 y1 x2))
    else some (chord ((y2 + p256p - y1) * invMod p256p (x2 + p256p - x1) % p256p) x1 y1 x2)

/-- `k` times a point, for `k` of 256 bits. -/
def mulPoint (k : Nat) (q : Nat × Nat) : Option (Nat × Nat) :=
  (List.range 256).foldl (fun a i =>
    let d := addPoint a a
    if k.testBit (255 - i) then addPoint d (some q) else d) none

/-- The point lies on the curve. -/
def onCurve (q : Nat × Nat) : Bool :=
  q.1 < p256p && q.2 < p256p && (q.2 * q.2) % p256p = (q.1 * q.1 * q.1 + (p256p - 3) * q.1 + p256b) % p256p

/-- ECDSA verification of the signature (r, s) over a SHA-256 digest under a public key. -/
def ecdsaVerify (q : Nat × Nat) (digest : Bytes) (r s : Nat) : Bool :=
  let w := invMod p256n s
  let z := beValue digest
  onCurve q && 0 < r && r < p256n && 0 < s && s < p256n &&
    (match addPoint (mulPoint (z * w % p256n) p256g) (mulPoint (r * w % p256n) q) with
     | some (x, _) => decide (x % p256n = r)
     | none => false)

end Sys2Proof.Machine
end

