-- ==== Sys2Proof/Machine/Evidence.lean ====
section
/-! DEFINITION. The evidence writer (chapter 8): chains and keys, event slots, seals, fills, gap records, draining and
its objects. -/

namespace Sys2Proof.Machine

/-! The seal chain (R189, R191). -/

/-- The 32 bytes of a key or of a stored record. -/
def bytes32 (k : BitVec 256) : Bytes := leBytes 32 k.toNat

/-- tag_n: its first byte is the least significant. -/
def blockTag (key : BitVec 256) (prev : BitVec 128) (n : Nat) (slots : List (BitVec 256)) : BitVec 128 :=
  BitVec.ofNat 128 (leValue
    ((hmacSha256 (bytes32 key) (leBytes 16 prev.toNat ++ leBytes 8 n ++ slots.flatMap bytes32)).take 16))

/-- A seal record: SOURCE `k`, half `k` of the tag. -/
def State.sealRec (s : State) (tag : BitVec 128) (k : Nat) : BitVec 256 :=
  ({ time := s.now, code := 0x71, source := k, flags := s.flagsNow,
     payload := tag.toNat / 2 ^ (64 * k) % 2 ^ 64 : Rec }).stored s.ev.num

/-- A key change whose LOG_KEY record stands in the sealed block governs from the next one. -/
def State.turnKey (s : State) : State :=
  match s.ev.keyNext with
  | none => s
  | some (k, id) =>
    let s : State := { s with ev := { s.ev with key := k, keyNext := none } }
    let s := s.set EV_KEY_CTRL_KEY_ID id
    if s.ev.keyQueue.isNone then s.set EV_STATUS_KEY_PENDING 0 else s

/-- The block seals: its tag, its two seal records, EV_CHAIN; the next block opens (R191, R196). -/
def State.sealBlock (s : State) : State :=
  let tag := blockTag s.ev.key s.ev.prevTag s.ev.num s.ev.openRecs
  let recs := s.ev.openRecs ++ [s.sealRec tag 0, s.sealRec tag 1]
  let n := s.ev.num
  let s : State := { s with ev := { s.ev with
    sealed := s.ev.sealed ++ [(⟨n, recs⟩ : Block)], openRecs := [], prevTag := tag, num := n + 1 } }
  let s := ((s.put64 0x2604 0 n).setMask 0x2604 2 4 tag.toNat).bump EV_COUNTS_BLOCKS
  let s := (s.set EV_STATUS_FILLING 0).turnKey
  if s.ev.sealed.length < 512 then s else s.set EV_STATUS_HOLDING 1

/-- A record takes the next event slot with its sequence number (R190). -/
def State.writeSlot (s : State) (r : Rec) : State :=
  let i := s.ev.openRecs.length
  let s := { s with ev := { s.ev with
    openRecs := s.ev.openRecs ++ [r.stored (62 * s.ev.num + i)], openUp := if i = 0 then s.frame.up else s.ev.openUp } }
  if i = 61 then s.sealBlock else s

/-- A record other than a fill. -/
def State.writeEvent (s : State) (r : Rec) : State := (s.bump EV_COUNTS_WRITTEN).writeSlot r

/-- A record that the writer registers itself. -/
def State.ownRec (s : State) (code source payload : Nat) : Rec :=
  { time := s.now, code := code, source := source, flags := s.flagsNow, payload := payload }

/-! The writer's cycle (R190, R193, R196, R197, R204). -/

/-- The writer runs: EVID is in RUN and the device out of reset. -/
def State.writerRuns (s : State) : Bool := s.clocked 0x1A && s.rst.held = []

/-- A chain starts with LOG_KEY in slot 0 of block 0 (R193). -/
def State.startChain (s : State) (reason : Nat) : State :=
  let s := (s.set EV_STATUS_CHAIN 1).set EV_STATUS_HOLDING 0
  let s := { s with ev := { s.ev with start := none, num := 0, openRecs := [], sealed := [], prevTag := 0 } }
  s.writeEvent (s.ownRec 0x72 0 (payloadOf [(s.get EV_KEY_CTRL_KEY_ID, 48), (reason, 40)]))

/-- LOG_KEY of a key change: the old key seals its block (R193). -/
def State.writeKey (s : State) (k : BitVec 256) (id time flags : Nat) : State :=
  let s : State := { s with ev := { s.ev with keyQueue := none, keyNext := some (k, id) } }
  s.writeEvent { time := time, code := 0x72, source := 0, flags := flags,
                 payload := payloadOf [(id, 48), (1, 40), (s.get EV_KEY_CTRL_KEY_ID, 16)] }

/-- A loss episode of the writer has ended (R197). -/
def State.gapEnded (s : State) (g : Gap) : Bool :=
  if g.source = 0 then s.ev.fifo.length ≤ 3968
  else if g.source = 1 then s.ev.fifo.length ≤ 4032
  else true

/-- In a cycle in which the writer can take records, the episodes that have ended are so marked (R197). -/
def State.endGaps (s : State) : State :=
  { s with ev := { s.ev with gaps := s.ev.gaps.map fun g => { g with ended := g.ended || s.gapEnded g } } }

/-- The ended episode of the lowest source. -/
def State.endedGap (s : State) : Option Gap :=
  (s.ev.gaps.filter Gap.ended).foldl (fun b g =>
    match b with
    | none => some g
    | some x => if g.source < x.source then some g else some x) none

/-- LOG_GAP. -/
def State.writeGap (s : State) (g : Gap) : State :=
  ({ s with ev := { s.ev with gaps := s.ev.gaps.erase g } } : State).writeEvent g.toRec

/-- A fill record (R192). -/
def State.writeFill (s : State) : State := (s.bump EV_COUNTS_FILLS).writeSlot (s.ownRec 0x71 2 0)

/-- The posting delay of a light record written now (R187). -/
def State.postingDelay (s : State) (cross : Option Nat) : State :=
  match cross with
  | none => s
  | some c =>
    let ns := s.nsSince c
    (s.set TS_POST_LAST_NS ns).raiseTo TS_POST_MAX_NS ns

/-- The oldest FIFO record is written. -/
def State.writeFifo (s : State) : State :=
  match s.ev.fifo with
  | [] => s
  | x :: xs => (({ s with ev := { s.ev with fifo := xs } } : State).postingDelay x.crossUp).writeEvent x.r

/-- One cycle of the writer. -/
def State.writerCycle (s : State) : State :=
  if !s.writerRuns then s
  else
    match s.ev.start with
    | some reason => s.startChain reason
    | none =>
      if !s.on EV_STATUS_CHAIN || s.on EV_STATUS_HOLDING then s
      else
        let s := s.endGaps
        match s.ev.keyQueue with
        | some (k, id, time, flags) => s.writeKey k id time flags
        | none =>
          match s.endedGap with
          | some g => s.writeGap g
          | none => if s.on EV_STATUS_FILLING then s.writeFill else s.writeFifo

/-- EVIDENCE_RECORD_WRITE (R190). -/
def execEvidenceRecordWrite (s : State) : Host.Outcome State Fault Refusal := .next s.writerCycle

/-- The open block is older than SEAL_TIMEOUT (R192). -/
def State.sealDue (s : State) : Bool :=
  let t := s.get EV_CTRL_SEAL_TIMEOUT
  0 < t && s.on EV_STATUS_CHAIN && s.ev.openRecs ≠ [] && !s.on EV_STATUS_FILLING && s.ev.openUp + 3000 * t ≤ s.frame.up

/-- SEAL_TIMEOUT: a record that is ready goes first, in the writer's order, and the timeout is looked at again (R204). -/
def State.sealTimeout (s : State) : State :=
  if !s.writerRuns || !s.sealDue then s
  else
    let s := s.writerCycle
    if s.sealDue then s.set EV_STATUS_FILLING 1 else s

/-- SEAL_TIMEOUT (R192). -/
def execSealTimeout (s : State) : Host.Outcome State Fault Refusal := .next s.sealTimeout

/-- CHAIN_RESTART: the pending chain of reason 2 starts (R193). -/
def execChainRestart (s : State) : Host.Outcome State Fault Refusal :=
  .next (if s.writerRuns && s.ev.start = some 2 then s.startChain 2 else s)

/-! Objects (R192 to R194, R199). -/

/-- The open block is to be closed by fills, where it holds a record. -/
def State.sealNow (s : State) : State :=
  if s.on EV_STATUS_CHAIN && s.ev.openRecs ≠ [] then s.set EV_STATUS_FILLING 1 else s

/-- EV_CTRL: with SEAL_NOW = 1 and no record in the open block the write changes nothing (R192). -/
def State.wEvCtrl (s : State) (v : Word) : Nat × State :=
  let t := v.bits 19 0
  if (1 ≤ t ∧ t ≤ 9) ∨ 1000000 < t then (stRange, s)
  else if v.bits 31 31 = 0 then (stOk, s.set EV_CTRL_SEAL_TIMEOUT t)
  else if s.on EV_STATUS_CHAIN && s.ev.openRecs ≠ [] then (stOk, (s.set EV_CTRL_SEAL_TIMEOUT t).sealNow)
  else (stOk, s)

/-- The eight key words as one number, key byte 0 least significant. -/
def State.keyWords (s : State) : BitVec 256 := BitVec.ofNat 256 (s.maskOf 0x2602 0 8)

/-- An accepted COMMIT (R193): the words clear; a chain starts or changes its key. -/
def State.commitKey (s : State) (id : Nat) : State :=
  let k := s.keyWords
  let s := (s.setMask 0x2602 0 8 0).bump EV_COUNTS_KEY_CHANGES
  if s.on EV_STATUS_CHAIN then
    { s.set EV_STATUS_KEY_PENDING 1 with ev := { s.ev with keyQueue := some (k, id, s.now, s.flagsNow) } }
  else
    { s.set EV_KEY_CTRL_KEY_ID id with ev := { s.ev with key := k, keySet := true, start := some 0 } }

/-- EV_KEY_CTRL (R194, R237): a write that would clear LOCK is refused whole with ACCESS; COMMIT is judged against the
LOCK in force; LOCK takes effect after it. -/
def State.wEvKeyCtrl (s : State) (v : Word) : Nat × State :=
  let id := v.bits 15 0
  let lock := fun (s : State) => if v.bits 30 30 = 1 then s.set EV_KEY_CTRL_LOCK 1 else s
  if s.on EV_KEY_CTRL_LOCK && v.bits 30 30 = 0 then (stAccess, s)
  else if v.bits 31 31 = 1 then
    (if s.on EV_KEY_CTRL_LOCK || s.on EV_STATUS_KEY_PENDING then (stState, s) else (stOk, lock (s.commitKey id)))
  else if id ≠ s.get EV_KEY_CTRL_KEY_ID then (stRange, s)
  else (stOk, lock s)

/-- The head: the number of the oldest unacknowledged sealed block, or of the block that will be. -/
def State.evHead (s : State) : Nat :=
  match s.ev.sealed with
  | [] => s.ev.num
  | b :: _ => b.num

/-- EV_ACK (R199); the writer resumes where it held (R196). -/
def State.wEvAck (s : State) (v : Word) : Nat × State :=
  let n := v.bits 9 0
  if v.bits 31 16 ≠ s.evHead % 65536 ∨ n = 0 ∨ s.ev.sealed.length < n then (stRange, s)
  else
    let s := (s.set EV_STATUS_HOLDING 0).set EV_STATUS_ECC_ERR 0
    (stOk, { s with ev := { s.ev with sealed := s.ev.sealed.drop n } })

/-- EV_FIFO: writing 0 to MAX clears it. -/
def State.wEvFifo (s : State) (v : Word) : Nat × State :=
  if v.bits 28 16 = 0 then (stOk, s.set EV_FIFO_MAX 0) else (stRange, s)

/-! Reading (R198, R200). -/

/-- Word `k` of a stored record. -/
def recWord (r : BitVec 256) (k : Nat) : Word := BitVec.ofNat 32 (r.toNat / 2 ^ (32 * k))

/-- Word `n` of a list of records, zero beyond it. -/
def recsWord (l : List (BitVec 256)) (n : Nat) : Word := (l[n / 8]?).elim 0 fun r => recWord r (n % 8)

/-- EV_RD_DATA. -/
def State.evRdData (s : State) (n : Nat) : Word :=
  match s.ev.sealed with
  | [] => 0
  | b :: _ => recsWord b.recs n

/-- EV_OPEN_DATA. -/
def State.evOpenData (s : State) (n : Nat) : Word := recsWord s.ev.openRecs n

/-- EV_READ (Table 8-7). -/
def State.evRead (s : State) (sub : Nat) : Word :=
  let h := s.evHead
  if sub = 0 then BitVec.ofNat 32 h
  else if sub = 1 then BitVec.ofNat 32 (h / 2 ^ 32)
  else if sub = 2 then BitVec.ofNat 32 (s.ev.openRecs.length * 2 ^ 16 + s.ev.sealed.length)
  else if sub = 3 then BitVec.ofNat 32 s.ev.num
  else BitVec.ofNat 32 (s.ev.num / 2 ^ 32)

/-- What the SECDED check of a buffer word found (R200). -/
def State.evEcc (s : State) (o : EccOutcome) : State :=
  let (o, s) := s.checked 26 o
  match o with
  | .clean => s
  | .corrected => s.bump EV_COUNTS_ECC_CORRECTED
  | .uncorrected => ((s.bump EV_COUNTS_ECC_UNCORRECTED).set EV_STATUS_ECC_ERR 1).raise 26 unitDevice

/-! Resets and low-power states (R201, Table 8-5). -/

/-- Domain reset of EVID: the FIFO is lost and declared by LOG_GAP SOURCE 3. -/
def State.loseFifo (s : State) : State :=
  let s := s.ev.fifo.foldl (fun s x => s.lose 3 x.r) s
  { s with ev := { s.ev with fifo := [] } }

/-- A device reset: everything but the key and its lock is lost; a kept key starts a new chain. A key change not yet at
its block boundary has been committed, so the new key governs (log entry 21). -/
def State.resetLog (s : State) (keepKey : Bool) : State :=
  let last := match s.ev.keyQueue with
    | some (k, id, _) => some (k, id)
    | none => s.ev.keyNext
  if keepKey && s.ev.keySet then
    let (k, s) := match last with
      | some (k, id) => (k, s.set EV_KEY_CTRL_KEY_ID id)
      | none => (s.ev.key, s)
    { s with ev := { key := k, keySet := true, start := some 2 } }
  else { s with ev := {} }

end Sys2Proof.Machine
end

