-- ==== Sys2Proof/Machine/Timing.lean ====
section
/-! DEFINITION. The timing synthesiser (chapter 2): band search, lock, coasting and re-lock, the fractional divider,
and its objects. -/

namespace Sys2Proof.Machine

/-! Readings. -/

/-- TC_STATUS.STATE (Table 2-13). -/
def State.tc (s : State) : Nat := s.get TC_STATUS_STATE

/-- A lane pair's receiver has block lock: it has left BLOCK_LOCK of Table 9-9. -/
def State.blockLocked (s : State) (p : Nat) : Bool := 3 ≤ s.rd FL_STATUS_STATE p

/-- The selected port's URX has block lock (R221, REF_PRESENT). -/
def State.refPresent (s : State) : Bool := s.blockLocked (2 * s.timingPort)

/-- The loop coasts or re-locks (R32, R41). -/
def State.coasting (s : State) : Bool := s.tc = 5 || s.tc = 6

/-- A band search is in progress: STATE SEARCH, or ACQUIRE with LOCK = 0 (R32). -/
def State.searching (s : State) : Bool := (s.tc = 2 || s.tc = 3) && !s.on TC_STATUS_LOCK

/-- COAST_TIME as it reads (Table 2-23): it runs while coasting and holds its value after re-lock. -/
def State.coastTime (s : State) : Nat :=
  if s.coasting then s.usSince s.timing.coastUp else s.get TC_COAST_COAST_TIME

/-! The divider (R40 to R43). -/

/-- The DCO frequency in units of 78.125 MHz / 16,777,215. -/
def dcoUnits (pre ratio : Nat) : Nat := refUnits pre * ratio

/-- 6.0 GHz in the same units. -/
def dcoNominal : Nat := dcoUnits 0 (nominalRatio 0)

/-- The divider in force. -/
def State.setDiv (s : State) (pre ratio : Nat) : State :=
  let s := (s.set TC_DIV_ACTIVE_PRESCALE pre).set TC_STATUS_PRESCALE pre
  (s.set TC_DIV_ACTIVE_NINT (ratio / modulus)).set TC_DIV_ACTIVE_FRAC (ratio % modulus)

/-- The offset in force in FRAC LSB. -/
def State.offsetLsb (s : State) : Int := (s.ratio : Int) - nominalRatio s.prescale

/-- FRAC LSB of an offset in 1/256 ppb (R42). -/
def lsbOf (pre : Nat) (offset : Int) : Int := roundDiv ((nominalRatio pre : Int) * offset) 256000000000

/-- The offset, 1/256 ppb, that FRAC LSB represent (R42). -/
def offsetOf (pre : Nat) (lsb : Int) : Int := roundDiv (lsb * 256000000000) (nominalRatio pre)

/-- TC_TRACK_NOW reports the offset that the divider applies. -/
def State.reportTrack (s : State) : State := s.setI TC_TRACK_NOW (offsetOf s.prescale s.offsetLsb)

/-! Bandwidth and coefficients (R36, R37). -/

/-- The bandwidth that TC_CONTROL asks for: 0xF for JC = 1 (Table 2-13). -/
def State.wantedBw (s : State) : Nat := if s.on TC_CONTROL_JC then 0xF else s.get TC_CONTROL_BW

/-- It comes into force. -/
def State.takeBw (s : State) : State := s.set TC_STATUS_BW s.wantedBw

/-! Effects shared by several steps. -/

/-- The drive synthesiser stops. -/
def State.dsOff (s : State) : State :=
  let s := ((s.set DS_STATUS_STATE 0).set DS_STATUS_LOCK 0).set DS_STATUS_READY 0
  let s := (s.set DS_STATUS_BACKUP 0).set DS_STATUS_SSC_ACTIVE 0
  { s with clocks := { s.clocks with dsPhase := 0, pdmTick := none } }

/-- FCLK, HCLK and AON return to the link source (R68); the stored settings come into force. -/
def State.fallback (s : State) : State :=
  let s := (s.set CK_STATUS_SRC 0).set CK_STATUS_FALLBACK 1
  { s.bump CK_COUNT_FALLBACK_COUNT with clocks := { s.clocks with link := s.word 0x2202 0 } }

/-- TC_TRACK_NOW returns to 0 (Table 14-5); in tracking mode the divider has the nominal ratio again. -/
def State.dropTrack (s : State) : State :=
  let s := s.set TC_TRACK_NOW 0
  if s.on TC_CONTROL_DIV_MODE then s.setDiv s.prescale (nominalRatio s.prescale) else s

/-- CLK_READY clears (R47, R66, R68, R161; Table 3-5). A switch at steps 1 or 2 is abandoned and its GO stays
unanswered (log entry 84); one at steps 3 or 4 completes first and its response still goes out; which step runs is not
stated by the command and is left free. -/
def State.clearReady (s : State) : State :=
  let was := s.on TC_STATUS_CLK_READY
  let s := (s.set TC_STATUS_CLK_READY 0).set CK_STATUS_READY_SEEN 0
  let (late, s) := if s.on CK_STATUS_SWITCH_BUSY then s.freeBit else (false, s)
  let s := if late then (s.bump CK_COUNT_SWITCH_COUNT).set CK_STATUS_SRC 1 else s
  let s := { s.set CK_STATUS_SWITCH_BUSY 0 with clocks := { s.clocks with
    owed := if late then s.clocks.reply else s.clocks.owed, reply := none } }
  let s := if s.on CK_STATUS_SRC then s.fallback else s
  if was then s.dropTrack.dsOff.unsetTime.stopPorts else s

/-- The survey stops for HOLDOVER: it ends at the next tick and restores (R141); one not yet entered does not start. -/
def State.surveyHoldover (s : State) : State :=
  if s.get SV_STATUS_STATE = 0 then { s with survey := { s.survey with entry := none } }
  else if s.get SV_STATUS_STATE = 6 then s
  else { s with survey := { s.survey with abort := true, result := 3, entry := some (s.frame.ticks + 1) } }

/-- FERR_EST from the temperature change since coasting began (R53). -/
def State.ferrByTemp (s : State) : Nat :=
  100 + (roundDiv (500 * (s.getI TH_TIME_TEMP_TEMP - s.timing.coastTemp).natAbs) 16).toNat

/-- The frequency-estimate source, at most once per episode (R53). -/
def State.judgeFerr (s : State) : State :=
  let lim := s.get TC_FERR_LIMIT_LIMIT
  if s.coasting && 0 < lim && lim < s.get TC_COAST_FERR_EST && !s.timing.ferrRaised then
    ({ s with timing := { s.timing with ferrRaised := true } } : State).raise 17 unitDevice
  else s

/-- The estimate follows the sensor before the first completed trim window and while trimming is inactive. -/
def State.followFerr (s : State) : State :=
  if s.coasting && !(s.timing.trimmed && s.on TC_STATUS_TRIM_ACTIVE) then
    (s.set TC_COAST_FERR_EST s.ferrByTemp).judgeFerr
  else s

/-- A waiting divider commit is dropped, and DIV_DISCARD tells so (Table 2-12; log entry 85). -/
def State.dropCommit (s : State) : State :=
  if s.timing.commit.isSome then
    { s.set TC_STATUS_DIV_DISCARD 1 with timing := { s.timing with commit := none } }
  else s

/-- A coasting episode begins: its clock, its sensor reading, its sources and its trims (R51 to R53). -/
def State.beginEpisode (s : State) (byRef : Bool) : State :=
  let s := (s.set TC_STATUS_TRIM_ACTIVE 0).setI TC_COAST_TRIM_TOTAL 0
  { s with timing := {
    s.timing with
    phase := 0, fromStored := false, coastUp := s.frame.up, byRef := byRef, coastTemp := s.getI TH_TIME_TEMP_TEMP,
    coastRaised := false, ferrRaised := false, trimmed := false, trimFirst := none, trimLast := none
    trimUp := s.frame.up } }

/-- Coasting begins (R49): codes frozen and the integrator with them, LOCK clear, COAST on records from now on, HOLDOVER
from SERVICE and SURVEY, a waiting commit dropped. The lock loss of Table 2-8 is posted as the MODE record alone: Table
7-4 has no code for another (log entry 86). -/
def State.startCoast (s : State) (byRef : Bool) (fine : Nat) : State :=
  let s := ((s.set TC_STATUS_STATE 5).set TC_STATUS_LOCK 0).setFine fine
  let s := s.dropCommit.beginEpisode byRef
  let s := { s with time := { s.time with coast := true } }
  let s := if s.on TC_STATUS_CLK_READY then s.holdTime else s
  let s := if s.modeNow = modeService ∨ s.modeNow = modeSurvey then s.surveyHoldover.setMode modeHoldover 4 else s
  s.followFerr

/-- The band search starts at a phase: STATE SEARCH for phases 1 to 4, ACQUIRE for 5 to 7 (Table 2-13). -/
def State.enterPhase (s : State) (n : Nat) : State :=
  let s := s.set TC_STATUS_STATE (if n ≤ 4 then 2 else 3)
  let s := if n = 5 then s.set TC_STATUS_BW 6 else if n = 7 then s.takeBw else s
  { s with timing := { s.timing with phase := n } }

/-- The search is abandoned: AWAIT_REF, the DCO stops, no stored result is used (R45). -/
def State.abandonSearch (s : State) : State :=
  let s := (s.set TC_STATUS_STATE 1).bump TC_COUNT_SEARCH_ABORTS
  { s with timing := { s.timing with phase := 0, fromStored := false } }

/-- Block lock of the reference: a waiting search starts from phase 1 (R44, R45). -/
def State.startSearch (s : State) : State := if s.tc = 1 && s.refPresent then s.enterPhase 1 else s

/-- Reference loss (R34, R45, R49, R50, R61): nothing watches before phase 2; abandoned search, coasting, or back to
coasting; a waiting commit is dropped. -/
def State.refLoss (s : State) (fine : Nat) : State :=
  if s.tc ≤ 1 ∨ s.timing.phase = 1 then s
  else
    let s := (s.bump TC_COUNT_REF_LOSS_COUNT).set TC_STATUS_REF_OFF_FREQ 0
    if s.searching then s.dropCommit.abandonSearch
    else if s.tc = 6 then (s.dropCommit.set TC_STATUS_STATE 5).bump TC_COUNT_RELOCK_ABORTS
    else if s.tc = 5 then s
    else s.startCoast true fine

/-- The trim window is discarded: the non-timing port's URX loses block lock (Table 2-12), or PORT_SEL makes another
port the non-timing one (log entry 87). -/
def State.loseTrim (s : State) : State :=
  let s := s.set TC_STATUS_TRIM_ACTIVE 0
  ({ s with timing := { s.timing with trimFirst := none, trimLast := none, trimUp := s.frame.up } } : State).followFerr

/-! Start-up (R44 to R47, R60, R267). -/

/-- HKP, LINKA, LINKB and EVID are started on the link source, in that order (Table 11-3 step 2). -/
def State.startBootDomains (s : State) : State :=
  let s := State.eachIn [0x1C, 0x1D, 0x1E, 0x1A] (fun d s => if s.domState d = 0 then s.wr PW_DOMAIN_STATE d 1 else s) s
  { s with boot := { s.boot with served := true } }

/-- A pair reaches block lock: HELLOs begin anew, and VERSION_MAX applies to this link-up (R208, R219). -/
def State.blockLock (s : State) (p : Nat) : State :=
  if s.rd FL_STATUS_STATE p = 2 then
    let s := s.wr FL_STATUS_STATE p 3
    s.setPair p { s.pair p with
      hellos := 0, peer := none, agreed := 0, toldAgreed := false, noVersion := false
      offer11 := s.rd FL_CTRL_VERSION_MAX (p / 2) = 1 }
  else s

/-- TIMING_PORT_BLOCK_LOCK: the boot sequencer proceeds (Table 11-3). -/
def State.portLock (s : State) : State :=
  let p := 2 * s.timingPort
  if s.rst.held ≠ [] || s.rd FL_STATUS_STATE p < 2 then s
  else
    let s := s.blockLock p
    if s.tc = 1 then
      let s := { s with timing := { s.timing with lockUp := s.frame.up } }
      let s := if s.boot.served then s else s.startBootDomains
      s.startSearch
    else s

/-- Lock is declared at the end of phase 6 (R47): outputs released, the frame counter starts at frame 0 with the
dividers aligned to even frames (R57), θ zero (R35). -/
def State.declareLock (s : State) (x : BandMeas) : State :=
  let s := (((s.set TC_STATUS_LOCK 1).bump TC_COUNT_LOCK_COUNT).setFine x.fine).set TC_DCO_FINE_s01 x.fine
  let s := s.setLoop { s.timing.loop with theta := 0, pulses := [] }
  let s := State.each 6 (fun k s => s.wr TC_OUTDIV_RUNNING k 1) s
  let s := if s.frame.running then s else
    let s := State.eachIn [3, 4] (fun k s => s.wr TC_OUTDIV_ALIGN_ODD k 0) s
    { s with frame := { running := true, tc := 0, frame := 0, ticks := s.frame.ticks + 1, up := s.frame.up } }
  s.enterPhase 7

/-- The stored band and fine code come into force (R41, R60). -/
def State.takeStored (s : State) : State :=
  let s := (s.set TC_DCO_COARSE (s.get TC_DCO_COARSE_s01)).set TC_DCO_MEDIUM (s.get TC_DCO_MEDIUM_s01)
  s.setFine (s.get TC_DCO_FINE_s01)

/-- BAND_SEARCH_PHASE_END: what the phase found comes into force, and the next begins (Table 2-7). The gain that phase 4
measures is G as the loop goes on measuring it (R35). -/
def State.phaseEnd (s : State) (x : BandMeas) : State :=
  match s.timing.phase with
  | 1 =>
    if !s.refPresent then s
    else if s.timing.fromStored then s.takeStored.enterPhase 5 else s.enterPhase 2
  | 2 => (s.set TC_DCO_COARSE x.coarse).enterPhase 3
  | 3 =>
    let s := (s.set TC_DCO_MEDIUM x.medium).set TC_DCO_MEDIUM_s01 x.medium
    (s.set TC_DCO_COARSE_s01 (s.get TC_DCO_COARSE)).enterPhase 4
  | 4 =>
    let s := (s.set TC_DCO_MED_STEP x.medStep).set TC_DCO_KDCO x.kdco
    let s := s.setLoop { s.timing.loop with gain := x.tdcGain % 65536, theta := 0, pulses := [] }
    (s.setFine 32768).enterPhase 5
  | 5 => (s.setFine x.fine).enterPhase 6
  | 6 => s.declareLock x
  | 7 =>
    let s := (s.set TC_STATUS_STATE 4).setFine x.fine
    { s with timing := { s.timing with phase := 0, fromStored := false } }
  | _ => s

/-- BAND_SEARCH_PHASE_END (R44). -/
def execBandSearchPhaseEnd (x : BandMeas) (s : State) : Host.Outcome State Fault Refusal :=
  .next (if s.searching || s.timing.phase = 7 then s.phaseEnd x else s)

/-- SEARCH_FAIL_TIMEOUT: phase 6 restarts the search, from phase 2 where it ran from the stored band (R60); phase 7
starts again with LOCK and CLK_READY kept (R46). -/
def State.searchFail (s : State) : State :=
  if s.timing.phase = 6 then
    let n := if s.timing.fromStored then 2 else 1
    let s := (s.bump TC_COUNT_SEARCH_FAILS).clearReady
    ({ s with timing := { s.timing with fromStored := false } } : State).enterPhase n
  else if s.timing.phase = 7 then (s.bump TC_COUNT_SEARCH_FAILS).enterPhase 7
  else s

/-- The instant of CLK_READY: 64 reference cycles after lock (R47); DORMANT exit enters BOOT (R279). -/
def State.setReady (s : State) : State :=
  if s.frame.running && s.rst.held = [] && !s.on TC_STATUS_CLK_READY && (s.on TC_STATUS_LOCK || s.coasting) then
    let s := (s.set TC_STATUS_CLK_READY 1).set BT_LOCK_TIME_US (s.usSince s.timing.lockUp)
    let s := { s with time := { s.time with syncUp := s.frame.up } }
    let s := if s.coasting then s.holdTime else s
    if s.boot.waking then
      let s := { s with boot := { s.boot with waking := false } }
      if s.modeNow = modeDormant then s.setMode modeBoot 7
      else if s.modeNow = modeSafe && s.get SF_STATE_STATE = 0 then s.setMode modeBoot 9
      else s
    else s
  else s

/-- CLK_READY_SET (R47). -/
def execClkReadySet (s : State) : Host.Outcome State Fault Refusal := .next s.setReady

/-! Loss, coasting and re-lock (R34, R48 to R53). -/

/-- REFERENCE_LOSS by missing edges, or by block lock where the loss of the pair has not been declared (R34). -/
def execReferenceLoss (fine : Nat) (s : State) : Host.Outcome State Fault Refusal :=
  .next (if s.tc = 5 && !s.refPresent then s else s.refLoss fine)

/-- The unlock criteria ignore the 64 reference cycles after a divider commit's edge (R41). -/
def State.unlockMasked (s : State) : Bool :=
  s.timing.loop.edge.any fun u => decide (5 * (s.frame.up - u) < 64 * s.refFifths)

/-- A lock loss (R48, R49); one of the reference cycle in which a reference loss began the episode is counted and no
more (Table 2-12). -/
def State.lockLoss (s : State) (fine : Nat) : State :=
  if s.on TC_STATUS_LOCK then (if s.unlockMasked then s else (s.bump TC_COUNT_UNLOCK_COUNT).startCoast false fine)
  else if s.tc = 5 && s.timing.byRef && decide (5 * (s.frame.up - s.timing.coastUp) < s.refFifths) then
    { s.bump TC_COUNT_UNLOCK_COUNT with timing := { s.timing with byRef := false } }
  else s

/-- LOCK_LOSS (R48, R49). -/
def execLockLoss (fine : Nat) (s : State) : Host.Outcome State Fault Refusal := .next (s.lockLoss fine)

/-! Divider steps (R41, R42). -/

/-- TRACK_RAMP_STEP: one FRAC LSB toward the target (R42). -/
def State.rampStep (s : State) : State :=
  let goal := lsbOf s.prescale (s.getI TC_TRACK_TARGET)
  let k := s.offsetLsb
  if s.on TC_CONTROL_DIV_MODE && s.on TC_STATUS_LOCK && decide (k ≠ goal) then
    (s.setDiv s.prescale (if k < goal then s.ratio + 1 else s.ratio - 1)).reportTrack
  else s

/-- TRACK_RAMP_STEP (R42). -/
def execTrackRampStep (s : State) : Host.Outcome State Fault Refusal := .next s.rampStep

/-- The frequency moves by more than 20 ppm. -/
def beyond20 (old new : Nat) : Bool := decide (old < 50000 * ((new : Int) - old).natAbs)

/-- The ratio of a tracking-mode commit: the new pre-scaler's nominal ratio and the offset in force (R42). -/
def State.trackRatio (s : State) (pre : Nat) : Nat :=
  ((nominalRatio pre : Int) + lsbOf pre (s.getI TC_TRACK_NOW)).toNat

/-- A re-lock from the stored band without HOLDOVER (R41, R50): the stored codes, the phase error averaged into θ (what
it measures is free), and an episode of its own for COAST_TIME and the coasting sources (log entry 88). -/
def State.relockStored (s : State) : State :=
  let s := ((s.set TC_STATUS_STATE 6).set TC_STATUS_LOCK 0).takeStored.takeBw
  let (x, s) := s.free
  let s := s.setI TC_COAST_RELOCK_OFFSET (signedOf 32 x.toNat)
  let s := s.setLoop { s.timing.loop with theta := signedOf 32 x.toNat, pulses := [] }
  (s.beginEpisode false).followFerr

/-- DIV_COMMIT_APPLY: once no pulse runs, all three values change on one edge; in BOOT a move beyond 20 ppm is a
re-lock (R41). -/
def State.applyDiv (s : State) : State :=
  match s.timing.commit with
  | none => s
  | some (pre, r) =>
    let s := s.waitPulses
    let s := { s with timing := { s.timing with
      commit := none, loop := { s.timing.loop with edge := some s.frame.up } } }
    let old := dcoUnits s.prescale s.ratio
    let new := r.getD (s.trackRatio pre)
    let s := s.setDiv pre new
    let s := if s.on TC_CONTROL_DIV_MODE then s.reportTrack else s
    if s.modeNow = modeBoot && s.on TC_STATUS_LOCK && beyond20 old (dcoUnits pre new) then s.relockStored else s

/-- DIV_COMMIT_APPLY (R41). -/
def execDivCommitApply (s : State) : Host.Outcome State Fault Refusal := .next s.applyDiv

/-! Recentring (R39). -/

/-- A band move toward the fine code's excursion. A medium move is compensated by the measured medium step; the fine
code after a coarse move is not derivable from what the manual gives and is a free value. At the ends of the coarse
range the code stays: the spec gives no outcome there (log entry 89). -/
def State.bandMove (s : State) (up : Bool) : State :=
  let m := s.get TC_DCO_MEDIUM
  let atEnd := if up then m = 63 else m = 0
  let s := s.bump TC_COUNT_RECENTRE_COUNT
  let s :=
    if atEnd then
      let c := s.get TC_DCO_COARSE
      let (f, s) := s.free
      ((s.set TC_DCO_COARSE (if up then min (c + 1) 255 else c - 1)).set TC_DCO_MEDIUM 32).setFine (f.toNat % 65536)
    else
      let k : Int := if up then -(s.get TC_DCO_MED_STEP : Int) else s.get TC_DCO_MED_STEP
      (s.set TC_DCO_MEDIUM (if up then m + 1 else m - 1)).setFine (clampInt 0 65535 ((s.fine : Int) + k)).toNat
  (s.set TC_DCO_COARSE_s01 (s.get TC_DCO_COARSE)).set TC_DCO_MEDIUM_s01 (s.get TC_DCO_MEDIUM)

/-- The fine code lies in the centring window (R39). -/
def centred (fine : Nat) : Bool := 24576 ≤ fine && fine ≤ 40959

/-- RECENTRE: while locked, for a fine code outside the window; a waiting divider commit applies first, and the move
waits for the running pulses (R39, R61). -/
def State.recentre (s : State) (fine : Nat) : State :=
  if !s.on TC_STATUS_LOCK || centred (fine % 65536) then s
  else
    let s := s.applyDiv
    if s.on TC_STATUS_LOCK then (s.waitPulses.setFine (fine % 65536)).bandMove (decide (40959 < fine % 65536)) else s

/-- RECENTRE (R39). -/
def execRecentre (fine : Nat) (s : State) : Host.Outcome State Fault Refusal := .next (s.recentre fine)

/-! Re-lock and trimming (R50 to R53). -/

/-- REFERENCE_QUALIFIED (R50): a reference outside ±20 ppm only sets REF_OFF_FREQ; one within it starts the re-lock
with the phase error averaged over 64 reference cycles as θ. -/
def State.qualify (s : State) (within : Bool) (offset : Int) : State :=
  if s.tc = 5 && s.refPresent then
    (if within then
      let s := ((s.set TC_STATUS_REF_OFF_FREQ 0).set TC_STATUS_STATE 6).takeBw.setI TC_COAST_RELOCK_OFFSET offset
      s.setLoop { s.settlePulses.timing.loop with theta := offset }
     else s.set TC_STATUS_REF_OFF_FREQ 1)
  else s

/-- REFERENCE_QUALIFIED (R50). -/
def execReferenceQualified (within : Bool) (offset : Int) (s : State) : Host.Outcome State Fault Refusal :=
  .next (s.qualify within offset)

/-- RELOCK_LOCK: LOCK sets; HOLDOVER ends at the next tick; the time base resumes (R50, R175). -/
def State.relock (s : State) : State :=
  if s.tc = 6 then
    let s := s.set TC_COAST_COAST_TIME s.coastTime
    let s := ((s.set TC_STATUS_STATE 4).set TC_STATUS_LOCK 1).bump TC_COUNT_LOCK_COUNT
    let s := (s.set TC_STATUS_TRIM_ACTIVE 0).set TC_DCO_FINE_s01 s.fine
    let s := if s.modeNow = modeHoldover then
        { s with mode := { s.mode with next := some (modeService, 5, s.frame.ticks + 1) } }
      else s
    s.resumeTime
  else s

/-- RELOCK_LOCK (R50). -/
def execRelockLock (s : State) : Host.Outcome State Fault Refusal := .next s.relock

/-- RELOCK_TIMEOUT (R50). -/
def execRelockTimeout (s : State) : Host.Outcome State Fault Refusal :=
  .next (if s.tc = 6 then (s.set TC_STATUS_STATE 5).bump TC_COUNT_RELOCK_ABORTS else s)

/-- 1 ppm in 1/256 ppb. -/
def onePpm : Int := 256000

/-- The frequency error that a trim window has measured, 1/256 ppb: the elapsed local time between its first and last
marks against their nominal spacing; none for fewer than two marks (R51). The marks are stamped in whole units; `tdc` is
what the TDC adds to the elapsed time below one unit, in 1/256 of it. -/
def State.trimError (s : State) (tdc : Int) : Option Int :=
  match s.timing.trimFirst, s.timing.trimLast with
  | some (l0, n0), some (l1, n1) =>
    if n0 < n1 then some
      (roundDiv (((((l1 : Int) - l0) - ((n1 : Int) - n0)) * 256 + clampInt (-255) 255 tdc) * 1000000000) (n1 - n0)) else none
  | _, _ => none

/-- TRIM_WINDOW_END (R51, R53). A window with fewer than two marks applies no correction and leaves TRIM_ACTIVE as it
is (log entry 87). -/
def State.trimEnd (s : State) (tdc : Int) : State :=
  let e := s.trimError tdc
  let s := { s with timing := { s.timing with trimFirst := none, trimLast := none, trimUp := s.frame.up } }
  match e with
  | none => s
  | some err =>
    if s.tc = 5 && s.on TC_CONTROL_TRIM_EN && s.blockLocked (2 * (1 - s.timingPort)) then
      let c := -(clampInt (-onePpm) onePpm err)
      let codes := roundDiv (c * 6) (s.get TC_DCO_KDCO)
      let s := s.setFine (clampInt 0 65535 ((s.fine : Int) + codes)).toNat
      let s := s.setI TC_COAST_TRIM_TOTAL (s.getI TC_COAST_TRIM_TOTAL + c)
      let s := (s.set TC_STATUS_TRIM_ACTIVE 1).set TC_COAST_FERR_EST ((roundDiv err.natAbs 256).toNat + 20)
      ({ s with timing := { s.timing with trimmed := true } } : State).judgeFerr
    else s

/-- TRIM_WINDOW_END (R51). -/
def execTrimWindowEnd (tdc : Int) (s : State) : Host.Outcome State Fault Refusal := .next (s.trimEnd tdc)

/-- COAST_LIMIT_EXCEEDED: once per episode, when COAST_TIME reads more than 1,000 × LIMIT (R53). -/
def State.coastLimit (s : State) : State :=
  let lim := s.get TC_COAST_LIMIT_LIMIT
  if s.coasting && 0 < lim && 1000 * lim < s.coastTime && !s.timing.coastRaised then
    ({ s with timing := { s.timing with coastRaised := true } } : State).raise 16 unitDevice
  else s

/-- COAST_LIMIT_EXCEEDED (R53). -/
def execCoastLimitExceeded (s : State) : Host.Outcome State Fault Refusal := .next s.coastLimit

/-! Objects (R32, R36, R41 to R43, R55, R62). -/

/-- TC_REF (R32). While coasting or re-locking the write also clears REF_OFF_FREQ, which told of the old port, and
discards the trim window: the spec is silent on both (log entry 87). -/
def State.wTcRef (s : State) (v : Word) : Nat × State :=
  let p := v.bits 4 4
  if s.modeNow = modeBoot && 1 ≤ s.tc && s.tc ≤ 3 && !s.on TC_STATUS_LOCK then
    let s := if s.searching then s.abandonSearch else s
    (stOk, (s.set TC_REF_PORT_SEL p).startSearch)
  else if s.coasting then
    (stOk, (((s.set TC_REF_PORT_SEL p).set TC_STATUS_STATE 5).set TC_STATUS_REF_OFF_FREQ 0).loseTrim)
  else (stState, s)

/-- The change of DIV_MODE is bumpless (R43). -/
def State.changeDivMode (s : State) (old new : Nat) : State :=
  if old = 1 ∧ new = 0 then (s.setWord 0x2004 0 (s.word 0x2003 0)).setWord 0x2004 1 (s.word 0x2003 1)
  else if old = 0 ∧ new = 1 then
    let o := offsetOf s.prescale s.offsetLsb
    (s.setI TC_TRACK_NOW o).setI TC_TRACK_TARGET o
  else s

/-- TC_CONTROL (R36, R37, R43): BW and JC are in force at the next reference edge, or stored until phase 7 or the
re-lock. -/
def State.wTcControl (s : State) (v : Word) : Nat × State :=
  if 6 < v.bits 3 0 then (stRange, s)
  else
    let old := s.get TC_CONTROL_DIV_MODE
    let s := (s.setWord 0x2001 0 v).changeDivMode old (v.bits 5 5)
    let s := if s.on TC_CONTROL_TRIM_EN then s else (s.set TC_STATUS_TRIM_ACTIVE 0).followFerr
    (stOk, if s.tc = 4 ∨ s.tc = 6 ∨ s.timing.phase = 7 then s.takeBw else s)

/-- TC_DIV_NEXT (Table 2-16). -/
def State.wTcDivNext (s : State) (sub : Nat) (v : Word) : Nat × State :=
  if (sub = 0 ∧ v.bits 9 8 = 3) ∨ (sub = 1 ∧ v.bits 23 0 = modulus) then (stRange, s) else (stOk, s.setWord 0x2004 sub v)

/-- The values a divider commit would bring into force now (R41, R42): PRESCALE and the ratio. -/
def State.staged (s : State) : Nat × Nat :=
  let pre := s.get TC_DIV_NEXT_PRESCALE
  (pre, if s.on TC_CONTROL_DIV_MODE then s.trackRatio pre else ratioOf (s.get TC_DIV_NEXT_NINT) (s.get TC_DIV_NEXT_FRAC))

/-- The checks of R41 and R55. -/
def State.divOk (s : State) : Bool :=
  let (pre, r) := s.staged
  let f := dcoUnits pre r
  let near := decide (5000 * ((f : Int) - dcoNominal).natAbs ≤ dcoNominal)
  let far := s.modeNow ≠ modeBoot && beyond20 (dcoUnits s.prescale s.ratio) f
  (s.on TC_CONTROL_DIV_MODE || (near && !far)) && !(pre = 1 && s.get TC_PHASE_INTERVAL_INTERVAL = 1)

/-- TC_DIV_COMMIT (R41, R42, R55). -/
def State.wTcDivCommit (s : State) (v : Word) : Nat × State :=
  if v.bits 0 0 = 0 then (stOk, s)
  else
    let s := s.set TC_STATUS_DIV_DISCARD 0
    if !s.divOk then (stRange, s)
    else if s.coasting then (stState, s)
    else
      let (pre, r) := s.staged
      (stOk, { s with timing := { s.timing with commit := some (pre, if s.on TC_CONTROL_DIV_MODE then none else some r) } })

/-- TC_TRACK (R42). -/
def State.wTcTrack (s : State) (sub : Nat) (v : Word) : Nat × State :=
  if sub = 0 ∧ 51200000 < (signedOf 32 v.toNat).natAbs then (stRange, s)
  else if sub = 2 ∧ (v.bits 13 0 = 0 ∨ 10000 < v.bits 13 0) then (stRange, s)
  else (stOk, s.setWord 0x2006 sub v)

/-- TC_FERR_LIMIT: an estimate that now exceeds the limit raises the source (R53). -/
def State.wTcFerrLimit (s : State) (v : Word) : Nat × State := (stOk, (s.setWord 0x2011 0 v).judgeFerr)

/-- TC_TRIM_WINDOW and TC_PHASE_INTERVAL (Tables 2-22, 2-24, R55). -/
def State.wTcRanges (s : State) (index sub : Nat) (v : Word) : Nat × State :=
  let n := v.toNat
  let bad :=
    if index = 0x2013 then decide (n = 0 ∨ 1000 < n)
    else if index = 0x2014 then decide (n = 0 ∨ 4096 < n) || (n = 1 && s.prescale = 1)
    else false
  if bad then (stRange, s) else (stOk, s.setWord index sub v)

end Sys2Proof.Machine
end

