-- ==== Sys2Proof/Machine/Clocks.lean ====
section
/-! DEFINITION. The clock tree and the drive synthesiser (chapter 3): the source switch, clock enables, PDM and spread
spectrum. -/

namespace Sys2Proof.Machine

/-- SEARCH_FAIL_TIMEOUT (R46). -/
def execSearchFailTimeout (s : State) : Host.Outcome State Fault Refusal := .next s.searchFail

/-! The source switch (R66, R67, R269). -/

/-- The model's mark of a write whose response is sent later (R67); no status of Table 10-7. -/
def stLater : Nat := 0xFFFF

/-- CK_SWITCH (R66). -/
def State.wCkSwitch (s : State) (v : Word) : Nat × State :=
  if v.bits 0 0 = 0 then (stOk, s)
  else if s.on CK_STATUS_SWITCH_BUSY then (stState, s.bump CK_COUNT_SWITCH_REFUSED)
  else if s.on CK_STATUS_SRC then (stOk, s)
  else if !s.on CK_STATUS_READY_SEEN || !s.on TC_STATUS_CLK_READY then (stState, s.bump CK_COUNT_SWITCH_REFUSED)
  else (stLater, s.set CK_STATUS_SWITCH_BUSY 1)

/-- Step 4 of Table 3-3 is done. -/
def State.switchDone (s : State) : State :=
  if s.on CK_STATUS_SWITCH_BUSY then
    ((s.set CK_STATUS_SWITCH_BUSY 0).set CK_STATUS_SRC 1 |>.set CK_STATUS_FALLBACK 0).bump CK_COUNT_SWITCH_COUNT
  else s

/-- IMAGE_SOURCE_SWITCH: the running image reads the ready flag and makes the switch, unless SRC reads 1 (R269). -/
def State.imageSwitch (s : State) : State :=
  if s.get BT_STATUS_STATE = 5 && s.running 0x1C && s.on TC_STATUS_CLK_READY && !s.on CK_STATUS_SRC &&
      !s.on CK_STATUS_SWITCH_BUSY then
    (s.set CK_STATUS_READY_SEEN 1).set CK_STATUS_SWITCH_BUSY 1
  else s

/-- IMAGE_SOURCE_SWITCH (R269). -/
def execImageSourceSwitch (s : State) : Host.Outcome State Fault Refusal := .next s.imageSwitch

/-- A read of CK_STATUS that returns CLK_READY = 1 sets READY_SEEN (R66). -/
def State.seeReady (s : State) : State := if s.on TC_STATUS_CLK_READY then s.set CK_STATUS_READY_SEEN 1 else s

/-! CK_LINK_CFG (R64). -/

/-- Stored; on the link source, and with no switch in progress, the clocks change, within the command and with
SWITCH_BUSY at 0 (log entry 92). HDIV = 0 is refused; that its status is OUT_OF_RANGE is the model's choice (log
entry 90). -/
def State.wCkLinkCfg (s : State) (v : Word) : Nat × State :=
  if v.bits 2 0 = 0 then (stRange, s)
  else
    let s := s.setWord 0x2202 0 v
    (stOk, if s.on CK_STATUS_SRC || s.on CK_STATUS_SWITCH_BUSY then s
      else { s with clocks := { s.clocks with link := v } })

/-! Clock enables (R69, R70). -/

/-- The last column of Table 3-1: RUN_EN of domain `d` may be cleared by a write from `port`. -/
def State.mayStopClock (s : State) (d port : Nat) : Bool :=
  if d < 16 then !s.groupBusy d
  else if d = 0x19 ∨ d = 0x1A ∨ d = 0x1C then false
  else if d = 0x1B ∨ d = 0x20 then !s.someGroupRuns []
  else if d = 0x1D ∨ d = 0x1E then port ≠ d - 0x1D
  else if d = 0x1F then s.modeNow ≠ modeSurvey
  else d < 0x1F

/-- The domain's clocks include ECLK (Table 3-1). -/
def usesEclk (d : Nat) : Bool := d < 16 || d = 0x1F || d = 0x20

/-- The domain is waking. -/
def State.wakingDom (s : State) (d : Nat) : Bool := s.pow.wakes.any fun w => w.dom = d

/-- CK_GATE of domain `d` (R70): deferred for ECLK domains; after the wake for a waking one; at once otherwise. -/
def State.wCkGate (s : State) (d port : Nat) (v : Word) : Nat × State :=
  if v.bits 0 0 = 0 && !s.mayStopClock d port then (stState, s)
  else if usesEclk d then (stDeferred, s.defer 0x2210 d v)
  else if s.wakingDom d then (stOk, s.setWord 0x2210 d v)
  else (stOk, (s.setBoth 0x2210 d v).gateStops)

/-! The drive synthesiser (R71 to R74). -/

/-- A start from a phase of Table 3-4 with PDM on the backup clock (R72). -/
def State.dsBegin (s : State) (code : Nat) : State :=
  let s := (s.set DS_STATUS_STATE code).set DS_STATUS_BACKUP 1
  { s with clocks := { s.clocks with dsPhase := 1, pdmTick := none } }

/-- DS_START: DRVSYN runs and CLK_READY is set (R71). -/
def execDsStart (s : State) : Host.Outcome State Fault Refusal :=
  .next (if s.clocked 0x1B && s.on TC_STATUS_CLK_READY && s.get DS_STATUS_STATE = 0 then s.dsBegin 1 else s)

/-- DS_PHASE_END: phases 1 to 4; a later start skips phase 2 (R71); lock at the end of phase 4 moves PDM at the next
frame tick (R72). -/
def State.dsPhaseEnd (s : State) (coarse : Nat) : State :=
  match s.clocks.dsPhase with
  | 1 => { s with clocks := { s.clocks with dsPhase := if s.clocks.dsStored then 3 else 2 } }
  | 2 => { s.set DS_DCO_COARSE coarse with clocks := { s.clocks with dsPhase := 3, dsStored := true } }
  | 3 => { s with clocks := { s.clocks with dsPhase := 4 } }
  | 4 =>
    let s := ((s.set DS_STATUS_STATE 2).set DS_STATUS_LOCK 1).bump DS_COUNT_LOCK_COUNT
    { s with clocks := { s.clocks with dsPhase := 0, pdmTick := some (s.frame.ticks + 1) } }
  | _ => s

/-- DS_PHASE_END (R71). -/
def execDsPhaseEnd (coarse : Nat) (s : State) : Host.Outcome State Fault Refusal := .next (s.dsPhaseEnd coarse)

/-- DS_START_TIMEOUT: the full sequence runs again (R71). STATE keeps its code: 1 START after a start, also a later one
from the stored band, and 3 RESTART after a lock loss, also through a full sequence that follows it (log entry 91). -/
def execDsStartTimeout (s : State) : Host.Outcome State Fault Refusal :=
  .next (if s.clocks.dsPhase = 4 then { s with clocks := { s.clocks with dsPhase := 1, dsStored := false } } else s)

/-! The spread-spectrum profile (R74). -/

/-- Reference cycles of a profile's period. -/
def sscPeriod : Nat := 5682

/-- The span of a depth in 1/256 FRAC: N · depth / 10,000 over the modulus. -/
def sscSpan (depth : Nat) : Int := roundDiv (143165568 * 256 * depth) 10000

/-- The offset of N, in 1/256 FRAC, at a reference cycle of the profile: down to −depth and back, or about the centre,
upward first (log entry 93). -/
def sscOffset (mode depth pos : Nat) : Int :=
  let x : Int := 2 * pos
  if mode = 1 then -roundDiv (sscSpan depth * min pos (sscPeriod - pos)) 2841
  else if mode = 2 then
    roundDiv (sscSpan depth * (if x ≤ 2841 then x else if x ≤ 8523 then 5682 - x else x - 11364)) 5682
  else 0

/-- The reference cycle of the profile that runs: DSREF has a period of 16 tc. -/
def State.sscPos (s : State) : Nat := (s.frame.up - s.clocks.sscUp) / 16 % sscPeriod

/-- The offset of N in force, in 1/256 FRAC: 0 without a running profile. -/
def State.sscNow (s : State) : Int :=
  if s.on DS_STATUS_SSC_ACTIVE then sscOffset (s.get DS_STATUS_SSC_MODE) (s.get DS_STATUS_SSC_DEPTH) s.sscPos else 0

/-- FRAC of the drive synthesiser in force, with 8 fraction bits (R71, R74). -/
def State.dsFrac (s : State) : Int := 8947848 * 256 + s.sscNow

/-- A profile starts at its zero point, where one is in force (R74). -/
def State.startProfile (s : State) : State :=
  { s.setB DS_STATUS_SSC_ACTIVE (decide (s.get DS_STATUS_SSC_MODE ≠ 0)) with
    clocks := { s.clocks with sscUp := s.frame.up } }

/-- PDM_SOURCE_MOVE: from the tick after lock (R72); a profile in force runs again (R74). -/
def State.movePdm (s : State) : State :=
  match s.clocks.pdmTick with
  | none => s
  | some t =>
    if t ≤ s.frame.ticks then
      let s := ((s.set DS_STATUS_BACKUP 0).set DS_STATUS_READY 1).startProfile
      { s with clocks := { s.clocks with pdmTick := none } }
    else s

/-- PDM_SOURCE_MOVE (R72). -/
def execPdmSourceMove (s : State) : Host.Outcome State Fault Refusal := .next s.movePdm

/-- DS_LOCK_LOSS: PDM on the backup clock, re-start from the stored band; counted and reported only after READY (R73,
Table 3-5). -/
def State.dsLoss (s : State) : State :=
  if s.on DS_STATUS_LOCK then
    let ready := s.on DS_STATUS_READY
    let s := ((s.set DS_STATUS_LOCK 0).set DS_STATUS_READY 0).set DS_STATUS_SSC_ACTIVE 0
    let s := s.dsBegin 3
    if ready then ((s.bump DS_COUNT_UNLOCK_COUNT).bump DS_COUNT_BACKUP_COUNT).raise 18 unitDevice else s
  else s

/-- DS_LOCK_LOSS (R73). -/
def execDsLockLoss (s : State) : Host.Outcome State Fault Refusal := .next s.dsLoss

/-- DS_CONTROL (R74): the change waits for a zero of the profile. -/
def State.wDsControl (s : State) (v : Word) : Nat × State :=
  if v.bits 9 8 = 3 ∨ 50 < v.bits 5 0 then (stRange, s)
  else (stOk, { s.setWord 0x2101 0 v with clocks := { s.clocks with ssc := true } })

/-- SSC_CHANGE_APPLY (R74): at a zero-offset point, with PDM on the synthesiser. -/
def State.sscApply (s : State) : State :=
  if s.clocks.ssc && s.on DS_STATUS_READY && decide (s.sscNow = 0) then
    let s := (s.set DS_STATUS_SSC_MODE (s.get DS_CONTROL_SSC_MODE)).set DS_STATUS_SSC_DEPTH (s.get DS_CONTROL_SSC_DEPTH)
    { s.startProfile with clocks := { s.startProfile.clocks with ssc := false } }
  else s

/-- SSC_CHANGE_APPLY (R74). -/
def execSscChangeApply (s : State) : Host.Outcome State Fault Refusal := .next s.sscApply

end Sys2Proof.Machine
end

