-- ==== Sys2Proof/Machine/Domains.lean ====
section
/-! DEFINITION. What a switched domain loses with its C0 content (R284, R338), and its wake from Ebb or Neap
(sections 12.4 to 12.6). -/

namespace Sys2Proof.Machine

/-! Content that is lost. -/

/-- Words of lost persistence classes return to their defaults, where a subentry is concerned (R8, R9). -/
def State.loseWords (s : State) (lost : Pers → Bool) (here : Nat → Nat → Bool) : State :=
  let f := fun k w => if here (k / 65536) (k % 65536) then objLose lost k w else w
  { s with objs := Table.mapVals objDefault f s.objs, force := Table.mapVals objDefault f s.force }

/-- The class of a switched domain's live state. -/
def isC0 (p : Pers) : Bool := p = .c0

/-- A lane whose live state is lost keeps what is C1: its counters and LP_EO_CODE (Table 4-11). -/
def Lane.lost (l : Lane) : Lane := { locks := l.locks, unlocks := l.unlocks, eo := l.eo, eoEdges := l.eoEdges }

/-- Lanes and posting queues of a tile group. -/
def State.loseGroup (s : State) (g : Nat) : State :=
  let s : State := { s with
    lanes := Table.mapVals (fun _ => {}) (fun e l => if e / 256 = g then l.lost else l) s.lanes
    tiles := s.tiles.filter fun p => p.1 / 4 ≠ g
    notes := s.notes.filter fun n => n.elem / 256 ≠ g }
  { s with commit := { s.commit with ctx := s.commit.ctx.filter fun p => p.1 / 256 ≠ g } }

/-- The monitor inputs of a quadrant. -/
def State.loseMons (s : State) (q : Nat) : State := { s with mons := s.mons.filter fun p => p.1 / 256 ≠ q }

/-- Port detectors: the input is outside the domain, the configuration is C1, and the level last posted stands in the
log's records (Table 7-9). -/
def State.losePorts (s : State) : State :=
  { s with pds := Table.mapVals (fun _ => {}) (fun p x => { input := x.input, cfg := s.word 0x4C00 p, posted := x.posted }) s.pds }

/-- The endpoint of a port: its request buffers, latches and own frames. -/
def State.losePort (s : State) (p : Nat) : State :=
  let s : State := { s.setPort p {} with svc := s.svc.without p }
  State.eachIn [2 * p, 2 * p + 1] (fun k s => s.setPair k { s.pair k with own := [] }) s

/-- The drive synthesiser stops; DS_CONTROL applies again after the next start (R74). -/
def State.loseDrive (s : State) : State :=
  let s := s.dsOff
  { s with clocks := { s.clocks with ssc := true } }

/-- The C0 content of a switched domain returns to its defaults, without any report (R284, Table 14-4). -/
def State.loseDomain (s : State) (d : Nat) : State :=
  let s := s.loseWords isC0 fun i k => objDomain i k = some d
  if d < 0x10 then s.loseGroup d
  else if d < 0x14 then s.loseMons (d - 0x10)
  else if d = 0x14 then s.losePorts
  else if d = 0x19 then
    { s with commit := { s.commit with shadow := none, ring := none, trigOut := none, hopping := [] } }
  else if d = 0x1A then (let s : State := { s with ev := { s.ev with fifo := [] } }
     if s.ev.sealed.length < 512 then s else s.set EV_STATUS_HOLDING 1)
  else if d = 0x1B then s.loseDrive
  else if d = 0x1D ∨ d = 0x1E then s.losePort (d - 0x1D)
  else if d = 0x1F then { s with survey := {} }
  else if d = 0x20 then { s with commit := { s.commit with fAgg := [], self := [] } }
  else s

/-! Waking (R292, R293). -/

/-- The domain may run on the link source (Table 3-1). -/
def linkDomain (d : Nat) : Bool :=
  (0x15 ≤ d && d ≤ 0x18) || d = 0x1A || d = 0x1C || d = 0x1D || d = 0x1E

/-- A waking domain can complete its exit: what it depends on runs, and its clocks exist (R292, R63). -/
def State.wakeReady (s : State) (d : Nat) : Bool :=
  (domDepends d).all s.running && (linkDomain d || s.on TC_STATUS_CLK_READY)

/-- A client holds a vote on `d` that the domain's state does not meet (R286). -/
def State.votesUp (s : State) (d client : Nat) : Bool :=
  (s.runVotes [] d).testBit client || (s.domState d = 3 && (s.ebbVotes d).testBit client)

/-- A wake source of Table 12-5 that one command brings: an access, a vote, an image client. -/
def State.wakeCause (s : State) (d client : Nat) : Bool :=
  client = 0xFE || (0x10 ≤ client && client ≤ 0x1F) || (client < 7 && s.votesUp d client)

/-- DOMAIN_WAKE (R293): not in DORMANT, which only a WAKE block ends. -/
def execDomainWake (d client : Nat) (s : State) : Host.Outcome State Fault Refusal :=
  .next (if s.modeNow ≠ modeDormant && s.wakeCause d client then s.demandWake client d else s)

/-- The exit of `d` is complete (R289, R292): its state and record, and clock enables written meanwhile (R70). -/
def State.wakeDone (s : State) (d : Nat) : State :=
  match s.pow.wakes.find? (fun w => w.dom = d) with
  | none => s
  | some w =>
    if !s.wakeReady d then s
    else
      let s : State := { s with pow := { s.pow with wakes := s.pow.wakes.filter fun x => x.dom ≠ d } }
      let s := if usesEclk d then s else s.enforce (objKey 0x2210 d)
      s.gateStops.setDomain d w.target w.cause w.client w.up

end Sys2Proof.Machine
end

