-- ==== Sys2Proof/Machine/Power.lean ====
section
/-! DEFINITION. Power requests (chapter 12): the pending slot, Ebb, the two-phase Neap entry with its refusals and
rollback. -/

namespace Sys2Proof.Machine

/-! Requests (R287, R288). -/

/-- The domains that the masks name. -/
def State.namedDomains (s : State) : List Nat :=
  let m := s.get PW_REQ_MASK_LO_DOMAINS + s.get PW_REQ_MASK_HI_D32 * 2 ^ 32
  allDomains.filter fun d => m.testBit d

/-- Targets a domain accepts (Table 12-1). -/
def accepts (target d : Nat) : Bool :=
  target = 1 || ((target = 2 || target = 3) && d ≠ 0x19 && d ≠ 0x1A && d ≠ 0x1C)

/-- An accepted request takes the slot that is free for it (R288). -/
def State.queuePower (s : State) (r : PowReq) : State :=
  if s.pow.run.isNone && s.pow.pend.isNone then
    { s.set PW_STATUS_BUSY 1 with pow := { s.pow with run := some r } }
  else
    let s := if s.pow.pend.isSome then (s.set PW_STATUS_RESULT 4).bumpAt PW_COUNTS_COUNT 4 else s
    { s.set PW_STATUS_PENDING 1 with pow := { s.pow with pend := some r } }

/-- PW_REQ (R287): mode, state, range. -/
def State.wPwReq (s : State) (port : Nat) (v : Word) : Nat × State :=
  let t := v.bits 1 0
  let ds := s.namedDomains
  if v.bits 31 31 = 0 then (stOk, s)
  else if s.modeNow = modeDormant then (stMode, s)
  else if s.on MD_MODE_ENTERING || ds.any (fun d => s.domState d = 0) || ds.contains (0x1D + port) then (stState, s)
  else if ds = [] || !ds.all (accepts t) then (stRange, s)
  else (stOk, s.queuePower { doms := ds, target := t, due := s.frame.ticks + 1, dormant := false })

/-! Ends of a request. -/

/-- The running request ends with a result; a pending one starts at the next tick (R288). -/
def State.endPower (s : State) (result : Nat) : State :=
  let s := (((s.set PW_STATUS_BUSY 0).set PW_STATUS_PHASE 0).set PW_STATUS_RESULT result)
  let late := s.pow.late
  let s : State := { s with pow := { s.pow with
    run := none, isolated := [], toIsolate := [], late := []
    pend := s.pow.pend.map fun r => { r with due := s.frame.ticks + 1 } } }
  late.foldl (fun s p => s.demandWake p.2 p.1) s

/-- A refusal or a rollback (R289, R291): PW_LAST_REFUSAL and one SLEEP_ABORT. -/
def State.recordRefusal (s : State) (client dom phase n target dur : Nat) : State :=
  let s := s.bumpAt PW_COUNTS_COUNT 2
  let s := (s.set PW_LAST_REFUSAL_CLIENT client).set PW_LAST_REFUSAL_DOMAIN dom
  let s := (s.set PW_LAST_REFUSAL_PHASE phase).set PW_LAST_REFUSAL_ISOLATED n
  s.post 0x33 client (payloadOf [(dom, 56), (phase, 48), (n, 40), (target, 32), (dur, 0)])

/-- The first client of `mask`, in client order, with a vote of `votes` on a listed domain. -/
def refuser (votes : Nat → Nat) (mask : Nat) (doms : List Nat) : Option (Nat × Nat) :=
  ((List.range 7).filter fun k => mask.testBit k).findSome? fun k =>
    (doms.find? fun d => (votes d).testBit k).map fun d => (k, d)

/-- Votes that forbid Neap (R285): RUN and EBB. -/
def State.neapVotes (s : State) (but : List Nat) (d : Nat) : Nat := s.runVotes but d ||| s.ebbVotes d

/-- Entries in preparation stop; their transit ends. -/
def State.clearTransit (s : State) (doms : List Nat) : State :=
  State.eachIn doms (fun d s => if s.wakingDom d then s else s.wr PW_DOMAIN_TRANSIT d 0) s

/-- DORMANT entry leaves its sequence for SAFE (R281). -/
def State.leaveEntry (s : State) : State := { s.set MD_MODE_ENTERING 0 with mode := { s.mode with entry := 0, wake := false } }

/-- DORMANT entry is refused: the device returns to SERVICE at the next tick by cause 10 (R278). -/
def State.refuseDormant (s : State) (r : PowReq) : State :=
  if !r.dormant then s
  else if s.modeNow = modeDormant then { s with mode := { s.mode with next := some (modeService, 10, s.frame.ticks + 1) } }
  else s.leaveEntry

/-- DORMANT entry has its domains in NEAP: the clock stops at the next tick (Table 11-8 step 4), unless SAFE has been
entered meanwhile (R281). -/
def State.dormantDown (s : State) (r : PowReq) : State :=
  if !r.dormant then s
  else if s.modeNow = modeDormant then { s with mode := { s.mode with entry := 2 } }
  else s.leaveEntry

/-! Starts (R289, R290, R293). -/

/-- TARGET = RUN: every sleeping named domain leaves its state, with the domains it depends on. -/
def State.startRun (s : State) (r : PowReq) : State :=
  let s := State.eachIn r.doms (fun d s => s.wr PW_DOMAIN_TARGET d 1) s
  let all := r.doms ++ r.doms.flatMap domDepends
  (State.eachIn all (fun d s => s.beginWake d 1 0 0xFF) s).endPower 1

/-- A domain enters Ebb, or leaves Neap for it. -/
def State.toEbb (s : State) (d : Nat) : State :=
  let s := s.wr PW_DOMAIN_TARGET d 2
  if s.domState d = 3 then s.beginWake d 2 0 0xFF
  else if s.domState d = 1 then
    let s := s.setDomain d 2 0 0xFF s.frame.up
    if d = 0x14 then s.stopPorts
    else if d = 0x19 then { s with commit := { s.commit with trigOut := none } }
    else s
  else s

/-- TARGET = EBB: judged at its start tick (R289). -/
def State.startEbb (s : State) (r : PowReq) : State :=
  match refuser (s.runVotes r.doms) 127 r.doms with
  | some (k, d) => (s.recordRefusal k d 0 0 2 0).endPower 2
  | none => ((State.eachIn r.doms (fun d s => s.toEbb d) s).bumpAt PW_COUNTS_COUNT 0).endPower 1

/-- TARGET = NEAP: phase 1 begins (Table 12-3 step 1). -/
def State.startNeap (s : State) (r : PowReq) : State :=
  let ds := r.doms.filter fun d => s.domState d = 1 || s.domState d = 2
  let s := (s.set PW_STATUS_BUSY 1).set PW_STATUS_PHASE 1
  let s := State.eachIn ds (fun d s => s.wr PW_DOMAIN_TRANSIT d 1) s
  { s with pow := { s.pow with
    run := some { r with due := s.frame.ticks + 1 }, runUp := s.frame.up, isolated := [], toIsolate := []
    before := ds.map fun d => (d, s.domState d) } }

/-- A request starts. -/
def State.startPower (s : State) (r : PowReq) : State :=
  let s : State := { s.set PW_STATUS_BUSY 1 with pow := { s.pow with run := some r } }
  if r.target = 1 then s.startRun r else if r.target = 2 then s.startEbb r else s.startNeap r

/-- The Neap entry of DORMANT (Table 11-8 steps 2 and 3): once no request runs, the writer has taken what the FIFO held
and fills have closed the open block. -/
def State.dormantNeap (s : State) : State :=
  let writes := s.on EV_STATUS_CHAIN && !s.on EV_STATUS_HOLDING
  if writes && s.ev.fifo ≠ [] then s
  else if writes && s.ev.openRecs ≠ [] then s.sealNow
  else
    let r : PowReq := { doms := allDomains.filter fun d => s.domState d ≠ 0, target := 3, due := 0, dormant := true }
    s.startNeap r

/-- DORMANT entry awaits its Neap entry. -/
def State.dormantWaits (s : State) : Bool := s.on MD_MODE_ENTERING && s.mode.entry = 1 && s.mode.next.isNone

/-- POWER_REQUEST_START: at its tick, the request that waits to start, the Neap entry of DORMANT, or the pending request. -/
def State.powerStart (s : State) : State :=
  if s.pow.run.isNone && s.dormantWaits then s.dormantNeap
  else
  match s.pow.run, s.pow.pend with
  | some r, _ => if s.get PW_STATUS_PHASE = 0 && r.due ≤ s.frame.ticks then s.startPower r else s
  | none, some r =>
    if r.due ≤ s.frame.ticks then
      let s : State := { s.set PW_STATUS_PENDING 0 with pow := { s.pow with pend := none } }
      s.startPower r
    else s
  | none, none => s

/-- POWER_REQUEST_START (R288). -/
def execPowerRequestStart (s : State) : Host.Outcome State Fault Refusal := .next s.powerStart

/-! The two phases (R290, R291). -/

/-- The domains to be isolated: those named, and those they depend on as far as the votes allow, in order. -/
def State.neapList (s : State) (r : PowReq) : List Nat :=
  let deps := (r.doms.flatMap domDepends).filter fun d => s.neapVotes r.doms d = 0
  neapOrder.filter fun d => (r.doms.contains d || deps.contains d) && (s.domState d = 1 || s.domState d = 2)

/-- Step 2: a forbidding vote on a named domain refuses; otherwise isolation begins. -/
def State.voteCheck (s : State) : State :=
  match s.pow.run with
  | none => s
  | some r =>
    if s.get PW_STATUS_PHASE ≠ 1 || s.frame.ticks < r.due then s
    else
      match refuser (s.neapVotes r.doms) 127 r.doms with
      | some (k, d) =>
        (((s.clearTransit r.doms).recordRefusal k d 1 0 3 0).refuseDormant r).endPower 2
      | none =>
        let l := s.neapList r
        let s := State.eachIn l (fun d s => s.wr PW_DOMAIN_TRANSIT d 1) s
        let s := s.set PW_STATUS_PHASE (if l = [] then 3 else 2)
        { s with pow := { s.pow with toIsolate := l } }

/-- NEAP_VOTE_CHECK (R290). -/
def execNeapVoteCheck (s : State) : Host.Outcome State Fault Refusal := .next s.voteCheck

/-- The duration of a rollback in ns: 100 ns for each domain isolated, and the handshakes of at most 0.7 µs, whose time
is free. -/
def State.rollbackTime (s : State) (n : Nat) : Nat × State :=
  let (w, s) := s.free
  (100 * n + w.toNat % 701, s)

/-- A client has refused in phase two: the isolated domains are restored (R291). -/
def State.rollBack (s : State) (r : PowReq) (client dom : Nat) : State :=
  let n := s.pow.isolated.length
  let (t, s) := s.rollbackTime n
  let s := s.clearTransit (r.doms ++ s.pow.isolated ++ s.pow.toIsolate)
  let s : State := { s with pow := { s.pow with isolated := [] } }
  let s := (s.recordRefusal client dom 2 n 3 t).bumpAt PW_COUNTS_COUNT 3
  (s.refuseDormant r).endPower 3

/-- A vote of a client that can refuse in phase two has risen, between step 2 and the commit point. Every operation
that raises such a vote calls this. -/
def State.voteRose (s : State) : State :=
  match s.pow.run with
  | none => s
  | some r =>
    if s.get PW_STATUS_PHASE ≠ 2 then s
    else
      match refuser (s.neapVotes r.doms) 15 (r.doms ++ s.pow.isolated ++ s.pow.toIsolate) with
      | some (k, d) => s.rollBack r k d
      | none => s

/-- Step 3 for one domain: it stops and its outputs are held. A wake that it was making waits for the entry's end. -/
def State.isolateHead (s : State) : State :=
  match s.pow.toIsolate with
  | [] => s
  | d :: ds =>
    let late := (s.pow.wakes.filter fun w => w.dom = d).map fun w => (w.dom, w.client)
    let s : State := { s with pow := { s.pow with
      isolated := s.pow.isolated ++ [d], toIsolate := ds, late := s.pow.late ++ late
      wakes := s.pow.wakes.filter fun w => w.dom ≠ d } }
    let s := if d = 0x14 then s.stopPorts else s
    if ds = [] then s.set PW_STATUS_PHASE 3 else s

/-- NEAP_ISOLATE (R290, R291). -/
def execNeapIsolate (s : State) : Host.Outcome State Fault Refusal :=
  .next (if s.get PW_STATUS_PHASE = 2 && s.pow.run.isSome then
    (let t := s.voteRose
     if t.get PW_STATUS_PHASE = 2 then t.isolateHead else t)
  else s)

/-- One domain has lost its supply. -/
def State.intoNeap (s : State) (cause d : Nat) : State :=
  ((s.loseDomain d).wr PW_DOMAIN_TARGET d 3).setDomain d 3 cause 0xFF s.pow.runUp

/-- Steps 4 and 5: the isolated domains are in NEAP (Table 12-3). -/
def State.neapDown (s : State) : State :=
  match s.pow.run with
  | none => s
  | some r =>
    if s.get PW_STATUS_PHASE ≠ 3 then s
    else
      let s := State.eachIn s.pow.isolated (fun d s => s.intoNeap (if r.dormant then 2 else 0) d) s
      ((s.bumpAt PW_COUNTS_COUNT 1).dormantDown r).endPower 1

/-- NEAP_POWER_DOWN (R290). -/
def execNeapPowerDown (s : State) : Host.Outcome State Fault Refusal := .next s.neapDown

/-! Votes as they read (PW_VOTES, LIMIT). -/

/-- LIMIT of PW_DOMAIN (R285): the shallowest vote. -/
def State.limit (s : State) (d : Nat) : Nat :=
  if s.runVotes [] d ≠ 0 then 1 else if s.ebbVotes d ≠ 0 then 2 else 3

/-- PW_VOTES. -/
def State.votesWord (s : State) (d : Nat) : Word := BitVec.ofNat 32 (s.runVotes [] d * 65536 + s.ebbVotes d)

/-- RING_COMMIT_ARM_START (R121): an arming is a vote. -/
def execRingCommitArmStart (s : State) : Host.Outcome State Fault Refusal := .next s.ringArmStart.voteRose

/-- PW_HOLD (Table 12-2): a bit set is a RUN vote, which wakes a sleeping domain or refuses a Neap entry. -/
def State.wPwHold (s : State) (sub : Nat) (v : Word) : Nat × State :=
  let s := (s.setWord 0x6003 sub v).voteRose
  let ds := if sub = 0 then (List.range 32).filter fun d => v.toNat.testBit d else if v.toNat.testBit 0 then [32] else []
  (stOk, State.eachIn ds (fun d s => s.demandWake 0 d) s)

end Sys2Proof.Machine
end

