-- ==== Sys2Proof/Machine/Perf.lean ====
section
/-! DEFINITION. Performance levels (section 12.8): requests, steps, the PMBus regulator, supply-monitor levels. -/

namespace Sys2Proof.Machine

/-! Set-points and levels of the supply monitor (R299, R321). -/

/-- The set-point of a level, mV. -/
def State.setpoint (s : State) (lv : Nat) : Nat := s.rd PL_VOUT_MV lv

/-- Warning and reset levels, 92 % and 85 % of a VCORE set-point (R321), in 0.1 mV rounded as R371 says
(log entry 76). -/
def State.setLevels (s : State) (mv : Nat) : State :=
  (s.set SM_LEVELS_WARN (roundDiv (92 * mv) 10).toNat).set SM_LEVELS_RESET (roundDiv (85 * mv) 10).toNat

/-! The linear VOUT format (R298). -/

/-- The exponent N of VOUT_MODE. -/
def State.voutExp (s : State) : Int := signedOf 5 (s.get PL_VOUT_MODE_MODE)

/-- VOUT_COMMAND of a set-point in mV. -/
def voutWord (n : Int) (mv : Nat) : Nat :=
  if n ≤ 0 then (roundDiv ((mv : Int) * 2 ^ n.natAbs) 1000).toNat else (roundDiv mv (1000 * 2 ^ n.natAbs)).toNat

/-- READ_VOUT in units of 1/2^|N| mV, and the unit: the exact voltage is the quotient. -/
def voutRead (n : Int) (v : Nat) : Nat × Nat := if n ≤ 0 then (1000 * v, 2 ^ n.natAbs) else (1000 * v * 2 ^ n.natAbs, 1)

/-- The mode byte has been read and is linear. -/
def State.modeKnown (s : State) : Bool := s.on PL_VOUT_MODE_VALID && s.get PL_VOUT_MODE_MODE < 32

/-! Requests (R296). -/

/-- Levels from one to another, ends included. -/
def levelPath (a b : Nat) : List Nat := (List.range 3).filter fun x => min a b ≤ x && x ≤ max a b

/-- A step may start: none runs, the bus is free, no dip, and a frequency fall would keep the interval (R299, R300). -/
def State.mayStart (s : State) (target : Nat) : Bool :=
  let lv := s.get PL_STATUS_LEVEL
  let due := match s.perf.lastTick with
    | some t => t + s.get PL_MIN_INTERVAL_FRAMES
    | none => 0
  s.perf.step.isNone && s.perf.op.isNone && !s.on SM_STATUS_MARGINAL &&
    (target ≤ lv || due ≤ s.frame.ticks + 2)

/-- The voltage part of a step begins: VOUT_MODE first where it is not known (R298). -/
def State.startVolt (s : State) (lv : Nat) : State :=
  let op := if s.modeKnown then PmbusOp.writeVout (s.setpoint lv) false else .readMode
  let s : State := { s with perf := { s.perf with op := some op, retries := 0 } }
  if s.modeKnown then s.setLevels (min (s.setpoint lv) (s.setpoint (s.get PL_STATUS_VLEVEL))) else s

/-- One step toward `target`; the remainder keeps the pending slot (R296, R297). -/
def State.startStep (s : State) (target : Nat) : State :=
  let a := s.get PL_STATUS_LEVEL
  let b := if a < target then a + 1 else a - 1
  let s : State := { s with perf := { s.perf with
    step := some (a, b), confirmed := false, settling := false, pend := if b = target then none else some target } }
  let s := ((s.set PL_STATUS_BUSY 1).setB PL_STATUS_PENDING (decide (b ≠ target))).set PL_STATUS_TARGET target
  if a < b then { s with perf := { s.perf with freqTick := some (s.frame.ticks + 2) } } else s.startVolt b

/-- The pending request or remainder: done where it names the level in force; else its step starts when it may. -/
def State.tryStart (s : State) : State :=
  match s.perf.pend with
  | none => s
  | some t =>
    if t = s.get PL_STATUS_LEVEL && s.perf.step.isNone then
      let s := ((s.set PL_STATUS_PENDING 0).set PL_STATUS_RESULT 1).set PL_STATUS_TARGET t
      { s with perf := { s.perf with pend := none } }
    else if s.mayStart t then s.startStep t
    else s

/-- PERF_STEP_START (R297). -/
def execPerfStepStart (s : State) : Host.Outcome State Fault Refusal := .next s.tryStart

/-- The level from which a new request is reached: the one the running step leads to, or the one in force. -/
def State.stepBase (s : State) : Nat := (s.perf.step.map Prod.snd).getD (s.get PL_STATUS_LEVEL)

/-- The level takes the pending slot; a request that waits there is superseded (R296). -/
def State.pendLevel (s : State) (lv : Nat) : State :=
  let s := if s.perf.pend.isSome then (s.set PL_STATUS_RESULT 2).bumpAt PL_COUNTS_COUNT 2 else s
  let s := s.set PL_STATUS_PENDING 1
  let s : State := { s with perf := { s.perf with pend := some lv } }
  match s.perf.step with
  | some (_, b) => s.set PL_STATUS_TARGET b
  | none => s

/-- A request joins the pending slot; a fall is decided at acceptance where it may start (Table 12-7). TARGET names the
request in force: a pending one changes it when it starts, and one that loses its remainder ends with the running step
(log entry 77). -/
def State.queueLevel (s : State) (lv : Nat) : State :=
  let s := s.set PL_REQUEST_LEVEL lv
  if s.perf.step.isNone && s.perf.pend.isNone && lv = s.get PL_STATUS_LEVEL then s
  else
    let s := s.pendLevel lv
    if s.get PL_STATUS_LEVEL < lv then s.tryStart else s

/-- A refused request counts. -/
def State.refuseLevel (s : State) (st : Nat) : Nat × State := (st, s.bumpAt PL_COUNTS_COUNT 1)

/-- PL_REQUEST (R296): mode, state, budget, range. -/
def State.wPlRequest (s : State) (v : Word) : Nat × State :=
  let lv := v.bits 1 0
  if s.modeNow = modeDormant || s.surveying then s.refuseLevel stMode
  else if (!s.on CK_STATUS_SRC && lv = 2) || (s.on CK_LINK_CFG_FSEL && lv ≠ 0) then s.refuseLevel stState
  else if lv < 3 && !s.allFit s.windows (levelPath s.stepBase lv) then s.refuseLevel stBudget
  else if lv = 3 then s.refuseLevel stRange
  else (stOk, { s with perf := { s.perf with asked := true } }.queueLevel lv)

/-! Steps (R297 to R299). -/

/-- A step is complete; the request is done where nothing remains. -/
def State.stepDone (s : State) : State :=
  let s := (s.bumpAt PL_COUNTS_COUNT 0).set PL_STATUS_BUSY 0
  let s : State := { s with perf := { s.perf with step := none, freqTick := none, confirmed := false } }
  if s.perf.pend.isNone then s.set PL_STATUS_RESULT 1 else s

/-- A PERF_LEVEL record (Table 12-11). -/
def State.perfRecord (s : State) (new old event mv : Nat) : State :=
  s.post 0x32 0 (payloadOf [(new, 56), (old, 48), (event, 40), (mv, 16)])

/-- ECLK and FCLK take the ratios of a level (Table 2-11, R18). -/
def State.setFrequency (s : State) (lv : Nat) : State :=
  let s := (s.set PL_STATUS_LEVEL lv).wr TC_OUTDIV_RATIO 1 (2 * tcPerEc lv)
  s.wr TC_OUTDIV_RATIO 2 (4 * tcPerEc lv)

/-- PERF_FREQUENCY_CHANGE: at the second tick after its decision (R297, R299). -/
def State.changeFrequency (s : State) : State :=
  match s.perf.step, s.perf.freqTick with
  | some (a, b), some t =>
    if s.frame.ticks < t || s.frame.tc ≠ 0 then s
    else
      let s := s.armsClock.setFrequency b
      let s : State := { s with perf := { s.perf with freqTick := none, lastTick := some s.frame.ticks } }
      if a < b then
        let s := (s.perfRecord b a 0 0).setLevels (s.setpoint b)
        s.startVolt b
      else (s.perfRecord b a 0 (s.get PL_VOUT_READ_MV)).stepDone
  | _, _ => s

/-- PERF_FREQUENCY_CHANGE (R297). -/
def execPerfFrequencyChange (s : State) : Host.Outcome State Fault Refusal := .next s.changeFrequency

/-- The bus is free again; a STATUS_WORD read that waits takes it (R326). -/
def State.freeBus (s : State) : State :=
  { s with perf := { s.perf with
    op := if s.perf.statusDue then some .readStatus else none, statusDue := false, retries := 0 } }

/-- A step fails (R298): an up step writes the old set-point back, a down step keeps the lower frequency. -/
def State.stepFail (s : State) (result : Nat) (back : Bool) : State :=
  match s.perf.step with
  | none => s.freeBus
  | some (a, b) =>
    let s := ((s.bumpAt PL_COUNTS_COUNT 3).set PL_STATUS_RESULT result).set PL_STATUS_BUSY 0
    let lv := s.get PL_STATUS_LEVEL
    let s := (s.set PL_STATUS_PENDING 0).set PL_STATUS_TARGET lv
    let s : State := { s with perf := { s.perf with
      step := none, freqTick := none, confirmed := false, settling := false, pend := none } }
    let s := s.perfRecord b a 2 (s.get PL_VOUT_READ_MV)
    let s := if a < b then (s.set PL_STATUS_VOLT_UNCONFIRMED 1).freeBus
      else if back then { s with perf := { s.perf with op := some (.writeVout (s.setpoint a) true), retries := 0 } }
      else s.freeBus
    s.raise 11 unitDevice

/-- A transaction failed: retried twice, then the step fails (R298). A write-back and a STATUS_WORD read end there. -/
def State.retry (s : State) (result : Nat) : State :=
  if s.perf.retries < 2 then { s with perf := { s.perf with retries := s.perf.retries + 1 } }
  else
    match s.perf.op with
    | some .readMode => s.stepFail result false
    | some (.writeVout _ false) | some (.readVout _) => s.stepFail result true
    | _ => s.freeBus

/-- VOUT_MODE has been read. -/
def State.gotMode (s : State) (v : Nat) : State :=
  let s := (s.set PL_VOUT_MODE_VALID 1).set PL_VOUT_MODE_MODE (v % 256)
  if s.modeKnown then s.startVolt s.stepBase else s.retry 4

/-- VOUT_COMMAND has been acknowledged: the regulator settles (R297). -/
def State.gotWrite (s : State) (back : Bool) : State :=
  let lv := if back then s.get PL_STATUS_LEVEL else s.stepBase
  let s := (s.set PL_STATUS_VLEVEL lv).freeBus
  { s with perf := { s.perf with settling := !back } }

/-- The voltage is confirmed (R297, R299). -/
def State.confirm (s : State) (mv : Nat) : State :=
  match s.perf.step with
  | none => s
  | some (a, b) =>
    let s := ((s.set PL_STATUS_VOLT_UNCONFIRMED 0).setLevels (s.setpoint b)).perfRecord b a 1 mv
    if a < b then s.stepDone
    else
      let due := match s.perf.lastTick with
        | some t => t + s.get PL_MIN_INTERVAL_FRAMES
        | none => 0
      { s with perf := { s.perf with confirmed := true, freqTick := some (max due (s.frame.ticks + 2)) } }

/-- READ_VOUT has been read: within ±2 % of the new set-point, or the step fails. -/
def State.gotVout (s : State) (target v : Nat) : State :=
  let (x, u) := voutRead s.voutExp (v % 65536)
  let mv := min (roundDiv x u).toNat 0xFFFF
  let s := s.set PL_VOUT_READ_MV mv
  let near := 50 * ((x : Int) - target * u).natAbs ≤ target * u
  if near then s.freeBus.confirm mv else s.stepFail 3 true

/-- PMBUS_TRANSACTION_DONE: what the transaction in progress brings. -/
def State.pmbusDone (s : State) (x : PmbusResult) : State :=
  match s.perf.op, x with
  | none, _ => s
  | some _, .pecError => if s.on PL_PMBUS_PEC_EN then s.retry 3 else s
  | some .readMode, .word v => s.gotMode v
  | some (.writeVout _ back), .ack => s.gotWrite back
  | some (.readVout t), .word v => s.gotVout t v
  | some .readStatus, .word v => (s.set SM_ALERT_STATUS_WORD (v % 65536)).freeBus
  | some _, .nack => s.retry 3
  | some _, _ => s

/-- PMBUS_TRANSACTION_DONE (R298). -/
def execPmbusTransactionDone (x : PmbusResult) (s : State) : Host.Outcome State Fault Refusal := .next (s.pmbusDone x)

/-- VOUT_SETTLE_END: READ_VOUT is started (R297); a STATUS_WORD read that it meets is made after it. -/
def State.settleEnd (s : State) : State :=
  if s.perf.settling then
    { s with perf := { s.perf with
      settling := false, op := some (.readVout (s.setpoint s.stepBase)), retries := 0
      statusDue := s.perf.statusDue || s.perf.op.isSome } }
  else s

/-- VOUT_SETTLE_END (R297). -/
def execVoutSettleEnd (s : State) : Host.Outcome State Fault Refusal := .next s.settleEnd

/-! Objects (Table 12-10). -/

/-- PL_VOUT: refused while a step runs, and outside nominal ±25 mV; the level in force has the new set-point. -/
def State.wPlVout (s : State) (lv : Nat) (v : Word) : Nat × State :=
  let mv := v.bits 15 0
  let nom := [800, 700, 600].getD lv 0
  if s.on PL_STATUS_BUSY then (stState, s)
  else if mv + 25 < nom ∨ nom + 25 < mv then (stRange, s)
  else
    let s := s.setWord 0x6102 lv v
    (stOk, if lv = s.get PL_STATUS_LEVEL && !s.on PL_STATUS_VOLT_UNCONFIRMED then s.setLevels mv else s)

/-- PL_PMBUS and PL_MIN_INTERVAL. -/
def State.wPlPmbus (s : State) (sub : Nat) (v : Word) : Nat × State :=
  let bad := if sub = 0 then decide (v.bits 31 16 < 10 ∨ 10000 < v.bits 31 16) else decide (v.bits 15 0 < 100)
  if bad then (stRange, s) else (stOk, s.setWord 0x6103 sub v)

end Sys2Proof.Machine
end

