-- ==== Sys2Proof/Machine/Modes.lean ====
section
/-! DEFINITION. Boot, the firmware image and the modes (chapter 11): download, image check, domain starts, mode
requests and changes, DORMANT entry and exit. -/

namespace Sys2Proof.Machine

/-! The image (R270 to R274). -/

/-- The bytes received, in order; a chunk not received reads as zeros and fails the check before it is used. -/
def State.imageBytes (s : State) : Bytes :=
  (List.range ((s.boot.length + 255) / 256)).flatMap fun k => leBytes 256 ((s.boot.chunks.lookup k).getD 0).toNat

/-- Chunks of the download in force. -/
def State.chunkCount (s : State) : Nat := (s.boot.length + 255) / 256

/-- The lowest chunk not received. -/
def State.firstMissing (s : State) : Option Nat :=
  (List.range s.chunkCount).find? fun k => (s.boot.chunks.lookup k).isNone

/-- BT_RX follows the chunks (Table 11-11). -/
def State.reportChunks (s : State) : State :=
  (s.set BT_RX_RECEIVED s.boot.chunks.length).set BT_RX_FIRST_MISSING (s.firstMissing.getD 0xFFF)

/-- A little-endian field of the header. -/
def field (h : Bytes) (lo n : Nat) : Nat := leValue ((h.drop lo).take n)

/-- The bytes of BT_KEY_HASH. -/
def keyHashBytes : Bytes := (List.range 8).flatMap fun k => leBytes 4 (Config.keyHash k).toNat

/-- Bytes that are all zero. -/
def allZero (b : Bytes) : Bool := b.all fun x => x = 0

/-- Checks 2 to 8 of Table 11-5: RESULT, 1 where every one passes. -/
def imageResult (img : Bytes) (len : Nat) : Nat :=
  let h := img.take 512
  let body := (img.take len).drop 512
  let key := (h.drop 64).take 64
  if field h 0 4 ≠ 0x4F504E55 || field h 4 2 ≠ 1 || !allZero ((h.drop 6).take 2) || !allZero ((h.drop 28).take 4) ||
      !allZero (h.drop 192) then 3
  else if field h 8 4 + 512 ≠ len then 4
  else if sha256 key ≠ keyHashBytes then 5
  else if field h 20 4 < Config.svnMin.toNat then 6
  else if 0x01000000 < field h 16 4 then 7
  else if sha256 body ≠ (h.drop 32).take 32 then 8
  else if !ecdsaVerify (field h 64 32, field h 96 32) (sha256 (h.take 128)) (field h 128 32) (field h 160 32) then 9
  else 1

/-- BT_CHECK_TIME in µs (R272) of a body length, on the HCLK in force: 187.5 MHz, or the link-derived clock. -/
def State.checkTime (s : State) (body : Nat) : Nat :=
  let cycles := 240340 + 68 * ((body + 8) / 64 + 4)
  if s.on CK_STATUS_SRC then (roundDiv (2 * cycles) 375).toNat
  else
    let fclk := if s.clocks.link.bits 3 3 = 1 then 1250 else 625
    (roundDiv (2 * cycles * s.clocks.link.bits 2 0) fclk).toNat

/-- A FIRMWARE record (R282). -/
def State.firmwareRecord (s : State) (fwIf svn event result : Nat) : State :=
  s.post 0x81 0 (payloadOf [(fwIf, 32), (svn % 65536, 16), (event, 8), (result, 0)])

/-- A failed check: its RESULT, count and record (R272). -/
def State.checkFailed (s : State) (fwIf svn result st : Nat) : State :=
  let s := ((s.set BT_STATUS_RESULT result).set BT_STATUS_STATE st).bump BT_CHECK_FAILS_COUNT
  s.firmwareRecord fwIf svn 1 result

/-- FW_IF_VERSION and SVN of an incomplete image: of its header where the first chunk has come, else free. -/
def State.headerFields (s : State) : Nat × Nat × State :=
  match s.boot.chunks.lookup 0 with
  | some c => (field (leBytes 256 c.toNat) 12 4, field (leBytes 256 c.toNat) 20 4, s)
  | none =>
    let (a, s) := s.free
    let (b, s) := s.free
    (a.toNat, b.toNat, s)

/-- IMAGE_CHECK_DONE: Table 11-5. The header of an image whose first chunk has not come, and the time of a check that
ended early, are not given by the manual: free values. -/
def State.checkDone (s : State) : State :=
  if s.get BT_STATUS_STATE ≠ 2 then s
  else if s.firstMissing.isSome then
    let (a, b, s) := s.headerFields
    let (t, s) := s.free
    (s.set BT_CHECK_TIME_US t.toNat).checkFailed a b 2 1
  else
    let img := s.imageBytes
    let r := imageResult img s.boot.length
    let fwIf := field img 12 4
    let svn := field img 20 4
    let (t, s) := if r = 1 ∨ r = 9 then (s.checkTime (field img 8 4), s) else
      let (w, s) := s.free
      (w.toNat, s)
    let s := s.set BT_CHECK_TIME_US t
    if r = 1 then
      let s : State := { s with boot := { s.boot with fwIf := BitVec.ofNat 32 fwIf } }
      let s := ((s.set BT_STATUS_RESULT 1).set BT_STATUS_STATE 3).set BT_IMAGE_SVN_SVN svn
      s.firmwareRecord fwIf svn 0 1
    else s.checkFailed fwIf svn r 4

/-- IMAGE_CHECK_DONE (R272): HKP makes the check. -/
def execImageCheckDone (s : State) : Host.Outcome State Fault Refusal :=
  .next (if s.running 0x1C then s.checkDone else s)

/-- The chunks are discarded. -/
def State.dropChunks (s : State) (length : Nat) : State :=
  let s : State := { s with boot := { s.boot with chunks := [], length := length } }
  (s.set BT_RX_RECEIVED 0).set BT_RX_FIRST_MISSING 0

/-- BEGIN, END, RUN and ABORT allowed in a state (Table 11-6). -/
def bootAllowed (cmd st : Nat) : Bool :=
  (cmd = 1 && (st = 0 || st = 1 || st = 4)) || (cmd = 2 && st = 1) || (cmd = 3 && st = 3) ||
    (cmd = 4 && (st = 1 || st = 3 || st = 4))

/-- BEGIN. -/
def State.bootBegin (s : State) (session : Nat) : State :=
  ((s.dropChunks (s.get BT_LENGTH_BYTES)).set BT_STATUS_STATE 1).set BT_STATUS_SESSION session

/-- END. -/
def State.bootEnd (s : State) : State := s.set BT_STATUS_STATE 2

/-- RUN. -/
def State.bootRun (s : State) : State :=
  let s := (s.set BT_STATUS_STATE 5).setWord 0x1011 0 s.boot.fwIf
  s.firmwareRecord s.boot.fwIf.toNat (s.get BT_IMAGE_SVN_SVN) 2 (s.get BT_STATUS_RESULT)

/-- ABORT. -/
def State.bootAbort (s : State) : State := (s.dropChunks 0).set BT_STATUS_STATE 0

/-- BT_CTRL (R273): state, mode, range. -/
def State.wBtCtrl (s : State) (v : Word) : Nat × State :=
  let cmd := v.bits 2 0
  let len := s.get BT_LENGTH_BYTES
  let known := 1 ≤ cmd && cmd ≤ 4
  if known && !bootAllowed cmd (s.get BT_STATUS_STATE) then (stState, s)
  else if s.modeNow ≠ modeBoot then (stMode, s)
  else if !known || (cmd = 1 && (len < 768 || 786944 < len)) then (stRange, s)
  else if cmd = 1 then (stOk, s.bootBegin (v.bits 31 16))
  else if cmd = 2 then (stOk, s.bootEnd)
  else if cmd = 3 then (stOk, s.bootRun)
  else (stOk, s.bootAbort)

/-- One chunk is stored; a chunk that arrives twice is written again. -/
def State.storeChunk (s : State) (k : Nat) (c : BitVec 2048) : State :=
  { s with boot := { s.boot with chunks := (k, c) :: s.boot.chunks.filter fun p => p.1 ≠ k } }

/-- An IMAGE frame (R274): its status, and its chunks stored where it is acted on. -/
def State.image (s : State) (f : ImgFrame) : Nat × State :=
  let n := f.chunks.length
  if s.get BT_STATUS_STATE ≠ 1 then (stState, s)
  else if f.session ≠ s.get BT_STATUS_SESSION || f.offset % 256 ≠ 0 || s.chunkCount < f.offset / 256 + n then (stRange, s)
  else
    let l := (List.range n).zip f.chunks
    (stOk, (l.foldl (fun s p => s.storeChunk (f.offset / 256 + p.1) p.2) s).reportChunks)

/-! Domain starts (R276). -/

/-- The image runs and serves its objects. -/
def State.imageServes (s : State) : Bool := s.get BT_STATUS_STATE = 5 && !s.boot.restart

/-- DOMAIN_START: the image starts the remaining domains once SRC = 1, and sets DOMAINS_UP once all are started. -/
def State.domainStart (s : State) : State :=
  if s.get BT_STATUS_STATE = 5 && s.running 0x1C && s.on CK_STATUS_SRC then
    let s : State := { s with boot := { s.boot with restart := false } }
    let s := State.eachIn allDomains (fun d s => if s.domState d = 0 then s.wr PW_DOMAIN_STATE d 1 else s) s
    if s.pow.wakes = [] then s.set BT_STATUS_DOMAINS_UP 1 else s
  else s

/-- DOMAIN_START (R276). -/
def execDomainStart (s : State) : Host.Outcome State Fault Refusal := .next s.domainStart

/-! Modes (R277, R278, R281). -/

/-- BLK_TIME, BLK_CLOCK and BLK_IMAGE of MD_MODE. -/
def State.blkTime (s : State) : Bool := s.get TB_STATUS_STATE ≤ 1
def State.blkClock (s : State) : Bool := !s.on TC_STATUS_LOCK || !s.on TC_STATUS_CLK_READY || !s.on CK_STATUS_SRC
def State.blkImage (s : State) : Bool := s.get BT_STATUS_STATE ≠ 5 || !s.on BT_STATUS_DOMAINS_UP

/-- Conditions of cause 1. -/
def State.serviceOk (s : State) : Bool := !s.blkTime && !s.blkClock && !s.blkImage

/-- Conditions of cause 6. -/
def State.dormantOk (s : State) : Bool :=
  !s.lanesBusy && s.survey.entry.isNone && s.get SV_STATUS_STATE = 0 && s.cal.runs = []

/-- A request that waits for its tick. -/
def State.modeAsked (s : State) : Bool := s.mode.next.any fun n => n.2.1 = 1 || n.2.1 = 6

/-- A refused request counts. -/
def State.refuseMode (s : State) (st : Nat) : Nat × State := (st, s.bump MD_REFUSED_COUNT)

/-- An accepted request, in place of one not yet in effect (R281). -/
def State.askMode (s : State) (req : Nat) (next : Option (Nat × Nat × Nat)) : Nat × State :=
  let s := if s.modeAsked then s.bump MD_REFUSED_COUNT else s
  (stOk, { s.set MD_REQUEST_REQ req with mode := { s.mode with next := next } })

/-- MD_REQUEST (R277): ENTERING, then the mode from which the request is accepted, then its conditions. -/
def State.wMdRequest (s : State) (v : Word) : Nat × State :=
  let req := v.bits 3 0
  if s.on MD_MODE_ENTERING then s.refuseMode stState
  else if req = 2 then
    (if s.modeNow = modeService then s.askMode 2 none
     else if s.modeNow ≠ modeBoot then s.refuseMode stMode
     else if !s.serviceOk then s.refuseMode stState
     else s.askMode 2 (some (modeService, 1, s.frame.ticks + 1)))
  else if req = 4 then
    (if s.modeNow ≠ modeService then s.refuseMode stMode
     else if !s.dormantOk then s.refuseMode stState
     else s.askMode 4 (some (modeDormant, 6, s.frame.ticks + 1)))
  else s.refuseMode stRange

/-- DORMANT entry begins (Table 11-8 step 1): the commit disarmed, a pending power request superseded, the open block
to be closed. -/
def State.beginDormant (s : State) : State :=
  let s := s.setMode modeDormant 6
  let s := s.set MD_MODE_ENTERING 1
  let s := (s.missShadow 3).endRing
  let s := if s.pow.pend.isSome then
      let s := ((s.set PW_STATUS_RESULT 4).set PW_STATUS_PENDING 0).bumpAt PW_COUNTS_COUNT 4
      ({ s with pow := { s.pow with pend := none } } : State)
    else s
  ({ s with mode := { s.mode with entry := 1, wake := false } } : State).sealNow

/-- The mode change due at this tick, judged again (R277). -/
def State.modeChange (s : State) : State :=
  match s.mode.next with
  | none => s
  | some (_, cause, due) =>
    if s.frame.ticks < due then s
    else
      let s : State := { s with mode := { s.mode with next := none } }
      if cause = 1 then
        (if s.modeNow = modeBoot && s.serviceOk then s.setMode modeService 1 else s.bump MD_REFUSED_COUNT)
      else if cause = 6 then
        (if s.modeNow = modeService && s.dormantOk then s.beginDormant else s.bump MD_REFUSED_COUNT)
      else if cause = 5 then
        (if s.modeNow = modeHoldover && s.on TC_STATUS_LOCK then s.setMode modeService 5 else s)
      else if cause = 3 then (if s.modeNow = modeSurvey then s.setMode modeService 3 else s)
      else if cause = 10 then (if s.modeNow = modeDormant then s.leaveEntry.setMode modeService 10 else s)
      else s

/-- MODE_CHANGE (R277). -/
def execModeChange (s : State) : Host.Outcome State Fault Refusal := .next s.modeChange

/-! DORMANT (R60, R278, R279). -/

/-- The exit: the search runs from the stored band, and the domains leave Neap in parallel (R60, R279). -/
def State.beginExit (s : State) : State :=
  let s : State := { s with
    boot := { s.boot with waking := true }
    timing := { s.timing with fromStored := true, phase := 0 }
    mode := { s.mode with entry := 0, wake := false } }
  let s := (s.set TC_STATUS_STATE 1).startSearch
  State.eachIn allDomains (fun d s => if s.domState d = 3 then s.beginWake d 1 2 0xFF else s) s

/-- Steps 4 and 5: the frame counter and the DCO stop, the endpoints go to the repeater. -/
def State.clockStop (s : State) : State :=
  if s.modeNow = modeDormant && s.on MD_MODE_ENTERING && s.mode.entry = 2 then
    let s : State := { s with frame := { s.frame with running := false } }
    let s := s.set TC_DCO_FINE_s01 s.fine
    let s := State.each 6 (fun k s => s.wr TC_OUTDIV_RUNNING k 0) s
    let s := ((s.set TC_STATUS_STATE 0).set TC_STATUS_LOCK 0).clearReady
    let s := s.set MD_MODE_ENTERING 0
    let wake := s.mode.wake
    let s : State := { s with
      mode := { s.mode with entry := 3, wake := false }
      timing := { s.timing with phase := 0, commit := none } }
    if wake then s.beginExit else s
  else s

/-- DORMANT_CLOCK_STOP (R278). -/
def execDormantClockStop (s : State) : Host.Outcome State Fault Refusal := .next s.clockStop

end Sys2Proof.Machine
end

