-- ==== Sys2Proof/Machine/SafeState.lean ====
section
/-! DEFINITION. Faults and the safe state (chapter 13): reports and their ends, windows, containment, SAFE_IN_N,
read-backs, clearing, release, injection. -/

namespace Sys2Proof.Machine

/-! Causes that stand (R304, R317, R323, R326). -/

/-- Causes that pins and rails show now, as source and unit. -/
def State.standing (s : State) : List (Nat × Nat) :=
  (if s.safe.inLow || s.safe.latchHold then [(3, unitDevice)] else []) ++
  (if s.supply.vcore.dip then [(8, unitDevice)] else []) ++
  (if s.supply.vtime.dip then [(9, unitDevice)] else []) ++
  (if s.on SM_STATUS_ALERT then [(12, unitDevice)] else [])

/-- The collector samples again, on any clock: causes not yet reported report, and the hold of the unclocked path
passes to the safe state (R304, R317). -/
def State.collectorSamples (s : State) : State :=
  if s.collects then
    let s := s.raiseLevels s.standing
    let s := if s.safe.latchHold && !s.safe.inLow then s.endCause 3 else s
    { s with safe := { s.safe with latchHold := false } }
  else s

/-! Reports (R304). -/

/-- What the wire of a source shows under an injection: equal rails where one of them is inverted, the fault code where
both are (R327). -/
def State.wireSeen (s : State) (r : Report) : Report :=
  if !memoryChecker r.src && s.injected r.src then { r with wire := decide (s.fault.invert ≠ 3) } else r

/-- FAULT_REPORT: the checkers whose wires turn to the fault code, or to two equal samples, in one tc. A memory
checker's report is one check of it. -/
def State.faultReport (s : State) (rs : List Report) : State :=
  if !s.collects then s
  else
    let rs := (rs.map s.wireSeen).filter fun r =>
      !reservedSource r.src && !s.masked r.src r.unit && (r.wire || !s.sourceBit FC_ACTIVE_BITS r.src)
    let s := rs.foldl (fun s r =>
      let s := if memoryChecker r.src then (s.checked r.src .uncorrected).2 else s
      s.setSourceBit FC_ACTIVE_BITS r.src true) s
    s.report rs

/-- FAULT_REPORT (R304). -/
def execFaultReport (reports : List Report) (s : State) : Host.Outcome State Fault Refusal := .next (s.faultReport reports)

/-- FAULT_CAUSE_END: the wire of a source returns to the no-fault code, or its pin returns high. Supply and temperature
causes end by their own levels. -/
def State.causeEnd (s : State) (src : Nat) : State :=
  if 5 ≤ src ∧ src ≤ 10 then s
  else
    let s := if src = 3 then ({ s.set SF_STATE_SAFE_IN 0 with safe := { s.safe with inLow := false } } : State)
      else if src = 12 then s.set SM_STATUS_ALERT 0
      else if src = 57 ∨ src = 4 then State.each 256 (fun p s => s.wr GT_STATUS_READBACK_FAULT p 0) s
      else s
    if s.collects then s.endCause src else s

/-- FAULT_CAUSE_END (R304). -/
def execFaultCauseEnd (src : Nat) (s : State) : Host.Outcome State Fault Refusal := .next (s.causeEnd src)

/-! Windows, containment, records (R308, R309, R313). -/

/-- The open window closes now (Table 13-4). -/
def State.windowDue (s : State) : Bool :=
  s.fault.window.any fun w =>
    decide (w.boundUp ≤ s.frame.up) ||
      (decide (w.closeUp ≤ s.frame.up) &&
        match w.waitTick with
        | some t => decide (t ≤ s.frame.ticks)
        | none => true)

/-- REACTION_WINDOW_CLOSE (R308). -/
def execReactionWindowClose (s : State) : Host.Outcome State Fault Refusal :=
  .next (if s.windowDue then s.closeWindow else s)

/-- One lane under a containment that takes effect: 1 coast, 2 park. -/
def State.containLane (s : State) (src act unit e : Nat) : State :=
  let l := s.lane e
  if !inScope (sourceScope src) unit e then s
  else if act = 1 then (if l.st.listens then s.coastLane e 5 else s)
  else if l.st = .off || l.st = .fault then s
  else s.parkLane e 5

/-- CONTAINMENT_APPLY: the containments due at this tick take effect (R309). -/
def State.applyContainment (s : State) : State :=
  let isDue := fun (c : Nat × Nat × Nat × Nat × Bool) => !c.2.2.2.2 && decide (c.2.2.2.1 ≤ s.frame.ticks)
  let due := s.fault.contain.filter isDue
  let s : State := { s with fault := { s.fault with
    contain := s.fault.contain.map fun c => if isDue c then (c.1, c.2.1, c.2.2.1, c.2.2.2.1, true) else c } }
  due.foldl (fun s c => s.eachLane fun s e => s.containLane c.1 c.2.1 c.2.2.1 e) s

/-- CONTAINMENT_APPLY (R309). -/
def execContainmentApply (s : State) : Host.Outcome State Fault Refusal := .next s.applyContainment

/-- FAULT_RECORD_ENQUEUE: the oldest closed record enters the event FIFO in its reserved class, behind the gap record
of what the collector has lost (R313). While nothing records, it is counted there (R201). -/
def State.passFault (s : State) : State :=
  match s.fault.fifo with
  | [] => s
  | r :: rs =>
    if s.recording && !s.fifoRoom r.code then s
    else
      match s.fault.gap with
      | some g => { s.postRec g.toRec none with fault := { s.fault with gap := none } }
      | none => { s.postRec r none with fault := { s.fault with fifo := rs } }

/-- FAULT_RECORD_ENQUEUE (R313). -/
def execFaultRecordEnqueue (s : State) : Host.Outcome State Fault Refusal := .next s.passFault

/-! SAFE_IN_N and read-backs (R306, R317, R318). -/

/-- SAFE_IN_N has been low for 2 ns: the unclocked path darkens the gates, asserts the FLT pair and holds both; with
a clock, source 3 reports after 2 tc. -/
def State.safeIn (s : State) : State :=
  let s := ((s.darken s.frame.up).assertFlt s.frame.up).set SF_STATE_SAFE_IN 1
  let s : State := { s with safe := { s.safe with inLow := true, latchHold := s.safe.vgate } }
  if s.collects then (s.passTo (s.frame.up + s.pathTc 2)).collectorSamples else s

/-- SAFE_IN_LOW (R317). -/
def execSafeInLow (s : State) : Host.Outcome State Fault Refusal := .next s.safeIn

/-- FLT_READBACK_MISMATCH (R306). -/
def execFltReadbackMismatch (s : State) : Host.Outcome State Fault Refusal := .next (s.raiseLevel 13 unitDevice)

/-- The comparison of gate `p` is suspended: 128 tc after a commanded change (R318). -/
def State.gateMoving (s : State) (p : Nat) : Bool :=
  match s.safe.moved.lookup p with
  | some t => decide (s.pathCycles t < 128)
  | none => false

/-- GATE_READBACK_MISMATCH: source 57 outside a safe state, 4 inside one; the FLT pair is asserted in every case (R318;
log entry 99). -/
def State.gateMismatch (s : State) (p : Nat) : State :=
  if s.gateMoving p || !s.collects then s
  else
    let s := (s.wr GT_STATUS_READBACK_FAULT p 1).assertFlt (s.frame.up + s.pathTc 8)
    s.raiseLevel (if s.get SF_STATE_STATE = 0 then 57 else 4) p

/-- GATE_READBACK_MISMATCH (R318). -/
def execGateReadbackMismatch (p : Nat) (s : State) : Host.Outcome State Fault Refusal := .next (s.gateMismatch (p % 256))

/-! Objects of the collector (Table 13-12). -/

/-- FC_FIRST is emptied (R312). -/
def State.emptyFirst (s : State) : State := State.each 10 (fun k s => s.setWord 0x7000 k 0) s

/-- FC_CLEAR (R312, R314). -/
def State.wFcClear (s : State) (v : Word) : Nat × State :=
  let all := v.bits 31 31 = 1
  let first := v.bits 30 30 = 1
  let src := v.bits 6 0
  if first && (s.get SF_STATE_STATE ≠ 0 || s.fault.window.isSome) then (stState, s)
  else if !all && !first && s.sourceBit FC_ACTIVE_BITS src then (stState, s)
  else
    let named := if all then List.range 128 else if first then [] else [src]
    let s := (named.filter fun k => !s.sourceBit FC_ACTIVE_BITS k).foldl State.clearSource s
    let s := if first then s.emptyFirst else s
    (stOk, s.settleStatus)

/-- FC_CFG: CONTAIN 3, a severity below the source's floor or above S4 are out of range (R307). -/
def State.wFcCfg (s : State) (src : Nat) (v : Word) : Nat × State :=
  if v.bits 9 8 = 3 ∨ v.bits 2 0 < s.rd FC_CFG_FLOOR src ∨ 4 < v.bits 2 0 then (stRange, s)
  else (stOk, s.setWord 0x7002 src v)

/-- FC_FIFO: writing 0 to MAX clears it. -/
def State.wFcFifo (s : State) (v : Word) : Nat × State :=
  if v.bits 21 16 = 0 then (stOk, s.set FC_FIFO_MAX 0) else (stRange, s)

/-! Release (R320, R280). -/

/-- Sources at S3 and above whose causes are absent are cleared. -/
def State.clearSevere (s : State) : State :=
  let l := (List.range 128).filter fun k => 3 ≤ s.rd FC_CFG_SEVERITY k && !s.sourceBit FC_ACTIVE_BITS k
  (l.foldl State.clearSource s).settleStatus

/-- The mode after a release (R280). -/
def State.modeAfter (s : State) : Nat :=
  if s.get TB_STATUS_STATE ≤ 1 ∨ s.mode.safeFrom = modeBoot ∨ s.mode.safeFrom = modeDormant then modeBoot
  else if s.coasting then modeHoldover
  else modeService

/-- A DORMANT entry that still runs at the release of the safe state: past its commit point the domains are woken at its
end; before it, the votes of the mode that follows refuse it (R281, R294). -/
def State.recallEntry (s : State) : State :=
  match s.pow.run with
  | some r =>
    if !r.dormant then s
    else if s.get PW_STATUS_PHASE = 3 then
      { s with pow := { s.pow with late := s.pow.late ++ s.pow.isolated.map fun d => (d, 2) } }
    else s.voteRose
  | none => if s.on MD_MODE_ENTERING then s.leaveEntry else s

/-- The safe state ends: FLT deasserted unless the reset hold keeps it, CM_STATE's gate bits dark, the record, the mode.
After DORMANT the exit of R279 runs first. -/
def State.endSafe (s : State) : State :=
  let new := s.modeAfter
  let s := s.set SF_STATE_STATE 0
  let s : State := { s with safe := { s.safe with flt := s.safe.hold, release := none } }
  let s := State.each 8 (fun k s => s.setWord 0x5204 (0x80 + k) 0xFFFFFFFF) s
  let s := s.post 0x41 0 (payloadOf [(new, 56), (s.get SF_STATE_CAUSE, 48), (s.usSince s.mode.safeUp, 0)])
  if s.mode.safeFrom = modeDormant && !s.frame.running then s.beginExit
  else if s.mode.safeFrom = modeDormant then
    ((State.eachIn allDomains (fun d s => if s.domState d = 3 then s.beginWake d 1 2 0xFF else s) s).setMode new 9).recallEntry
  else s.setMode new 9

/-- SF_RELEASE (R320): the key, then the state. A release takes effect at the next tick, or at once before CLK_READY. -/
def State.wSfRelease (s : State) (v : Word) : Nat × State :=
  if v.bits 0 0 = 0 then (stOk, s)
  else if v.bits 31 16 ≠ 0x5AFE then (stRange, s.bumpAt SF_COUNTS_COUNT 3)
  else if !s.releasable then (stState, s.bumpAt SF_COUNTS_COUNT 3)
  else
    let s := (s.bumpAt SF_COUNTS_COUNT 2).clearSevere
    (stOk, if s.on TC_STATUS_CLK_READY then
        { s with safe := { s.safe with release := some (s.frame.ticks + 1) } }
      else s.endSafe)

/-- SAFE_RELEASE_EFFECT: at the tick of an accepted release (R320). -/
def State.releaseEffect (s : State) : State :=
  match s.safe.release with
  | some t => if t ≤ s.frame.ticks then s.endSafe else s
  | none => s

/-- SAFE_RELEASE_EFFECT (R320). -/
def execSafeReleaseEffect (s : State) : Host.Outcome State Fault Refusal := .next s.releaseEffect

/-! Injection (R327). -/

/-- One unit of each domain that holds a part of the source's checker. -/
def sourceUnits (src : Nat) : List Nat :=
  if src = 25 then [0, 1024, 2048, 3072]
  else if 32 ≤ src ∧ src ≤ 47 then (List.range 4).map fun k => 1024 * (src % 4) + 256 * k
  else if 48 ≤ src ∧ src ≤ 51 then (List.range 4).map fun k => 16 * (src % 4) + 4 * k
  else [0]

/-- TI_INJECT: state, then range. -/
def State.wTiInject (s : State) (v : Word) : Nat × State :=
  let src := v.bits 6 0
  let count := v.bits 23 16
  let inv := v.bits 9 8
  let fatal := s.rd FC_CFG_FLOOR src = 4 && !(v.bits 30 30 = 1 && s.modeNow = modeBoot)
  if v.bits 31 31 = 0 then (stOk, s)
  else if 0 < s.injLeft || s.modeNow = modeSafe || (sourceUnits src).all (s.masked src) then (stState, s)
  else if reservedSource src || count = 0 || inv = 0 || fatal then (stRange, s)
  else
    let s := ((s.set TI_STATUS_PENDING 1).set TI_STATUS_REMAINING count).set TI_STATUS_SOURCE src
    let s : State := { s.bump TI_COUNT_COUNT with fault := { s.fault with invert := inv, injUp := s.frame.up, hit := none } }
    (stOk, s.post 0xA0 src (payloadOf [(src, 56), (inv, 48), (count, 40)]))

/-! Gates (Table 13-17, R353). -/

/-- GT_CFG: CURRENT 2 to 48. -/
def State.wGtCfg (s : State) (p : Nat) (v : Word) : Nat × State :=
  if v.bits 5 0 < 2 ∨ 48 < v.bits 5 0 then (stRange, s) else (stOk, s.setWord 0x4C40 p v)

end Sys2Proof.Machine
end

