-- ==== Sys2Proof/Machine/Supply.lean ====
section
/-! DEFINITION. The supply monitor, the temperature sensors and the regulator's alert (section 13.7). -/

namespace Sys2Proof.Machine

/-! Rails: 0 VCORE, 1 VTIME. -/

/-- A rail of the monitor. -/
def State.rail (s : State) (r : Nat) : RailSt := if r = 0 then s.supply.vcore else s.supply.vtime

/-- A rail replaced. -/
def State.setRail (s : State) (r : Nat) (x : RailSt) : State :=
  if r = 0 then { s with supply := { s.supply with vcore := x } } else { s with supply := { s.supply with vtime := x } }

/-- VCORE_LOW and VTIME_LOW. -/
def State.setLow (s : State) (r : Nat) (b : Bool) : State :=
  if r = 0 then s.setB SM_STATUS_VCORE_LOW b else s.setB SM_STATUS_VTIME_LOW b

/-- Set-point in force, mV: VCORE as the levels in force state it, VTIME 850. -/
def State.railSetpoint (s : State) (r : Nat) : Nat :=
  if r = 0 then (roundDiv (10 * s.get SM_LEVELS_WARN) 92).toNat else 850

/-- SUPPLY_WARNING_CROSS (R323): a rail falls below its warning level. -/
def State.warningCross (s : State) (r lowest : Nat) : State :=
  if (s.rail r).low then s
  else (s.setLow r true).setRail r { low := true, crossUp := s.frame.up, dip := false, lowest := lowest }

/-- SUPPLY_WARNING_CROSS (R323). -/
def execSupplyWarningCross (rail lowest : Nat) (s : State) : Host.Outcome State Fault Refusal :=
  .next (s.warningCross (rail % 2) lowest)

/-- What SUPPLY_MARGINAL stops (Table 13-10): calibration runs, learning, the scheduled step, phase steps. -/
def State.setMarginal (s : State) : State :=
  ((((s.set SM_STATUS_MARGINAL 1).abandonCal).cancelStep).set TB_STATUS_SUSPENDED 1).mapLanes fun _ l => l.unlearn

/-- SUPPLY_DIP_QUALIFY: 100 ns below warning are a dip. -/
def State.dipQualify (s : State) (r lowest : Nat) : State :=
  let x := s.rail r
  if !x.low || x.dip || s.rst.held ≠ [] then s
  else
    let s := s.passTo (x.crossUp + 300)
    let s := s.setRail r { x with dip := true, lowest := min x.lowest lowest }
    let s := (s.bumpAt SM_COUNTS_COUNT (1 + 3 * r)).setMarginal
    let s : State := { s with supply := { s.supply with recoverUp := none }, time := { s.time with resume := false } }
    s.raiseLevel (8 + r) unitDevice

/-- SUPPLY_DIP_QUALIFY (R323). -/
def execSupplyDipQualify (rail lowest : Nat) (s : State) : Host.Outcome State Fault Refusal :=
  .next (s.dipQualify (rail % 2) lowest)

/-- SUPPLY_RECOVER: the rail is back above warning; the dip's record, or a glitch. The operand is the lowest reading
since the qualification. -/
def State.supplyRecover (s : State) (r lowest : Nat) : State :=
  let x := s.rail r
  if !x.low then s
  else
    let s := ((s.setLow r false).setRail r {}).endCause (5 + r)
    if x.dip then
      let ns := s.nsSince x.crossUp
      let low := min x.lowest lowest % 65536
      let s := s.endCause (8 + r)
      let s := s.post 0x42 r (payloadOf [(ns, 32), (s.railSetpoint r % 65536, 16), (low, 0)])
      let s := (s.setWord 0x7812 (2 * r) (BitVec.ofNat 32 ns)).setWord 0x7812 (2 * r + 1) (BitVec.ofNat 32 low)
      { s with supply := { s.supply with recoverUp := some s.frame.up } }
    else if s.rst.held = [] then s.bumpAt SM_COUNTS_COUNT (3 * r)
    else s

/-- SUPPLY_RECOVER (R323). -/
def execSupplyRecover (x : RailReading) (s : State) : Host.Outcome State Fault Refusal :=
  .next (s.supplyRecover (x.rail % 2) x.lowest)

/-- SUPPLY_MARGINAL_CLEAR: 10 µs after the last recovery; stepping resumes at the next tick (R176). -/
def State.marginalClear (s : State) : State :=
  let due := match s.supply.recoverUp with
    | some t => decide (t + 30000 ≤ s.frame.up)
    | none => false
  if due && !s.supply.vcore.dip && !s.supply.vtime.dip && s.on SM_STATUS_MARGINAL then
    { s.set SM_STATUS_MARGINAL 0 with
      supply := { s.supply with recoverUp := none }, time := { s.time with resume := true } }
  else s

/-- SUPPLY_MARGINAL_CLEAR (R323). -/
def execSupplyMarginalClear (s : State) : Host.Outcome State Fault Refusal := .next s.marginalClear

/-- SUPPLY_RESET_LEVEL: source 5 or 6, and the brownout reset 64 tc later (R322). -/
def State.resetLevel (s : State) (r : Nat) : State :=
  if s.rst.held.contains 1 || s.rst.held.contains 2 || s.supply.brown.isSome then s
  else
    let s := if (s.rail r).low then s else s.warningCross r (s.rail r).lowest
    let s := s.bumpAt SM_COUNTS_COUNT (2 + 3 * r)
    let s : State := { s with supply := { s.supply with brown := some (s.frame.up + s.pathTc 64, r) } }
    s.raiseLevel (5 + r) unitDevice

/-- SUPPLY_RESET_LEVEL (R322). -/
def execSupplyResetLevel (rail : Nat) (s : State) : Host.Outcome State Fault Refusal := .next (s.resetLevel (rail % 2))

/-! Temperature (R325). -/

/-- A new reading is the highest one: above the one held, or none has been held since the register was cleared (log
entry 75). -/
def newHighest (held v : Int) : Bool := held < v || held = 0

/-- A sensor's conversion is stored, and the highest readings follow. -/
def State.storeTemp (s : State) (k : Nat) (v : Int) : State :=
  let s := if k < 64 then
      let s := s.wrI (TH_TILE_TEMP_TEMP.tile k) 0 v
      if newHighest (s.rdI (TH_TILE_MAX_TEMP.tile k) 0) v then s.wrI (TH_TILE_MAX_TEMP.tile k) 0 v else s
    else s.setI TH_TIME_TEMP_TEMP v
  if newHighest (s.getI TH_MAX_TEMP) v then (s.setI TH_MAX_TEMP v).set TH_MAX_SENSOR k else s

/-- Sensors that report against a limit after new readings: at or above it, until 2.0 °C below it. -/
def hotSensors (limit : Int) (was : List Nat) (xs : List (Nat × Int)) : List Nat :=
  (List.range 65).filter fun k =>
    match xs.lookup k with
    | some v => decide (limit ≤ v) || (was.contains k && decide (limit - 32 < v))
    | none => was.contains k

/-- TEMPERATURE_CONVERSION: the sensors' readings of one conversion. -/
def State.convert (s : State) (xs : List (Nat × Int)) : State :=
  let xs := (xs.filter fun p => p.1 < 65).map fun p => (p.1, clampInt (-2048) 2047 p.2)
  let s := xs.foldl (fun s p => s.storeTemp p.1 p.2) s
  let crit := hotSensors (s.get TH_LIMITS_CRIT) s.fault.crit xs
  let warm := hotSensors (s.get TH_LIMITS_WARN) s.fault.warm xs
  let s : State := { s with fault := { s.fault with crit := crit, warm := warm } }
  let s := if crit = [] then s.endCause 7 else s
  let s := if warm = [] then s.endCause 10 else s
  let s := s.raiseLevels (((crit.take 1).map fun k => (7, k)) ++ ((warm.take 1).map fun k => (10, k)))
  if xs.any (fun p => p.1 = 64) then s.followFerr else s

/-- TEMPERATURE_CONVERSION (R325). -/
def execTemperatureConversion (readings : List (Nat × Int)) (s : State) : Host.Outcome State Fault Refusal :=
  .next (if s.rst.held = [] then s.convert readings else s)

/-- TH_LIMITS: CRIT 1,280 to 1,760, WARN at most CRIT − 32. -/
def State.wThLimits (s : State) (v : Word) : Nat × State :=
  let crit := v.bits 27 16
  if crit < 1280 ∨ 1760 < crit ∨ crit < v.bits 11 0 + 32 then (stRange, s) else (stOk, s.setWord 0x7801 0 v)

/-- TH_MAX, and TH_TILE_MAX of a tile: writing 0 clears the reading. -/
def State.wThMax (s : State) (index : Nat) (v : Word) : Nat × State :=
  if v.bits 11 0 = 0 then (stOk, s.setWord index 0 ((s.word index 0).put 11 0 0)) else (stRange, s)

/-! PMB_ALERT_N (R326). -/

/-- PMBUS_ALERT: source 12, and one read of STATUS_WORD once the bus is free, or once the first request after a reset
has begun to use it (R331). -/
def State.pmbusAlert (s : State) (status : Nat) : State :=
  if s.on SM_STATUS_ALERT || s.rst.held ≠ [] then s
  else
    let s := (s.set SM_STATUS_ALERT 1).raiseLevel 12 unitDevice
    if s.perf.op.isSome || !s.perf.asked then { s with perf := { s.perf with statusDue := true } }
    else s.set SM_ALERT_STATUS_WORD (status % 65536)

/-- PMBUS_ALERT (R326). -/
def execPmbusAlert (status : Nat) (s : State) : Host.Outcome State Fault Refusal := .next (s.pmbusAlert status)

end Sys2Proof.Machine
end

