-- ==== Sys2Proof/Machine/Resets.lean ====
section
/-! DEFINITION. Resets and what survives (chapter 14): device resets, their release with the straps, the VGATE supply,
domain resets and crossings. -/

namespace Sys2Proof.Machine

/-! What a device reset loses (Table 14-4). -/

/-- Kinds of Table 14-1. -/
def kindCold : Nat := 1
def kindBrown : Nat := 2
def kindPin : Nat := 3
def kindRing : Nat := 4

/-- A class is lost in a reset of a kind. -/
def lostBy (kind : Nat) (p : Pers) : Bool :=
  match p with
  | .c0 | .c1 => true
  | .c2 => kind ≤ kindPin
  | .c3 => kind ≤ kindBrown
  | .c4 | .latch => false

/-- The link state of the pairs, which AON keeps up in every reset but cold (R226). -/
def linkState (index : Nat) : Bool := index = 0x1100 || index = 0x1120

/-- A lane pair in a reset that AON's repeater runs through: its own frames are lost. -/
def PairSt.inReset (p : PairSt) : PairSt := { p with own := [], sentOwn := none }

/-- The supply monitor in a reset: levels stay, dips do not (R330). -/
def SupplySt.inReset (x : SupplySt) : SupplySt :=
  { vcore := { low := x.vcore.low, crossUp := x.vcore.crossUp, lowest := x.vcore.lowest }
    vtime := { low := x.vtime.low, crossUp := x.vtime.crossUp, lowest := x.vtime.lowest } }

/-- Pins and rails as SM_STATUS and SF_STATE show them. -/
def State.showPins (s : State) (alert : Bool) : State :=
  let s := (s.setB SM_STATUS_VCORE_LOW s.supply.vcore.low).setB SM_STATUS_VTIME_LOW s.supply.vtime.low
  (s.setB SM_STATUS_ALERT alert).setB SF_STATE_SAFE_IN s.safe.inLow

/-- Content lost and defaults taken at the assertion of a device reset; every domain and the timing core stop. -/
def State.deviceLoss (s : State) (kind : Nat) : State :=
  let alert := s.on SM_STATUS_ALERT
  let s := (s.deferred.map Prod.fst).foldl State.enforce s
  let s := State.each 0x21 (fun d s => s.enforce (objKey 0x2210 d)) s
  let s := s.resetLog (decide (kindPin ≤ kind))
  let s := s.loseWords (lostBy kind) fun i _ => kind = kindCold || !linkState i
  let t := State.blank
  let s : State := { t with
    pending := s.pending, objs := s.objs, force := s.force, fresh := s.fresh, ev := s.ev
    arbMask := if kindPin ≤ kind then s.arbMask else 0
    frame := { up := s.frame.up, ticks := s.frame.ticks }
    pds := Table.mapVals (fun _ => {}) (fun _ x => { input := x.input }) s.pds
    pairs := if kind = kindCold then t.pairs else s.pairs.map PairSt.inReset
    fault := { taken := if kindPin ≤ kind then s.fault.taken else 0 }
    safe := { s.safe with
      hold := true, flt := true, release := none
      sampled := s.safe.sampled && decide (kindPin ≤ kind) }
    supply := s.supply.inReset
    rst := { held := s.rst.held, rail := s.rst.rail, ringPort := s.rst.ringPort, mode := s.rst.mode }
    clocks := { link := s.word 0x2202 0 } }
  (s.darken s.frame.up).showPins alert

/-- A device reset asserts; while another holds the device, it joins it (R330). -/
def State.assertReset (s : State) (kind : Nat) : State :=
  let s : State := if s.rst.held = [] then { s with rst := { s.rst with mode := s.modeNow } } else s
  let s := s.deviceLoss kind
  { s with rst := { s.rst with held := kind :: s.rst.held } }

/-- The Fatal latch is lost: VAON and VGATE are both below their thresholds (R319). -/
def State.loseLatch (s : State) : State :=
  if s.safe.vaonLow && !s.safe.vgate then s.loseWords (fun p => p = .latch) fun _ _ => true else s

/-- COLD_RESET: a monitored rail is below its power-on threshold; whether it is VAON is free (R330). -/
def State.coldReset (s : State) : State :=
  let (b, s) := s.freeBit
  let s := s.assertReset kindCold
  ({ s with safe := { s.safe with vaonLow := s.safe.vaonLow || b } } : State).loseLatch

/-- COLD_RESET (R330). -/
def execColdReset (s : State) : Host.Outcome State Fault Refusal := .next s.coldReset

/-- A pin reset recognised (R332). -/
def State.pinReset (s : State) : State :=
  (s.assertReset kindPin).bump MD_RESET_COUNTS_PIN

/-- PIN_RESET: a pulse of `width` ns; between 40 ns and 100 ns the outcome is free (R332). -/
def execPinReset (width : Nat) (s : State) : Host.Outcome State Fault Refusal :=
  let (b, t) := s.freeBit
  let s := if width < 40 ∨ 100 ≤ width then s else t
  let taken := decide (100 ≤ width) || (decide (40 ≤ width) && b)
  .next (if taken then s.pinReset else s)

/-- BROWNOUT_RESET_ASSERT: 64 tc after the reset-level detection (R322). -/
def State.brownReset (s : State) : State :=
  match s.supply.brown with
  | none => s
  | some (t, r) =>
    let s := s.passTo t
    ({ s with rst := { s.rst with rail := r + 1 } } : State).assertReset kindBrown

/-- BROWNOUT_RESET_ASSERT (R322). -/
def execBrownoutResetAssert (s : State) : Host.Outcome State Fault Refusal := .next s.brownReset

/-- RING_RESET_ASSERT: 200 ns after the block's arrival (R330). -/
def State.ringReset (s : State) : State :=
  match s.rst.ringDue with
  | none => s
  | some t => ((s.passTo t).assertReset kindRing).bump MD_RESET_COUNTS_RING

/-- RING_RESET_ASSERT (R330). -/
def execRingResetAssert (s : State) : Host.Outcome State Fault Refusal :=
  .next s.ringReset

/-! Release (R333, R334). -/

/-- SAFEPOL is sampled where VGATE is above its threshold; until then the pin's level is read (R265). -/
def State.samplePol (s : State) (level : Nat) : State :=
  let s : State := { s with safe := { s.safe with pin := decide (level % 2 = 1), sampled := s.safe.vgate } }
  s.set ID_STRAPS_SAFEPOL (level % 2)

/-- The straps are latched (R265, Table 11-1). -/
def State.sampleStraps (s : State) (x : Straps) : State :=
  let s := (((s.set ID_STRAPS_ADDR x.addr).set ID_STRAPS_TPORT x.tport).set ID_STRAPS_REFDIV x.refdiv).set ID_STRAPS_PROF x.prof
  let s := ((s.samplePol x.safepol).set FL_ADDR_ADDR x.addr).set TC_REF_PORT_SEL x.tport
  let s := (s.set TC_REF_PORT_STRAP x.tport).set TC_REF_REFDIV_STRAP x.refdiv
  (s.setB TC_REF_STRAP_BAD (decide (x.refdiv % 4 = 3))).set SV_STATUS_TAP (x.prof / 4)

/-- The pre-scaler of the strap with its nominal ratio, in force and staged (Tables 2-2, 2-16); what a ring reset keeps
staged stays. -/
def State.strapDivider (s : State) (kind : Nat) : State :=
  let pre := s.get TC_REF_REFDIV_STRAP % 3
  let s := s.setDiv pre (nominalRatio pre)
  if kind = kindRing then s
  else
    let n := nominalDiv pre
    ((s.set TC_DIV_NEXT_PRESCALE pre).set TC_DIV_NEXT_NINT n.1).set TC_DIV_NEXT_FRAC n.2

/-- MD_RESET_CAUSE (Table 14-8). -/
def State.resetCause (s : State) (kind : Nat) : State :=
  let s := (s.set MD_RESET_CAUSE_KIND kind).set MD_RESET_CAUSE_FATAL_SEEN (s.get SF_FATAL_LATCHED)
  let s := s.set MD_RESET_CAUSE_RAIL (if kind = kindBrown then s.rst.rail else 0)
  s.set MD_RESET_CAUSE_RING_PORT (if kind = kindRing then s.rst.ringPort else 0)

/-- The mode record of cause 0: its old mode is the one the reset found. -/
def State.enterBoot (s : State) : State :=
  let old := s.rst.mode
  let s := ((s.set MD_MODE_MODE modeBoot).set MD_MODE_PRIOR old).set MD_MODE_CAUSE 0
  (s.bump MD_CHANGES_COUNT).post 0x30 0 (payloadOf [(modeBoot, 56), (old, 48)])

/-- The device reset releases: straps, gate bits, cause, BOOT, and a Fatal latch found set (R319, R333, R334). -/
def State.release (s : State) (x : Straps) : State :=
  let kind := s.rst.held.foldl min kindRing
  let s := if kind ≤ kindBrown then s.sampleStraps x else s
  let s := (s.strapDivider kind).set TC_STATUS_STATE 1
  let s := State.each 8 (fun k s => s.setWord 0x5204 (0x80 + k) 0xFFFFFFFF) s
  let s := (s.setLevels (s.setpoint 1)).resetCause kind
  let s : State := { s with
    safe := { s.safe with vaonLow := false }
    rst := { s.rst with held := [], rail := 0, ringPort := 0 } }
  let s := s.enterBoot
  let s := if s.on SF_FATAL_LATCHED then s.reportNow [{ src := 2, unit := unitDevice, wire := false }] else s
  s.collectorSamples

/-- RESET_RELEASE (R333): the link source is in force from then on, with the settings kept (R64, R65). -/
def execResetRelease (straps : Straps) (s : State) : Host.Outcome State Fault Refusal :=
  .next (if s.rst.held = [] then s else s.release straps)

/-! VGATE (R265, R317, R337). -/

/-- VGATE_CROSSING: what the safe latch holds is lost below the threshold; SAFEPOL not yet sampled is sampled above
it. -/
def State.vgateCross (s : State) (up : Bool) : State :=
  if up then
    let s : State := { s with safe := { s.safe with vgate := true } }
    if s.safe.sampled || s.rst.held ≠ [] then s else s.samplePol s.safe.pin.toNat
  else
    ({ s with safe := { s.safe with vgate := false, latchHold := false } } : State).loseLatch

/-- VGATE_CROSSING (R337). -/
def execVgateCrossing (up : Bool) (s : State) : Host.Outcome State Fault Refusal := .next (s.vgateCross up)

/-! Domain reset (R340 to R343). -/

/-- PW_DOMAIN_RESET: range, mode, state. The standing vote on SCHED is no vote that refuses (log entry 41). -/
def State.wPwDomainReset (s : State) (port : Nat) (v : Word) : Nat × State :=
  let d := v.bits 5 0
  let votes := s.runVotes [] d
  let busy := s.rst.dom.isSome || s.on PW_STATUS_BUSY || s.domState d = 0 || d = 0x1D + port ||
    (d < 16 && s.groupBusy d) ||
    (d = 0x19 && (s.get CM_ARMED_STATE ≠ 0 || s.get SR_STATUS_STATE ≠ 0)) ||
    (d ≠ 0x19 && votes.testBit 2) || votes.testBit 3
  if v.bits 31 31 = 0 then (stOk, s)
  else if 0x20 < d then (stRange, s)
  else if s.modeNow = modeDormant || s.surveying then (stMode, s)
  else if busy then (stState, s)
  else
    let s := s.set PW_DOMAIN_RESET_BUSY 1
    let s : State := { s with rst := { s.rst with dom := some { dom := d, due := s.frame.ticks + 1, phase := 0, drops := 0 } } }
    (stOk, s.demandWake 0xFE d)

/-- DOMAIN_RESET_START: at the first tick after acceptance with the domain running (Table 14-6). Before CLK_READY there
is no tick to wait for. -/
def State.domResetStart (s : State) : State :=
  match s.rst.dom with
  | some r =>
    if r.phase = 0 && s.running r.dom && (decide (r.due ≤ s.frame.ticks) || !s.frame.running) then
      let q := if 0x10 ≤ r.dom ∧ r.dom < 0x14 then 2 ^ (r.dom - 0x10) else 0
      let s := if r.dom = 0x14 then s.stopPorts else s
      { s with rst := { s.rst with dom := some { r with phase := 1 }, broken := s.rst.broken ||| q } }
    else s
  | none => s

/-- What HKP and EVID lose further (R343). -/
def State.resetExtra (s : State) (d : Nat) : State :=
  if d = 0x1C then { s with boot := { s.boot with restart := s.get BT_STATUS_STATE = 5 } }
  else if d = 0x1A then s.loseFifo
  else s

/-- DOMAIN_RESET_RELEASE: reset asserted at 100 ns with the C0 content at defaults, released at 300 ns. -/
def State.domResetRelease (s : State) : State :=
  match s.rst.dom with
  | some r =>
    if r.phase = 1 then
      let s := (s.resetExtra r.dom).loseDomain r.dom
      { s with rst := { s.rst with dom := some { r with phase := 2 } } }
    else s
  | none => s

/-- CROSSING_PEER_DROP: one survivor has seen the token of `d` drop (R340). -/
def State.peerDrop (s : State) (d : Nat) : State :=
  match s.rst.dom with
  | some r =>
    if r.dom = d && 0 < r.phase then
      { s.bumpAt PW_XING_PEER_RESETS d with rst := { s.rst with dom := some { r with drops := r.drops + 1 } } }
    else s
  | none => s

/-- CROSSING_HANDSHAKE_DONE: with the last of the domain's crossings the domain reset is complete (Table 14-6). -/
def State.handshakeDone (s : State) (d : Nat) : State :=
  match s.rst.dom with
  | some r =>
    if r.dom = d && r.phase = 2 then
      if 1 < r.drops then { s with rst := { s.rst with dom := some { r with drops := r.drops - 1 } } }
      else
        let s := (s.bumpAt PW_XING_RESETS d).set PW_DOMAIN_RESET_BUSY 0
        { s with rst := { s.rst with dom := none } }
    else s
  | none => s

/-- CROSSING_HANDSHAKE_DONE (R340). -/
def execCrossingHandshakeDone (d : Nat) (s : State) : Host.Outcome State Fault Refusal := .next (s.handshakeDone d)

end Sys2Proof.Machine
end

