-- ==== Sys2Proof/Machine/Calibration.lean ====
section
/-! DEFINITION. Calibration runs (section 6.6): queueing, starts, results and records. -/

namespace Sys2Proof.Machine

/-! Units (Table 6-5). -/

/-- Units of the device. -/
def calUnits : List Nat := List.range 384

/-- The tile whose sensor a unit follows. -/
def unitTile (u : Nat) : Nat := if u < 128 then u / 2 else (u - 128) / 4

/-- The quadrant of a unit. -/
def unitQuad (u : Nat) : Nat := if u < 128 then u / 32 else (u - 128) / 64

/-- Frames of a run. -/
def runLength (u : Nat) : Nat := if u < 128 then 64 else 1024

/-- The sensor reading of a unit. -/
def State.unitSensor (s : State) (u : Nat) : Int := s.rdI (TH_TILE_TEMP_TEMP.tile (unitTile u)) 0

/-- A run of the unit is in progress. -/
def State.unitRuns (s : State) (u : Nat) : Bool := s.cal.runs.any fun r => r.unit = u

/-! Queueing (R150). -/

/-- A unit already queued or running is not queued again. -/
def State.queueUnit (s : State) (u : Nat) : State :=
  if s.cal.queue.contains u || s.unitRuns u then s
  else { s with cal := { s.cal with queue := s.cal.queue ++ [u] } }

/-- The unit's last run is missing, or its sensor has moved by more than SV_TEMP_DELTA. -/
def State.unitStale (s : State) (u : Nat) : Bool :=
  s.rd SV_UNIT_TEMP_VALID u = 0 ||
    decide (s.get SV_TEMP_DELTA_DELTA < (s.unitSensor u - s.rdI SV_UNIT_TEMP_TEMP u).natAbs)

/-- CAL_TEMPERATURE_CHECK: the check of every 1,024 fr. -/
def State.calCheck (s : State) : State :=
  if !s.frame.running || s.get SV_TEMP_DELTA_DELTA = 0 then s
  else (calUnits.filter s.unitStale).foldl State.queueUnit s

/-- CAL_TEMPERATURE_CHECK (R150). -/
def execCalTemperatureCheck (s : State) : Host.Outcome State Fault Refusal := .next s.calCheck

/-- SV_CAL_REQ: one unit, or all. -/
def State.wSvCalReq (s : State) (v : Word) : Nat × State :=
  if v.bits 15 15 = 1 then (stOk, calUnits.foldl State.queueUnit s)
  else if 383 < v.bits 8 0 then (stRange, s)
  else (stOk, s.queueUnit (v.bits 8 0))

/-! Runs. -/

/-- A run begins at this tick: its outputs hold and are flagged (R150). -/
def State.beginRun (s : State) (u : Nat) (survey : Bool) : State :=
  let ms := if u < 128 then (List.range 8).map fun j => 8 * u + j else []
  let s := ms.foldl (fun s m => (s.wr MN_STATUS_CAL_STALE m 1).setMon m { s.mon m with cal := true }) s
  let r : CalRun := { unit := u, start := s.frame.ticks, temp := s.unitSensor u, survey := survey }
  { s with cal := { s.cal with runs := s.cal.runs ++ [r], queue := s.cal.queue.filter fun x => x ≠ u } }

/-- Another unit of the same kind runs in the quadrant, or a lower one of them waits. -/
def State.unitWaits (s : State) (u : Nat) : Bool :=
  let same := fun x => unitQuad x = unitQuad u && decide (x < 128) = decide (u < 128)
  s.cal.runs.any (fun r => same r.unit) || s.cal.queue.any fun x => same x && decide (x < u)

/-- A queued unit may start now: the mode, no dip, no survey, the limit per quadrant, and a monitor unit only at a tick
that begins a window. -/
def State.mayRun (s : State) (u : Nat) : Bool :=
  s.cal.queue.contains u && s.frame.running && (s.modeNow = modeService || s.modeNow = modeHoldover) &&
    !s.on SM_STATUS_MARGINAL && !s.surveying && !s.unitWaits u &&
    (128 ≤ u || s.frame.frame % s.window = 0)

/-- CAL_RUN_START: a run wakes its domain first where it sleeps; a start is a vote that can refuse a Neap entry. -/
def State.calStart (s : State) (u : Nat) : State :=
  if !s.mayRun u then s
  else if s.clocked (unitDomain u) then (s.beginRun u false).voteRose
  else s.demandWake 3 (unitDomain u)

/-- CAL_RUN_START (R150). -/
def execCalRunStart (u : Nat) (s : State) : Host.Outcome State Fault Refusal := .next (s.calStart u)

/-! Results (R151, R152). -/

/-- OFS of a range from the sum of its 75 samples: signed Q6.2, saturated to ±31.75 LSB. -/
def offsetOfs (sum : Int) : Int := clampInt (-127) 127 (roundDiv (4 * sum - 76800) 75)

/-- C of bin `k` from the counts of the 32 bins. -/
def binCorrection (counts : List Int) (k : Nat) : Int :=
  let below := (counts.take k).foldl (· + ·) 0
  clampInt (-127) 127 (roundDiv (2 * below + counts.getD k 0) 256 - (8 * k + 4))

/-- A word of four signed bytes, lowest first. -/
def bytesWord (b0 b1 b2 b3 : Int) : Word :=
  BitVec.ofNat 32 (toBits 8 b0 + toBits 8 b1 * 2 ^ 8 + toBits 8 b2 * 2 ^ 16 + toBits 8 b3 * 2 ^ 24)

/-- The corrections of a run in force: a monitor unit's sums by input and range, a detector's counts by bin. -/
def State.applyRun (s : State) (u : Nat) (xs : List Int) : State :=
  if u < 128 then
    State.each 8 (fun j s =>
      let o := fun r => offsetOfs (xs.getD (4 * j + r) 19200)
      s.setBoth 0x5830 (8 * u + j) (bytesWord (o 3) (o 2) (o 1) (o 0))) s
  else
    State.each 8 (fun k s =>
      let c := fun i => binCorrection xs (4 * k + i)
      s.setBoth 0x5831 (8 * (u - 128) + k) (bytesWord (c 0) (c 1) (c 2) (c 3))) s

/-- CAL_RUN_END: in the slack window of the run's last frame; the record's time is the next tick. -/
def State.calEnd (s : State) (u : Nat) (xs : List Int) : State :=
  match s.cal.runs.find? (fun r => r.unit = u) with
  | none => s
  | some r =>
    if s.frame.ticks < r.start + runLength u - 1 then s
    else
      let s := s.applyRun u xs
      let s := s.bumpAt SV_RUNS_COUNT u
      let s := (s.wr SV_LAST_RUN_LO_FRAME u s.frame.frame).wr SV_LAST_RUN_HI_FRAME u (s.frame.frame / 2 ^ 32)
      let s := s.setBoth 0x5823 u (BitVec.ofNat 32 (2 ^ 31 + toBits 12 r.temp))
      let s : State := { s with cal := { s.cal with
        runs := s.cal.runs.filter fun x => x.unit ≠ u, clear := s.cal.clear ++ [u] } }
      s.postRec {
        time := (s.frame.frame + 1) * 768000, code := 0x61, source := u, flags := s.flagsNow
        payload := payloadOf [(s.rd SV_RUNS_COUNT u, 32), (toBits 12 r.temp, 0)] } none

/-- CAL_RUN_END (R150). -/
def execCalRunEnd (u : Nat) (results : List Int) (s : State) : Host.Outcome State Fault Refusal :=
  .next (s.calEnd u results)

/-! Host corrections (R155). -/

/-- The unit that a correction object belongs to. -/
def correctionUnit (index sub : Nat) : Nat :=
  if index = 0x5830 then sub / 8 else if index = 0x5831 then 128 + sub / 8 else sub

/-- SV_MON_OFS, SV_TDC_LIN and SV_UNIT_TEMP: deferred; refused while the unit runs. -/
def State.wCorrection (s : State) (index sub : Nat) (v : Word) : Nat × State :=
  if s.unitRuns (correctionUnit index sub) then (stState, s) else (stDeferred, s.defer index sub v)

end Sys2Proof.Machine
end

