-- ==== Sys2Proof/Machine/Angle.lean ====
section
/-! DEFINITION. The pilot phase and the slope of a sweep (R145): the nearest 1/256 turn of a direction, and square
roots of whole numbers. -/

namespace Sys2Proof.Machine

/-- round(2^48 cos(2π (2k + 1) / 512)): the boundaries between neighbouring 1/256 turns of the first quadrant. -/
def halfCosTable : List Nat := [
  281453782162583, 281284244928443, 280945272583053, 280437069310680, 279759941233972, 278914296229562,
  277900643682381, 276719594178820, 275371859138937, 273858250387927, 272179679667102, 270337158084700,
  268331795506824, 266164799888908, 263837476548081, 261351227376901, 258707549998900, 255908036866479,
  252954374301667, 249848341480349, 246591809360554, 243186739555463, 239635183151801, 235939279474345,
  232101254797271, 228123421003133, 224008174190266, 219757993229472, 215375438270838, 210863149201596,
  206223844055955, 201460317377861, 196575438537666, 191572150003724, 186453465569965, 181222468540490,
  175882309872311, 170436206277328, 164887438284703, 159239348264795, 153495338415834, 147658868714572,
  141733454832118, 135722666016227, 129630122941326, 123459495527548, 117214500730111, 110898900300367,
  104516498519860, 98071139908767, 91566706910110, 85007117551109, 78396323083117, 71738305601527,
  65037075647110, 58296669790217, 51521148199294, 44714592195197, 37881101792747, 31024793231043,
  24149796493988, 17260252822544, 10360312220203, 3454130953177]

/-- Boundaries of the first quadrant at or below the direction (x, y), both not negative: the angle in 1/256 turn,
halves up. -/
def quadrantPhase (x y : Nat) : Nat :=
  (List.range 64).countP fun k => x * halfCosTable.getD (63 - k) 0 ≤ y * halfCosTable.getD k 0

/-- round(256 atan2(q, e) / 2π) mod 256, for a direction other than (0, 0). -/
def phaseOf (e q : Int) : Nat :=
  if 0 < e ∧ 0 ≤ q then quadrantPhase e.natAbs q.natAbs % 256
  else if e ≤ 0 ∧ 0 < q then (64 + quadrantPhase q.natAbs e.natAbs) % 256
  else if e < 0 ∧ q ≤ 0 then (128 + quadrantPhase e.natAbs q.natAbs) % 256
  else (192 + quadrantPhase q.natAbs e.natAbs) % 256

/-- The largest whole number whose square is at most `x`, below 2^48. -/
def isqrt (x : Nat) : Nat :=
  (List.range 48).reverse.foldl (fun r k => if (r + 2 ^ k) * (r + 2 ^ k) ≤ x then r + 2 ^ k else r) 0

/-- √(e² + q²) / d in 1/256, rounded and saturated to 16 bits; `d` is not 0. -/
def slopeOf (e q : Int) (d : Nat) : Nat :=
  min ((isqrt (262144 * (e * e + q * q).natAbs / (d * d)) + 1) / 2) 0xFFFF

end Sys2Proof.Machine
end

