-- ==== Sys2Proof/Machine/Ring.lean ====
section
/-! DEFINITION. The Feade ring (chapter 9): link-up and versions, forwarding, own frames, loss and loopback, wake and
ring reset. -/

namespace Sys2Proof.Machine

/-! Where the ring stands. -/

/-- The port of a lane pair: 0 A, 1 B. -/
def portOf (p : Nat) : Nat := p / 2

/-- The repeater forwards everything: device reset, and DORMANT once the endpoints have gone to it (R226, R278). -/
def State.repeats (s : State) : Bool :=
  s.rst.held ≠ [] || (s.modeNow = modeDormant && !s.on MD_MODE_ENTERING)

/-- The endpoint of a port is there (R226, R276): it has taken up, and its link domain is not in reset. -/
def State.listens (s : State) (port : Nat) : Bool := !s.repeats && s.boot.served && s.running (0x1D + port)

/-- The endpoint takes in what is addressed to the device: from DORMANT entry on later requests are forwarded (Table
11-8 step 1). -/
def State.takesIn (s : State) (port : Nat) : Bool := s.listens port && s.modeNow ≠ modeDormant

/-- The device's ring address. -/
def State.address (s : State) : Nat := s.get FL_ADDR_ADDR

/-- A DEST that names this device or every device. -/
def State.toUs (s : State) (dest : Nat) : Bool := dest = s.address || dest = 0xFF

/-- The version agreed on a pair: 0x10, 0x11, 0 none. -/
def State.version (s : State) (p : Nat) : Nat :=
  if s.rd FL_VERSION_AGREED_VALID p = 1 then
    s.rd FL_VERSION_AGREED_MAJOR p * 16 + s.rd FL_VERSION_AGREED_MINOR p
  else 0

/-- A counter of the ring, which stands still while the device repeats (R226). -/
def State.flCount (s : State) (F : Field) (p : Nat) : State := if s.repeats then s else s.bumpAt F p

/-- A LINK record (Table 9-11); none while the device repeats. -/
def State.linkRecord (s : State) (p event version us : Nat) : State :=
  if s.repeats then s
  else
    s.post 0x90 (portOf p)
      (payloadOf [(p, 56), (event, 48), (version, 40), (s.rd FL_STATUS_PEER_ADDR p, 32), (us, 0)])

/-- SILENT (R207): neither receive lane of a pair's port has signal lock. -/
def State.silent (s : State) (p : Nat) : Bool :=
  s.rd FL_STATUS_STATE p < 2 && s.rd FL_STATUS_STATE (otherPair p) < 2

/-- The transmitter that the stream of a pair leaves on: its own, or the other one's while it is looped; none where
that pair is not UP (R218, R225). -/
def State.outPair (s : State) (p : Nat) : Option Nat :=
  if s.rd FL_STATUS_LOOPED p = 1 then (if s.pairUp (otherPair p) then some (otherPair p) else none)
  else if s.pairUp p then some p
  else none

/-! Frames (R211 to R220). -/

/-- One byte into the reflected CRC-32 of the IEEE 802.3 generator. -/
def crcByte (c : BitVec 32) (b : BitVec 8) : BitVec 32 :=
  (List.range 8).foldl (fun c _ => if c.getLsbD 0 then (c >>> 1) ^^^ 0xEDB88320#32 else c >>> 1)
    (c ^^^ b.setWidth 32)

/-- CRC-32 (Table 9-4). -/
def crc32 (m : Bytes) : BitVec 32 := ~~~(m.foldl crcByte 0xFFFFFFFF#32)

/-- SOF bytes 1 to 6 and the valid data bytes. -/
def frameBytes (f : RxFrame) : Bytes :=
  let head := leBytes 6 (payloadOf [(f.dest % 256, 0), (f.src % 256, 8), (f.ftype % 256, 16), (f.tag % 256, 24),
    (f.len % 65536, 32)])
  let data := f.blocks.flatMap fun b => leBytes 8 b.toNat
  head ++ data.take (8 * f.blocks.length - (8 - f.valid))

/-- The frame has the blocks that LEN says, 1 to 160, a VALID of 1 to 8, and passes its CRC (R211, R212). -/
def frameGood (f : RxFrame) : Bool :=
  decide (f.len = f.blocks.length ∧ 1 ≤ f.len ∧ f.len ≤ 160 ∧ 1 ≤ f.valid ∧ f.valid ≤ 8) && f.crc = crc32 (frameBytes f)

/-- A frame of the device's own: whole blocks, HOPS 0, its CRC over SOF and data (R211). -/
def State.ownFrame (s : State) (dest ftype tag : Nat) (blocks : List (BitVec 64)) : RxFrame :=
  let f : RxFrame := {
    dest := dest, src := s.address, ftype := ftype, tag := tag, len := blocks.length, hops := 0, blocks := blocks
    valid := 8, crc := 0, stomped := false, truncated := false }
  { f with crc := crc32 (frameBytes f) }

/-- Types of Table 9-5. -/
def knownType (t : Nat) : Bool := (1 ≤ t && t ≤ 8) || t = 0x10

/-- Broadcast types that the device acts on (R213): WRITE_REQ, BULK_WRITE_REQ, IMAGE. -/
def broadcastType (t : Nat) : Bool := t = 3 || t = 7 || t = 0x10

/-- The device takes the frame in: of a known type and addressed to it, or a broadcast of a type it acts on. -/
def State.takes (s : State) (f : RxFrame) : Bool :=
  (f.dest = s.address && knownType f.ftype) || (f.dest = 0xFF && broadcastType f.ftype)

/-- Blocks of a frame on the line. -/
def lineBlocks (f : RxFrame) : Nat := f.blocks.length + 2

/-- Blocks of an item on the line. -/
def itemBlocks : RxItem → Nat
  | .frame f => lineBlocks f
  | .control _ _ => 1
  | .badSync _ (some f) => lineBlocks f
  | .badSync n none => n

/-- Blocks a through buffer holds. -/
def throughBlocks (l : List RxItem) : Nat := (l.map itemBlocks).sum

/-- Timing cycles that `n` blocks of 6.4 ns take. -/
def blockTc (n : Nat) : Nat := (96 * n + 4) / 5

/-- Blocks that arrive in `n` timing cycles. -/
def tcBlocks (n : Nat) : Nat := (5 * n + 95) / 96

/-- Frame blocks that a transmitter sends from an instant on, for FL_LOAD; what is older than 1 ms leaves (R228). -/
def State.addLoad (s : State) (p up n : Nat) : State :=
  if s.repeats then s
  else
    let x := s.pair p
    s.setPair p { x with load := (up, n) :: x.load.filter fun q => s.frame.up < q.1 + 3000000 }

/-- FL_LOAD as it reads (R228): frame blocks per slot over the last 1 ms (Table 9-14). -/
def State.loadView (s : State) (p : Nat) : Nat :=
  let n := (((s.pair p).load.filter fun q => s.frame.up < q.1 + 3000000).map Prod.snd).sum
  min (n * 65536 / 156250) 65535

/-- A frame as it is sent on a pair: one whose LEN is over 64 is cut after 64 data blocks and stomped where the pair is
agreed at L1.0 (R220). -/
def State.cut (s : State) (p : Nat) (f : RxFrame) : RxFrame × State :=
  if !s.repeats && decide (64 < f.len) && s.version p = 0x10 then
    ({ f with blocks := f.blocks.take 64, stomped := true, truncated := true }, s.flCount FL_TRUNCATED_COUNT p)
  else (f, s)

/-- A frame's blocks start on the transmitter of a pair at instant `up`. -/
def State.occupy (s : State) (p up n : Nat) : State :=
  let s := s.addLoad p up n
  s.setPair p { s.pair p with busyUp := max (s.pair p).busyUp up + blockTc n }

/-- One through item starts on the transmitter of a pair at instant `up`. -/
def State.sendItem (s : State) (p up : Nat) : RxItem → State
  | .frame f =>
    let (f, s) := s.cut p f
    let s := s.occupy p up (lineBlocks f)
    s.setPair p { s.pair p with sent := some (.frame f) }
  | x =>
    let s := match x with
      | .badSync _ (some f) => s.occupy p up (lineBlocks f)
      | _ => s
    s.setPair p { s.pair p with sent := some x }

/-- What waits in the through buffer leaves, each item where the one before it ends, as far as instant `up`. -/
def State.drainTo (s : State) (p up : Nat) : List RxItem → State
  | [] => s.setPair p { s.pair p with through := [] }
  | x :: xs =>
    if (s.pair p).busyUp ≤ up then (s.sendItem p (s.pair p).busyUp x).drainTo p up xs
    else s.setPair p { s.pair p with through := x :: xs }

/-- The through buffer up to instant `up`. -/
def State.drain (s : State) (p up : Nat) : State := s.drainTo p up (s.pair p).through

/-- The through buffer's greatest occupancy, of 192 blocks (R217). -/
def State.noteOccupancy (s : State) (p n : Nat) : State :=
  if s.repeats || n ≤ s.rd FL_THRU_MAX_BLOCKS p then s else s.wr FL_THRU_MAX_BLOCKS p (min n 192)

/-- An item that arrives at instant `up` on its way out: sent at once, or held behind the frame being sent, whose end the
buffer fills to (R216, R217). A control block waits for no frame. -/
def State.emit (s : State) (p up : Nat) (x : RxItem) : State :=
  let s := s.drain p up
  let control := match x with
    | .control _ _ => true
    | _ => false
  let y := s.pair p
  if control || decide (y.busyUp ≤ up ∧ y.through = []) then s.sendItem p up x
  else
    let n := throughBlocks y.through + min (itemBlocks x) (tcBlocks (y.busyUp - up))
    (s.setPair p { y with through := y.through ++ [x] }).noteOccupancy p n

/-- The first block of an item of `n` blocks reaches the receive lane: no sooner than the item before it has ended. -/
def State.arrival (s : State) (p n : Nat) : Nat × State :=
  let up := max s.frame.up (s.pair p).rxUp
  (up, s.setPair p { s.pair p with rxUp := up + blockTc n })

/-- The stream that arrives on a pair leaves on the transmitter of the other pair of its port (Table 9-1). -/
def State.pass (s : State) (p : Nat) (x : RxItem) : State :=
  let (up, s) := s.arrival p (itemBlocks x)
  match s.outPair (otherPair p) with
  | some q => s.emit q up x
  | none => s

/-- A frame forwarded: HOPS incremented, and stomped where `bad` (R212 to R217). -/
def State.passFrame (s : State) (p : Nat) (bad : Bool) (f : RxFrame) : State :=
  if f.hops = 255 then s.flCount FL_DISCARDED_COUNT p
  else s.pass p (.frame { f with hops := f.hops + 1, stomped := f.stomped || bad })

/-- A control block that the forwarder meets (R209, R210, R222 to R224, R230). IDLE and HELLO do not cross a pair; time
blocks end on the timing port; what is addressed to this device alone ends here; an unknown type is counted. A token's
two blocks arrive as one ARB_TOKEN: a HEAD that comes alone is the broken one, which is counted and discarded, and so is
a TAIL that comes alone (R223; log entry 98). -/
def State.passControl (s : State) (p ty : Nat) (payload : BitVec 56) : State :=
  let own := payload.toNat % 256 = s.address
  let x := RxItem.control ty payload
  if ty = 0 ∨ ty = 0x10 then s
  else if ty = 0x30 ∨ ty = 0x31 ∨ ty = 0x32 then (if portOf p = s.timingPort then s else s.pass p x)
  else if ty = 0x40 then s.flCount FL_ARB_BROKEN_COUNT p
  else if ty = 0x41 then s
  else if ty = 0x60 then (if own then s else s.pass p x)
  else if ty = 0x50 ∨ ty = 0x70 then s.pass p x
  else (s.pass p x).flCount FL_UNKNOWN_COUNT p

/-- A frame that the forwarder meets, with `n` invalid sync headers in it (R210, R212 to R217). One that the device takes
in is forwarded only where it is a broadcast; one of a type it does not know is forwarded and counted. A CRC failure of
a whole frame that the device takes in is counted there. -/
def State.forwardFrame (s : State) (p n : Nat) (f : RxFrame) : State :=
  let good := frameGood f
  let mine := s.takesIn (portOf p)
  let s := if good || (n = 0 && mine && s.takes f) then s else s.flCount FL_CRC_ERRORS_COUNT p
  if mine && f.dest = s.address && knownType f.ftype then s
  else
    let s := if knownType f.ftype then s else s.flCount FL_UNKNOWN_COUNT p
    s.passFrame p (!good || 0 < n) f

/-- Invalid sync headers counted (R210). -/
def State.countSync (s : State) (p n : Nat) : State := if s.repeats then s else s.bumpBy FL_SYNC_ERRORS_COUNT p n

/-- What an awake device's forwarder does with an item: a block with an invalid sync header leaves as IDLE (R210). -/
def State.forwardItem (s : State) (p : Nat) : RxItem → State
  | .control ty payload => s.passControl p ty payload
  | .badSync n none => s.countSync p n
  | .badSync n (some f) => (s.countSync p n).forwardFrame p n f
  | .frame f => s.forwardFrame p 0 f

/-- HELLO and IDLE do not cross a pair (R218). -/
def staysHere : RxItem → Bool
  | .control ty _ => ty = 0 || ty = 0x10
  | _ => false

/-- What arrives is forwarded: untouched in device reset and in DORMANT (R226). -/
def State.forward (s : State) (p : Nat) (x : RxItem) : State :=
  if s.repeats then (if staysHere x then s else s.pass p x) else s.forwardItem p x

/-- FRAME_FORWARD (R216): blocks cross a pair only once it is UP. -/
def execFrameForward (pair : Nat) (x : RxItem) (s : State) : Host.Outcome State Fault Refusal :=
  .next (if s.pairUp pair then s.forward pair x else s)

/-! Frames of the device's own (R217). -/

/-- A frame of the device's own is queued for the stream of a pair; for a stream that leaves on no transmitter and is
not about to be looped it is discarded. -/
def State.queueOwn (s : State) (p : Nat) (f : RxFrame) : State :=
  match s.outPair p with
  | some q => s.setPair q { s.pair q with own := (s.pair q).own ++ [f] }
  | none =>
    if (s.pair p).engage then s.setPair p { s.pair p with own := (s.pair p).own ++ [f] } else s

/-- The through frame at the head of the buffer leaves at a frame boundary. -/
def State.sendHead (s : State) (p up : Nat) : State :=
  match (s.pair p).through with
  | [] => s
  | x :: xs => (s.setPair p { s.pair p with through := xs }).sendItem p up x

/-- An own frame starts where the through buffer then holds few enough blocks (R217). -/
def State.sendOwn (s : State) (p up : Nat) : State :=
  match (s.pair p).own with
  | [] => s
  | f :: fs =>
    if throughBlocks (s.pair p).through + lineBlocks f + 8 ≤ 192 then
      let (f, s) := s.cut p f
      let s := s.occupy p up (lineBlocks f)
      s.setPair p { s.pair p with own := fs, sentOwn := some f }
    else s

/-- OWN_FRAME_TRANSMIT: a frame boundary of a transmitter that is UP, after the frame being sent. -/
def State.transmit (s : State) (p : Nat) : State :=
  if s.repeats || !s.pairUp p then s
  else
    let s := s.sendHead p (max s.frame.up (s.pair p).busyUp)
    s.sendOwn p (max s.frame.up (s.pair p).busyUp)

/-- OWN_FRAME_TRANSMIT (R217). -/
def execOwnFrameTransmit (pair : Nat) (s : State) : Host.Outcome State Fault Refusal := .next (s.transmit pair)

/-! Link-up (R218, R219). -/

/-- LINK_SIGNAL_DETECT (Table 9-9): a signal on the receive lane, and CDR lock where `cdr`. A device without VAON has no
receiver (R227). -/
def State.signal (s : State) (p : Nat) (cdr : Bool) : State :=
  let n := if cdr then 2 else 1
  if s.safe.vaonLow || n ≤ s.rd FL_STATUS_STATE p then s
  else
    let s := s.wr FL_STATUS_STATE p n
    if cdr then s.collectorSamples else s

/-- LINK_SIGNAL_DETECT (R218). -/
def execLinkSignalDetect (x : LaneSignal) (s : State) : Host.Outcome State Fault Refusal :=
  .next (s.signal x.pair x.cdr)

/-- The HELLO of a pair (Table 9-6), bytes 1 to 7. -/
def State.helloBlock (s : State) (p : Nat) : BitVec 56 :=
  let x := s.pair p
  BitVec.ofNat 56 (payloadOf [(1 + 2 * x.offer11.toNat, 0), (s.address, 8),
    (portOf p + 2 * (p % 2) + 4 * s.repeats.toNat, 16), (if x.agreed = 0 then 0 else 1, 24), (x.agreed, 32),
    (x.seq % 256, 40)])

/-- Two peer HELLOs agree in everything but the agreement they report. -/
def sameHello (a b : Hello) : Bool :=
  a.offers10 = b.offers10 && a.offers11 = b.offers11 && a.addr = b.addr && a.portB = b.portB && a.pairD = b.pairD &&
    a.repeater = b.repeater

/-- The highest version both sides offer; 0 for none (R219). -/
def commonVersion (offer11 : Bool) (h : Hello) : Nat :=
  if offer11 && h.offers11 then 0x11 else if h.offers10 then 0x10 else 0

/-- What the UP record tells of the time since the pair was last lost; a pair never lost has no such time, and the
value is free. -/
def State.sinceLost (s : State) (p : Nat) : Nat × State :=
  match (s.pair p).lostUp with
  | some t => (s.usSince t, s)
  | none =>
    let (x, s) := s.free
    (x.toNat, s)

/-- The device measures its lanes' latencies at link-up (R164, TB_DEV_LAT): the measured values are free. -/
def State.measureLatency (s : State) (port : Nat) : State :=
  if s.repeats then s
  else
    let (a, s) := s.free
    let (b, s) := s.free
    (s.setWord 0x2405 (2 * port) a).setWord 0x2405 (2 * port + 1) b

/-- Both sides are AGREED with the same version: the pair is UP (R219). -/
def State.linkUp (s : State) (p v : Nat) : State :=
  let s := (s.wr FL_STATUS_STATE p 4).wr FL_VERSION_AGREED_VALID p 1
  let s := (s.wr FL_VERSION_AGREED_MAJOR p (v / 16)).wr FL_VERSION_AGREED_MINOR p (v % 16)
  let s := s.setPair p { s.pair p with upUp := s.frame.up }
  let s := s.measureLatency (portOf p)
  let (us, s) := s.sinceLost p
  s.linkRecord p 0 v us

/-- The pair is UP once both sides have reported AGREED with the same version (Table 9-9). -/
def State.bothAgreed (s : State) (p : Nat) : State :=
  let x := s.pair p
  let heard := x.peer.any fun h => h.agreed && h.version = x.agreed
  if s.rd FL_STATUS_STATE p = 3 && x.toldAgreed && decide (x.agreed ≠ 0) && heard then s.linkUp p x.agreed else s

/-- A HELLO joins the run of consistent ones. -/
def PairSt.heard (x : PairSt) (h : Hello) : PairSt :=
  { x with
    hellos := match x.peer with
      | some k => if sameHello h k then min (x.hellos + 1) 3 else 1
      | none => 1
    peer := some h }

/-- HELLO_RECEIVE. -/
def State.hello (s : State) (p : Nat) (h : Hello) : State :=
  if s.rd FL_STATUS_STATE p ≠ 3 then s
  else
    let s := (s.wr FL_STATUS_PEER_ADDR p h.addr).wr FL_STATUS_PEER_REPEATER p h.repeater.toNat
    let x := (s.pair p).heard h
    let v := if x.hellos < 3 then 0 else commonVersion x.offer11 h
    let y := { x with agreed := v, toldAgreed := x.toldAgreed && x.agreed = v }
    if v = 0 then
      let none' := decide (3 ≤ x.hellos)
      let s := s.setPair p { y with noVersion := x.noVersion || none' }
      if none' && !x.noVersion then s.linkRecord p 4 0 0 else s
    else (s.setPair p y).bothAgreed p

/-- HELLO_RECEIVE (R218). -/
def execHelloReceive (pair : Nat) (h : Hello) (s : State) : Host.Outcome State Fault Refusal := .next (s.hello pair h)

/-- HELLO_SEND: every 16 blocks during link-up, and on a lost pair, where the transmit lane has a clock (R207, R218,
R225). A HELLO that tells of the agreement can complete the link-up. -/
def State.sendHello (s : State) (p : Nat) : State :=
  if s.pairUp p || s.silent p then s
  else
    let x := s.pair p
    let s := s.setPair p { x with seq := (x.seq + 1) % 256, toldAgreed := decide (x.agreed ≠ 0) }
    let s := s.setPair p { s.pair p with ctl := some (0x10, s.helloBlock p) }
    s.bothAgreed p

/-- HELLO_SEND (R218). -/
def execHelloSend (pair : Nat) (s : State) : Host.Outcome State Fault Refusal := .next (s.sendHello pair)

/-! Loss and loopback (R225). -/

/-- The pair is declared lost: the frame its transmitter was sending is lost with it. -/
def State.declareLoss (s : State) (p : Nat) : State :=
  let v := s.version p
  let s := (s.flCount FL_LOSSES_COUNT p).linkRecord p 1 v 0
  let s := (s.wr FL_STATUS_STATE p 0).setWord 0x1120 p 0
  let s := (s.wr FL_STATUS_PEER_ADDR p 0xFF).wr FL_STATUS_PEER_REPEATER p 0
  let x := s.pair p
  let x := if s.frame.up < x.busyUp then { x with sentOwn := none } else x
  let loops := s.rd FL_CTRL_LOOP_EN (portOf p) = 1 && s.rd FL_STATUS_LOOPED p = 0
  let x := { x with
    lostUp := some s.frame.up, hellos := 0, peer := none, agreed := 0, toldAgreed := false, noVersion := false
    busyUp := 0, rxUp := 0
    engage := x.engage || loops }
  s.setPair p (if x.engage then x else { x with through := [], own := [] })

/-- What the timing core sees of a lost receive lane (R34, R49, R51). -/
def State.lossTiming (s : State) (p fine : Nat) : State :=
  if p = 2 * s.timingPort then s.refLoss fine
  else if p = 2 * (1 - s.timingPort) then s.loseTrim
  else s

/-- LINK_LOSS: a pair whose receive lane had a signal. -/
def State.linkLoss (s : State) (p fine : Nat) : State :=
  if s.rd FL_STATUS_STATE p = 0 then s
  else
    let locked := s.blockLocked p
    let s := s.declareLoss p
    if locked && s.rst.held = [] then s.lossTiming p fine else s

/-- LINK_LOSS (R225). -/
def execLinkLoss (pair : Nat) (fine : Nat) (s : State) : Host.Outcome State Fault Refusal := .next (s.linkLoss pair fine)

/-- The BREAK of a loop event goes out on the looped path where that path is agreed at L1.1 (R225, R226). -/
def State.sendBreak (s : State) (p event : Nat) : State :=
  let q := otherPair p
  if s.repeats || s.version q ≠ 0x11 then s
  else s.setPair q { s.pair q with ctl := some (0x70, BitVec.ofNat 56 (payloadOf [(s.address, 0), (p, 8), (event, 16)])) }

/-- What waited for the lost pair's transmitter goes to the other one. -/
def State.moveStream (s : State) (p : Nat) : State :=
  let x := s.pair p
  let s := s.setPair p { x with engage := false, through := [], own := [] }
  let y := s.pair (otherPair p)
  s.setPair (otherPair p) { y with through := y.through ++ x.through, own := y.own ++ x.own }

/-- LOOP_ENGAGE: the next frame boundary of the lost pair's stream. -/
def State.loopEngage (s : State) (p : Nat) : State :=
  if (s.pair p).engage then
    let s := ((s.moveStream p).wr FL_STATUS_LOOPED p 1).bumpAt FL_LOOPS_COUNT p
    (s.sendBreak p 0).linkRecord p 2 (s.version p) 0
  else s

/-- LOOP_ENGAGE (R225). -/
def execLoopEngage (pair : Nat) (s : State) : Host.Outcome State Fault Refusal := .next (s.loopEngage pair)

/-- LOOP_RELEASE: the frame boundary after the pair has been UP for LOOP_HOLD µs. -/
def State.loopRelease (s : State) (p : Nat) : State :=
  if s.rd FL_STATUS_LOOPED p = 1 && s.pairUp p &&
      (s.pair p).upUp + 3000 * s.rd FL_CTRL_LOOP_HOLD (portOf p) ≤ s.frame.up then
    let s := s.sendBreak p 1
    (s.wr FL_STATUS_LOOPED p 0).linkRecord p 3 (s.version p) 0
  else s

/-- LOOP_RELEASE (R225). -/
def execLoopRelease (pair : Nat) (s : State) : Host.Outcome State Fault Refusal := .next (s.loopRelease pair)

/-! Wake and ring reset (R224, R230, R279). -/

/-- A wake that the device accepts: counted; the exit begins, at once or after entry; in SAFE entered from DORMANT it is
counted only (Table 11-9). One that meets an exit in progress is ignored. -/
def State.wake (s : State) : State :=
  if s.modeNow = modeSafe && s.mode.safeFrom = modeDormant then s.bump FL_WAKES_COUNT
  else if s.modeNow ≠ modeDormant || s.boot.waking || s.mode.wake then s
  else
    let s := s.bump FL_WAKES_COUNT
    if s.on MD_MODE_ENTERING then { s with mode := { s.mode with wake := true } } else s.beginExit

/-- WAKE_RECEIVE: forwarded untouched by every device; the link-activity detector also sees it on a pair that has a
signal and is not yet UP (R230). -/
def State.wakeReceive (s : State) (p dest : Nat) : State :=
  if s.rd FL_STATUS_STATE p = 0 then s
  else
    let s := if s.pairUp p then s.pass p (.control 0x50 (BitVec.ofNat 56 (dest % 256 + 0xA5 * 256))) else s
    if s.rst.held = [] && s.toUs dest then s.wake else s

/-- WAKE_RECEIVE (R230). -/
def execWakeReceive (pair dest : Nat) (s : State) : Host.Outcome State Fault Refusal := .next (s.wakeReceive pair dest)

/-- A RING_RESET is acted on (R224). -/
def State.resetAllowed (s : State) (port epoch : Nat) : Bool :=
  s.get SE_EPOCH_EPOCH = 0 || (epoch = s.get SE_EPOCH_EPOCH && s.get SE_EPOCH_ACTIVE = port + 1)

/-- RING_RESET_RECEIVE: forwarded unless it names this device alone; the reset asserts 200 ns after its arrival. -/
def State.ringResetReceive (s : State) (p dest epoch : Nat) : State :=
  if !s.pairUp p then s
  else
    let x := RxItem.control 0x60 (BitVec.ofNat 56 (dest % 256 + epoch % 2 ^ 32 * 256))
    if s.repeats then s.pass p x
    else
      let s : State := if dest = s.address then s else s.pass p x
      if !s.toUs dest then s
      else if s.resetAllowed (portOf p) epoch then
        (if s.rst.ringDue.isSome then s
         else { s with rst := { s.rst with ringDue := some (s.frame.up + 600), ringPort := portOf p + 1 } })
      else s.bump FL_RESETS_REFUSED_COUNT

/-- RING_RESET_RECEIVE (R224). -/
def execRingResetReceive (pair dest epoch : Nat) (s : State) : Host.Outcome State Fault Refusal :=
  .next (s.ringResetReceive pair dest epoch)

end Sys2Proof.Machine
end

