-- ==== Sys2Proof/Machine/Survey.lean ====
section
/-! DEFINITION. The survey engine (chapter 6): its stages, passes, sweeps, captures, crosstalk and self-heating
probes, restore; and what happens at a loop window boundary (R20). -/

namespace Sys2Proof.Machine

/-! Stages (SV_STATUS.STATE). -/

/-- Frames since the stage, or its dwell, began. -/
def State.stageFrames (s : State) : Nat := s.frame.ticks - s.survey.start

/-- This tick begins a loop window. -/
def State.onBoundary (s : State) : Bool := s.frame.running && s.frame.frame % s.window = 0

/-- The stage in progress has run for its length of windows: its end is this tick. -/
def State.stageOver (s : State) (stage : Nat) : Bool :=
  s.stage = stage && !s.survey.wait && !s.on SV_STATUS_SUSPENDED && !s.survey.abort &&
    decide (s.stageLength * s.window ≤ s.stageFrames)

/-- The capture windows' frames. -/
def State.captureFrames (s : State) : Nat := s.get SV_PASS_CAPTURE * s.window

/-- The survey engine and what its stages use run: a stage waits for its wakes to end (R14, Table 12-5). -/
def State.surveyReady (s : State) : Bool :=
  [0x1F, 0x10, 0x11, 0x12, 0x13, 0x14, 0x15, 0x16, 0x17, 0x18].all s.running

/-- A waiting stage begins at this tick. -/
def State.startStage (s : State) : State :=
  { s with survey := { s.survey with wait := false, start := s.frame.ticks, gather := [], frames := 0, temps := [] } }

/-! Start, entry, abort (R138, R139, R141). -/

/-- The lanes a survey takes: out of OFF, with a heater and a monitor input. -/
def State.surveyed (s : State) : List Nat :=
  s.liveLanes.filter fun e => (s.lane e).st ≠ .off && s.htrUsed e && s.frc LP_MON_ASSIGNED e = 1

/-- The elements in the valid neighbour slots of an element. -/
def State.neighbours (s : State) (e : Nat) : List Nat :=
  let w := s.forceWord 0x5010 e
  let x := s.forceWord 0x5011 e
  [(w.bits 15 15, w.bits 11 0), (w.bits 31 31, w.bits 27 16), (x.bits 15 15, x.bits 11 0), (x.bits 31 31, x.bits 27 16)].filterMap
    fun p => if p.1 = 1 then some p.2 else none

/-- An element and its neighbours carry different colours (R143). -/
def State.coloured (s : State) (e : Nat) : Bool :=
  ((e :: s.neighbours e).map fun n => s.rd SV_COLOUR_COLOUR n).Nodup

/-- GO: mode, state, range. -/
def State.surveyGo (s : State) (clear abort : Bool) : Nat × State :=
  let l := s.surveyed
  if s.modeNow ≠ modeService then (stMode, s)
  else if s.on SM_STATUS_MARGINAL || s.stage ≠ 0 || s.survey.entry.isSome || s.get PW_STATUS_PHASE ≠ 0 then (stState, s)
  else if abort then (stRange, s)
  else
    match l.find? fun e => !s.coloured e with
    | some e => (stRange, (s.set SV_COLOUR_BAD_VALID 1).set SV_COLOUR_BAD_ELEMENT e)
    | none =>
      let s := (s.set SV_COLOUR_BAD_VALID 0).set SV_COLOUR_BAD_ELEMENT 0
      (stOk, { s with survey := {
        entry := some (s.frame.ticks + 1), clear := clear, elems := l
        parked := l.filter fun e => (s.lane e).st = .park } })

/-- ABORT: while a survey runs, and not in the restore stage. -/
def State.surveyAbort (s : State) : Nat × State :=
  if (s.stage = 0 && s.survey.entry.isNone) || s.stage = 6 then (stState, s)
  else (stOk, if s.survey.abort then s else { s with survey := { s.survey with abort := true, result := 2 } })

/-- SV_START. -/
def State.wSvStart (s : State) (v : Word) : Nat × State :=
  if v.bits 0 0 = 1 then s.surveyGo (v.bits 2 2 = 1) (v.bits 1 1 = 1)
  else if v.bits 1 1 = 1 then s.surveyAbort
  else (stOk, s)

/-- CLEAR: every entry of an element is set to all zeros; entries written by survey count in SV_TT_GEN. -/
def State.clearEntries (s : State) (e : Nat) : State := State.each 32 (fun c s => (s.setEntry (32 * e + c) 0).bumpGen) s

/-- The heater code formed in this frame is that of the lane's terms now: after a hop (R81), and without F from the
entry tick of a survey on (R139). -/
def State.reform (s : State) (e : Nat) : State :=
  let l := s.lane e
  if l.st.runs then s.setLane e { l with hNext := (s.formCode e l.withUpdate).hNext } else s

/-- SURVEY_ENTRY: at the tick after acceptance (R138, R139). -/
def State.surveyEntry (s : State) : State :=
  match s.survey.entry with
  | none => s
  | some t =>
    if s.frame.ticks < t || s.modeNow ≠ modeService || s.stage ≠ 0 then s
    else
      let l := s.survey.elems
      let s := (s.setMode modeSurvey 2).darken s.frame.up
      let s := (s.missShadow 3).endRing
      let s : State := { s with commit := { s.commit with fAgg := [], self := [] } }
      let s := if s.survey.clear then l.foldl State.clearEntries s else s
      let s := l.foldl (fun s e => s.wr SV_CAPTURED_MAP e 0) s
      let s := State.eachIn [3, 4, 5, 6] (fun k s => s.setWord 0x5841 k 0) s
      let s := (s.set SV_STATUS_RESULT 0).set SV_STATUS_SUSPENDED 0
      let s : State := { s with survey := { s.survey with entry := none } }
      let s := (s.toStage 1 0).eachLane State.reform
      (allDomains.filter fun d => d ≠ 0x1D && d ≠ 0x1E).foldl (fun s d => s.demandWake 4 d) s

/-- SURVEY_ENTRY (R138). -/
def execSurveyEntry (s : State) : Host.Outcome State Fault Refusal := .next s.surveyEntry

/-! Hops of a survey. -/

/-- A surveyed lane hops to an entry and closes its loop: a parked lane leaves PARK (R144, R148). -/
def State.surveyHop (s : State) (e c : Nat) (en : BitVec 128) : State :=
  match (s.lane e).st with
  | .off | .fault => s
  | .coast | .staleHold =>
    let s := (s.setContext e (some c)).takeTerms e en
    (s.setLane e { s.lane e with prior := .acquire }).reform e
  | .park | .acquire | .track =>
    let s := (s.setContext e (some c)).moveLane e (s.lane e) .acquire 7 0x22 true
    (s.takeTerms e en).reform e

/-- The lane is parked at a code by the survey (R147, R148). -/
def State.surveyPark (s : State) (e code : Nat) : State :=
  let st := (s.lane e).st
  if st = .off || st = .fault then s
  else
    let s := s.parkLane e 7
    s.setLane e { s.lane e with hNext := some code }

/-- The electro-optic code of the own state in a pass (R144). -/
def State.surveyEo (s : State) (e : Nat) : State :=
  let code := if s.cross e then s.rd SV_EO_CROSS e else s.rd SV_EO_BAR e
  let l := s.lane e
  if l.st = .off || l.st = .fault || !s.eoUsed e then s
  else s.setLane e (l.eoChange s.frame.up code (s.frame.up + 4) none)

/-- SECDED outcomes of the entries that the survey engine reads for a list of hops (R109): lane, its context. -/
def State.surveyEcc (s : State) (xs : List LaneEcc) (ctx : Nat → Nat) : List LaneEcc × State :=
  let (xs, s) := s.checkedLanes 25 xs
  let s := xs.foldl (fun s x =>
    let e := x.lane % 4096
    let s := s.countEcc (32 * e + ctx e) x.ecc
    if x.ecc = .uncorrected then s.raise 25 e else s) s
  (xs, s)

/-- The entry of a hop: empty where its read was uncorrectable. -/
def State.hopEntry (s : State) (xs : List LaneEcc) (e c : Nat) : BitVec 128 :=
  if xs.any fun x => x.lane % 4096 = e && x.ecc = .uncorrected then 0 else s.entry (32 * e + c)

/-! Passes (R144, Table 6-2). -/

/-- Contexts captured in this survey. -/
def State.got (s : State) (e : Nat) : Nat := s.survey.got.find (fun _ => 0) e

/-- Bits in which two contexts differ. -/
def contextDistance (a b : Nat) : Nat := (List.range 5).countP fun k => (a ^^^ b).testBit k

/-- The captured context of the same own state that is nearest to `c`, the lowest among equals (R144). -/
def nearest (got c : Nat) : Option Nat :=
  ((List.range 32).filter fun x => got.testBit x && x / 16 = c / 16).foldl (fun b x =>
    match b with
    | none => some x
    | some y => if contextDistance x c < contextDistance y c then some x else some y) none

/-- Step code `j` of a sweep (R145). -/
def State.sweepCode (s : State) (e j : Nat) : Nat :=
  let a : Int := s.frc LP_PILOT_AMP e
  let mn : Int := s.rd LP_HTR_LIMIT_HTR_MIN e
  let mx : Int := s.rd LP_HTR_LIMIT_HTR_MAX e
  (clampInt 0 65535 (mn + a + (j : Int) * (mx - mn - 2 * a) / 63)).toNat

/-- A sweep begins: open loop at step 0, PH = 0 (R145). -/
def State.beginSweep (s : State) (e : Nat) : State :=
  let s := s.moveLane e { (s.lane e).dropUpdate with lockCnt := 0, unlockCnt := 0 } .acquire 7 0x22 true
  let s := s.setLane e { s.lane e with
    openCode := some (s.sweepCode e 0), ph := 0, freshUntil := some s.frame.frame }
  let s : State := { s with survey := { s.survey with sweeps := s.survey.sweeps.put (fun _ => []) e [] } }
  s.reform e

/-- An element at the first tick of a pass; one in FAULT takes nothing, and its capture will fail (Table 6-7). -/
def State.passElement (xs : List LaneEcc) (s : State) (e : Nat) : State :=
  let st := (s.lane e).st
  let c := s.contextNow e
  let s : State := if (s.got e).testBit c then s
    else { s with survey := { s.survey with take := s.survey.take ++ [e] } }
  if st = .off || st = .fault then s
  else
    let s := s.surveyEo e
    match nearest (s.got e) c with
    | some x => s.surveyHop e x (s.hopEntry xs e x)
    | none =>
      let s := s.beginSweep e
      { s with survey := { s.survey with xs := s.survey.xs ++ [(e, 0, 0)] } }

/-- A pass may begin: the calibration stage is over, or the pass waits for this boundary. -/
def State.passDue (s : State) : Bool :=
  s.onBoundary && s.surveyReady && !s.on SV_STATUS_SUSPENDED && !s.survey.abort &&
    ((s.stage = 1 && !s.survey.wait && 1024 ≤ s.stageFrames && !s.cal.runs.any CalRun.survey) ||
      (s.stage = 2 && s.survey.wait))

/-- SURVEY_PASS_START. -/
def State.passStart (s : State) (eccs : List LaneEcc) : State :=
  if !s.passDue then s
  else
    let s := if s.stage = 1 then s.toStage 2 0 else s
    let s := s.startStage
    let s : State := { s with survey := { s.survey with
      conf := some (s.get SV_STATUS_STEP), take := [], sweeps := [], xs := [] } }
    let (xs, s) := s.surveyEcc eccs fun e => (nearest (s.got e) (s.contextNow e)).getD 0
    s.survey.elems.foldl (State.passElement xs) s

/-- SURVEY_PASS_START (R144). -/
def execSurveyPassStart (eccs : List LaneEcc) (s : State) : Host.Outcome State Fault Refusal := .next (s.passStart eccs)

/-! Sweeps (R145). -/

/-- The step with the least D, or the greatest for polarity 1; ties go to the lowest. `xs` is in step order. -/
def extremum (inv : Bool) (xs : List (Nat × Int × Int)) : Nat :=
  let better := fun (a b : Nat) => if inv then decide (b < a) else decide (a < b)
  (List.range xs.length).foldl (fun j k =>
    if better ((xs.getD k (0, 0, 0)).1) ((xs.getD j (0, 0, 0)).1) then k else j) 0

/-- e and q on the rising side of the chosen step, and that side's step. -/
def risingSide (inv : Bool) (xs : List (Nat × Int × Int)) (j : Nat) : Nat × Int × Int :=
  let up := if inv then j = 0 else j < 63
  let r := if up then j + 1 else j - 1
  let x := (xs.getD r (0, 0, 0)).2
  if up = inv then (r, -x.1, -x.2) else (r, x.1, x.2)

/-- The pilot phase and the slope of a sweep; where the manual states none (no error signal, no distance) they are
free. -/
def State.sweepResult (s : State) (e q : Int) (d : Nat) : Nat × Nat × State :=
  let (a, s) := if e = 0 ∧ q = 0 then s.free else (BitVec.ofNat 32 (phaseOf e q), s)
  let (b, s) := if d = 0 then s.free else (BitVec.ofNat 32 (slopeOf e q d), s)
  (a.toNat % 256, b.toNat % 65536, s)

/-- The loop closes from the chosen step; phase and slope of the own state are reported. -/
def State.closeSweep (s : State) (el : Nat) (xs : List (Nat × Int × Int)) : State :=
  let inv := s.inverted el
  let j := extremum inv xs
  let (r, e, q) := risingSide inv xs j
  let d := ((s.sweepCode el r : Int) - s.sweepCode el j).natAbs
  let (ph, sl, s) := s.sweepResult e q d
  let s := if s.cross el then (s.wr SV_PHASE_CROSS el ph).wr SV_SLOPE_CROSS el sl
    else (s.wr SV_PHASE_BAR el ph).wr SV_SLOPE_BAR el sl
  let s := s.setLane el { s.lane el with
    openCode := none, base := s.sweepCode el j, integ := 0, prop := 0, ph := ph, lockCnt := 0, unlockCnt := 0
    freshUntil := some s.frame.frame }
  s.reform el

/-- What the measuring window gives: D, e, q; with NORM and no light e and q have no stated value. -/
def State.sweepMeasure (s : State) (e : Nat) : (Nat × Int × Int) × State :=
  let d := s.rd MN_DC_D (s.frc LP_MON_MON e)
  if d = 0 && s.frc LP_PILOT_NORM e = 1 then
    let (a, s) := s.free
    let (b, s) := s.free
    ((d, signedOf 24 a.toNat, signedOf 24 b.toNat), s)
  else
    match (s.lane e).win with
    | some w => ((d, w.e, w.q), s)
    | none => ((d, (s.lane e).err, (s.lane e).errQ), s)

/-- One sweeping lane at the end of a measuring window. -/
def State.sweepStep (s : State) (e : Nat) : State :=
  let l := s.lane e
  let n := (s.survey.sweeps.find (fun _ => []) e).length
  if l.openCode.isNone || l.st = .fault || l.st = .off || s.stageFrames < 3 * s.window * (n + 1) then s
  else
    let (x, s) := s.sweepMeasure e
    let xs := x :: s.survey.sweeps.find (fun _ => []) e
    let s : State := { s with survey := { s.survey with sweeps := s.survey.sweeps.put (fun _ => []) e xs } }
    if n = 63 then s.closeSweep e xs.reverse
    else (s.setLane e { s.lane e with openCode := some (s.sweepCode e (n + 1)) }).reform e

/-- SWEEP_STEP_END. -/
def State.sweepStepEnd (s : State) : State :=
  if s.stage = 2 && !s.survey.wait && !s.on SV_STATUS_SUSPENDED then (s.survey.xs.map Prod.fst).foldl State.sweepStep s
  else s

/-- SWEEP_STEP_END (R145). -/
def execSweepStepEnd (s : State) : Host.Outcome State Fault Refusal := .next s.sweepStepEnd

/-! Captures (R146, Table 6-3). -/

/-- The gathering of an element. -/
def gatherOf (t : Table Gather) (e : Nat) : Gather := t.find (fun _ => {}) e

/-- An element meets the conditions of R146 over `n` frames. -/
def Gather.full (g : Gather) (n : Nat) : Bool := g.ok && g.n = n && 0 < n

/-- The entry of a capture. -/
def State.captureEntry (s : State) (e c : Nat) (g : Gather) : BitVec 128 :=
  let own := c / 16
  let l := roundDiv g.sum g.n
  let b0 : Int := if (s.got e).testBit (16 * own) then entryHtr (s.entry (32 * e + 16 * own)) else wholeCode l
  let b := if l - 16 * b0 < -524288 ∨ 524287 < l - 16 * b0 then wholeCode l else b0
  let temp := roundDiv (s.survey.temps.find (fun _ => 0) (s.frc XT_FLOOR_TILE e)) s.survey.frames
  let secs := timeSeconds ((s.frame.frame - 1) * 768000)
  let eo := if own = 1 then s.rd SV_EO_CROSS e else s.rd SV_EO_BAR e
  let ph := if own = 1 then s.rd SV_PHASE_CROSS e else s.rd SV_PHASE_BAR e
  entryOf b.toNat eo (s.rd SV_KICK_AMP e) (s.rd SV_KICK_DUR e) ph (l - 16 * b) temp 1 secs

/-- One element at the end of the capture windows. -/
def State.captureElement (s : State) (e : Nat) : State :=
  let c := s.contextNow e
  let g := gatherOf s.survey.gather e
  if g.full s.captureFrames then
    let en := s.captureEntry e c g
    let s := (s.setEntry (32 * e + c) en).bumpGen
    let s := s.wr SV_CAPTURED_MAP e (s.rd SV_CAPTURED_MAP e ||| 2 ^ c)
    { s with survey := { s.survey with got := s.survey.got.put (fun _ => 0) e (s.got e ||| 2 ^ c) } }
  else s.bump SV_CAPTURE_FAILS_COUNT

/-! Crosstalk: participants and groups (R147, R148). -/

/-- The aggressor slots of an element that are valid: slot, element named. -/
def State.slots (s : State) (e : Nat) : List (Nat × Nat) :=
  (List.range 12).filterMap fun j =>
    let w := s.forceWord (0x5400 + j) e
    if w.bits 12 12 = 1 then some (j, w.bits 27 16) else none

/-- Elements with an aggressor word other than the default. -/
def State.slotElements (s : State) : List Nat :=
  ((s.force.filter fun p => 0x5400 ≤ p.1 / 65536 && p.1 / 65536 ≤ 0x540B).map fun p => p.1 % 65536).dedup

/-- Two aggressors may not share a group (R148). -/
def State.clash (s : State) (a b : Nat) : Bool :=
  let names := fun e => (s.slots e).map Prod.snd
  s.slotElements.any (fun e => (names e).contains a && (names e).contains b) ||
    (names a).contains b || (names b).contains a || (s.neighbours a).contains b || (s.neighbours b).contains a

/-- An aggressor joins the lowest group in which it clashes with no member. -/
def State.joinGroup (s : State) (a : Nat) : List (List Nat) → List (List Nat)
  | [] => [[a]]
  | g :: gs => if g.any (s.clash a) then g :: s.joinGroup a gs else (g ++ [a]) :: gs

/-- The aggressor groups, in element order. -/
def State.aggressorGroups (s : State) : List (List Nat) :=
  let named := s.survey.parts.flatMap fun e => (s.slots e).map Prod.snd
  (s.survey.parts.filter fun a => named.contains a).foldl (fun gs a => s.joinGroup a gs) []

/-- A code of a dwell: BASE plus or minus STEP within the limits (R148). -/
def State.dwellCode (s : State) (e : Nat) (plus : Bool) : Nat :=
  let a : Int := s.frc LP_PILOT_AMP e
  let mn : Int := s.rd LP_HTR_LIMIT_HTR_MIN e
  let mx : Int := s.rd LP_HTR_LIMIT_HTR_MAX e
  let step : Int := s.get SV_XT_STEP
  let b : Int := s.frc XT_BASE_BASE e
  (clampInt (mn + a) (mx - a) (if plus then b + step else b - step)).toNat

/-- Members of the running group. -/
def State.members (s : State) : List Nat := s.survey.groups.getD (s.get SV_STATUS_STEP) []

/-- A group begins with its plus dwell. -/
def State.beginGroup (s : State) : State :=
  let xs := s.members.map fun e => (e, s.dwellCode e true, s.dwellCode e false)
  let s := xs.foldl (fun s x => s.surveyPark x.1 x.2.1) s
  let s := s.startStage
  { s with survey := { s.survey with xs := xs, dwell := 0, plus := [], minus := [] } }

/-! Self-heating probes (R149). -/

/-- LP_TILE_MARGIN in ec: what the frame's budget leaves (R26). -/
def State.tileMargin (s : State) (t : Nat) : Nat := frameBudget (s.get PL_STATUS_LEVEL) - s.tileWork t

/-- Participating elements above a tile. -/
def State.above (s : State) (t : Nat) : List Nat := s.survey.parts.filter fun e => s.frc XT_FLOOR_TILE e = t

/-- The tiles of a probe, and those among them that are exercised. -/
def State.probeTiles (s : State) : List Nat := (List.range 64).filter fun t => t % 16 = s.get SV_STATUS_STEP

/-- A probe begins with its on dwell. -/
def State.beginProbe (s : State) : State :=
  let on := s.probeTiles.filter fun t => s.above t ≠ [] && 64 ≤ s.tileMargin t
  let s := s.startStage
  { s with survey := { s.survey with tiles := on, dwell := 0, plus := [] } }

/-! Stages that begin at a boundary. -/

/-- The baseline stage begins: pass 0's configuration; participants hop to context 0, the others are parked. -/
def State.beginBaseline (s : State) (eccs : List LaneEcc) : State :=
  let s : State := { s with survey := { s.survey with conf := some 0 } }
  let (xs, s) := s.surveyEcc eccs fun _ => 0
  let parts := s.survey.elems.filter fun e => (s.got e).testBit 0
  let s := s.survey.elems.foldl (fun s e =>
    let s := s.surveyEo e
    if parts.contains e then s.surveyHop e 0 (s.hopEntry xs e 0) else s.surveyPark e (s.parkCode e)) s
  let s := s.startStage
  { s with survey := { s.survey with parts := parts } }

/-- The calibration stage begins: every unit runs (R150). -/
def State.beginCal (s : State) : State :=
  let s : State := { s with cal := { s.cal with queue := [], runs := [] } }
  (calUnits.foldl (fun s u => s.beginRun u true) s).startStage

/-- The waiting stage begins at this tick, with the SECDED outcomes of the entries it reads; a pass has a command of its own, the restore stage too. -/
def State.beginStage (s : State) (eccs : List LaneEcc) : State :=
  if !s.survey.wait || !s.onBoundary || !s.surveyReady || s.on SV_STATUS_SUSPENDED || s.survey.abort then s
  else
    match s.stage with
    | 1 => s.beginCal
    | 3 => s.beginBaseline eccs
    | 4 => s.beginGroup
    | 5 => s.beginProbe
    | _ => s

/-- SURVEY_CAPTURE: the pass is over; the next one, or the baseline stage, follows. -/
def State.surveyCapture (s : State) (eccs : List LaneEcc) : State :=
  if !s.stageOver 2 then s
  else
    let s := s.survey.take.foldl State.captureElement s
    let k := s.get SV_STATUS_STEP
    if k = 31 then (s.toStage 3 0).beginStage eccs else s.toStage 2 (k + 1)

/-- SURVEY_CAPTURE (R146). -/
def execSurveyCapture (s : State) : Host.Outcome State Fault Refusal := .next (s.surveyCapture s.frame.tide)

/-- XT_BASE of a participant: the mean rounded to a whole code (R147). -/
def State.writeBase (s : State) (e : Nat) : State :=
  let g := gatherOf s.survey.gather e
  if g.n = 0 then s
  else s.setBoth 0x540C e ((s.word 0x540C e).put 15 0 (clampInt 0 65535 (roundDiv g.sum (16 * g.n))).toNat)

/-- XT_SELF_REF of a tile: its activity now. -/
def State.writeSelfRef (t : Nat) (s : State) : State :=
  let F := XT_SELF_REF_AREF.tile t
  s.setBoth F.index 0 ((s.word F.index 0).put 15 0 (s.tileActivity t (s.get PL_STATUS_LEVEL)))

/-- Slots of participants that name an element that takes no part: not estimated (R148). -/
def State.foreignSlots (s : State) : Nat :=
  (s.survey.parts.map fun e => (s.slots e).countP fun p => !s.survey.parts.contains p.2).foldl (· + ·) 0

/-- CROSSTALK_BASELINE_END: baselines, and the groups of the next stage. -/
def State.baselineEnd (s : State) : State :=
  if !s.stageOver 3 then s
  else
    let s := s.survey.parts.foldl State.writeBase s
    let s := State.each 64 State.writeSelfRef s
    let gs := s.aggressorGroups
    let s := (s.set SV_XT_GROUPS_G gs.length).bumpBy SV_XT_FAILED_COUNT 0 s.foreignSlots
    let s : State := { s with survey := { s.survey with groups := gs } }
    (s.toStage (if gs = [] then 5 else 4) 0).beginStage []

/-- CROSSTALK_BASELINE_END (R147). -/
def execCrosstalkBaselineEnd (s : State) : Host.Outcome State Fault Refusal := .next s.baselineEnd

/-! Dwells (R148). -/

/-- The coefficient of one slot: written, or counted as failed. A step that moved nothing gives no stated value. -/
def State.writeCoef (s : State) (v j a : Nat) : State :=
  let n := s.captureFrames
  let p := gatherOf s.survey.plus v
  let m := gatherOf s.survey.minus v
  match s.survey.xs.lookup a with
  | none => s
  | some (x, y) =>
    if !(p.full n && m.full n) then s.bump SV_XT_FAILED_COUNT
    else
      let dx := (x : Int) - y
      let (f, s) := if dx = 0 then s.free else (0, s)
      let c := if dx = 0 then signedOf 12 f.toNat else roundDiv (1024 * (p.sum - m.sum)) (n * dx.natAbs) * dx.sign
      let c' := clampInt (-2048) 2047 c
      let s := if c = c' then s else s.bump SV_XT_SAT_COUNT
      s.setBoth (0x5400 + j) v ((s.word (0x5400 + j) v).put 11 0 (toBits 12 c'))

/-- Every slot of every participant that names a member of the group. -/
def State.writeCoefs (s : State) : State :=
  s.survey.parts.foldl (fun s v => (s.slots v).foldl (fun s p => s.writeCoef v p.1 p.2) s) s

/-- AGGRESSOR_DWELL_END: plus, minus, return; then the coefficients and the next group. -/
def State.dwellEnd (s : State) (eccs : List LaneEcc) : State :=
  if !s.stageOver 4 then s
  else
    let g := s.survey.gather
    if s.survey.dwell = 0 then
      let s := s.survey.xs.foldl (fun s x => s.surveyPark x.1 x.2.2) s
      let s := s.startStage
      { s with survey := { s.survey with plus := g, dwell := 1 } }
    else if s.survey.dwell = 1 then
      let (xs, s) := s.surveyEcc eccs fun _ => 0
      let s := s.members.foldl (fun s e => s.surveyHop e 0 (s.hopEntry xs e 0)) s
      let s := s.startStage
      { s with survey := { s.survey with minus := g, dwell := 2 } }
    else
      let s := s.writeCoefs
      let k := s.get SV_STATUS_STEP + 1
      (if k < s.survey.groups.length then s.toStage 4 k else s.toStage 5 0).beginStage []

/-- AGGRESSOR_DWELL_END (R148). -/
def execAggressorDwellEnd (s : State) : Host.Outcome State Fault Refusal := .next (s.dwellEnd s.frame.tide)

/-- The coefficient of one exercised tile (R149). -/
def State.writeSelfCoef (s : State) (t : Nat) : State :=
  let n := s.captureFrames
  let vs := (s.above t).filter fun e => (gatherOf s.survey.plus e).full n && (gatherOf s.survey.gather e).full n
  if vs = [] then s.bump SV_XT_FAILED_COUNT
  else
    let d := (vs.map fun e => (gatherOf s.survey.plus e).sum - (gatherOf s.survey.gather e).sum).foldl (· + ·) 0
    let c := roundDiv (1024 * d) (n * vs.length * s.get SV_EXERCISE_EX)
    let c' := clampInt (-2048) 2047 c
    let s := if c = c' then s else s.bump SV_XT_SAT_COUNT
    let F := XT_SELF_COEF_COEF.tile t
    s.setBoth F.index 0 ((s.word F.index 0).put 11 0 (toBits 12 c'))

/-- SELF_PROBE_DWELL_END: on, off; then the coefficients and the next probe, or the restore stage; a tile not exercised
counts as not estimated. -/
def State.probeEnd (s : State) : State :=
  if !s.stageOver 5 then s
  else if s.survey.dwell = 0 then
    let g := s.survey.gather
    let s := s.startStage
    { s with survey := { s.survey with plus := g, dwell := 1 } }
  else
    let s := s.bumpBy SV_XT_FAILED_COUNT 0 (s.probeTiles.length - s.survey.tiles.length)
    let s := s.survey.tiles.foldl State.writeSelfCoef s
    let k := s.get SV_STATUS_STEP
    if k = 15 then
      let s := s.toStage 6 0
      { s with survey := { s.survey with result := 1, tiles := [] } }
    else (s.toStage 5 (k + 1)).beginStage []

/-- SELF_PROBE_DWELL_END (R149). -/
def execSelfProbeDwellEnd (s : State) : Host.Outcome State Fault Refusal := .next s.probeEnd

/-! Restore (R140). -/

/-- A surveyed element returns: its own state of CM_STATE, the hop a FORCE commit would make, its command. -/
def State.restoreElement (xs : List LaneEcc) (before : Nat → Bool) (s : State) (e : Nat) : State :=
  let st := (s.lane e).st
  if st = .off then s
  else if st = .fault then s.setContext e none
  else
    let c := s.contextNow e
    let en := s.hopEntry xs e c
    let s := s.eoEdge e en (decide (before e ≠ s.cross e)) (s.cross e) (s.frame.up + 4)
    if s.survey.parked.contains e then ((s.parkLane e 7).setContext e (some c)).takeTerms e en else s.surveyHop e c en

/-- The first tick of the restore stage. -/
def State.restoreStart (s : State) (eccs : List LaneEcc) : State :=
  let old := s
  let s := (s.toStage 6 0).startStage
  let s : State := { s with survey := { s.survey with conf := none, restore := some s.frame.ticks, entry := none } }
  let (xs, s) := s.surveyEcc eccs s.contextNow
  s.survey.elems.foldl (State.restoreElement xs old.cross) s

/-- The end of the restore stage, one window later: gates and F released, the record, and SURVEY left at the next tick. -/
def State.restoreEnd (s : State) : State :=
  let s := (s.set SV_STATUS_RESULT s.survey.result).set SV_STATUS_STATE 0
  let g := s.gateBits
  let s : State := if s.get SF_STATE_STATE ≠ 0 || s.safe.hold then s
    else
      let s := s.moveGates (s.safe.dark.toNat ^^^ g) s.frame.up
      { s with safe := { s.safe with dark := BitVec.ofNat 256 g } }
  let s := s.post 0x60 0 (payloadOf [(s.get SV_CAPTURE_FAILS_COUNT, 32), (s.get SV_XT_GROUPS_G % 65536, 16),
    (s.survey.result, 0)])
  let s : State := { s with survey := {} }
  if s.modeNow = modeSurvey then { s with mode := { s.mode with next := some (modeService, 3, s.frame.ticks + 1) } } else s

/-- SURVEY_RESTORE: the stage's first tick, and its end. -/
def State.surveyRestore (s : State) (eccs : List LaneEcc) : State :=
  match s.survey.restore with
  | none =>
    if (s.stage = 6 && s.surveyReady && !s.on SV_STATUS_SUSPENDED && s.onBoundary) then s.restoreStart eccs else s
  | some t =>
    if s.stage = 6 && !s.on SV_STATUS_SUSPENDED && decide (t + s.window ≤ s.frame.ticks) then s.restoreEnd else s

/-- SURVEY_RESTORE (R140). -/
def execSurveyRestore (eccs : List LaneEcc) (s : State) : Host.Outcome State Fault Refusal := .next (s.surveyRestore eccs)

/-- SURVEY_RESUME: after SUPPLY_MARGINAL the stage starts again at this boundary (R142). -/
def State.surveyResume (s : State) (eccs : List LaneEcc) : State :=
  if s.on SV_STATUS_SUSPENDED && !s.on SM_STATUS_MARGINAL && s.onBoundary then
    let s := s.set SV_STATUS_SUSPENDED 0
    let s : State := { s with survey := { s.survey with restore := none } }
    s.beginStage eccs
  else s

/-- SURVEY_RESUME (R142). -/
def execSurveyResume (s : State) : Host.Outcome State Fault Refusal := .next (s.surveyResume s.frame.tide)

/-! The loop window boundary (R20). -/

/-- ABORT stops the stage in progress at this boundary (R141). -/
def State.boundaryAbort (s : State) : State :=
  if s.survey.abort && s.survey.result = 2 && 1 ≤ s.stage && s.stage ≤ 5 then
    let s := if s.stage = 1 then s.abandonCal else s
    s.toStage 6 0
  else s

/-- LOOP_WINDOW_BOUNDARY: lanes resume and set-points move, monitor ranges written take effect, survey stages begin or
stop. -/
def State.windowBoundary (s : State) (eccs : List LaneEcc) : State :=
  let s : State := { s with frame := { s.frame with bound := true } }
  let s := (s.eachLane State.rampIdle).eachLane State.resumeLane
  let s := (s.objs.filterMap fun p => if p.1 / 65536 = 0x4800 then some (p.1 % 65536) else none).foldl State.fixedRange s
  s.boundaryAbort.beginStage eccs

/-- LOOP_WINDOW_BOUNDARY (R20). -/
def execLoopWindowBoundary (s : State) : Host.Outcome State Fault Refusal :=
  .next (if s.onBoundary && !s.frame.bound then s.windowBoundary s.frame.tide else s)

end Sys2Proof.Machine
end

