-- ==== Sys2Proof/Machine/Views.lean ====
section
/-! DEFINITION. The dictionary's words as a read returns them: those that the device forms from its state when they are
read, and the stored words beside them. -/

namespace Sys2Proof.Machine

/-- A word with a field replaced. -/
def inField (F : Field) (v : Nat) (w : Word) : Word := w.put F.hi F.lo v

/-- A word put together from fields given as (value, low bit). -/
def wordOf (l : List (Nat × Nat)) : Word := BitVec.ofNat 32 (payloadOf l)

/-! Lanes, monitor inputs, tiles (Tables 4-11 to 4-13). -/

/-- TRIM_BUSY: the set-point in force differs from the target (R96). -/
def State.trimBusy (s : State) (e : Nat) : Bool := (s.lane e).withUpdate.sp ≠ s.rdI LP_SETPOINT_TARGET e

/-- LP_STATE. -/
def State.lpState (s : State) (e : Nat) : Word :=
  let l := s.lane e
  wordOf [(l.st.toCode, 28), (l.prior.toCode, 26), (l.hostCoast.toNat, 25),
    (((s.rd CM_STATE_BITS (e / 32)).testBit (e % 32)).toNat, 24), (l.emptyHop.toNat, 23), (l.sat.toNat, 22),
    (l.limited.toNat, 21), ((s.trimBusy e).toNat, 20), (l.htrOpen.toNat, 19), (l.htrShort.toNat, 18),
    (l.eoComp.toNat, 17), (l.memErr.toNat, 16), (l.staleCause % 16, 0)]

/-- LP_STATE_COUNT: lanes in a state; what no step has touched is OFF. -/
def State.stateCount (s : State) (code : Nat) : Nat :=
  let n := (s.lanes.filter fun p => p.2.st.toCode = code).length
  if code = 0 then 4096 - s.lanes.length + n else n

/-- USERS of MN_STATUS: active lanes assigned to an input. -/
def State.monUsers (s : State) (m : Nat) : Nat :=
  (s.lanes.filter fun p => p.2.st ≠ .off && s.frc LP_MON_ASSIGNED p.1 = 1 && s.frc LP_MON_MON p.1 = m).length

/-- Per-element views. -/
def State.viewLane (s : State) (index e : Nat) : Option Word :=
  let l := s.lane e
  if index = 0x4001 then some (s.lpState e)
  else if index = 0x4002 then some (wordOf [((s.eoUsed e).toNat, 1), ((s.htrUsed e).toNat, 0)])
  else if index = 0x4009 then some (BitVec.ofNat 32 (l.eoAt s.frame.up))
  else if index = 0x4010 then some (BitVec.ofNat 32 l.h)
  else if index = 0x4011 then some (BitVec.ofInt 32 l.withUpdate.integ)
  else if index = 0x4012 then some (BitVec.ofInt 32 l.err)
  else if index = 0x4013 then some (BitVec.ofInt 32 l.errQ)
  else if index = 0x4014 then some (BitVec.ofInt 32 l.withUpdate.sp)
  else if index = 0x4015 then some (wordOf [(l.locks % 65536, 16), (l.unlocks % 65536, 0)])
  else none

/-- Loop-wide and monitor views. -/
def State.viewLoop (s : State) (index sub : Nat) : Option Word :=
  if index = 0x3003 then some (BitVec.ofNat 32 (s.stateCount sub))
  else if index = 0x4801 then some (inField MN_STATUS_USERS (s.monUsers sub) (s.word index sub))
  else none

/-- Per-tile views (Table 10-3). -/
def State.viewTile (s : State) (index : Nat) : Option Word :=
  let t := (index - 0xA000) / 0x40
  let o := index % 0x40
  if o = 0 then some (wordOf [(s.tileLanes t, 16), (s.tileWork t, 0)])
  else if o = 1 then some (BitVec.ofNat 32 (frameBudget (s.get PL_STATUS_LEVEL) - s.tileWork t))
  else if o = 0x13 then some (BitVec.ofInt 32 (s.commit.self.find (fun _ => 0) t))
  else if o = 0x30 then some (wordOf [(s.domState (t / 4), 30)])
  else none

/-! Commit engine and feed-forward (chapter 5). -/

/-- The head entry's frame of a ring; all ones where it is empty. -/
def State.ringHead (s : State) (e : Nat) : Nat :=
  match s.ringOf e with
  | [] => 2 ^ 64 - 1
  | r :: _ => r.frame

/-- SR_NEXT. -/
def State.nextActivation (s : State) : Nat := s.ringFrames.foldl min (2 ^ 64 - 1)

/-- A word of a 64-bit number: low at subindex 0. -/
def halfOf (n sub : Nat) : Word := BitVec.ofNat 32 (if sub = 0 then n else n / 2 ^ 32)

/-- CM_ARMED: RESULT reads EXECUTED from tc 4 of the commit's frame (R117). -/
def State.resultView (s : State) (sub : Nat) : Word :=
  match s.commit.executed with
  | some (t, old) => if s.frame.up < t then inField CM_ARMED_RESULT old (s.word 0x5202 sub) else s.word 0x5202 sub
  | none => s.word 0x5202 sub

/-- Views of chapter 5. -/
def State.viewCommit (s : State) (index sub : Nat) : Option Word :=
  if index = 0x5202 then some (s.resultView sub)
  else if index = 0x5008 then some (BitVec.ofNat 32 (s.commit.ctx.find (fun _ => 0) sub))
  else if index = 0x5102 then some (BitVec.ofNat 32 (s.ringOf sub).length)
  else if index = 0x5103 then some (halfOf (s.ringHead sub) 0)
  else if index = 0x5104 then some (halfOf (s.ringHead sub) 1)
  else if index = 0x5107 then some (halfOf s.nextActivation sub)
  else if index = 0x540F then some (BitVec.ofInt 32 (s.ffTerm sub))
  else none

/-! Timing, clocks, time (chapters 2, 3, 7). -/

/-- The four words of TB_NOW (R160). -/
def State.timeWords (s : State) : List Word :=
  [BitVec.ofNat 32 (timeSeconds s.now), BitVec.ofNat 32 (timeSeconds s.now / 2 ^ 32), BitVec.ofNat 32 (timeNs s.now),
    BitVec.ofNat 32 (timeFraction s.now)]

/-- Views of chapters 2, 3 and 7. -/
def State.viewTime (s : State) (index sub : Nat) : Option Word :=
  if index = 0x2000 then some (inField TC_STATUS_REF_PRESENT s.refPresent.toNat (s.word index sub))
  else if index = 0x2009 ∧ sub ≤ 1 then
    let c := loopCoef (s.get TC_STATUS_BW) s.prescale
    some (BitVec.ofNat 32 (if sub = 0 then c.1 else c.2))
  else if index = 0x2009 ∧ sub = 2 then some (BitVec.ofNat 32 s.timing.loop.gain)
  else if index = 0x200A ∧ sub = 0 then some (inField TC_DCO_FINE s.fine (s.word index sub))
  else if index = 0x2012 ∧ sub = 0 then some (BitVec.ofNat 32 s.coastTime)
  else if index = 0x2200 then some (inField CK_STATUS_CLK_READY (s.get TC_STATUS_CLK_READY) (s.word index sub))
  else if index = 0x2500 then some (BitVec.ofNat 32 s.flagsNow)
  else none

/-! Ports and gates (chapters 7 and 13). -/

/-- Gate `p` stands dark: a commanded change counts from the instant its drive starts (R118, R370). -/
def State.gateDark (s : State) (p : Nat) : Bool :=
  let ahead := (s.safe.moved.lookup p).any fun t => s.frame.up < t
  s.safe.dark.getLsbD p != ahead

/-- SAFEPOL as the safe latch has it: the sampled strap, or the level of the pin while none is sampled (R265, R337). -/
def State.safePol (s : State) : Bool := if s.safe.sampled then s.on ID_STRAPS_SAFEPOL else s.safe.pin

/-- DRIVEN: the gate driver sources current: VGATE is there, and dark is what SAFEPOL says (R316, R337). -/
def State.gateDriven (s : State) (p : Nat) : Bool :=
  s.safe.vgate && (s.gateDark p != s.safePol)

/-- The current that gate `p` sources now, in 0.5 mA (R353): the CURRENT in force of a driven gate, 40 by default. -/
def State.gateCurrent (s : State) (p : Nat) : Nat :=
  if s.gateDriven p then (s.commit.gateCur.lookup p).getD 40 else 0

/-- SAFE_FORCED: the reset hold, a safe state, or the unclocked hold of R317. -/
def State.safeForced (s : State) : Bool :=
  s.safe.hold || s.get SF_STATE_STATE ≠ 0 || s.safe.latchHold || s.safe.inLow || s.on SF_FATAL_LATCHED

/-- Views of port objects. -/
def State.viewPort (s : State) (index p : Nat) : Option Word :=
  if index = 0x4C01 then
    some (inField PD_STATUS_CAL_STALE (s.pdStale p).toNat (inField PD_STATUS_ACTIVE (s.pdActive p).toNat (s.word index p)))
  else if index = 0x4C41 then
    some (inField GT_STATUS_DARK (s.gateDark p).toNat (inField GT_STATUS_DRIVEN (s.gateDriven p).toNat
      (inField GT_STATUS_SAFE_FORCED s.safeForced.toNat (s.word index p))))
  else none

/-! Outputs of the front face (R1, R78, R295, R354; log entry 71). -/

/-- The device has power: no rail stands below its power-on threshold. -/
def State.powered (s : State) : Bool := !s.rst.held.contains 1 && !s.safe.vaonLow

/-- The tile group of an element holds its drivers: it is not in DOWN, in NEAP or isolated (Table 12-6). -/
def State.drives (s : State) (e : Nat) : Bool :=
  let d := groupOf e
  s.powered && s.domState d ≠ 0 && s.domState d ≠ 3 && !s.pow.isolated.contains d

/-- The code that drives a heater now: H and the pilot (R77). -/
def State.heaterDrive (s : State) (e : Nat) : Nat :=
  if s.drives e && s.htrUsed e then (((s.lane e).h : Int) + (s.lane e).pilot).toNat else 0

/-- Code and kick amplitude on an electro-optic output now (R100, R124). -/
def State.eoOutput (s : State) (e : Nat) : Nat × Nat :=
  if s.drives e && s.eoUsed e then (s.lane e).eoDrive s.frame.up else (0, 0)

/-- A monitor input's photodiode is biased: BIAS_EN, while the device has power and no device reset removes it (R1, R333,
R354). -/
def State.biasDriven (s : State) (m : Nat) : Bool := s.powered && s.rst.held = [] && s.rd MN_CFG_BIAS_EN m = 1

/-! Log, ring, semaphore (chapters 8 to 10). -/

/-- Sections held by a port, 1 A, 2 B, as a mask. -/
def State.heldBy (s : State) (code : Nat) : Nat :=
  (List.range 16).foldl (fun m k => if s.rd SE_SECTION_OWNER_OWNER k = code then m + 2 ^ k else m) 0

/-- Views of chapters 8 to 10. The arbitration key reads zero (R254). -/
def State.viewLog (s : State) (index sub : Nat) : Option Word :=
  if index = 0x2605 then some (s.evRead sub)
  else if index = 0x2608 then some (s.evRdData sub)
  else if index = 0x2609 then some (s.evOpenData sub)
  else if index = 0x260B then some (inField EV_FIFO_NOW s.ev.fifo.length (s.word index sub))
  else if index = 0x1100 then some (inField FL_STATUS_SILENT (s.silent sub).toNat (s.word index sub))
  else if index = 0x1150 then some (BitVec.ofNat 32 (s.loadView sub))
  else if index = 0x1303 then some (wordOf [(s.heldBy 2, 16), (s.heldBy 1, 0)])
  else if index = 0x1341 then some 0
  else none

/-! Power, modes, faults (chapters 11 to 13). -/

/-- The FLT pair as read back: driven, or pulled down with VGATE absent (R306, R336, R337). -/
def State.fltPins (s : State) : Bool × Bool :=
  let fault := (s.safe.flt && decide (s.safe.fltUp ≤ s.frame.up)) || s.safe.latchHold || s.safe.inLow
  (s.safe.vgate && fault, s.safe.vgate && !fault)

/-- SF_STATE. -/
def State.sfState (s : State) : Word :=
  inField SF_STATE_RELEASABLE s.releasable.toNat (inField SF_STATE_FLT_P_RB s.fltPins.1.toNat
    (inField SF_STATE_FLT_N_RB s.fltPins.2.toNat (s.word 0x7100 0)))

/-- TI_STATUS: what remains of an injection on a wire falls with time. -/
def State.tiStatus (s : State) : Word :=
  inField TI_STATUS_PENDING (decide (0 < s.injLeft)).toNat (inField TI_STATUS_REMAINING s.injLeft (s.word 0x7C01 0))

/-- MD_MODE. -/
def State.mdMode (s : State) : Word :=
  inField MD_MODE_BLK_TIME s.blkTime.toNat (inField MD_MODE_BLK_CLOCK s.blkClock.toNat
    (inField MD_MODE_BLK_IMAGE s.blkImage.toNat (s.word 0x1800 0)))

/-- Views of chapters 11 to 13. -/
def State.viewMode (s : State) (index sub : Nat) : Option Word :=
  if index = 0x1800 then some s.mdMode
  else if index = 0x6000 then
    some (if sub < 0x21 then inField PW_DOMAIN_LIMIT (s.limit sub) (s.word index sub) else s.word index sub)
  else if index = 0x6004 then some (s.votesWord sub)
  else if index = 0x7006 ∧ sub = 1 then some (inField FC_FIFO_NOW s.fault.fifo.length (s.word index sub))
  else if index = 0x7100 then some s.sfState
  else if index = 0x7C01 ∧ sub = 0 then some s.tiStatus
  else none

/-! The word a read returns. -/

/-- The word of a subentry with its write-only fields as they stand. -/
def State.rawView (s : State) (index sub : Nat) : Word :=
  let v :=
    if 0xA000 ≤ index ∧ index < 0xB000 then s.viewTile index
    else if 0x4000 ≤ index ∧ index < 0x4800 then s.viewLane index sub
    else if 0x3000 ≤ index ∧ index < 0x4C00 then s.viewLoop index sub
    else if 0x4C00 ≤ index ∧ index < 0x5000 then s.viewPort index sub
    else if 0x5000 ≤ index ∧ index < 0x5800 then s.viewCommit index sub
    else if 0x2000 ≤ index ∧ index < 0x2600 then s.viewTime index sub
    else if index = 0x1800 ∨ 0x6000 ≤ index then s.viewMode index sub
    else s.viewLog index sub
  v.getD (s.word index sub)

/-- The word as a read returns it: write-only fields and reserved bits read zero (R7, R9). -/
def State.view (s : State) (index sub : Nat) : Word :=
  match objRow index sub with
  | none => 0
  | some r => s.rawView index sub &&& BitVec.ofNat 32 (r.maskOf fun f => !f.acc.writeOnly)

end Sys2Proof.Machine
end

