-- ==== Sys2Proof/Machine/Writes.lean ====
section
/-! DEFINITION. What an accepted value does in each object (the chapters' own checks and effects): one dispatcher over
the index map, and the objects that no other file holds. -/

namespace Sys2Proof.Machine

/-! Objects that only hold a value, or clear one. -/

/-- The writable bits of an object replaced; its other fields keep their values (R242). -/
def State.store (s : State) (index sub : Nat) (v : Word) : State :=
  match objRow index sub with
  | none => s
  | some r =>
    let m := BitVec.ofNat 32 (r.maskOf fun f => f.acc.writable)
    s.setWord index sub ((s.word index sub &&& ~~~m) ||| (v &&& m))

/-- A value outside its limits is refused; else it is stored. -/
def State.storeIf (s : State) (ok : Bool) (index sub : Nat) (v : Word) : Nat × State :=
  if ok then (stOk, s.store index sub v) else (stRange, s)

/-- The limits of objects that only hold a value (Tables 6-11, 7-12, 9-14). -/
def State.limitsOk (s : State) (index sub : Nat) (v : Word) : Bool :=
  if index = 0x1101 then decide (v.bits 25 16 ≤ 1000)
  else if index = 0x2403 ∧ sub = 0 then decide (1 ≤ v.bits 10 0) && decide (v.bits 10 0 ≤ 1024)
  else if index = 0x2403 ∧ sub = 1 then decide (1 ≤ v.bits 6 0) && decide (v.bits 6 0 ≤ 64)
  else if index = 0x2403 ∧ sub = 2 then decide (1 ≤ v.bits 15 0)
  else if index = 0x2406 ∧ sub = 0 then decide (1 ≤ v.bits 15 0)
  else if index = 0x2410 then decide (1 ≤ v.bits 15 0)
  else if index = 0x4C00 then
    decide (2 ≤ v.bits 15 8) && decide (v.bits 7 0 + 2 ≤ v.bits 15 8) && decide (2 ≤ v.bits 23 16)
  else if index = 0x5802 ∧ sub = 0 then
    decide (8 ≤ v.bits 23 16) && decide (v.bits 23 16 + 208 ≤ v.bits 15 0) &&
      decide (v.bits 23 16 + 16 ≤ s.get SV_XT_DWELL)
  else if index = 0x5802 ∧ sub = 1 then
    decide (1 ≤ v.bits 31 16) && decide (v.bits 31 16 ≤ 32767) && decide (s.get SV_PASS_CAPTURE + 16 ≤ v.bits 15 0)
  else if index = 0x5802 ∧ sub = 3 then decide (1 ≤ v.bits 15 0)
  else if index = 0x5810 then decide (v.bits 2 0 ≤ 4)
  else if index = 0x5840 then decide (1 ≤ v.bits 15 0)
  else true

/-- A high-water mark: writing 0 clears it, other values are refused. -/
def State.clearMark (s : State) (index sub : Nat) (v : Word) : Nat × State :=
  if v = 0 then (stOk, s.setWord index sub 0) else (stRange, s)

/-! TB_STEP_AUTH (R172). -/

/-- GO with CANCEL is refused; each alone acts; neither does nothing. -/
def State.wStepAuth (s : State) (v : Word) : Nat × State :=
  let id := v.bits 15 8
  if v.bits 0 0 = 1 && v.bits 1 1 = 1 then (stRange, s)
  else if v.bits 0 0 = 1 then s.authorise id
  else if v.bits 1 1 = 1 then s.withdrawStep
  else (stOk, s)

/-! Semaphore and key (R252 to R254). -/

/-- One free section is taken, and its grants count modulo 2^16. -/
def State.takeSection (s : State) (port k : Nat) : State :=
  if s.rd SE_SECTION_OWNER_OWNER k = 0 then
    (s.wr SE_SECTION_OWNER_OWNER k (port + 1)).wr SE_SECTION_OWNER_GRANTS k (s.rd SE_SECTION_OWNER_GRANTS k + 1)
  else s

/-- Sections named by a mask. -/
def namedSections (v : Word) : List Nat := (List.range 16).filter fun k => v.toNat.testBit k

/-- SE_ACQUIRE: all named sections or none (R252). -/
def State.wAcquire (s : State) (port : Nat) (v : Word) : Nat × State :=
  let l := namedSections v
  if l.any fun k => s.rd SE_SECTION_OWNER_OWNER k ≠ 0 && s.rd SE_SECTION_OWNER_OWNER k ≠ port + 1 then (stState, s)
  else (stOk, State.eachIn l (fun k s => s.takeSection port k) s)

/-- SE_RELEASE: the named sections that the port holds become free (R253). -/
def State.wRelease (s : State) (port : Nat) (v : Word) : Nat × State :=
  (stOk, State.eachIn (namedSections v)
    (fun k s => if s.rd SE_SECTION_OWNER_OWNER k = port + 1 then s.wr SE_SECTION_OWNER_OWNER k 0 else s) s)

/-- SE_ARB_KEY: word `k` of the key; KEY_SET with the last of the eight (R254). -/
def State.wArbKey (s : State) (k : Nat) (v : Word) : Nat × State :=
  let m := s.arbMask ||| 2 ^ k
  let s : State := { s.setWord 0x1341 k v with arbMask := m }
  (stOk, if m = 255 then s.set SE_EPOCH_KEY_SET 1 else s)

/-! The dispatcher. -/

/-- Chapters 9 to 14 (0x1000 to 0x1FFF, 0x6000 to 0x7FFF). -/
def State.ruleDevice (s : State) (port index sub : Nat) (v : Word) : Nat × State :=
  if index = 0x1151 then s.clearMark index sub v
  else if index = 0x1301 then s.wAcquire port v
  else if index = 0x1302 then s.wRelease port v
  else if index = 0x1341 then s.wArbKey sub v
  else if index = 0x1401 ∧ sub = 0 then s.wBtCtrl v
  else if index = 0x1801 then s.wMdRequest v
  else if index = 0x6001 ∧ sub = 2 then s.wPwReq port v
  else if index = 0x6003 then s.wPwHold sub v
  else if index = 0x6012 then s.wPwDomainReset port v
  else if index = 0x6101 then s.wPlRequest v
  else if index = 0x6102 then s.wPlVout sub v
  else if index = 0x6103 then s.wPlPmbus sub v
  else if index = 0x7002 then s.wFcCfg sub v
  else if index = 0x7005 then s.wFcClear v
  else if index = 0x7006 then s.wFcFifo v
  else if index = 0x7101 then s.wSfRelease v
  else if index = 0x7801 then s.wThLimits v
  else if index = 0x7802 then s.wThMax index v
  else if index = 0x7C00 then s.wTiInject v
  else s.storeIf (s.limitsOk index sub v) index sub v

/-- Chapters 2, 3, 7 and 8 (0x2000 to 0x2FFF). -/
def State.ruleTime (s : State) (port index sub : Nat) (v : Word) : Nat × State :=
  if index = 0x2001 then s.wTcControl v
  else if index = 0x2002 then s.wTcRef v
  else if index = 0x2004 then s.wTcDivNext sub v
  else if index = 0x2005 then s.wTcDivCommit v
  else if index = 0x2006 then s.wTcTrack sub v
  else if index = 0x2011 then s.wTcFerrLimit v
  else if index = 0x2013 ∨ index = 0x2014 then s.wTcRanges index sub v
  else if index = 0x2101 then s.wDsControl v
  else if index = 0x2201 then s.wCkSwitch v
  else if index = 0x2202 then s.wCkLinkCfg v
  else if index = 0x2210 then s.wCkGate sub port v
  else if index = 0x2411 ∧ sub = 0 then s.wStepAuth v
  else if index = 0x2502 then s.clearMark index sub v
  else if index = 0x2601 then s.wEvCtrl v
  else if index = 0x2603 then s.wEvKeyCtrl v
  else if index = 0x2606 then s.wEvAck v
  else if index = 0x260B then s.wEvFifo v
  else s.storeIf (s.limitsOk index sub v) index sub v

/-- Chapter 4 and the ports (0x3000 to 0x4FFF). -/
def State.ruleLane (s : State) (ecc : EccOutcome) (index sub : Nat) (v : Word) : Nat × State :=
  if index = 0x3000 then s.wLpWindow v
  else if index = 0x3001 ∨ index = 0x3002 then s.wLpGlobal index sub v
  else if index = 0x4000 then s.wLpCmd sub v ecc
  else if index = 0x4003 then s.wLpMon sub v
  else if index = 0x4006 then s.wLpPilot sub v
  else if index = 0x4007 then s.wLpHtrLimit sub v
  else if index = 0x4008 then s.wLpParkCode sub v
  else if index = 0x4009 then s.wLpEoCode sub v
  else if index = 0x400A then s.wLpSetpoint sub v
  else if index = 0x4C00 then (if s.limitsOk index sub v then (stOk, s.wPdCfg sub v) else (stRange, s))
  else if index = 0x4C40 then s.wGtCfg sub v
  else if deferredObject index then (stDeferred, s.defer index sub v)
  else s.storeIf (s.limitsOk index sub v) index sub v

/-- Chapters 5 and 6 (0x5000 to 0x5FFF). -/
def State.ruleCommit (s : State) (ecc : EccOutcome) (index sub : Nat) (v : Word) : Nat × State :=
  if index = 0x5002 then s.wTtWinCmd v ecc
  else if index = 0x5010 ∨ index = 0x5011 then s.wTtNeigh index sub v
  else if index = 0x5101 then s.wSrPush v
  else if index = 0x5105 then s.wSrFlush sub v
  else if index = 0x5106 then s.wSrFlushAll v
  else if index = 0x5201 then s.wCmArm v
  else if 0x5400 ≤ index ∧ index ≤ 0x5410 then s.wXt index sub v
  else if index = 0x5800 then s.wSvStart v
  else if index = 0x5823 ∨ index = 0x5830 ∨ index = 0x5831 then s.wCorrection index sub v
  else if index = 0x5824 then s.wSvCalReq v
  else s.storeIf (s.limitsOk index sub v) index sub v

/-- Per-tile objects (0xA000 to 0xAFFF). -/
def State.ruleTile (s : State) (index sub : Nat) (v : Word) : Nat × State :=
  if index % 0x40 = 0x10 ∨ index % 0x40 = 0x11 then s.wXt index sub v
  else if index % 0x40 = 0x21 then s.wThMax index v
  else (stOk, s.store index sub v)

/-- What a write of `v` from `port` to a subentry does: its status by the object's own chapter, and the state after. -/
def State.objectRule (s : State) (ecc : EccOutcome) (port index sub : Nat) (v : Word) : Nat × State :=
  if index < 0x2000 ∨ (0x6000 ≤ index ∧ index < 0xA000) then s.ruleDevice port index sub v
  else if index < 0x3000 then s.ruleTime port index sub v
  else if index < 0x5000 then s.ruleLane ecc index sub v
  else if index < 0x6000 then s.ruleCommit ecc index sub v
  else s.ruleTile index sub v

end Sys2Proof.Machine
end

