-- ==== Sys2Proof/Machine/Dictionary.lean ====
section
/-! DEFINITION. The dictionary service (chapter 10): the checks of R245, reads, writes and bulk requests, responses, the
request buffers, stalls on a sleeping domain, and the arbitration tokens. -/

namespace Sys2Proof.Machine

/-- A status that refuses. -/
def refuses (st : Nat) : Bool := 0x100 ≤ st && st ≠ stLater

/-! The index map (Tables 10-2, 10-3, 10-9). -/

/-- The semaphore section of an object. -/
def sectionOf (index : Nat) : Option Nat :=
  if 0xA000 ≤ index ∧ index < 0xB000 then
    (let o := index % 0x40
     some (if o < 0x10 then 7 else if o < 0x20 then 9 else if o < 0x30 then 13 else 12))
  else if 0xC000 ≤ index ∧ index < 0xE000 then some 15
  else
    match index / 256 with
    | 0x11 | 0x12 => some 0
    | 0x14 => some 1
    | 0x18 => some 2
    | 0x20 => some 3
    | 0x21 | 0x22 => some 4
    | 0x24 | 0x25 => some 5
    | 0x26 => some 6
    | 0x30 | 0x40 | 0x48 => some 7
    | 0x4C => some 8
    | 0x50 | 0x54 => some 9
    | 0x51 | 0x52 => some 10
    | 0x58 => some 11
    | 0x60 | 0x61 => some 12
    | 0x70 | 0x71 | 0x78 => some 13
    | 0x7C => some 14
    | _ => none

/-- Objects served from step 2 of Table 11-3 (R276). -/
def firstStage (index : Nat) : Bool :=
  match index / 256 with
  | 0x10 | 0x11 | 0x12 | 0x13 | 0x14 | 0x18 | 0x20 | 0x22 | 0x24 | 0x25 | 0x26 | 0x70 | 0x71 | 0x78 | 0x7C => true
  | _ => false

/-- Objects served once the image runs (R276). -/
def secondStage (index : Nat) : Bool :=
  index / 256 = 0x60 || index / 256 = 0x61 || index / 256 = 0x58 || (0xC000 ≤ index && index < 0xE000)

/-- The object is served (R245, R276). -/
def State.available (s : State) (index sub : Nat) : Bool :=
  if firstStage index then true
  else if secondStage index then s.imageServes
  else
    match objDomain index sub with
    | some d => s.domState d ≠ 0
    | none => s.on BT_STATUS_DOMAINS_UP

/-- The object's domain is in domain reset (R249). -/
def State.peerReset (s : State) (index sub : Nat) : Bool := (objDomain index sub).any s.inReset

/-- NO_OBJECT or UNAVAILABLE: objects that the image would define are UNAVAILABLE before it runs, and none exists after
(log entry 45). -/
def State.unknown (s : State) (index sub : Nat) : Option Nat :=
  match objRow index sub with
  | none => if 0xC000 ≤ index ∧ index < 0xE000 ∧ !s.imageServes then some stUnavailable else some stNoObject
  | some _ => if s.available index sub then none else some stUnavailable

/-! Writing one word (R237, R242, R245). -/

/-- Every field is write-only or W1: such a write carries the full mask (R242). -/
def ObjRow.fullMask (r : ObjRow) : Bool := r.fields.all fun f => f.acc.writeOnly || f.acc = .w1

/-- Some field is writable. -/
def ObjRow.writable (r : ObjRow) : Bool := r.fields.any fun f => f.acc.writable

/-- Some writable field is guarded. -/
def ObjRow.guarded (r : ObjRow) : Bool := r.fields.any fun f => f.acc = .rwg || f.acc = .wog

/-- Every field is W1. -/
def ObjRow.once (r : ObjRow) : Bool := r.fields.all fun f => f.acc = .w1

/-- The port may not write at all (R258). -/
def State.notActive (s : State) (port : Nat) : Bool := s.get SE_EPOCH_EPOCH ≠ 0 && s.get SE_EPOCH_ACTIVE ≠ port + 1

/-- The port holds an object's section, where it has one (R7, R251). -/
def State.holdsGuard (s : State) (port index : Nat) : Bool :=
  (sectionOf index).all fun k => s.rd SE_SECTION_OWNER_OWNER k = port + 1

/-- ACCESS: no writable field; a second write to a W1 object, or a key write under an epoch (R237, R254). -/
def State.accessBad (s : State) (r : ObjRow) (sub : Nat) : Bool :=
  !r.writable || (r.once && (s.arbMask.testBit sub || s.get SE_EPOCH_EPOCH ≠ 0))

/-- The word formed by value and mask over the word as a read would return it: fields that the host cannot write keep
their values, and reserved bits are zero (R7, R9, R242). -/
def State.formed (s : State) (r : ObjRow) (index sub : Nat) (value mask : Word) : Word :=
  let m := mask &&& BitVec.ofNat 32 (r.maskOf fun f => f.acc.writable)
  ((s.view index sub &&& ~~~m) ||| (value &&& m)) &&& BitVec.ofNat 32 (r.maskOf fun _ => true)

/-- A refused write command that an object counts: WRITE of TT_WIN_CMD whatever its status (R108), SF_RELEASE with GO = 1
refused for its port or its guard (Table 13-13). -/
def State.countRefused (s : State) (st index sub : Nat) (v : Word) : State :=
  if index = 0x5002 ∧ sub = 0 ∧ v.bits 1 1 = 1 then s.bump TT_WRITES_REFUSED_COUNT
  else if index = 0x7101 ∧ v.bits 0 0 = 1 ∧ (st = stNotActive ∨ st = stGuard) then s.bumpAt SF_COUNTS_COUNT 3
  else s

/-- The checks before the object's own: FORMAT, NO_OBJECT, UNAVAILABLE, NOT_ACTIVE, ACCESS, GUARD (R245). -/
def State.precheck (s : State) (port index sub : Nat) (mask : Word) : Option Nat :=
  match objRow index sub with
  | none => s.unknown index sub
  | some r =>
    if r.fullMask && mask ≠ BitVec.allOnes 32 then some stFormat
    else if !s.available index sub then some stUnavailable
    else if s.notActive port then some stNotActive
    else if s.accessBad r sub then some stAccess
    else if r.guarded && !s.holdsGuard port index then some stGuard
    else none

/-- The domain that a write reaches beside its object's: the bank of a window command. -/
def State.writeBank (s : State) (index sub : Nat) (v : Word) : Option Nat :=
  if index = 0x5002 ∧ sub = 0 then s.windowBank v else none

/-- A domain that the write reaches is in domain reset (R249). -/
def State.cutOff (s : State) (index sub : Nat) (v : Word) : Bool :=
  s.peerReset index sub || (s.writeBank index sub v).any s.inReset

/-- The object's own part of a write that has passed the checks; a write that its domain's reset cuts off changes
nothing (R249). -/
def State.applyWrite (s : State) (ecc : EccOutcome) (port index sub : Nat) (v : Word) : Nat × State :=
  let (st, t) := s.objectRule ecc port index sub v
  if refuses st then (st, t.countRefused st index sub v)
  else if s.cutOff index sub v then (stPeerReset, s.countRefused stPeerReset index sub v)
  else (st, t.voteRose)

/-- One word written. -/
def State.writeWord (s : State) (ecc : EccOutcome) (port index sub : Nat) (value mask : Word) : Nat × State :=
  match s.precheck port index sub mask, objRow index sub with
  | some st, _ => (st, s.countRefused st index sub (value &&& mask))
  | none, some r => if mask = 0 then (stOk, s) else s.applyWrite ecc port index sub (s.formed r index sub value mask)
  | none, none => (stNoObject, s)

/-! Reading one word (R235, R236). -/

/-- Low subindices of the 64-bit RO objects. -/
def lowOf64 (index sub : Nat) : Bool :=
  (sub = 0 && (index = 0x2402 || index = 0x2604 || index = 0x2605 || index = 0x5107 || index = 0x5207)) ||
    (index = 0x2605 && sub = 3) || (index = 0x7000 && sub = 1)

/-- A latched word of a port. -/
def State.latched (s : State) (port index sub : Nat) : Option Word := (s.port port).latch.lookup (objKey index sub)

/-- The high word is latched for the port. -/
def State.latchHigh (s : State) (port index sub : Nat) : State :=
  let k := objKey index (sub + 1)
  let p := s.port port
  s.setPort port { p with latch := (k, s.view index (sub + 1)) :: p.latch.filter fun q => q.1 ≠ k }

/-- A buffer word of the log exists to be checked (R198, R200). -/
def State.evWord (s : State) (index sub : Nat) : Bool :=
  (index = 0x2608 && s.ev.sealed ≠ []) || (index = 0x2609 && decide (sub / 8 < s.ev.openRecs.length))

/-- The value of a subentry that is there, and what the read changes (R236); a double-bit error is returned raw. -/
def State.readValue (s : State) (port index sub : Nat) (ecc : EccOutcome) (raw : Word) : Word × State :=
  if index = 0x2400 then
    (if sub = 0 then
      (s.timeWords.getD 0 0, s.setPort port { s.port port with now := s.timeWords })
     else ((s.port port).now.getD sub 0, s))
  else if index = 0x2200 then (s.seeReady.view index sub, s.seeReady)
  else if s.evWord index sub then (if ecc = .uncorrected then raw else s.view index sub, s.evEcc ecc)
  else if lowOf64 index sub then (s.view index sub, s.latchHigh port index sub)
  else ((s.latched port index sub).getD (s.view index sub), s)

/-- One word read: its status, the word, the state after. -/
def State.readWord (s : State) (port index sub : Nat) (ecc : EccOutcome) (raw : Word) : Nat × Word × State :=
  match s.unknown index sub with
  | some st => (st, 0, s)
  | none =>
    if s.peerReset index sub then (stPeerReset, 0, s)
    else
      let (v, s) := s.readValue port index sub ecc raw
      (stOk, v, s)

/-! Stalls (R69, R249, R293). -/

/-- A domain that is asleep, on its way, or without its clocks. -/
def State.unready (s : State) (d : Nat) : Bool := !(s.domState d = 0 || s.clocked d || s.inReset d)

/-- The domain an access must wait for. -/
def State.waitsFor (s : State) (index sub : Nat) : Option Nat := (objDomain index sub).filter s.unready

/-- The domain a write must wait for: its object's, or the bank that its command reaches. -/
def State.writeWaits (s : State) (index sub : Nat) (v : Word) : Option Nat :=
  s.waitsFor index sub <|> (s.writeBank index sub v).filter s.unready

/-- The tile whose access stalls, for PW_TILE_STALLS. -/
def tileOf (index sub : Nat) : Option Nat :=
  if 0x4000 ≤ index ∧ index < 0x4800 then some (sub / 64)
  else if 0xA000 ≤ index ∧ index < 0xB000 ∧ index % 0x40 < 0x10 then some ((index - 0xA000) / 0x40)
  else none

/-- The access starts the wake of its domain. A wake that is on its way is the same stall. -/
def State.stall (s : State) (index sub d : Nat) : State :=
  if s.domState d = 1 || s.wakingDom d then s
  else
    let s := match tileOf index sub with
      | some t => s.bump (PW_TILE_STALLS_COUNT.tile t)
      | none => s
    s.demandWake 0xFE d

/-! Responses (R241 to R244, R264). -/

/-- The buffered frame is the one of a request. -/
def ReqBuf.isOf (b : ReqBuf) (q : Rq) : Bool := b.fromD = q.fromD && b.frame.src = q.src && b.frame.tag = q.tag

/-- Remove the first buffered request that a predicate names. -/
def dropFirst (p : ReqBuf → Bool) : List ReqBuf → List ReqBuf
  | [] => []
  | x :: xs => if p x then xs else x :: dropFirst p xs

/-- The request leaves its buffer, and its port is the one served last (R246). -/
def State.takeRequest (s : State) (q : Rq) : State :=
  let x := s.port q.port
  let s := s.setPort q.port { x with
    reqs := dropFirst (fun b => b.isOf q) x.reqs }
  { s with lastPort := q.port }

/-- ID_SERVICE counts the request: handled, answered with a refusal, FORMAT (Table 10-12). -/
def State.countService (s : State) (port st : Nat) : State :=
  let s := s.bumpAt ID_SERVICE_COUNT (4 * port)
  let s := if refuses st then s.bumpAt ID_SERVICE_COUNT (4 * port + 1) else s
  if st = stFormat then s.bumpAt ID_SERVICE_COUNT (4 * port + 3) else s

/-- The outcome of a broadcast (R213, R250). -/
def State.recordBroadcast (s : State) (q : Rq) (ftype st : Nat) : State :=
  s.setWord 0x1140 q.port (wordOf [(q.tag % 256, 24), (ftype, 16), (st, 0)])

/-- The stream on which a request is answered (R212). -/
def answerPair (q : Rq) : Nat := 2 * q.port + (if q.fromD then 0 else 1)

/-- Block 1 of every response: four bytes, and the epoch (R241). -/
def State.epochBlock (s : State) (w : Nat) : BitVec 64 :=
  BitVec.ofNat 64 (payloadOf [(w % 2 ^ 32, 0), (s.get SE_EPOCH_EPOCH, 32)])

/-- Block 0: four 16-bit fields. -/
def headBlock (a b c d : Nat) : BitVec 64 :=
  BitVec.ofNat 64 (payloadOf [(a % 65536, 0), (b % 65536, 16), (c % 65536, 32), (d % 65536, 48)])

/-- A request of type `ftype` is done: counted, and answered, or recorded where it was a broadcast. -/
def State.finish (s : State) (q : Rq) (ftype st : Nat) (blocks : State → List (BitVec 64)) : State :=
  let s := (s.takeRequest q).countService q.port st
  if q.bcast then s.recordBroadcast q ftype st
  else s.queueOwn (answerPair q) (s.ownFrame q.src (ftype + 1) (q.tag % 256) (blocks s))

/-- READ_RESP and WRITE_RESP. -/
def State.answerWord (s : State) (q : Rq) (ftype index sub st : Nat) (v : Word) : State :=
  s.finish q ftype st fun s => [headBlock index sub st 0, s.epochBlock v.toNat]

/-- VALUE of a WRITE_RESP: the held mask for SE_ACQUIRE and SE_RELEASE, else the word as a read returns it (R241). -/
def State.writeValue (s : State) (port index sub : Nat) : Word :=
  if index = 0x1301 ∨ index = 0x1302 then BitVec.ofNat 32 (s.heldBy (port + 1))
  else if (s.unknown index sub).isSome || s.peerReset index sub then 0
  else (s.readValue port index sub .clean 0).1

/-- Data words, two to a block. -/
def packWords : List Word → List (BitVec 64)
  | [] => []
  | [a] => [BitVec.ofNat 64 a.toNat]
  | a :: b :: l => BitVec.ofNat 64 (a.toNat + b.toNat * 2 ^ 32) :: packWords l

/-- A write is answered when it executes; that of CK_SWITCH once the switch is done (R67, R248). -/
def State.answerWrite (s : State) (q : Rq) (index sub st : Nat) : State :=
  if st = stLater then { s with clocks := { s.clocks with reply := some { q := q, bulk := none } } }
  else s.answerWord q 3 index sub st (s.writeValue q.port index sub)

/-- BULK_READ_RESP. -/
def State.answerRun (s : State) (q : Rq) (index sub st : Nat) (vs : List Word) : State :=
  s.finish q 5 st fun s => headBlock index sub st vs.length :: s.epochBlock 0 :: packWords vs

/-- BULK_WRITE_RESP: its status is the first refusal's. -/
def State.answerBulk (s : State) (q : Rq) (st : Nat) (b : Bulk) : State :=
  let (item, pos) := match b.first with
    | some (_, i, p) => (i, p)
    | none => (0xFFFF, 0)
  s.finish q 7 st fun s => [headBlock st item pos (min b.refused 0xFFFF), s.epochBlock b.done]

/-- The status of a bulk write: its first refusal, else OK (R244). -/
def Bulk.status (b : Bulk) : Nat := (b.first.map Prod.fst).getD stOk

/-- A bulk write is answered; one that has started a source switch once the switch is done (R67). -/
def State.endBulk (s : State) (q : Rq) (b : Bulk) : State :=
  if b.later then { s with clocks := { s.clocks with reply := some { q := q, bulk := some b } } }
  else s.answerBulk q b.status b

/-! The format of requests (R241 to R244, R274). -/

/-- The most words of a bulk read, by the version of the pair its response leaves on (R243). -/
def State.bulkMost (s : State) (q : Rq) : Nat :=
  match s.outPair (answerPair q) with
  | some p => if s.version p = 0x10 then 124 else 316
  | none => 316

/-- Form and counts of an item (Table 10-6). -/
def itemOk : BulkItem → Bool
  | .run _ _ data => decide (1 ≤ data.length ∧ data.length ≤ 316)
  | .group g _ _ _ _ _ data =>
    decide (1 ≤ g ∧ g ≤ 8 ∧ data.length % g = 0 ∧ 1 ≤ data.length / g ∧ data.length / g ≤ 1264)

/-- Blocks of an item. -/
def bulkBlocks : BulkItem → Nat
  | .run _ _ data => 1 + (data.length + 1) / 2
  | .group _ _ _ _ _ _ data => 2 + (data.length + 1) / 2

/-- The whole frame is well formed: 1 to 255 items, at most 160 blocks (R211, R244). -/
def bulkOk (items : List BulkItem) : Bool :=
  decide (1 ≤ items.length ∧ items.length ≤ 255) && items.all itemOk && decide (1 + (items.map bulkBlocks).sum ≤ 160)

/-- Bits of a block that must be zero, from bit `lo` up. -/
def zeroFrom (lo : Nat) (b : BitVec 64) : Bool := decide (b.toNat / 2 ^ lo = 0)

/-- A 16-bit field of a block at a byte. -/
def field16 (b : BitVec 64) (byte : Nat) : Nat := b.toNat / 2 ^ (8 * byte) % 65536

/-- The data blocks of `n` words stand, zero-padded; what follows them. -/
def dataBlocks (n : Nat) (l : List (BitVec 64)) : Option (List (BitVec 64)) :=
  let k := (n + 1) / 2
  if l.length < k || (n % 2 = 1 && !(l.getD (k - 1) 0 |> zeroFrom 32)) then none else some (l.drop k)

/-- `n` items fill the blocks of a BULK_WRITE_REQ exactly (Table 10-6). -/
def itemsFormed : Nat → List (BitVec 64) → Bool
  | 0, l => l.isEmpty
  | _ + 1, [] => false
  | n + 1, b :: l =>
    let g := b.toNat / 256 % 256
    let count := field16 b 6
    match b.toNat % 256 with
    | 0 => g = 0 && decide (1 ≤ count ∧ count ≤ 316) && (dataBlocks count l).any (itemsFormed n)
    | 1 =>
      decide (1 ≤ g ∧ g ≤ 8 ∧ 1 ≤ count ∧ count ≤ 1264) && !l.isEmpty && (dataBlocks (g * count) (l.drop 1)).any (itemsFormed n)
    | _ => false

/-- A request frame has the LEN, the reserved bytes and the layout of Tables 10-5 and 10-6, R243 and R274. -/
def frameFormed (f : RxFrame) : Bool :=
  let a := f.blocks.getD 0 0
  let b := f.blocks.getD 1 0
  match f.ftype with
  | 1 => f.len = 2 && zeroFrom 32 a && b = 0
  | 3 => f.len = 2 && zeroFrom 32 a
  | 5 => f.len = 2 && zeroFrom 48 a && b = 0
  | 7 =>
    let n := a.toNat % 65536
    decide (1 ≤ n ∧ n ≤ 255) && zeroFrom 17 a && itemsFormed n (f.blocks.drop 1)
  | 0x10 => (f.len = 33 || f.len = 65 || f.len = 97 || f.len = 129) && zeroFrom 48 a
  | _ => true

/-- The request is well formed: as its sender says, and its frame where it is in a buffer. -/
def State.formedNow (s : State) (q : Rq) : Bool :=
  q.formed && ((s.port q.port).reqs.find? fun b => b.isOf q).all fun b => frameFormed b.frame

/-! Bulk writes (R244). -/

/-- The words of one item, in order. -/
def itemSteps (item : Nat) : BulkItem → List BulkStep
  | .run index sub data =>
    (List.range data.length).map fun k =>
      { kind := .word, index := index, sub := sub + k, item := item, pos := k, value := data.getD k 0 }
  | .group g index sub tindex tsub tvalue data =>
    (List.range (data.length / g)).flatMap fun n =>
      (List.range g).map (fun k =>
        { kind := .member, index := index, sub := sub + k, item := item, pos := n, value := data.getD (n * g + k) 0 }) ++
      [{ kind := .trigger, index := tindex, sub := tsub, item := item, pos := n, value := tvalue }]

/-- All steps of a bulk write. -/
def bulkSteps (items : List BulkItem) : List BulkStep :=
  ((List.range items.length).zip items).flatMap fun p => itemSteps p.1 p.2

/-- The step is not executed: the request has stopped, or the step's group has a refused word. -/
def Bulk.passes (b : Bulk) (x : BulkStep) : Bool := b.stop || (b.skip && x.kind ≠ .word)

/-- A step not executed: a skipped trigger ends its group and counts as refused unless the request has stopped. -/
def Bulk.skipStep (b : Bulk) (x : BulkStep) : Bulk :=
  if b.stop || x.kind ≠ .trigger then b else { b with skip := false, refused := b.refused + 1 }

/-- The outcome of an executed step. -/
def Bulk.note (b : Bulk) (stop : Bool) (st : Nat) (x : BulkStep) : Bulk :=
  if refuses st then
    { b with
      first := b.first <|> some (st, x.item, x.pos), refused := b.refused + 1, stop := stop, skip := decide (x.kind = .member) }
  else { b with done := b.done + 1, later := b.later || st = stLater }

/-- One step executed: a write with a full mask. -/
def State.bulkWord (s : State) (port : Nat) (stop : Bool) (b : Bulk) (x : BulkStep) : Bulk × State :=
  let (st, s) := s.writeWord .clean port x.index x.sub x.value (BitVec.allOnes 32)
  (b.note stop st x, s)

/-- The steps in order, up to one whose domain is not ready: the outcome, and what is still to do. -/
def State.runSteps (s : State) (port : Nat) (stop : Bool) (b : Bulk) : List BulkStep → Bulk × List BulkStep × State
  | [] => (b, [], s)
  | x :: xs =>
    if b.passes x then s.runSteps port stop (b.skipStep x) xs
    else
      match s.writeWaits x.index x.sub x.value with
      | some d => (b, x :: xs, s.stall x.index x.sub d)
      | none =>
        let (b, s) := s.bulkWord port stop b x
        s.runSteps port stop b xs

/-- Consecutive words read, newest first, up to the first that cannot be (R243) or whose domain is not ready. -/
def State.readRun (s : State) (port index sub : Nat) (got : List Word) :
    List (EccOutcome × Word) → Nat × List Word × List (EccOutcome × Word) × State
  | [] => (stOk, got, [], s)
  | (ecc, raw) :: l =>
    match s.waitsFor index (sub + got.length) with
    | some d => (stOk, got, (ecc, raw) :: l, s.stall index (sub + got.length) d)
    | none =>
      match s.readWord port index (sub + got.length) ecc raw with
      | (st, v, t) => if refuses st then (st, got, [], t) else t.readRun port index sub (v :: got) l

/-! The service (R246, R249). -/

/-- The status of an IMAGE frame and the state after it (R258, R274): NOT_ACTIVE, GUARD, then its own conditions. -/
def State.imageStatus (s : State) (q : Rq) (f : ImgFrame) : Nat × State :=
  if s.notActive q.port then (stNotActive, s)
  else if !s.holdsGuard q.port 0x1400 then (stGuard, s)
  else if !s.formedNow q then (stFormat, s)
  else s.image f

/-- IMAGE_FRAME: never answered; a refused frame counts. -/
def State.imageFrame (s : State) (q : Rq) (f : ImgFrame) : State :=
  let (st, s) := s.imageStatus q f
  let s := s.takeRequest q
  let s := if refuses st then s.bump BT_IMAGE_REFUSED_COUNT else s
  if q.bcast then s.recordBroadcast q 0x10 st else s

/-- A malformed request is answered with FORMAT and has no other effect. -/
def State.answerFormat (s : State) (q : Rq) (ftype index sub : Nat) : State :=
  if ftype = 5 then s.answerRun q index sub stFormat []
  else if ftype = 7 then s.answerBulk q stFormat {}
  else if ftype = 3 then s.answerWrite q index sub stFormat
  else s.answerWord q ftype index sub stFormat 0

/-- The service works on a request: what is left of it where a domain is not ready, and the state. -/
def State.serve (s : State) : Service → Option Service × State
  | .malformed q ftype index sub => (none, s.answerFormat q ftype index sub)
  | .image q f => (none, s.imageFrame q f)
  | .read q index sub ecc raw =>
    match s.waitsFor index sub with
    | some d => (some (.read q index sub ecc raw), s.stall index sub d)
    | none =>
      let (st, v, s) := s.readWord q.port index sub ecc raw
      (none, s.answerWord q 1 index sub st v)
  | .write q ecc index sub value mask =>
    match s.writeWaits index sub (value &&& mask) with
    | some d => (some (.write q ecc index sub value mask), s.stall index sub d)
    | none =>
      let (st, s) := s.writeWord ecc q.port index sub value mask
      (none, s.answerWrite q index sub st)
  | .bulkRead q index sub got left =>
    match s.readRun q.port index sub got left with
    | (st, got, [], s) => (none, s.answerRun q index sub st got.reverse)
    | (_, got, left, s) => (some (.bulkRead q index sub got left), s)
  | .bulkWrite q stop b left =>
    match s.runSteps q.port stop b left with
    | (b, [], s) => (none, s.endBulk q b)
    | (b, left, s) => (some (.bulkWrite q stop b left), s)

/-- The domain that a request in the service waits for. -/
def State.blocked (s : State) : Service → Option Nat
  | .read _ index sub _ _ => s.waitsFor index sub
  | .write _ _ index sub value mask => s.writeWaits index sub (value &&& mask)
  | .bulkRead _ index sub got (_ :: _) => s.waitsFor index (sub + got.length)
  | .bulkWrite _ _ b (x :: _) => if b.passes x then none else s.writeWaits x.index x.sub x.value
  | _ => none

/-- A request stalls. One that waits for a domain in Ebb or Neap holds the service (R249); one whose domain only lacks
its clocks stands aside, so that another request can set RUN_EN again (R69; log entry 44). -/
def State.putBack (s : State) (v : Service) : State :=
  if (s.blocked v).any s.running then { s with svc := { s.svc with aside := s.svc.aside ++ [v] } }
  else { s with svc := { s.svc with held := some v } }

/-- The service takes a request up. -/
def State.perform (s : State) (v : Service) : State :=
  match s.serve v with
  | (none, s) => s
  | (some v, s) => s.putBack v

/-- A token of the request's port arrived before it and has not taken effect (R255). -/
def State.behindToken (s : State) (q : Rq) : Bool :=
  s.tokens.any fun t => t.port = q.port && !t.ahead.contains (q.fromD, q.src, q.tag)

/-- The service may take up a request of its queue: the port's endpoint has its clocks (R34, R69), and no token of the
port goes before it. -/
def State.mayTake (s : State) (q : Rq) : Bool := s.delivers (0x1D + q.port) && !s.behindToken q

/-- The service stands free. -/
def State.svcFree (s : State) : Bool := s.svc = {}

/-- What the service takes up next: the request that held it, one that stood aside, or the oldest that waits of the port
not served last, else the oldest (R246). -/
def State.nextRequest (s : State) : Option (Service × Svc) :=
  let x := s.svc
  match x.held with
  | some v => if (s.blocked v).isNone then some (v, { x with held := none }) else none
  | none =>
    match x.aside.find? fun v => (s.blocked v).isNone && s.delivers (0x1D + v.rq.port) with
    | some v => some (v, { x with aside := x.aside.erase v })
    | none =>
      let l := x.queue.filter fun v => s.mayTake v.rq
      (l.find? (fun v => v.rq.port ≠ s.lastPort) <|> l.head?).map fun v => (v, { x with queue := x.queue.erase v })

/-- The service goes on as far as it can, in at most `n` turns. -/
def State.turns : Nat → State → State
  | 0, s => s
  | n + 1, s =>
    match s.nextRequest with
    | none => s
    | some (v, x) => State.turns n (({ s with svc := x } : State).perform v)

/-- The service goes on after something it may have waited for. -/
def State.goOn (s : State) : State :=
  if s.svcFree then s else State.turns (2 * (s.svc.aside.length + s.svc.queue.length + 1)) s

/-- A request whose EOF has passed is ready: it is taken up at once, or waits for its turn (R246, R249, R255). -/
def State.submit (s : State) (v : Service) : State :=
  if s.svcFree && s.mayTake v.rq then s.perform v
  else ({ s with svc := { s.svc with queue := s.svc.queue ++ [v] } } : State).goOn

/-- The request is in a buffer of its port. -/
def State.buffered (s : State) (q : Rq) : Bool := (s.port q.port).reqs.any fun b => b.isOf q

/-- The device hears a request: its endpoint is there, and in DORMANT entry the request was there before (Table 11-8
step 1). -/
def State.hears (s : State) (q : Rq) : Bool := s.listens q.port && (s.modeNow ≠ modeDormant || s.buffered q)

/-- The service takes a request up at once. -/
def State.servesNow (s : State) (q : Rq) : Bool := s.hears q && s.svcFree && s.mayTake q

/-! Requests (R241 to R244, R274). -/

/-- A read request with what the SECDED check of a buffer word finds. -/
def State.readRequest (s : State) (q : Rq) (index sub : Nat) (ecc : EccOutcome) (raw : Word) : State :=
  if !s.hears q || q.bcast then s
  else s.submit (if s.formedNow q then .read q index sub ecc raw else .malformed q 1 index sub)

/-- A write request. -/
def State.writeRequest (s : State) (ecc : EccOutcome) (index sub : Nat) (w : Wr) : State :=
  if !s.hears w.q then s
  else s.submit (if s.formedNow w.q then .write w.q ecc index sub w.value w.mask else .malformed w.q 3 index sub)

/-- What the check finds for each of `n` words. -/
def eccRun (n : Nat) (eccs : List (EccOutcome × Word)) : List (EccOutcome × Word) :=
  (List.range n).map fun k => eccs.getD k (.clean, 0)

/-- A bulk read. -/
def State.bulkRead (s : State) (q : Rq) (index sub count : Nat) (eccs : List (EccOutcome × Word)) : State :=
  if !s.hears q || q.bcast then s
  else
    s.submit (if s.formedNow q && decide (1 ≤ count ∧ count ≤ s.bulkMost q) then .bulkRead q index sub [] (eccRun count eccs)
      else .malformed q 5 index sub)

/-- A bulk write. -/
def State.bulkWrite (s : State) (q : Rq) (stop : Bool) (items : List BulkItem) : State :=
  if !s.hears q then s
  else s.submit (if s.formedNow q && bulkOk items then .bulkWrite q stop {} (bulkSteps items) else .malformed q 7 0 0)

/-- IMAGE_FRAME (R274). -/
def execImageFrame (q : Rq) (f : ImgFrame) (s : State) : Host.Outcome State Fault Refusal :=
  .next (if s.hears q then s.submit (.image q f) else s)

/-! Request buffers (R246, R247). -/

/-- Requests and IMAGE frames, which a buffer holds. -/
def requestType (t : Nat) : Bool := t = 1 || t = 3 || t = 5 || t = 7 || t = 0x10

/-- REQUEST_RECEIVE: the frame passes its CRC into a buffer; a response is a format error; with all four buffers full a
request is discarded. -/
def State.receive (s : State) (p : Nat) (f : RxFrame) : State :=
  let port := portOf p
  if !s.pairUp p || !s.takesIn port || !s.takes f then s
  else if !frameGood f then s.bumpAt FL_CRC_ERRORS_COUNT p
  else if f.stomped then s
  else if !requestType f.ftype then s.bumpAt ID_SERVICE_COUNT (4 * port + 3)
  else
    let x := s.port port
    if 4 ≤ x.reqs.length then s.bumpAt ID_SERVICE_COUNT (4 * port + 2)
    else s.setPort port { x with reqs := x.reqs ++ [{ fromD := decide (p % 2 = 1), frame := f }] }

/-- REQUEST_RECEIVE (R246). -/
def execRequestReceive (pair : Nat) (f : RxFrame) (s : State) : Host.Outcome State Fault Refusal := .next (s.receive pair f)

/-! Arbitration tokens (R223, R255 to R259). -/

/-- ARB_HEAD of a token. -/
def headItem (dest epoch : Nat) (tag : BitVec 64) : RxItem :=
  .control 0x40 (BitVec.ofNat 56 (payloadOf [(dest % 256, 0), (epoch % 2 ^ 32, 8), (tag.toNat % 65536, 40)]))

/-- ARB_TAIL of a token. -/
def tailItem (tag : BitVec 64) : RxItem := .control 0x41 (BitVec.ofNat 56 (tag.toNat / 65536))

/-- The requests of a port that are there already. -/
def State.requestsOf (s : State) (port : Nat) : List (Bool × Nat × Nat) :=
  (s.port port).reqs.map (fun b => (b.fromD, b.frame.src, b.frame.tag)) ++
    (s.svc.queue.filter fun v => v.rq.port = port).map fun v => (v.rq.fromD, v.rq.src, v.rq.tag)

/-- ARB_TOKEN: a HEAD not followed at once by its TAIL is discarded and counted; a whole pair is forwarded unless it names
this device alone, and its check begins where it names this device (R223, R255). A device in reset or in DORMANT
forwards what comes (R226). -/
def State.tokenArrives (s : State) (p dest epoch : Nat) (tag : BitVec 64) (whole : Bool) : State :=
  if !s.pairUp p then s
  else if !whole then s.forward p (headItem dest epoch tag)
  else
    let s := if dest = s.address && s.acting then s else (s.pass p (headItem dest epoch tag)).pass p (tailItem tag)
    if s.acting && s.toUs dest then
      { s with tokens := s.tokens ++ [{
          port := portOf p, dest := dest % 256, epoch := epoch % 2 ^ 32, tag := tag, ahead := s.requestsOf (portOf p) }] }
    else s

/-- ARB_TOKEN (R255). -/
def execArbToken (pair dest epoch : Nat) (t : TokenTag) (s : State) : Host.Outcome State Fault Refusal :=
  .next (s.tokenArrives pair dest epoch t.tag t.whole)

/-- The arbitration key's 32 bytes. -/
def State.arbKey (s : State) : Bytes := (List.range 8).flatMap fun k => leBytes 4 (s.word 0x1341 k).toNat

/-- The expected tag of a token (R255). -/
def State.expectedTag (s : State) (t : Token) : Nat :=
  leValue ((hmacSha256 s.arbKey (leBytes 4 t.epoch ++ leBytes 1 t.port ++ leBytes 1 t.dest)).take 8)

/-- The row of Table 10-10, by counter subindex: 0 accepted, 1 reaffirmed, 2 stale, 3 bad tag, 4 no key, 5 conflict. -/
def State.judgeToken (s : State) (t : Token) : Nat :=
  let e := s.get SE_EPOCH_EPOCH
  if !s.on SE_EPOCH_KEY_SET then 4
  else if t.tag.toNat ≠ s.expectedTag t then 3
  else if t.epoch = 0 ∨ t.epoch < e then 2
  else if t.epoch = e then (if s.get SE_EPOCH_ACTIVE = t.port + 1 then 1 else 5)
  else 0

/-- An accepted token (R257, R259): epoch, active port, sections of the other port released, the EPOCH record. -/
def State.acceptToken (s : State) (t : Token) : State :=
  let old := s.get SE_EPOCH_ACTIVE
  let lost := s.heldBy (2 - t.port)
  let s := (s.set SE_EPOCH_EPOCH t.epoch).set SE_EPOCH_ACTIVE (t.port + 1)
  let s := State.each 16 (fun k s =>
    if s.rd SE_SECTION_OWNER_OWNER k = 2 - t.port then s.wr SE_SECTION_OWNER_OWNER k 0 else s) s
  s.post 0x80 t.port (payloadOf [(t.epoch, 32), (t.port + 1, 24), (old, 16), (lost, 0)])

/-- One token takes effect: counted, and reported as the last (R256). -/
def State.applyToken (s : State) (t : Token) : State :=
  let r := s.judgeToken t
  let s := s.bumpAt SE_ARB_COUNTS_COUNT r
  let s := ((s.set SE_LAST_TOKEN_RESULT (r + 1)).set SE_LAST_TOKEN_PORT (t.port + 1)).set SE_LAST_TOKEN_DEST t.dest
  let s := s.set SE_LAST_TOKEN_EPOCH t.epoch
  if r = 0 then s.acceptToken t else s

/-- TOKEN_OUTCOME: the first token in order of arrival, between two requests; not while one holds the service on a wake
(Table 10-11). -/
def State.tokenOutcome (s : State) : State :=
  match s.svc.held, s.tokens with
  | none, t :: ts => (({ s with tokens := ts } : State).applyToken t).goOn
  | _, _ => s

/-- TOKEN_OUTCOME (R256). -/
def execTokenOutcome (s : State) : Host.Outcome State Fault Refusal := .next s.tokenOutcome

end Sys2Proof.Machine
end

