-- ==== Sys2Proof/Machine/Commands.lean ====
section
/-! DEFINITION. The commands that a dictionary request carries: every write row and read row of the operation table over
the one dictionary service. -/

namespace Sys2Proof.Machine

/-! Requests on any object. -/

/-- READ_REQUEST (R241). -/
def execReadRequest (q : Rq) (index sub : Nat) (s : State) : Host.Outcome State Fault Refusal :=
  .next (s.readRequest q index sub .clean 0)

/-- BULK_READ_REQUEST (R243). -/
def execBulkReadRequest (q : Rq) (index sub : Nat) (run : ReadRun) (s : State) :
    Host.Outcome State Fault Refusal := .next (s.bulkRead q index sub run.count run.eccs)

/-- BULK_WRITE_REQUEST (R244). -/
def execBulkWriteRequest (q : Rq) (stop : Bool) (items : List BulkItem) (s : State) : Host.Outcome State Fault Refusal :=
  .next (s.bulkWrite q stop items)

/-- OBJECT_WRITE (R242). -/
def execObjectWrite (index sub : Nat) (w : Wr) (s : State) : Host.Outcome State Fault Refusal :=
  .next (s.writeRequest .clean index sub w)

/-! Reads with a row of their own. -/

/-- CK_STATUS_READ (R66). -/
def execCkStatusRead (q : Rq) (s : State) : Host.Outcome State Fault Refusal := .next (s.readRequest q 0x2200 0 .clean 0)

/-- TIME_READ_LATCH (R160). -/
def execTimeReadLatch (q : Rq) (s : State) : Host.Outcome State Fault Refusal := .next (s.readRequest q 0x2400 0 .clean 0)

/-- WORD64_READ_LATCH (R235). -/
def execWord64ReadLatch (q : Rq) (index sub : Nat) (s : State) : Host.Outcome State Fault Refusal :=
  .next (s.readRequest q index sub .clean 0)

/-- EVIDENCE_READ (R200): `raw` is the word as stored, where the check finds a double-bit error. -/
def execEvidenceRead (q : Rq) (index sub : Nat) (ecc : EccOutcome) (raw : Word) (s : State) :
    Host.Outcome State Fault Refusal := .next (s.readRequest q index sub ecc raw)

/-! Writes with a row of their own. -/

/-- A write request whose value sets exactly the given bits, full mask. -/
def cmdWrite (q : Rq) (v : Nat) : Wr := { q := q, value := BitVec.ofNat 32 v, mask := BitVec.allOnes 32 }

/-- PORT_SEL_WRITE (R32). -/
def execPortSelWrite (w : Wr) (s : State) : Host.Outcome State Fault Refusal :=
  .next (s.writeRequest .clean 0x2002 0 w)

/-- LOOP_BANDWIDTH_WRITE (R37). -/
def execLoopBandwidthWrite (w : Wr) (s : State) : Host.Outcome State Fault Refusal :=
  .next (s.writeRequest .clean 0x2001 0 w)

/-- DIV_MODE_WRITE (R43). -/
def execDivModeWrite (w : Wr) (s : State) : Host.Outcome State Fault Refusal :=
  .next (s.writeRequest .clean 0x2001 0 w)

/-- DIV_COMMIT (R41). -/
def execDivCommit (w : Wr) (s : State) : Host.Outcome State Fault Refusal :=
  .next (s.writeRequest .clean 0x2005 0 w)

/-- TRACK_TARGET_WRITE (R42). -/
def execTrackTargetWrite (w : Wr) (s : State) : Host.Outcome State Fault Refusal :=
  .next (s.writeRequest .clean 0x2006 0 w)

/-- SOURCE_SWITCH (R66). -/
def execSourceSwitch (w : Wr) (s : State) : Host.Outcome State Fault Refusal :=
  .next (s.writeRequest .clean 0x2201 0 w)

/-- LINK_CFG_WRITE (R64). -/
def execLinkCfgWrite (w : Wr) (s : State) : Host.Outcome State Fault Refusal :=
  .next (s.writeRequest .clean 0x2202 0 w)

/-- CLOCK_ENABLE_WRITE (R70). -/
def execClockEnableWrite (d : Nat) (w : Wr) (s : State) : Host.Outcome State Fault Refusal :=
  .next (s.writeRequest .clean 0x2210 d w)

/-- SSC_WRITE (R74). -/
def execSscWrite (w : Wr) (s : State) : Host.Outcome State Fault Refusal :=
  .next (s.writeRequest .clean 0x2101 0 w)

/-- CMD_OFF (R80). -/
def execCmdOff (q : Rq) (e : Nat) (s : State) : Host.Outcome State Fault Refusal :=
  .next (s.writeRequest .clean 0x4000 e (cmdWrite q 0))

/-- CMD_PARK (R80). -/
def execCmdPark (q : Rq) (e : Nat) (s : State) : Host.Outcome State Fault Refusal :=
  .next (s.writeRequest .clean 0x4000 e (cmdWrite q 1))

/-- CMD_RUN (R80). -/
def execCmdRun (q : Rq) (e : Nat) (ecc : EccOutcome) (s : State) : Host.Outcome State Fault Refusal :=
  .next (s.writeRequest ecc 0x4000 e (cmdWrite q 2))

/-- CMD_COAST (R80). -/
def execCmdCoast (q : Rq) (e : Nat) (s : State) : Host.Outcome State Fault Refusal :=
  .next (s.writeRequest .clean 0x4000 e (cmdWrite q 3))

/-- CMD_RESUME (R80). -/
def execCmdResume (q : Rq) (e : Nat) (s : State) : Host.Outcome State Fault Refusal :=
  .next (s.writeRequest .clean 0x4000 e (cmdWrite q 4))

/-- CMD_CLEAR (R80). -/
def execCmdClear (q : Rq) (e : Nat) (s : State) : Host.Outcome State Fault Refusal :=
  .next (s.writeRequest .clean 0x4000 e (cmdWrite q 5))

/-- MONITOR_ASSIGN (R86). -/
def execMonitorAssign (e : Nat) (w : Wr) (s : State) : Host.Outcome State Fault Refusal :=
  .next (s.writeRequest .clean 0x4003 e w)

/-- WINDOW_LENGTH_WRITE (R24). -/
def execWindowLengthWrite (w : Wr) (s : State) : Host.Outcome State Fault Refusal :=
  .next (s.writeRequest .clean 0x3000 0 w)

/-- SETPOINT_WRITE (R96). -/
def execSetpointWrite (e : Nat) (w : Wr) (s : State) : Host.Outcome State Fault Refusal :=
  .next (s.writeRequest .clean 0x400A e w)

/-- EO_CODE_WRITE (R100). -/
def execEoCodeWrite (e : Nat) (w : Wr) (s : State) : Host.Outcome State Fault Refusal :=
  .next (s.writeRequest .clean 0x4009 e w)

/-- ARM_GO (R114). -/
def execArmGo (q : Rq) (trig force : Bool) (s : State) : Host.Outcome State Fault Refusal :=
  .next (s.writeRequest .clean 0x5201 0 (cmdWrite q (1 + 2 * trig.toNat + 8 * force.toNat)))

/-- ARM_DISARM (R116). -/
def execArmDisarm (q : Rq) (s : State) : Host.Outcome State Fault Refusal :=
  .next (s.writeRequest .clean 0x5201 0 (cmdWrite q 4))

/-- SHADOW_SYNC (R113). -/
def execShadowSync (q : Rq) (s : State) : Host.Outcome State Fault Refusal :=
  .next (s.writeRequest .clean 0x5201 0 (cmdWrite q 16))

/-- SCHEDULE_PUSH (R120). -/
def execSchedulePush (w : Wr) (s : State) : Host.Outcome State Fault Refusal :=
  .next (s.writeRequest .clean 0x5101 0 w)

/-- SCHEDULE_FLUSH (R120). -/
def execScheduleFlush (e : Nat) (w : Wr) (s : State) : Host.Outcome State Fault Refusal :=
  .next (s.writeRequest .clean 0x5105 e w)

/-- SCHEDULE_FLUSH_ALL (R120). -/
def execScheduleFlushAll (w : Wr) (s : State) : Host.Outcome State Fault Refusal :=
  .next (s.writeRequest .clean 0x5106 0 w)

/-- TT_WINDOW_READ (R109). -/
def execTtWindowRead (q : Rq) (ecc : EccOutcome) (s : State) : Host.Outcome State Fault Refusal :=
  .next (s.writeRequest ecc 0x5002 0 (cmdWrite q 1))

/-- TT_WINDOW_WRITE (R108). -/
def execTtWindowWrite (q : Rq) (s : State) : Host.Outcome State Fault Refusal :=
  .next (s.writeRequest .clean 0x5002 0 (cmdWrite q 2))

/-- NEIGHBOUR_WRITE (R111). -/
def execNeighbourWrite (hi : Bool) (e : Nat) (w : Wr) (s : State) : Host.Outcome State Fault Refusal :=
  .next (s.writeRequest .clean (if hi then 0x5011 else 0x5010) e w)

/-- AGGRESSOR_WRITE (R126). -/
def execAggressorWrite (j e : Nat) (w : Wr) (s : State) : Host.Outcome State Fault Refusal :=
  .next (s.writeRequest .clean (0x5400 + j) e w)

/-- SURVEY_GO (R138). -/
def execSurveyGo (q : Rq) (clear : Bool) (s : State) : Host.Outcome State Fault Refusal :=
  .next (s.writeRequest .clean 0x5800 0 (cmdWrite q (1 + 4 * clear.toNat)))

/-- SURVEY_ABORT (R141). -/
def execSurveyAbort (q : Rq) (s : State) : Host.Outcome State Fault Refusal :=
  .next (s.writeRequest .clean 0x5800 0 (cmdWrite q 2))

/-- CAL_REQUEST (R150). -/
def execCalRequest (w : Wr) (s : State) : Host.Outcome State Fault Refusal :=
  .next (s.writeRequest .clean 0x5824 0 w)

/-- CAL_CORRECTION_WRITE (R155). -/
def execCalCorrectionWrite (index sub : Nat) (w : Wr) (s : State) : Host.Outcome State Fault Refusal :=
  .next (s.writeRequest .clean index sub w)

/-- STEP_AUTHORISE (R172). -/
def execStepAuthorise (q : Rq) (id : Nat) (s : State) : Host.Outcome State Fault Refusal :=
  .next (s.writeRequest .clean 0x2411 0 (cmdWrite q (1 + 256 * (id % 256))))

/-- STEP_CANCEL (R172). -/
def execStepCancel (q : Rq) (id : Nat) (s : State) : Host.Outcome State Fault Refusal :=
  .next (s.writeRequest .clean 0x2411 0 (cmdWrite q (2 + 256 * (id % 256))))

/-- PD_CONFIG_WRITE (R178). -/
def execPdConfigWrite (p : Nat) (w : Wr) (s : State) : Host.Outcome State Fault Refusal :=
  .next (s.writeRequest .clean 0x4C00 p w)

/-- SEAL_NOW (R192). -/
def execSealNow (w : Wr) (s : State) : Host.Outcome State Fault Refusal :=
  .next (s.writeRequest .clean 0x2601 0 w)

/-- KEY_COMMIT (R193). -/
def execKeyCommit (w : Wr) (s : State) : Host.Outcome State Fault Refusal :=
  .next (s.writeRequest .clean 0x2603 0 w)

/-- KEY_LOCK (R194). -/
def execKeyLock (w : Wr) (s : State) : Host.Outcome State Fault Refusal :=
  .next (s.writeRequest .clean 0x2603 0 w)

/-- EVIDENCE_ACK (R199). -/
def execEvidenceAck (w : Wr) (s : State) : Host.Outcome State Fault Refusal :=
  .next (s.writeRequest .clean 0x2606 0 w)

/-- SE_ACQUIRE (R252). -/
def execSeAcquire (w : Wr) (s : State) : Host.Outcome State Fault Refusal :=
  .next (s.writeRequest .clean 0x1301 0 w)

/-- SE_RELEASE (R253). -/
def execSeRelease (w : Wr) (s : State) : Host.Outcome State Fault Refusal :=
  .next (s.writeRequest .clean 0x1302 0 w)

/-- ARB_KEY_WRITE (R254). -/
def execArbKeyWrite (k : Nat) (w : Wr) (s : State) : Host.Outcome State Fault Refusal :=
  .next (s.writeRequest .clean 0x1341 k w)

/-- BOOT_BEGIN (R273). -/
def execBootBegin (w : Wr) (s : State) : Host.Outcome State Fault Refusal :=
  .next (s.writeRequest .clean 0x1401 0 w)

/-- BOOT_END (R273). -/
def execBootEnd (w : Wr) (s : State) : Host.Outcome State Fault Refusal :=
  .next (s.writeRequest .clean 0x1401 0 w)

/-- BOOT_RUN (R273). -/
def execBootRun (w : Wr) (s : State) : Host.Outcome State Fault Refusal :=
  .next (s.writeRequest .clean 0x1401 0 w)

/-- BOOT_ABORT (R273). -/
def execBootAbort (w : Wr) (s : State) : Host.Outcome State Fault Refusal :=
  .next (s.writeRequest .clean 0x1401 0 w)

/-- MODE_REQUEST_SERVICE (R277). -/
def execModeRequestService (w : Wr) (s : State) : Host.Outcome State Fault Refusal :=
  .next (s.writeRequest .clean 0x1801 0 w)

/-- MODE_REQUEST_DORMANT (R277). -/
def execModeRequestDormant (w : Wr) (s : State) : Host.Outcome State Fault Refusal :=
  .next (s.writeRequest .clean 0x1801 0 w)

/-- POWER_REQUEST (R287). -/
def execPowerRequest (w : Wr) (s : State) : Host.Outcome State Fault Refusal :=
  .next (s.writeRequest .clean 0x6001 2 w)

/-- PERF_LEVEL_REQUEST (R296). -/
def execPerfLevelRequest (w : Wr) (s : State) : Host.Outcome State Fault Refusal :=
  .next (s.writeRequest .clean 0x6101 0 w)

/-- DOMAIN_RESET_REQUEST (R341). -/
def execDomainResetRequest (w : Wr) (s : State) : Host.Outcome State Fault Refusal :=
  .next (s.writeRequest .clean 0x6012 0 w)

/-- FAULT_CLEAR_SOURCE (R314). -/
def execFaultClearSource (w : Wr) (s : State) : Host.Outcome State Fault Refusal :=
  .next (s.writeRequest .clean 0x7005 0 w)

/-- FAULT_CLEAR_ALL (R314). -/
def execFaultClearAll (w : Wr) (s : State) : Host.Outcome State Fault Refusal :=
  .next (s.writeRequest .clean 0x7005 0 w)

/-- FIRST_FAULT_CLEAR (R312). -/
def execFirstFaultClear (w : Wr) (s : State) : Host.Outcome State Fault Refusal :=
  .next (s.writeRequest .clean 0x7005 0 w)

/-- SAFE_RELEASE (R320). -/
def execSafeRelease (w : Wr) (s : State) : Host.Outcome State Fault Refusal :=
  .next (s.writeRequest .clean 0x7101 0 w)

/-- FAULT_INJECT (R327). -/
def execFaultInject (w : Wr) (s : State) : Host.Outcome State Fault Refusal :=
  .next (s.writeRequest .clean 0x7C00 0 w)

/-- The response to a GO whose switch is done. -/
def State.answerSwitch (s : State) (r : Option SwitchReply) : State :=
  match r with
  | none => s
  | some { q := q, bulk := none } => s.answerWrite q 0x2201 0 stOk
  | some { q := q, bulk := some b } => s.answerBulk q b.status b

/-- SOURCE_SWITCH_DONE: SRC reads 1, and the write is answered (R67); so is one whose switch completed while CLK_READY
cleared (Table 3-5). -/
def State.switchEnd (s : State) : State :=
  let owed := s.clocks.owed
  let s := ({ s with clocks := { s.clocks with owed := none } } : State).answerSwitch owed
  if s.on CK_STATUS_SWITCH_BUSY then
    let reply := s.clocks.reply
    ({ s.switchDone with clocks := { s.clocks with reply := none } } : State).answerSwitch reply
  else s

/-- SOURCE_SWITCH_DONE (R67). -/
def execSourceSwitchDone (s : State) : Host.Outcome State Fault Refusal := .next s.switchEnd.goOn

/-! Events after which the dictionary service may go on (R34, R69, R249). -/

/-- SLACK_WINDOW (R23): it starts once a frame; an enable that comes into force there can release a request (R69). -/
def execSlackWindow (late : List Nat) (s : State) : Host.Outcome State Fault Refusal :=
  .next (if s.frame.running && !s.frame.slack then (s.slackWindow late).goOn else s)

/-- DOMAIN_WAKE_DONE (R292). -/
def execDomainWakeDone (d : Nat) (s : State) : Host.Outcome State Fault Refusal := .next (s.wakeDone d).goOn

/-- TIMING_PORT_BLOCK_LOCK (R267). -/
def execTimingPortBlockLock (s : State) : Host.Outcome State Fault Refusal := .next s.portLock.goOn

/-- LINK_BLOCK_LOCK: 64 valid sync headers (R208). -/
def execLinkBlockLock (pair : Nat) (s : State) : Host.Outcome State Fault Refusal := .next (s.blockLock pair).goOn

/-- DOMAIN_RESET_START (R342). -/
def execDomainResetStart (s : State) : Host.Outcome State Fault Refusal := .next s.domResetStart.goOn

/-- DOMAIN_RESET_RELEASE (R342). -/
def execDomainResetRelease (s : State) : Host.Outcome State Fault Refusal := .next s.domResetRelease.goOn

/-- CROSSING_PEER_DROP (R340): a request outstanding through the crossing is answered with PEER_RESET. -/
def execCrossingPeerDrop (d : Nat) (s : State) : Host.Outcome State Fault Refusal := .next (s.peerDrop d).goOn

end Sys2Proof.Machine
end

