-- ==== Sys2Proof/Machine/Dispatch.lean ====
section
/-! DEFINITION. The dispatcher: one arm per command, each a direct call of its meaning. -/

namespace Sys2Proof.Machine

/-- A command's effect on everything but the queue. -/
def exec (i : Instr) (s : State) : Host.Outcome State Fault Refusal :=
  match i with
  | .frameTick errs => Sys2Proof.Machine.execFrameTick errs s
  | .slackWindow late => Sys2Proof.Machine.execSlackWindow late s
  | .loopWindowBoundary => Sys2Proof.Machine.execLoopWindowBoundary s
  | .monitorSample m k code => Sys2Proof.Machine.execMonitorSample m k code s
  | .pilotUpdate k => Sys2Proof.Machine.execPilotUpdate k s
  | .timingPortBlockLock => Sys2Proof.Machine.execTimingPortBlockLock s
  | .bandSearchPhaseEnd x => Sys2Proof.Machine.execBandSearchPhaseEnd x s
  | .searchFailTimeout => Sys2Proof.Machine.execSearchFailTimeout s
  | .referenceLoss fine => Sys2Proof.Machine.execReferenceLoss fine s
  | .lockLoss fine => Sys2Proof.Machine.execLockLoss fine s
  | .clkReadySet => Sys2Proof.Machine.execClkReadySet s
  | .recentre fine => Sys2Proof.Machine.execRecentre fine s
  | .referenceQualified within offset => Sys2Proof.Machine.execReferenceQualified within offset s
  | .relockLock => Sys2Proof.Machine.execRelockLock s
  | .relockTimeout => Sys2Proof.Machine.execRelockTimeout s
  | .trimWindowEnd tdc => Sys2Proof.Machine.execTrimWindowEnd tdc s
  | .coastLimitExceeded => Sys2Proof.Machine.execCoastLimitExceeded s
  | .phaseStep => Sys2Proof.Machine.execPhaseStep s
  | .trackRampStep => Sys2Proof.Machine.execTrackRampStep s
  | .portSelWrite w => Sys2Proof.Machine.execPortSelWrite w s
  | .loopBandwidthWrite w => Sys2Proof.Machine.execLoopBandwidthWrite w s
  | .divModeWrite w => Sys2Proof.Machine.execDivModeWrite w s
  | .divCommit w => Sys2Proof.Machine.execDivCommit w s
  | .divCommitApply => Sys2Proof.Machine.execDivCommitApply s
  | .trackTargetWrite w => Sys2Proof.Machine.execTrackTargetWrite w s
  | .ckStatusRead q => Sys2Proof.Machine.execCkStatusRead q s
  | .sourceSwitch w => Sys2Proof.Machine.execSourceSwitch w s
  | .sourceSwitchDone => Sys2Proof.Machine.execSourceSwitchDone s
  | .imageSourceSwitch => Sys2Proof.Machine.execImageSourceSwitch s
  | .linkCfgWrite w => Sys2Proof.Machine.execLinkCfgWrite w s
  | .clockEnableWrite d w => Sys2Proof.Machine.execClockEnableWrite d w s
  | .dsStart => Sys2Proof.Machine.execDsStart s
  | .dsPhaseEnd coarse => Sys2Proof.Machine.execDsPhaseEnd coarse s
  | .dsStartTimeout => Sys2Proof.Machine.execDsStartTimeout s
  | .pdmSourceMove => Sys2Proof.Machine.execPdmSourceMove s
  | .dsLockLoss => Sys2Proof.Machine.execDsLockLoss s
  | .sscWrite w => Sys2Proof.Machine.execSscWrite w s
  | .sscChangeApply => Sys2Proof.Machine.execSscChangeApply s
  | .cmdOff q e => Sys2Proof.Machine.execCmdOff q e s
  | .cmdPark q e => Sys2Proof.Machine.execCmdPark q e s
  | .cmdRun q e ecc => Sys2Proof.Machine.execCmdRun q e ecc s
  | .cmdCoast q e => Sys2Proof.Machine.execCmdCoast q e s
  | .cmdResume q e => Sys2Proof.Machine.execCmdResume q e s
  | .cmdClear q e => Sys2Proof.Machine.execCmdClear q e s
  | .monitorAssign e w => Sys2Proof.Machine.execMonitorAssign e w s
  | .windowLengthWrite w => Sys2Proof.Machine.execWindowLengthWrite w s
  | .setpointWrite e w => Sys2Proof.Machine.execSetpointWrite e w s
  | .eoCodeWrite e w => Sys2Proof.Machine.execEoCodeWrite e w s
  | .heaterCurrentMeasure e ua => Sys2Proof.Machine.execHeaterCurrentMeasure e ua s
  | .eoComplianceFault e => Sys2Proof.Machine.execEoComplianceFault e s
  | .armGo q trig force => Sys2Proof.Machine.execArmGo q trig force s
  | .armDisarm q => Sys2Proof.Machine.execArmDisarm q s
  | .shadowSync q => Sys2Proof.Machine.execShadowSync q s
  | .armingComplete eccs => Sys2Proof.Machine.execArmingComplete eccs s
  | .ringCommitArmStart => Sys2Proof.Machine.execRingCommitArmStart s
  | .trigInEdge => Sys2Proof.Machine.execTrigInEdge s
  | .schedulePush w => Sys2Proof.Machine.execSchedulePush w s
  | .scheduleFlush e w => Sys2Proof.Machine.execScheduleFlush e w s
  | .scheduleFlushAll w => Sys2Proof.Machine.execScheduleFlushAll w s
  | .ttWindowRead q ecc => Sys2Proof.Machine.execTtWindowRead q ecc s
  | .ttWindowWrite q => Sys2Proof.Machine.execTtWindowWrite q s
  | .neighbourWrite hi e w => Sys2Proof.Machine.execNeighbourWrite hi e w s
  | .aggressorWrite j e w => Sys2Proof.Machine.execAggressorWrite j e w s
  | .surveyGo q clear => Sys2Proof.Machine.execSurveyGo q clear s
  | .surveyEntry => Sys2Proof.Machine.execSurveyEntry s
  | .surveyAbort q => Sys2Proof.Machine.execSurveyAbort q s
  | .surveyPassStart eccs => Sys2Proof.Machine.execSurveyPassStart eccs s
  | .sweepStepEnd => Sys2Proof.Machine.execSweepStepEnd s
  | .surveyCapture => Sys2Proof.Machine.execSurveyCapture s
  | .crosstalkBaselineEnd => Sys2Proof.Machine.execCrosstalkBaselineEnd s
  | .aggressorDwellEnd => Sys2Proof.Machine.execAggressorDwellEnd s
  | .selfProbeDwellEnd => Sys2Proof.Machine.execSelfProbeDwellEnd s
  | .surveyRestore eccs => Sys2Proof.Machine.execSurveyRestore eccs s
  | .surveyResume => Sys2Proof.Machine.execSurveyResume s
  | .calTemperatureCheck => Sys2Proof.Machine.execCalTemperatureCheck s
  | .calRequest w => Sys2Proof.Machine.execCalRequest w s
  | .calRunStart u => Sys2Proof.Machine.execCalRunStart u s
  | .calRunEnd u results => Sys2Proof.Machine.execCalRunEnd u results s
  | .calCorrectionWrite index sub w => Sys2Proof.Machine.execCalCorrectionWrite index sub w s
  | .learnIntervalEnd e => Sys2Proof.Machine.execLearnIntervalEnd e s
  | .learnedWrite e => Sys2Proof.Machine.execLearnedWrite e s
  | .timeReadLatch q => Sys2Proof.Machine.execTimeReadLatch q s
  | .word64ReadLatch q index sub => Sys2Proof.Machine.execWord64ReadLatch q index sub s
  | .frameMarkReceive x => Sys2Proof.Machine.execFrameMarkReceive x s
  | .dreqSend t3 => Sys2Proof.Machine.execDreqSend t3 s
  | .dreqReceive frame seq t4 => Sys2Proof.Machine.execDreqReceive frame seq t4 s
  | .drespReceive x => Sys2Proof.Machine.execDrespReceive x s
  | .drespTimeout => Sys2Proof.Machine.execDrespTimeout s
  | .timeSet errs => Sys2Proof.Machine.execTimeSet errs s
  | .stepAuthorise q id => Sys2Proof.Machine.execStepAuthorise q id s
  | .stepCancel q id => Sys2Proof.Machine.execStepCancel q id s
  | .timeStep errs => Sys2Proof.Machine.execTimeStep errs s
  | .lightCrossing p bin ua lasts => Sys2Proof.Machine.execLightCrossing p bin ua lasts s
  | .lightLevel p => Sys2Proof.Machine.execLightLevel p s
  | .pdConfigWrite p w => Sys2Proof.Machine.execPdConfigWrite p w s
  | .lightRecordEnqueue quadrant => Sys2Proof.Machine.execLightRecordEnqueue quadrant s
  | .evidenceRecordWrite => Sys2Proof.Machine.execEvidenceRecordWrite s
  | .sealTimeout => Sys2Proof.Machine.execSealTimeout s
  | .sealNow w => Sys2Proof.Machine.execSealNow w s
  | .keyCommit w => Sys2Proof.Machine.execKeyCommit w s
  | .keyLock w => Sys2Proof.Machine.execKeyLock w s
  | .chainRestart => Sys2Proof.Machine.execChainRestart s
  | .evidenceAck w => Sys2Proof.Machine.execEvidenceAck w s
  | .evidenceRead q index sub ecc raw => Sys2Proof.Machine.execEvidenceRead q index sub ecc raw s
  | .requestReceive pair f => Sys2Proof.Machine.execRequestReceive pair f s
  | .readRequest q index sub => Sys2Proof.Machine.execReadRequest q index sub s
  | .bulkReadRequest q index sub run => Sys2Proof.Machine.execBulkReadRequest q index sub run s
  | .bulkWriteRequest q stop items => Sys2Proof.Machine.execBulkWriteRequest q stop items s
  | .objectWrite index sub w => Sys2Proof.Machine.execObjectWrite index sub w s
  | .frameForward pair x => Sys2Proof.Machine.execFrameForward pair x s
  | .ownFrameTransmit pair => Sys2Proof.Machine.execOwnFrameTransmit pair s
  | .linkSignalDetect x => Sys2Proof.Machine.execLinkSignalDetect x s
  | .linkBlockLock pair => Sys2Proof.Machine.execLinkBlockLock pair s
  | .helloSend pair => Sys2Proof.Machine.execHelloSend pair s
  | .helloReceive pair h => Sys2Proof.Machine.execHelloReceive pair h s
  | .linkLoss pair fine => Sys2Proof.Machine.execLinkLoss pair fine s
  | .loopEngage pair => Sys2Proof.Machine.execLoopEngage pair s
  | .loopRelease pair => Sys2Proof.Machine.execLoopRelease pair s
  | .arbToken pair dest epoch t => Sys2Proof.Machine.execArbToken pair dest epoch t s
  | .tokenOutcome => Sys2Proof.Machine.execTokenOutcome s
  | .seAcquire w => Sys2Proof.Machine.execSeAcquire w s
  | .seRelease w => Sys2Proof.Machine.execSeRelease w s
  | .arbKeyWrite k w => Sys2Proof.Machine.execArbKeyWrite k w s
  | .wakeReceive pair dest => Sys2Proof.Machine.execWakeReceive pair dest s
  | .ringResetReceive pair dest epoch => Sys2Proof.Machine.execRingResetReceive pair dest epoch s
  | .bootBegin w => Sys2Proof.Machine.execBootBegin w s
  | .bootEnd w => Sys2Proof.Machine.execBootEnd w s
  | .bootRun w => Sys2Proof.Machine.execBootRun w s
  | .bootAbort w => Sys2Proof.Machine.execBootAbort w s
  | .imageCheckDone => Sys2Proof.Machine.execImageCheckDone s
  | .imageFrame q f => Sys2Proof.Machine.execImageFrame q f s
  | .modeRequestService w => Sys2Proof.Machine.execModeRequestService w s
  | .modeRequestDormant w => Sys2Proof.Machine.execModeRequestDormant w s
  | .modeChange => Sys2Proof.Machine.execModeChange s
  | .dormantClockStop => Sys2Proof.Machine.execDormantClockStop s
  | .powerRequest w => Sys2Proof.Machine.execPowerRequest w s
  | .powerRequestStart => Sys2Proof.Machine.execPowerRequestStart s
  | .neapVoteCheck => Sys2Proof.Machine.execNeapVoteCheck s
  | .neapIsolate => Sys2Proof.Machine.execNeapIsolate s
  | .neapPowerDown => Sys2Proof.Machine.execNeapPowerDown s
  | .domainWake d client => Sys2Proof.Machine.execDomainWake d client s
  | .domainWakeDone d => Sys2Proof.Machine.execDomainWakeDone d s
  | .perfLevelRequest w => Sys2Proof.Machine.execPerfLevelRequest w s
  | .perfStepStart => Sys2Proof.Machine.execPerfStepStart s
  | .perfFrequencyChange => Sys2Proof.Machine.execPerfFrequencyChange s
  | .pmbusTransactionDone x => Sys2Proof.Machine.execPmbusTransactionDone x s
  | .voutSettleEnd => Sys2Proof.Machine.execVoutSettleEnd s
  | .domainResetRequest w => Sys2Proof.Machine.execDomainResetRequest w s
  | .domainResetStart => Sys2Proof.Machine.execDomainResetStart s
  | .domainResetRelease => Sys2Proof.Machine.execDomainResetRelease s
  | .crossingPeerDrop d => Sys2Proof.Machine.execCrossingPeerDrop d s
  | .crossingHandshakeDone d => Sys2Proof.Machine.execCrossingHandshakeDone d s
  | .faultReport reports => Sys2Proof.Machine.execFaultReport reports s
  | .reactionWindowClose => Sys2Proof.Machine.execReactionWindowClose s
  | .containmentApply => Sys2Proof.Machine.execContainmentApply s
  | .faultRecordEnqueue => Sys2Proof.Machine.execFaultRecordEnqueue s
  | .safeInLow => Sys2Proof.Machine.execSafeInLow s
  | .fltReadbackMismatch => Sys2Proof.Machine.execFltReadbackMismatch s
  | .gateReadbackMismatch p => Sys2Proof.Machine.execGateReadbackMismatch p s
  | .faultClearSource w => Sys2Proof.Machine.execFaultClearSource w s
  | .faultClearAll w => Sys2Proof.Machine.execFaultClearAll w s
  | .firstFaultClear w => Sys2Proof.Machine.execFirstFaultClear w s
  | .safeRelease w => Sys2Proof.Machine.execSafeRelease w s
  | .safeReleaseEffect => Sys2Proof.Machine.execSafeReleaseEffect s
  | .supplyWarningCross rail lowest => Sys2Proof.Machine.execSupplyWarningCross rail lowest s
  | .supplyDipQualify rail lowest => Sys2Proof.Machine.execSupplyDipQualify rail lowest s
  | .supplyRecover x => Sys2Proof.Machine.execSupplyRecover x s
  | .supplyMarginalClear => Sys2Proof.Machine.execSupplyMarginalClear s
  | .supplyResetLevel rail => Sys2Proof.Machine.execSupplyResetLevel rail s
  | .brownoutResetAssert => Sys2Proof.Machine.execBrownoutResetAssert s
  | .temperatureConversion readings => Sys2Proof.Machine.execTemperatureConversion readings s
  | .pmbusAlert status => Sys2Proof.Machine.execPmbusAlert status s
  | .faultInject w => Sys2Proof.Machine.execFaultInject w s
  | .coldReset => Sys2Proof.Machine.execColdReset s
  | .pinReset width => Sys2Proof.Machine.execPinReset width s
  | .ringResetAssert => Sys2Proof.Machine.execRingResetAssert s
  | .resetRelease straps => Sys2Proof.Machine.execResetRelease straps s
  | .vgateCrossing up => Sys2Proof.Machine.execVgateCrossing up s
  | .faultCauseEnd src => Sys2Proof.Machine.execFaultCauseEnd src s
  | .domainStart => Sys2Proof.Machine.execDomainStart s

end Sys2Proof.Machine
end

