-- ==== Sys2Proof/Safety.lean ====
section
/-! DEFINITION. What counts as a safe run, and the words that statements about runs use: the canonical form of the
sparse tables, when a write request is admitted to its object, the value it forms, and how it is served. -/

namespace Sys2Proof

open Machine

/-- The dictionary's words, and the words in force, stand in canonical form. -/
def Safety.tablesWf (s : State) : Bool :=
  Table.wf objDefault s.objs && Table.wf objDefault s.force

/-- The sealed blocks are numbered one after another, and the block that follows them is the open one (R190). -/
def Safety.sealedInOrder (s : State) : Bool :=
  decide (s.ev.sealed.length ≤ s.ev.num) &&
    decide (s.ev.sealed.map Block.num = List.range' (s.ev.num - s.ev.sealed.length) s.ev.sealed.length)

/-- The invariant of the model: every sparse table stands in canonical form (the dictionary's words, the lanes, the monitor
inputs, the port detectors, the posting queues, the Tide Table), the device has four lane pairs, a port holds at most
four requests (R246), and the sealed blocks are in order. -/
def Safety.wf (s : State) : Bool :=
  Safety.tablesWf s && Table.wf (fun _ => ({} : Lane)) s.lanes && Table.wf (fun _ => ({} : Mon)) s.mons &&
    Table.wf (fun _ => ({} : PdSt)) s.pds && Table.wf (fun _ => ({} : TileSt)) s.tiles &&
    Table.wf (fun _ => (0 : BitVec 128)) s.commit.tide && decide (s.pairs.length = 4) &&
    decide (s.portA.reqs.length ≤ 4) && decide (s.portB.reqs.length ≤ 4) && Safety.sealedInOrder s

/-- Every word of the dictionary outside some pages of 256 indices reads in `t` as it did in `s`. -/
def Safety.pagesKept (pages : List Nat) (s t : State) : Prop :=
  ∀ index sub, sub < 65536 → index / 256 ∉ pages → t.word index sub = s.word index sub

/-- The word that value and mask form over the word as a read returns it (R242). -/
def Safety.valueOf (s : State) (w : Wr) (index sub : Nat) : Word :=
  (objRow index sub).elim 0 fun r => s.formed r index sub w.value w.mask

/-- The service takes the request up at once (R246), its frame is well formed, the domains it reaches are awake and out
of reset, and the checks of R245 up to GUARD pass with a mask that names some bit: the object's own rule is next. -/
def Safety.admits (s : State) (w : Wr) (index sub : Nat) : Bool :=
  s.servesNow w.q && s.formedNow w.q && (s.writeWaits index sub (w.value &&& w.mask)).isNone && (objRow index sub).isSome &&
    (s.precheck w.q.port index sub w.mask).isNone && decide (w.mask ≠ 0) && !s.cutOff index sub (Safety.valueOf s w index sub)

/-- An accepted write has taken effect in `s`: a client's vote that has risen with it is looked at (R291), and the
request is answered with `st` (R241, R242). -/
def Safety.served (s : State) (q : Rq) (index sub st : Nat) : State := s.voteRose.answerWrite q index sub st

/-- The subentry and the request of a command that is a write row. -/
def Safety.writeRow : Instr → Option (Nat × Nat × Wr)
  | .portSelWrite w => some (0x2002, 0, w)
  | .loopBandwidthWrite w => some (0x2001, 0, w)
  | .divModeWrite w => some (0x2001, 0, w)
  | .divCommit w => some (0x2005, 0, w)
  | .trackTargetWrite w => some (0x2006, 0, w)
  | .sourceSwitch w => some (0x2201, 0, w)
  | .linkCfgWrite w => some (0x2202, 0, w)
  | .clockEnableWrite d w => some (0x2210, d, w)
  | .sscWrite w => some (0x2101, 0, w)
  | .cmdOff q e => some (0x4000, e, cmdWrite q 0)
  | .cmdPark q e => some (0x4000, e, cmdWrite q 1)
  | .cmdRun q e _ => some (0x4000, e, cmdWrite q 2)
  | .cmdCoast q e => some (0x4000, e, cmdWrite q 3)
  | .cmdResume q e => some (0x4000, e, cmdWrite q 4)
  | .cmdClear q e => some (0x4000, e, cmdWrite q 5)
  | .monitorAssign e w => some (0x4003, e, w)
  | .windowLengthWrite w => some (0x3000, 0, w)
  | .setpointWrite e w => some (0x400A, e, w)
  | .eoCodeWrite e w => some (0x4009, e, w)
  | .armGo q trig force => some (0x5201, 0, cmdWrite q (1 + 2 * trig.toNat + 8 * force.toNat))
  | .armDisarm q => some (0x5201, 0, cmdWrite q 4)
  | .shadowSync q => some (0x5201, 0, cmdWrite q 16)
  | .schedulePush w => some (0x5101, 0, w)
  | .scheduleFlush e w => some (0x5105, e, w)
  | .scheduleFlushAll w => some (0x5106, 0, w)
  | .ttWindowRead q _ => some (0x5002, 0, cmdWrite q 1)
  | .ttWindowWrite q => some (0x5002, 0, cmdWrite q 2)
  | .neighbourWrite hi e w => some (if hi then 0x5011 else 0x5010, e, w)
  | .aggressorWrite j e w => some (0x5400 + j, e, w)
  | .surveyGo q clear => some (0x5800, 0, cmdWrite q (1 + 4 * clear.toNat))
  | .surveyAbort q => some (0x5800, 0, cmdWrite q 2)
  | .calRequest w => some (0x5824, 0, w)
  | .calCorrectionWrite index sub w => some (index, sub, w)
  | .stepAuthorise q id => some (0x2411, 0, cmdWrite q (1 + 256 * (id % 256)))
  | .stepCancel q id => some (0x2411, 0, cmdWrite q (2 + 256 * (id % 256)))
  | .pdConfigWrite p w => some (0x4C00, p, w)
  | .sealNow w => some (0x2601, 0, w)
  | .keyCommit w => some (0x2603, 0, w)
  | .keyLock w => some (0x2603, 0, w)
  | .evidenceAck w => some (0x2606, 0, w)
  | .seAcquire w => some (0x1301, 0, w)
  | .seRelease w => some (0x1302, 0, w)
  | .arbKeyWrite k w => some (0x1341, k, w)
  | .bootBegin w => some (0x1401, 0, w)
  | .bootEnd w => some (0x1401, 0, w)
  | .bootRun w => some (0x1401, 0, w)
  | .bootAbort w => some (0x1401, 0, w)
  | .modeRequestService w => some (0x1801, 0, w)
  | .modeRequestDormant w => some (0x1801, 0, w)
  | .powerRequest w => some (0x6001, 2, w)
  | .perfLevelRequest w => some (0x6101, 0, w)
  | .domainResetRequest w => some (0x6012, 0, w)
  | .faultClearSource w => some (0x7005, 0, w)
  | .faultClearAll w => some (0x7005, 0, w)
  | .firstFaultClear w => some (0x7005, 0, w)
  | .safeRelease w => some (0x7101, 0, w)
  | .faultInject w => some (0x7C00, 0, w)
  | .objectWrite index sub w => some (index, sub, w)
  | _ => none

/-- What the SECDED check finds for a command whose object reads the Tide Table (R109). -/
def Safety.eccOf : Instr → EccOutcome
  | .cmdRun _ _ ecc => ecc
  | .ttWindowRead _ ecc => ecc
  | _ => .clean

/-- The clock relations of R65, which the host keeps and the device does not check (log entry 9): on the link source an
allowed setting of Table 3-2, VCORE at the P1 setpoint or above, and no domain of ECLK running or voted on; with FSEL = 1,
VCORE at the P0 setpoint. -/
def Safety.clocksKept (s : State) : Bool :=
  let fsel := s.clocks.link.bits 3 3
  let hdiv := s.clocks.link.bits 2 0
  let allowed := (fsel = 0 && hdiv = 2) || (fsel = 1 && hdiv = 4)
  let asleep := allDomains.all fun d => !usesEclk d || (!s.running d && s.runVotes [] d = 0)
  (s.on CK_STATUS_SRC || (allowed && decide (s.get PL_STATUS_VLEVEL ≤ 1) && asleep)) &&
    (s.rd CK_LINK_CFG_FSEL 0 = 0 || s.get PL_STATUS_VLEVEL = 0)

/-- What follows every accepted write to TC_CONTROL: without TRIM_EN no trimming is active (R51), and BW and JC are in
force in the locked loop, in re-lock and in phase 7, stored otherwise (R37). -/
def Safety.afterControl (t : State) : State :=
  let t := if t.on TC_CONTROL_TRIM_EN then t else t.set TC_STATUS_TRIM_ACTIVE 0
  if t.tc = 4 ∨ t.tc = 6 ∨ t.timing.phase = 7 then t.takeBw else t

end Sys2Proof
end

