-- ==== Sys2Proof/Certificates/Slice0/Obligations.lean ====
section
/-! DEFINITION. The statements about the model that the provers are asked to prove. -/

open Sys2Proof Sys2Proof.Machine

/-- A step runs the front command on the queue's rest; on an empty queue one timing cycle passes. Derived from
10_object_dictionary.md, 01_architecture_and_frame.md, 02_timing_synthesiser.md. -/
def Obligations.StepRunsTheFrontCommand : Prop :=
  (∀ (c : Instr) (cs : List Instr) (s : State), s.pending = c :: cs → step s = exec c { s with pending := cs }) ∧
  (∀ (s : State), s.pending = [] → step s = .next s.idle ∧ s.idle.frame.up = s.frame.up + 1 ∧
    s.idle = { s with frame := s.idle.frame, timing := s.idle.timing, fresh := s.idle.fresh } ∧
    s.idle.frame.frame = s.frame.frame ∧
    (s.frame.running = true → s.idle.frame.tc = min (s.frame.tc + 1) 2999))

/-- PORT_SEL, BW and JC, DIV_MODE, a divider commit and the tracking target: accepted writes, and a target out of
range. Derived from 02_timing_synthesiser.md. -/
def Obligations.TimingLoopWrites : Prop :=
  ∀ (s : State) (w : Wr), Safety.wf s = true →
  (∀ v, v = Safety.valueOf s w 0x2002 0 → Safety.admits s w 0x2002 0 = true →
    (s.coasting = true →
      exec (.portSelWrite w) s = .next (Safety.served
        (((s.set TC_REF_PORT_SEL (v.bits 4 4)).set TC_STATUS_STATE 5).set TC_STATUS_REF_OFF_FREQ 0).loseTrim
        w.q 0x2002 0 stOk)) ∧
    (s.modeNow = modeBoot → s.on TC_STATUS_LOCK = false → (s.tc = 1 ∨ s.searching = true) →
      exec (.portSelWrite w) s = .next (Safety.served
        ((if s.searching then s.abandonSearch else s).set TC_REF_PORT_SEL (v.bits 4 4)).startSearch w.q 0x2002 0 stOk)) ∧
    (s.coasting = false → s.modeNow ≠ modeBoot →
      exec (.portSelWrite w) s = .next (s.answerWrite w.q 0x2002 0 stState))) ∧
  (∀ v, v = Safety.valueOf s w 0x2001 0 → Safety.admits s w 0x2001 0 = true →
    (v.bits 3 0 ≤ 6 → v.bits 5 5 = s.get TC_CONTROL_DIV_MODE →
      exec (.loopBandwidthWrite w) s = .next (Safety.served (Safety.afterControl (s.setWord 0x2001 0 v)) w.q 0x2001 0 stOk)) ∧
    (6 < v.bits 3 0 → exec (.loopBandwidthWrite w) s = .next (s.answerWrite w.q 0x2001 0 stRange)) ∧
    (v.bits 3 0 ≤ 6 → s.get TC_CONTROL_DIV_MODE = 1 → v.bits 5 5 = 0 →
      exec (.divModeWrite w) s = .next (Safety.served
        (Safety.afterControl (((s.setWord 0x2001 0 v).setWord 0x2004 0 (s.word 0x2003 0)).setWord 0x2004 1 (s.word 0x2003 1)))
        w.q 0x2001 0 stOk)) ∧
    (v.bits 3 0 ≤ 6 → s.get TC_CONTROL_DIV_MODE = 0 → v.bits 5 5 = 1 →
      exec (.divModeWrite w) s = .next (Safety.served
        (Safety.afterControl (((s.setWord 0x2001 0 v).setI TC_TRACK_NOW (offsetOf s.prescale s.offsetLsb)).setI
          TC_TRACK_TARGET (offsetOf s.prescale s.offsetLsb))) w.q 0x2001 0 stOk))) ∧
  (Safety.admits s w 0x2005 0 = true → (Safety.valueOf s w 0x2005 0).bits 0 0 = 1 →
    (s.coasting = false → s.divOk = true →
      exec (.divCommit w) s = .next (Safety.served
        ({ s.set TC_STATUS_DIV_DISCARD 0 with timing := { s.timing with commit := some (s.get TC_DIV_NEXT_PRESCALE,
            if s.on TC_CONTROL_DIV_MODE then none
            else some (16777215 * s.get TC_DIV_NEXT_NINT + s.get TC_DIV_NEXT_FRAC)) } })
        w.q 0x2005 0 stOk)) ∧
    (s.divOk = false → exec (.divCommit w) s = .next ((s.set TC_STATUS_DIV_DISCARD 0).answerWrite w.q 0x2005 0 stRange)) ∧
    (s.coasting = true → s.divOk = true →
      exec (.divCommit w) s = .next ((s.set TC_STATUS_DIV_DISCARD 0).answerWrite w.q 0x2005 0 stState))) ∧
  (∀ v, v = Safety.valueOf s w 0x2006 0 → Safety.admits s w 0x2006 0 = true →
    ((signedOf 32 v.toNat).natAbs ≤ 51200000 →
      exec (.trackTargetWrite w) s = .next (Safety.served (s.setWord 0x2006 0 v) w.q 0x2006 0 stOk)) ∧
    (51200000 < (signedOf 32 v.toNat).natAbs →
      exec (.trackTargetWrite w) s = .next (s.answerWrite w.q 0x2006 0 stRange)))

/-- The band search: block lock starts it, its phases follow one another, and lock is declared at the end of phase 6.
Derived from 02_timing_synthesiser.md, 11_boot_and_modes.md. -/
def Obligations.BandSearch : Prop :=
  ∀ (s : State) (x : BandMeas), Safety.wf s = true →
  (s.rst.held = [] → 2 ≤ s.rd FL_STATUS_STATE (2 * s.timingPort) → s.tc = 1 →
    ∃ t : State, exec .timingPortBlockLock s = .next t.goOn ∧ t.blockLocked (2 * s.timingPort) = true ∧ t.tc = 2 ∧
      t.timing.phase = 1 ∧ t.timing.lockUp = s.frame.up ∧ t.boot.served = true ∧ t.lanes = s.lanes) ∧
  (s.searching = true →
    (s.timing.phase = 1 → s.refPresent = true → s.timing.fromStored = false →
      exec (.bandSearchPhaseEnd x) s = .next (s.enterPhase 2)) ∧
    (s.timing.phase = 1 → s.refPresent = true → s.timing.fromStored = true →
      ∃ t : State, exec (.bandSearchPhaseEnd x) s = .next t ∧ t.timing.phase = 5 ∧ t.get TC_STATUS_BW = 6 ∧
        t.get TC_DCO_COARSE = s.get TC_DCO_COARSE_s01 ∧ t.get TC_DCO_MEDIUM = s.get TC_DCO_MEDIUM_s01 ∧
        t.fine = s.get TC_DCO_FINE_s01) ∧
    (s.timing.phase = 2 → exec (.bandSearchPhaseEnd x) s = .next ((s.set TC_DCO_COARSE x.coarse).enterPhase 3)) ∧
    (s.timing.phase = 3 →
      ∃ t : State, exec (.bandSearchPhaseEnd x) s = .next t ∧ t.timing.phase = 4 ∧ t.get TC_DCO_MEDIUM = x.medium % 64 ∧
        t.get TC_DCO_MEDIUM_s01 = x.medium % 64 ∧ t.get TC_DCO_COARSE_s01 = s.get TC_DCO_COARSE) ∧
    (s.timing.phase = 4 →
      ∃ t : State, exec (.bandSearchPhaseEnd x) s = .next t ∧ t.timing.phase = 5 ∧ t.tc = 3 ∧ t.get TC_STATUS_BW = 6 ∧
        t.fine = 32768 ∧ t.timing.loop.gain = x.tdcGain % 65536 ∧
        t.get TC_DCO_KDCO = x.kdco % 2 ^ (TC_DCO_KDCO.hi + 1 - TC_DCO_KDCO.lo) ∧
        t.get TC_DCO_MED_STEP = x.medStep % 2 ^ (TC_DCO_MED_STEP.hi + 1 - TC_DCO_MED_STEP.lo)) ∧
    (s.timing.phase = 5 → exec (.bandSearchPhaseEnd x) s = .next ((s.setFine x.fine).enterPhase 6)) ∧
    (s.timing.phase = 6 →
      ∃ t : State, exec (.bandSearchPhaseEnd x) s = .next t ∧ t.get TC_STATUS_LOCK = 1 ∧ t.timing.phase = 7 ∧
        t.frame.running = true ∧ t.fine = x.fine ∧ t.timing.loop.theta = 0 ∧
        (s.frame.running = false → t.frame.frame = 0 ∧ t.frame.tc = 0))) ∧
  (s.timing.phase = 7 →
    ∃ t : State, exec (.bandSearchPhaseEnd x) s = .next t ∧ t.tc = 4 ∧ t.timing.phase = 0 ∧ t.fine = x.fine ∧ t.lanes = s.lanes) ∧
  (s.timing.phase = 7 → exec .searchFailTimeout s = .next ((s.bump TC_COUNT_SEARCH_FAILS).enterPhase 7)) ∧
  (s.timing.phase = 6 →
    ∃ t : State, exec .searchFailTimeout s = .next t ∧ t.on TC_STATUS_CLK_READY = false ∧ t.tc = 2 ∧
      t.timing.phase = (if s.timing.fromStored then 2 else 1)) ∧
  (s.frame.running = true → s.rst.held = [] → s.on TC_STATUS_CLK_READY = false →
    (s.on TC_STATUS_LOCK = true → s.coasting = false → s.boot.waking = false →
      exec .clkReadySet s = .next { (s.set TC_STATUS_CLK_READY 1).set BT_LOCK_TIME_US (s.usSince s.timing.lockUp) with
        time := { s.time with syncUp := s.frame.up } }) ∧
    ((s.on TC_STATUS_LOCK = true ∨ s.coasting = true) →
      ∃ t : State, exec .clkReadySet s = .next t ∧ t.on TC_STATUS_CLK_READY = true ∧ t.boot.waking = false ∧
        t.get BT_LOCK_TIME_US = s.usSince s.timing.lockUp ∧ (s.coasting = true → t.tb = 5) ∧
        (s.boot.waking = true → s.modeNow = modeDormant → t.modeNow = modeBoot)))

/-- Loss of reference and of lock, qualification, re-lock, trimming while coasting and the coast limit. Derived from
02_timing_synthesiser.md, 11_boot_and_modes.md. -/
def Obligations.CoastAndRelock : Prop :=
  (∀ (s : State) (fine : Nat) (offset : Int), Safety.wf s = true →
  (∀ u : State, u = (s.bump TC_COUNT_REF_LOSS_COUNT).set TC_STATUS_REF_OFF_FREQ 0 → s.timing.phase ≠ 1 →
    (s.tc = 6 → exec (.referenceLoss fine) s = .next ((u.dropCommit.set TC_STATUS_STATE 5).bump TC_COUNT_RELOCK_ABORTS)) ∧
    (s.tc = 5 → s.refPresent = true → exec (.referenceLoss fine) s = .next u) ∧
    (2 ≤ s.tc → s.coasting = false → s.searching = false → exec (.referenceLoss fine) s = .next (u.startCoast true fine)) ∧
    (s.searching = true → exec (.referenceLoss fine) s = .next u.dropCommit.abandonSearch)) ∧
  ((s.tc ≤ 1 ∨ s.timing.phase = 1) → exec (.referenceLoss fine) s = .next s) ∧
  (s.on TC_STATUS_LOCK = true → s.unlockMasked = false →
    exec (.lockLoss fine) s = .next ((s.bump TC_COUNT_UNLOCK_COUNT).startCoast false fine)) ∧
  (s.on TC_STATUS_LOCK = true → s.unlockMasked = true → exec (.lockLoss fine) s = .next s) ∧
  (s.on TC_STATUS_LOCK = false → s.tc = 5 → s.timing.byRef = true → 5 * (s.frame.up - s.timing.coastUp) < s.refFifths →
    exec (.lockLoss fine) s = .next
      { s.bump TC_COUNT_UNLOCK_COUNT with timing := { s.timing with byRef := false } }) ∧
  (∀ u : State, u = s.startCoast true fine → u.tc = 5 ∧ u.on TC_STATUS_LOCK = false ∧ u.timing.commit = none ∧ u.time.coast = true ∧
    u.timing.coastUp = s.frame.up ∧ (s.timing.commit.isSome = true → u.on TC_STATUS_DIV_DISCARD = true)) ∧
  (s.tc = 5 → s.refPresent = true →
    exec (.referenceQualified false offset) s = .next (s.set TC_STATUS_REF_OFF_FREQ 1)) ∧
  (s.tc = 5 → s.refPresent = true → -2 ^ 31 ≤ offset → offset < 2 ^ 31 →
    ∃ t : State, exec (.referenceQualified true offset) s = .next t ∧ t.tc = 6 ∧ t.get TC_STATUS_REF_OFF_FREQ = 0 ∧
      t.getI TC_COAST_RELOCK_OFFSET = offset ∧ t.timing.loop.theta = offset ∧ t.get TC_STATUS_BW = s.wantedBw ∧ t.lanes = s.lanes) ∧
  (s.tc = 6 → exec .relockTimeout s = .next ((s.set TC_STATUS_STATE 5).bump TC_COUNT_RELOCK_ABORTS))) ∧
  (∀ (s : State) (tdc err : Int), Safety.wf s = true →
  (s.tc = 6 →
    ∃ t : State, exec .relockLock s = .next t ∧ t.get TC_STATUS_LOCK = 1 ∧ t.tc = 4 ∧ t.on TC_STATUS_TRIM_ACTIVE = false ∧
      t.timing = s.timing ∧ t.lanes = s.lanes ∧
      t.mode.next = if s.modeNow = modeHoldover then some (modeService, 5, s.frame.ticks + 1) else s.mode.next) ∧
  (s.tc = 5 → s.on TC_CONTROL_TRIM_EN = true → s.blockLocked (2 * (1 - s.timingPort)) = true → s.trimError tdc = some err →
    ∃ t : State, exec (.trimWindowEnd tdc) s = .next t.judgeFerr ∧
      (t.fine : Int) = clampInt 0 65535 ((s.fine : Int) +
        roundDiv (-(clampInt (-256000) 256000 err) * 6) (s.get TC_DCO_KDCO)) ∧ t.on TC_STATUS_TRIM_ACTIVE = true ∧
      t.timing.trimFirst = none ∧ t.timing.trimLast = none ∧ t.lanes = s.lanes ∧
      t.get TC_COAST_FERR_EST = ((roundDiv err.natAbs 256).toNat + 20) % 2 ^ (TC_COAST_FERR_EST.hi + 1 - TC_COAST_FERR_EST.lo)) ∧
  (s.trimError tdc = none →
    exec (.trimWindowEnd tdc) s = .next { s with timing := {
      s.timing with trimFirst := none, trimLast := none, trimUp := s.frame.up } }) ∧
  (s.coasting = true → 0 < s.get TC_COAST_LIMIT_LIMIT → 1000 * s.get TC_COAST_LIMIT_LIMIT < s.coastTime →
    s.timing.coastRaised = false →
    exec .coastLimitExceeded s = .next (({ s with timing := { s.timing with coastRaised := true } } : State).raise 16 unitDevice)) ∧
  (s.coastTime ≤ 1000 * s.get TC_COAST_LIMIT_LIMIT → exec .coastLimitExceeded s = .next s))

/-- Recentring, tracking steps, a divider commit in force and phase steps. Derived from 02_timing_synthesiser.md,
07_time_and_timestamps.md. -/
def Obligations.DividerSteps : Prop :=
  ∀ (s : State) (f : Nat), Safety.wf s = true → f < 65536 →
  (s.on TC_STATUS_LOCK = true → s.timing.commit = none → centred f = false →
    (40959 < f → s.get TC_DCO_MEDIUM < 63 →
      ∃ t : State, exec (.recentre f) s = .next t ∧ t.get TC_DCO_MEDIUM = s.get TC_DCO_MEDIUM + 1 ∧
        t.get TC_DCO_MEDIUM_s01 = s.get TC_DCO_MEDIUM + 1 ∧ t.get TC_DCO_COARSE = s.get TC_DCO_COARSE ∧
        (t.fine : Int) = clampInt 0 65535 ((f : Int) - s.get TC_DCO_MED_STEP) ∧ t.frame.up = s.pulsesOver ∧ t.lanes = s.lanes) ∧
    (f < 24576 → 0 < s.get TC_DCO_MEDIUM →
      ∃ t : State, exec (.recentre f) s = .next t ∧ t.get TC_DCO_MEDIUM = s.get TC_DCO_MEDIUM - 1 ∧
        t.get TC_DCO_MEDIUM_s01 = s.get TC_DCO_MEDIUM - 1 ∧ t.get TC_DCO_COARSE = s.get TC_DCO_COARSE ∧
        (t.fine : Int) = clampInt 0 65535 ((f : Int) + s.get TC_DCO_MED_STEP) ∧ t.frame.up = s.pulsesOver ∧ t.lanes = s.lanes) ∧
    (40959 < f → s.get TC_DCO_MEDIUM = 63 → s.get TC_DCO_COARSE < 255 →
      ∃ t : State, exec (.recentre f) s = .next t ∧ t.get TC_DCO_MEDIUM = 32 ∧ t.get TC_DCO_COARSE = s.get TC_DCO_COARSE + 1 ∧
        t.get TC_DCO_COARSE_s01 = s.get TC_DCO_COARSE + 1 ∧ t.lanes = s.lanes) ∧
    (f < 24576 → s.get TC_DCO_MEDIUM = 0 → 0 < s.get TC_DCO_COARSE →
      ∃ t : State, exec (.recentre f) s = .next t ∧ t.get TC_DCO_MEDIUM = 32 ∧ t.get TC_DCO_COARSE = s.get TC_DCO_COARSE - 1 ∧
        t.get TC_DCO_COARSE_s01 = s.get TC_DCO_COARSE - 1 ∧ t.lanes = s.lanes) ∧
    (∃ t : State, exec (.recentre f) s = .next t ∧ t.get TC_COUNT_RECENTRE_COUNT =
      satAdd (TC_COUNT_RECENTRE_COUNT.hi + 1 - TC_COUNT_RECENTRE_COUNT.lo) (s.get TC_COUNT_RECENTRE_COUNT) 1)) ∧
  (s.on TC_STATUS_LOCK = true → s.timing.commit.isSome = true → centred f = false → s.applyDiv.on TC_STATUS_LOCK = true →
    exec (.recentre f) s = exec (.recentre f) s.applyDiv) ∧
  ((s.on TC_STATUS_LOCK = false ∨ centred f = true) → exec (.recentre f) s = .next s) ∧
  (s.on TC_CONTROL_DIV_MODE = true → s.on TC_STATUS_LOCK = true → s.offsetLsb < lsbOf s.prescale (s.getI TC_TRACK_TARGET) →
    exec .trackRampStep s = .next ((s.setDiv s.prescale (s.ratio + 1)).reportTrack)) ∧
  (s.on TC_CONTROL_DIV_MODE = true → s.on TC_STATUS_LOCK = true → lsbOf s.prescale (s.getI TC_TRACK_TARGET) < s.offsetLsb →
    exec .trackRampStep s = .next ((s.setDiv s.prescale (s.ratio - 1)).reportTrack)) ∧
  (s.offsetLsb = lsbOf s.prescale (s.getI TC_TRACK_TARGET) → exec .trackRampStep s = .next s) ∧
  (∀ (pre new : Nat) (r : Option Nat), s.timing.commit = some (pre, r) → new = r.getD (s.trackRatio pre) → pre < 3 →
    new < 128 * 16777215 →
    ∃ t : State, t.timing.commit = none ∧ t.prescale = pre ∧ t.ratio = new ∧ t.get TC_STATUS_PRESCALE = pre ∧
      t.frame.up = s.pulsesOver ∧ t.timing.loop.edge = some s.pulsesOver ∧ t.lanes = s.lanes ∧
      exec .divCommitApply s = .next (if s.modeNow = modeBoot ∧ s.on TC_STATUS_LOCK = true ∧
        beyond20 (dcoUnits s.prescale s.ratio) (dcoUnits pre new) = true then t.relockStored else t)) ∧
  (s.timing.commit = none → exec .divCommitApply s = .next s) ∧
  (s.mayStep = true → s.getI TC_PHASE_PENDING_PENDING ≠ 0 →
    ∃ t : State, exec .phaseStep s = .next t.judgeOffset ∧
      (∀ d : Int, d = (if s.getI TC_PHASE_PENDING_PENDING < 0 then -1 else 1) → t.time.steps = s.time.steps + d ∧
        t.getI TC_PHASE_PENDING_PENDING = s.getI TC_PHASE_PENDING_PENDING - d) ∧
      t.timing.loop.pulses = (s.timing.loop.pulses.filter fun p => s.frame.up < p.endUp) ++ t.timing.loop.pulses.drop
        (s.timing.loop.pulses.filter fun p => s.frame.up < p.endUp).length ∧
      t.timing.loop.pulses.length = (s.timing.loop.pulses.filter fun p => s.frame.up < p.endUp).length + 1 ∧ t.lanes = s.lanes) ∧
  (s.mayStep = false → exec .phaseStep s = .next s)

/-- Clock source switch, link clock settings, clock enables and spread spectrum: accepted and refused writes, and the
switch that completes. Derived from 03_clocks_and_drive_synthesiser.md, 11_boot_and_modes.md. -/
def Obligations.ClockTree : Prop :=
  (∀ (s : State) (w : Wr) (d : Nat), Safety.wf s = true →
  (Safety.admits s w 0x2201 0 = true → (Safety.valueOf s w 0x2201 0).bits 0 0 = 1 →
    (s.on CK_STATUS_SWITCH_BUSY = false → s.on CK_STATUS_SRC = false → s.on CK_STATUS_READY_SEEN = true →
      s.on TC_STATUS_CLK_READY = true →
      exec (.sourceSwitch w) s = .next (Safety.served (s.set CK_STATUS_SWITCH_BUSY 1) w.q 0x2201 0 stLater)) ∧
    (s.on CK_STATUS_SWITCH_BUSY = false → s.on CK_STATUS_SRC = true →
      exec (.sourceSwitch w) s = .next (Safety.served s w.q 0x2201 0 stOk)) ∧
    ((s.on CK_STATUS_SWITCH_BUSY = true ∨ (s.on CK_STATUS_SRC = false ∧ (s.on CK_STATUS_READY_SEEN = false ∨
        s.on TC_STATUS_CLK_READY = false))) →
      exec (.sourceSwitch w) s = .next ((s.bump CK_COUNT_SWITCH_REFUSED).answerWrite w.q 0x2201 0 stState))) ∧
  (∀ v, v = Safety.valueOf s w 0x2202 0 → Safety.admits s w 0x2202 0 = true →
    (v.bits 2 0 ≠ 0 → (s.on CK_STATUS_SRC = true ∨ s.on CK_STATUS_SWITCH_BUSY = true) →
      exec (.linkCfgWrite w) s = .next (Safety.served (s.setWord 0x2202 0 v) w.q 0x2202 0 stOk)) ∧
    (v.bits 2 0 ≠ 0 → s.on CK_STATUS_SRC = false → s.on CK_STATUS_SWITCH_BUSY = false →
      exec (.linkCfgWrite w) s = .next (Safety.served
        { s.setWord 0x2202 0 v with clocks := { s.clocks with link := v } } w.q 0x2202 0 stOk)) ∧
    (v.bits 2 0 = 0 → exec (.linkCfgWrite w) s = .next (s.answerWrite w.q 0x2202 0 stRange))) ∧
  (∀ v, v = Safety.valueOf s w 0x2210 d → Safety.admits s w 0x2210 d = true →
    (v.bits 0 0 = 0 → s.mayStopClock d w.q.port = false →
      exec (.clockEnableWrite d w) s = .next (s.answerWrite w.q 0x2210 d stState)) ∧
    ((v.bits 0 0 = 1 ∨ s.mayStopClock d w.q.port = true) →
      (usesEclk d = true →
        exec (.clockEnableWrite d w) s = .next (Safety.served (s.defer 0x2210 d v) w.q 0x2210 d stDeferred)) ∧
      (usesEclk d = false → s.wakingDom d = true →
        exec (.clockEnableWrite d w) s = .next (Safety.served (s.setWord 0x2210 d v) w.q 0x2210 d stOk)) ∧
      (usesEclk d = false → s.wakingDom d = false →
        exec (.clockEnableWrite d w) s = .next (Safety.served (s.setBoth 0x2210 d v).gateStops w.q 0x2210 d stOk)))) ∧
  (∀ v, v = Safety.valueOf s w 0x2101 0 → Safety.admits s w 0x2101 0 = true →
    (v.bits 9 8 ≠ 3 → v.bits 5 0 ≤ 50 →
      exec (.sscWrite w) s = .next (Safety.served
        { s.setWord 0x2101 0 v with clocks := { s.clocks with ssc := true } } w.q 0x2101 0 stOk)) ∧
    ((v.bits 9 8 = 3 ∨ 50 < v.bits 5 0) → exec (.sscWrite w) s = .next (s.answerWrite w.q 0x2101 0 stRange)))) ∧
  (∀ (s : State) (q : Rq) (b : Bulk), Safety.wf s = true →
  (s.get BT_STATUS_STATE = 5 → s.running 0x1C = true → s.on TC_STATUS_CLK_READY = true → s.on CK_STATUS_SRC = false →
    s.on CK_STATUS_SWITCH_BUSY = false →
    exec .imageSourceSwitch s = .next ((s.set CK_STATUS_READY_SEEN 1).set CK_STATUS_SWITCH_BUSY 1)) ∧
  (s.on CK_STATUS_SRC = true → exec .imageSourceSwitch s = .next s) ∧
  (s.on CK_STATUS_SWITCH_BUSY = true → s.clocks.owed = none →
    ∃ t : State, t.on CK_STATUS_SRC = true ∧ t.on CK_STATUS_SWITCH_BUSY = false ∧ t.on CK_STATUS_FALLBACK = false ∧
      t.get CK_COUNT_SWITCH_COUNT = satAdd (CK_COUNT_SWITCH_COUNT.hi + 1 - CK_COUNT_SWITCH_COUNT.lo) (s.get CK_COUNT_SWITCH_COUNT) 1 ∧
      t.clocks.reply = none ∧ t.lanes = s.lanes ∧
      (s.clocks.reply = none → exec .sourceSwitchDone s = .next t.goOn) ∧
      (s.clocks.reply = some { q := q, bulk := none } →
        exec .sourceSwitchDone s = .next (t.answerWrite q 0x2201 0 stOk).goOn) ∧
      (s.clocks.reply = some { q := q, bulk := some b } →
        exec .sourceSwitchDone s = .next (t.answerBulk q b.status b).goOn)) ∧
  (s.on CK_STATUS_SWITCH_BUSY = false → s.clocks.owed = some { q := q, bulk := none } →
    exec .sourceSwitchDone s = .next
      (({ s with clocks := { s.clocks with owed := none } } : State).answerWrite q 0x2201 0 stOk).goOn))

/-- The drive synthesiser: start, phases, the move of PDM after lock, a new start, loss of lock and spread spectrum.
Derived from 03_clocks_and_drive_synthesiser.md. -/
def Obligations.DriveSynthesiser : Prop :=
  ∀ (s : State) (coarse t : Nat), Safety.wf s = true →
  (s.clocked 0x1B = true → s.on TC_STATUS_CLK_READY = true → s.get DS_STATUS_STATE = 0 →
    exec .dsStart s = .next (s.dsBegin 1)) ∧
  (s.clocks.dsPhase = 1 →
    exec (.dsPhaseEnd coarse) s = .next
      { s with clocks := { s.clocks with dsPhase := if s.clocks.dsStored then 3 else 2 } }) ∧
  (s.clocks.dsPhase = 2 →
    exec (.dsPhaseEnd coarse) s = .next { s.set DS_DCO_COARSE coarse with
      clocks := { s.clocks with dsPhase := 3, dsStored := true } }) ∧
  (s.clocks.dsPhase = 3 → exec (.dsPhaseEnd coarse) s = .next { s with clocks := { s.clocks with dsPhase := 4 } }) ∧
  (s.clocks.dsPhase = 4 →
    ∃ u : State, exec (.dsPhaseEnd coarse) s = .next u ∧ u.on DS_STATUS_LOCK = true ∧ u.get DS_STATUS_STATE = 2 ∧
      u.clocks.pdmTick = some (s.frame.ticks + 1) ∧ u.clocks.dsPhase = 0) ∧
  (s.clocks.dsPhase = 4 →
    exec .dsStartTimeout s = .next { s with clocks := { s.clocks with dsPhase := 1, dsStored := false } }) ∧
  (s.clocks.pdmTick = some t → t ≤ s.frame.ticks →
    ∃ u : State, exec .pdmSourceMove s = .next u ∧ u.on DS_STATUS_BACKUP = false ∧ u.on DS_STATUS_READY = true ∧
      u.clocks.pdmTick = none ∧ u.clocks.sscUp = s.frame.up ∧ u.on DS_STATUS_SSC_ACTIVE = decide (s.get DS_STATUS_SSC_MODE ≠ 0)) ∧
  (s.clocks.pdmTick = some t → s.frame.ticks < t → exec .pdmSourceMove s = .next s) ∧
  (s.on DS_STATUS_LOCK = true → s.on DS_STATUS_READY = false →
    exec .dsLockLoss s = .next
      ((((s.set DS_STATUS_LOCK 0).set DS_STATUS_READY 0).set DS_STATUS_SSC_ACTIVE 0).dsBegin 3)) ∧
  (s.on DS_STATUS_LOCK = true → s.on DS_STATUS_READY = true →
    exec .dsLockLoss s = .next
      (((((((s.set DS_STATUS_LOCK 0).set DS_STATUS_READY 0).set DS_STATUS_SSC_ACTIVE 0).dsBegin 3).bump
        DS_COUNT_UNLOCK_COUNT).bump DS_COUNT_BACKUP_COUNT).raise 18 unitDevice)) ∧
  (s.clocks.ssc = true → s.on DS_STATUS_READY = true → s.sscNow = 0 →
    ∃ u : State, exec .sscChangeApply s = .next u ∧ u.get DS_STATUS_SSC_MODE = s.get DS_CONTROL_SSC_MODE ∧
      u.get DS_STATUS_SSC_DEPTH = s.get DS_CONTROL_SSC_DEPTH ∧ u.clocks.ssc = false ∧ u.clocks.sscUp = s.frame.up) ∧
  (s.sscNow ≠ 0 → exec .sscChangeApply s = .next s)

/-- A tick begins the next frame, with a correction or step where one is due; the slack window begins at its place.
Derived from 01_architecture_and_frame.md, 07_time_and_timestamps.md. -/
def Obligations.FrameTickBeginsTheFrame : Prop :=
  ∀ (s : State) (errs : FrameErrs) (late : List Nat),
  (s.frame.running = true →
    ∃ t : State, exec (.frameTick errs) s = .next t ∧ t.frame.frame = s.nextFrame.1 ∧ t.frame.tc = 0 ∧ t.frame.slack = false ∧
      t.frame.ticks = s.frame.ticks + 1 ∧ t.frame.up = s.frame.up + (3000 - s.frame.tc)) ∧
  (s.frame.running = false → exec (.frameTick errs) s = .next s) ∧
  (s.time.setDelta = none → s.time.step = none → s.nextFrame.1 = s.frame.frame + 1) ∧
  (∀ d : Int, s.frame.running = true → s.time.setDelta = some d →
    ∃ t : State, exec (.timeSet errs) s = .next t ∧
      t.frame.frame = ((s.frame.frame : Int) + 1 + roundDiv d 1000000).toNat ∧ t.frame.tc = 0 ∧ t.time.setDelta = none) ∧
  (∀ (f : Nat) (n : Int), s.frame.running = true → s.time.setDelta = none → s.time.step = some (s.frame.frame + 1, n) →
    f = s.frame.frame + 1 →
    ∃ t : State, exec (.timeStep errs) s = .next t ∧ t.frame.frame = ((f : Int) + n).toNat ∧ t.frame.tc = 0 ∧ t.time.step = none) ∧
  (s.frame.running = true → s.frame.slack = false →
    ∃ t : State, exec (.slackWindow late) s = .next t.goOn ∧ t.frame.slack = true ∧ t.deferred = [] ∧
      t.frame.tc = max s.slackStart s.frame.tc) ∧
  (s.frame.slack = true → exec (.slackWindow late) s = .next s)

/-- Monitor samples enter their sums, pilot updates write pilot values only, and a window boundary runs once. Derived
from 04_element_loops.md, 01_architecture_and_frame.md. -/
def Obligations.MonitorAndPilot : Prop :=
  ∀ (s : State) (m k code : Nat), Safety.wf s = true →
  (m < 1024 → k < 5 → s.frame.running = true → s.monStopped (m / 256) = false → s.frame.tc ≤ 75 * (m % 8) + 600 * k → 
    (k < 4 →
      ∃ t : State, exec (.monitorSample m k code) s = .next t ∧ t.objs = s.objs ∧
        (t.mon m).sum = (s.mon m).sum + (if (s.mon m).cal then (s.mon m).last else s.sampleMu m (code % 16384)) ∧
        (t.mon m).count = (s.mon m).count + 1 ∧ t.frame.tc = 75 * (m % 8) + 600 * k) ∧
    (k = 4 → s.frame.frame % s.window = s.window - 1 →
      ∃ t : State, exec (.monitorSample m k code) s = .next t ∧ (t.mon m).sum = 0 ∧ (t.mon m).count = 0 ∧
        (t.mon m).whole = decide ((s.mon m).count + 1 = 5 * s.window))) ∧
  (k < 5 → s.frame.running = true → s.frame.tc ≤ 600 * k →
    ∃ t : State, exec (.pilotUpdate k) s = .next t ∧ t.objs = s.objs ∧ t.force = s.force ∧ t.mons = s.mons ∧ t.commit = s.commit ∧
      t.frame.tc = 600 * k) ∧
  (s.onBoundary = true → s.frame.bound = false →
    exec .loopWindowBoundary s = .next (s.windowBoundary s.frame.tide) ∧ (s.windowBoundary s.frame.tide).frame.bound = true ∧
      (s.windowBoundary s.frame.tide).frame.frame = s.frame.frame) ∧
  (s.frame.bound = true → exec .loopWindowBoundary s = .next s)

/-- CMD OFF, PARK, RUN, COAST, RESUME and CLEAR: what each accepted command leaves, and what refuses them. Derived from
04_element_loops.md. -/
def Obligations.LaneCommands : Prop :=
  (∀ (s : State) (q : Rq) (e : Nat) (ecc : EccOutcome), Safety.wf s = true → s.surveying = false → (s.lane e).act = none →
  (Safety.admits s (cmdWrite q 0) 0x4000 e = true → (s.lane e).st ≠ .off →
    exec (.cmdOff q e) s = .next (Safety.served
      ((s.setLane e { s.lane e with act := some .off }).defer 0x4000 e (Safety.valueOf s (cmdWrite q 0) 0x4000 e))
      q 0x4000 e stDeferred)) ∧
  (Safety.admits s (cmdWrite q 1) 0x4000 e = true → (s.htrUsed e = true ∨ s.eoUsed e = true) →
    (s.lane e).st ≠ .park → (s.lane e).st ≠ .fault →
    ((s.lane e).st = .off → s.laneFits e = true →
      exec (.cmdPark q e) s = .next (Safety.served
        ((s.setLane e { s.lane e with act := some .park }).defer 0x4000 e (Safety.valueOf s (cmdWrite q 1) 0x4000 e))
        q 0x4000 e stDeferred)) ∧
    ((s.lane e).st ≠ .off →
      exec (.cmdPark q e) s = .next (Safety.served
        ((s.setLane e { s.lane e with cmd := some .park }).setWord 0x4000 e (Safety.valueOf s (cmdWrite q 1) 0x4000 e))
        q 0x4000 e stOk))) ∧
  (Safety.admits s (cmdWrite q 2) 0x4000 e = true → s.htrUsed e = true → s.rd LP_MON_ASSIGNED e = 1 →
    ((s.lane e).st = .park →
      exec (.cmdRun q e ecc) s = .next (Safety.served
        (((s.fetchEntry e ecc).setLane e { (s.fetchEntry e ecc).lane e with cmd := some .acquire }).setWord 0x4000 e
          (Safety.valueOf s (cmdWrite q 2) 0x4000 e)) q 0x4000 e stOk)) ∧
    ((s.lane e).st = .off → s.laneFits e = true →
      exec (.cmdRun q e ecc) s = .next (Safety.served
        (((s.fetchEntry e ecc).setLane e { (s.fetchEntry e ecc).lane e with act := some .acquire }).defer 0x4000 e
          (Safety.valueOf s (cmdWrite q 2) 0x4000 e)) q 0x4000 e stDeferred))) ∧
  (Safety.admits s (cmdWrite q 3) 0x4000 e = true → (s.htrUsed e = true ∨ s.eoUsed e = true) → (s.lane e).st.listens = true →
    exec (.cmdCoast q e) s = .next (Safety.served
      ((s.setLane e { s.lane e with cmd := some (if (s.lane e).cmd = some .park then .park else .coast) }).setWord 0x4000 e
        (Safety.valueOf s (cmdWrite q 3) 0x4000 e))
      q 0x4000 e stOk)) ∧
  (Safety.admits s (cmdWrite q 4) 0x4000 e = true → (s.htrUsed e = true ∨ s.eoUsed e = true) →
    (s.lane e).st = .coast → (s.lane e).hostCoast = true →
    exec (.cmdResume q e) s = .next (Safety.served
      ((s.setLane e { s.lane e with hostCoast := false, resume := true }).setWord 0x4000 e
        (Safety.valueOf s (cmdWrite q 4) 0x4000 e)) q 0x4000 e stOk)) ∧
  (Safety.admits s (cmdWrite q 5) 0x4000 e = true → (s.htrUsed e = true ∨ s.eoUsed e = true) →
    (s.lane e).st = .fault → (s.lane e).openPersists = false →
    ∃ u : State, exec (.cmdClear q e) s = .next (Safety.served (u.setWord 0x4000 e (Safety.valueOf s (cmdWrite q 5) 0x4000 e)) q 0x4000 e stOk) ∧
      u.objs = s.objs ∧ (  (u.lane e).cmd = some .park ∧ (u.lane e).st = .fault ∧
        (u.lane e).htrOpen = false ∧ (u.lane e).htrShort = false ∧ (u.lane e).eoComp = false ∧ (u.lane e).memErr = false ∧
        (∀ o, o ≠ e → u.lane o = s.lane o)))) ∧
  (∀ (s : State) (q : Rq) (e : Nat) (ecc : EccOutcome), Safety.wf s = true →
  (Safety.admits s (cmdWrite q 0) 0x4000 e = true →
    ((s.lane e).st = .off → exec (.cmdOff q e) s = .next (s.answerWrite q 0x4000 e stState)) ∧
    ((s.lane e).act = none → (s.lane e).st ≠ .off → s.surveying = true →
      exec (.cmdOff q e) s = .next (s.answerWrite q 0x4000 e stMode))) ∧
  (Safety.admits s (cmdWrite q 1) 0x4000 e = true →
    (s.htrUsed e = false → s.eoUsed e = false → exec (.cmdPark q e) s = .next (s.answerWrite q 0x4000 e stProfile)) ∧
    ((s.htrUsed e = true ∨ s.eoUsed e = true) → ((s.lane e).act ≠ none ∨ (s.lane e).st = .park ∨ (s.lane e).st = .fault) →
      exec (.cmdPark q e) s = .next (s.answerWrite q 0x4000 e stState)) ∧
    ((s.htrUsed e = true ∨ s.eoUsed e = true) → (s.lane e).act = none → (s.lane e).st = .off → s.surveying = false →
      s.laneFits e = false → exec (.cmdPark q e) s = .next (s.answerWrite q 0x4000 e stBudget))) ∧
  (Safety.admits s (cmdWrite q 2) 0x4000 e = true →
    (s.htrUsed e = false → exec (.cmdRun q e ecc) s = .next (s.answerWrite q 0x4000 e stProfile)) ∧
    (s.htrUsed e = true → (s.lane e).act = none → (s.lane e).st = .park → s.surveying = false → s.rd LP_MON_ASSIGNED e = 0 →
      exec (.cmdRun q e ecc) s = .next (s.answerWrite q 0x4000 e stRouting))) ∧
  (Safety.admits s (cmdWrite q 3) 0x4000 e = true → (s.htrUsed e = true ∨ s.eoUsed e = true) → (s.lane e).st.listens = false →
    exec (.cmdCoast q e) s = .next (s.answerWrite q 0x4000 e stState)) ∧
  (Safety.admits s (cmdWrite q 4) 0x4000 e = true → (s.htrUsed e = true ∨ s.eoUsed e = true) → (s.lane e).hostCoast = false →
    exec (.cmdResume q e) s = .next (s.answerWrite q 0x4000 e stState)) ∧
  (Safety.admits s (cmdWrite q 5) 0x4000 e = true → (s.htrUsed e = true ∨ s.eoUsed e = true) →
    ((s.lane e).st ≠ .fault ∨ (s.lane e).openPersists = true) →
    exec (.cmdClear q e) s = .next (s.answerWrite q 0x4000 e stState)))

/-- Monitor assignment, window length, set-point, electro-optic code and detector configuration: accepted and refused.
Derived from 04_element_loops.md, 07_time_and_timestamps.md, 00_scope.md. -/
def Obligations.LaneWrites : Prop :=
  ∀ (s : State) (w : Wr) (e : Nat), Safety.wf s = true →
  (∀ v, v = Safety.valueOf s w 0x4003 e → Safety.admits s w 0x4003 e = true →
    ((s.lane e).st = .off ∨ (s.lane e).st = .park) → s.surveying = false →
    (v.bits 25 16 / 256 = quadOf e → (∀ o ∈ s.activeLanes, o ≠ e → s.rd LP_MON_ASSIGNED o = 1 →
        s.rd LP_MON_MON o = v.bits 25 16 → s.rd LP_MON_SLOT o ≠ v.bits 3 0) →
      (∀ n ∈ s.windows, slotUsable (v.bits 3 0) n = true) →
      exec (.monitorAssign e w) s = .next (Safety.served (s.defer 0x4003 e v) w.q 0x4003 e stDeferred)) ∧
    (v.bits 25 16 / 256 ≠ quadOf e →
      exec (.monitorAssign e w) s = .next (s.answerWrite w.q 0x4003 e stRouting)) ∧
    (v.bits 25 16 / 256 = quadOf e → (∃ o ∈ s.activeLanes, o ≠ e ∧ s.rd LP_MON_ASSIGNED o = 1 ∧
        s.rd LP_MON_MON o = v.bits 25 16 ∧ s.rd LP_MON_SLOT o = v.bits 3 0) →
      exec (.monitorAssign e w) s = .next (s.answerWrite w.q 0x4003 e stSlot))) ∧
  (∀ v, v = Safety.valueOf s w 0x3000 0 → Safety.admits s w 0x3000 0 = true → s.surveying = false →
    (v.bits 1 0 = s.get LP_WINDOW_W →
      exec (.windowLengthWrite w) s = .next (Safety.served
        ((s.set LP_WINDOW_PENDING 0).set LP_WINDOW_W_PENDING 0) w.q 0x3000 0 stOk)) ∧
    (v.bits 1 0 ≠ s.get LP_WINDOW_W → (s.on LP_WINDOW_PENDING = false ∨ v.bits 1 0 ≠ s.get LP_WINDOW_W_PENDING) →
      s.allFit [4 * 2 ^ v.bits 1 0] s.levels = true →
      (∀ o ∈ s.activeLanes, s.rd LP_MON_ASSIGNED o = 1 → slotUsable (s.rd LP_MON_SLOT o) (4 * 2 ^ v.bits 1 0) = true) →
      exec (.windowLengthWrite w) s = .next (Safety.served
        ((s.set LP_WINDOW_PENDING 1).set LP_WINDOW_W_PENDING (v.bits 1 0)) w.q 0x3000 0 stDeferred))) ∧
  (Safety.admits s w 0x400A e = true → (s.lane e).st ≠ .fault →
    ((Safety.valueOf s w 0x400A e).bits 23 0 ≠ 0x800000 →
      exec (.setpointWrite e w) s = .next (Safety.served (s.setWord 0x400A e (Safety.valueOf s w 0x400A e)) w.q 0x400A e stOk)) ∧
    ((Safety.valueOf s w 0x400A e).bits 23 0 = 0x800000 →
      exec (.setpointWrite e w) s = .next (s.answerWrite w.q 0x400A e stRange))) ∧
  (Safety.admits s w 0x4009 e = true →
    (s.eoUsed e = true →
      exec (.eoCodeWrite e w) s = .next (Safety.served
        (s.setLane e { s.lane e with eoHost := some ((Safety.valueOf s w 0x4009 e).bits 9 0) }) w.q 0x4009 e stOk)) ∧
    (s.eoUsed e = false → exec (.eoCodeWrite e w) s = .next (s.answerWrite w.q 0x4009 e stProfile))) ∧
  (Safety.admits s w 0x4C00 e = true →
    (s.limitsOk 0x4C00 e (Safety.valueOf s w 0x4C00 e) = true →
      exec (.pdConfigWrite e w) s = .next (Safety.served (s.wPdCfg e (Safety.valueOf s w 0x4C00 e)) w.q 0x4C00 e stOk) ∧
        (s.wPdCfg e (Safety.valueOf s w 0x4C00 e)).word 0x4C00 e = (s.store 0x4C00 e (Safety.valueOf s w 0x4C00 e)).word 0x4C00 e) ∧
    (s.limitsOk 0x4C00 e (Safety.valueOf s w 0x4C00 e) = false →
      exec (.pdConfigWrite e w) s = .next (s.answerWrite w.q 0x4C00 e stRange)))

/-- Heater currents outside their limits and the electro-optic compliance fault the lane; others set the cap. Derived
from 04_element_loops.md. -/
def Obligations.LaneFaults : Prop :=
  ∀ (s : State) (e ua : Nat), Safety.wf s = true → e < 4096 →
  ((s.lane e).st ≠ .off → (s.lane e).h ≠ 0 → s.htrUsed e = true →
    (1500 ≤ ua → ua ≤ 30000 → 
      ∃ t : State, exec (.heaterCurrentMeasure e ua) s = .next t ∧ t.objs = s.objs ∧ (t.lane e).st = (s.lane e).st ∧
        (t.lane e).cap = some (12000 * 65536 / ua) ∧ (t.lane e).on = some ua ∧ ∀ o, o ≠ e → t.lane o = s.lane o) ∧
    ((s.lane e).htrOpen = false → ua < 1500 →
      exec (.heaterCurrentMeasure e ua) s = .next
        (((s.setLane e { s.lane e with on := some ua }).faultLane e fun l => { l with htrOpen := true }).raise (32 + quadOf e) e)) ∧
    (30000 < ua →
      exec (.heaterCurrentMeasure e ua) s = .next
        (((s.setLane e { s.lane e with on := some ua }).faultLane e fun l => { l with htrShort := true }).raise (32 + quadOf e) e))) ∧
  (((s.lane e).st = .off ∨ (s.lane e).h = 0 ∨ s.htrUsed e = false) → exec (.heaterCurrentMeasure e ua) s = .next s) ∧
  ((s.lane e).st ≠ .off → (s.lane e).st ≠ .fault → s.eoUsed e = true → (s.lane e).kicking s.frame.up = false →
    exec (.eoComplianceFault e) s = .next
      ((s.faultLane e fun l => { l.eoZero s.frame.up (s.frame.up + 6) with eoComp := true }).raise (36 + quadOf e) e)) ∧
  ((s.lane e).kicking s.frame.up = true → exec (.eoComplianceFault e) s = .next s)

/-- The learning interval's end forms the refined value, and the slack window stores it in the entry. Derived from
06_survey_and_calibration.md. -/
def Obligations.Learning : Prop :=
  ∀ (s : State) (e c : Nat) (n : Int), Safety.wf s = true → e < 4096 → s.context e = some c →  
  (s.mayLearn = true → (s.lane e).st = .track → s.get SV_LEARN_WINDOWS ≤ (s.lane e).learnWins → 0 < (s.lane e).learnWins →
    ∃ t : State, exec (.learnIntervalEnd e) s = .next t ∧ t.objs = s.objs ∧ t.commit = s.commit ∧ (t.lane e).learnWins = 0 ∧
      (t.lane e).learned = some (c, entryValue (s.entry (32 * e + c)) +
        roundDiv ((s.lane e).learnSum - entryValue (s.entry (32 * e + c)) * ((s.lane e).learnWins * s.window : Nat))
          ((s.lane e).learnWins * s.window * 2 ^ s.get SV_LEARN_SHIFT))) ∧
  (s.mayLearn = true → (s.lane e).learned = some (c, n) → s.frame.slack = true →
    ∃ t : State, exec (.learnedWrite e) s = .next t ∧ t.entry (32 * e + c) = s.learnedEntry e (s.entry (32 * e + c)) n ∧
      (∀ i, i ≠ 32 * e + c → t.entry i = s.entry i) ∧ (t.lane e).learned = none ∧
      t.get SV_TT_GEN_COUNT = (s.get SV_TT_GEN_COUNT + 1) % 2 ^ 32) ∧
  ((s.mayLearn = false ∨ (s.lane e).st ≠ .track) → exec (.learnIntervalEnd e) s = .next s) ∧
  ((s.mayLearn = false ∨ s.frame.slack = false ∨ (s.lane e).learned = none) → exec (.learnedWrite e) s = .next s)

/-- CM_ARM GO, DISARM and SYNC; arming completes; ring commits arm; a trigger edge executes an armed commit or is
ignored. Derived from 05_tide_table_and_rearrangement.md. -/
def Obligations.Commits : Prop :=
  (∀ (s : State) (q : Rq) (trig force : Bool), Safety.wf s = true →
  (∀ v, v = cmdWrite q (1 + 2 * trig.toNat + 8 * force.toNat) → Safety.admits s v 0x5201 0 = true →
    (Safety.valueOf s v 0x5201 0).bits 0 0 = 1 → (Safety.valueOf s v 0x5201 0).bits 2 2 = 0 →
    (Safety.valueOf s v 0x5201 0).bits 4 4 = 0 → (Safety.valueOf s v 0x5201 0).bits 1 1 = trig.toNat →
    (Safety.valueOf s v 0x5201 0).bits 3 3 = force.toNat →
    ((s.modeNow = modeService ∨ s.modeNow = modeHoldover) → s.get CM_ARMED_STATE = 0 →
      (trig = true ∨ s.frame.frame + 3 ≤ s.get64 0x5203 0) →
      ∃ (a : Arm) (u : State), exec (.armGo q trig force) s = .next (Safety.served (u.armWakes a) q 0x5201 0 stOk) ∧ a.bits = s.shadowBits ∧
        a.target = s.get64 0x5203 0 ∧ a.trig = trig ∧ a.force = force ∧ a.tide = s.commit.tide ∧ a.neigh = s.force ∧
        (a.waits = true ↔ s.get SR_STATUS_STATE = 1) ∧ u.get CM_ARMED_STATE = 1 ∧ u.commit.shadow = some a ∧ u.lanes = s.lanes) ∧
    ((s.modeNow = modeService ∨ s.modeNow = modeHoldover) → s.get CM_ARMED_STATE = 0 → trig = false →
      s.get64 0x5203 0 < s.frame.frame + 3 →
      exec (.armGo q trig force) s = .next (s.answerWrite q 0x5201 0 stRange)) ∧
    ((s.modeNow = modeService ∨ s.modeNow = modeHoldover) → s.get CM_ARMED_STATE ≠ 0 →
      exec (.armGo q trig force) s = .next (s.answerWrite q 0x5201 0 stState)) ∧
    (s.modeNow ≠ modeService → s.modeNow ≠ modeHoldover →
      exec (.armGo q trig force) s = .next (s.answerWrite q 0x5201 0 stMode))) ∧
  (Safety.admits s (cmdWrite q 4) 0x5201 0 = true → (Safety.valueOf s (cmdWrite q 4) 0x5201 0).bits 0 0 = 0 →
    (Safety.valueOf s (cmdWrite q 4) 0x5201 0).bits 2 2 = 1 → (Safety.valueOf s (cmdWrite q 4) 0x5201 0).bits 4 4 = 0 →
    (s.get CM_ARMED_STATE ≠ 0 →
      exec (.armDisarm q) s = .next (Safety.served (((s.endShadow 4).bump CM_DISARMED_COUNT).startWaiting) q 0x5201 0 stOk) ∧
        (s.endShadow 4).commit.shadow = none ∧ (s.endShadow 4).get CM_ARMED_STATE = 0 ∧ (s.endShadow 4).get CM_ARMED_RESULT = 4) ∧
    (s.get CM_ARMED_STATE = 0 → exec (.armDisarm q) s = .next (s.answerWrite q 0x5201 0 stState))) ∧
  (Safety.admits s (cmdWrite q 16) 0x5201 0 = true → (Safety.valueOf s (cmdWrite q 16) 0x5201 0).bits 0 0 = 0 →
    (Safety.valueOf s (cmdWrite q 16) 0x5201 0).bits 2 2 = 0 → (Safety.valueOf s (cmdWrite q 16) 0x5201 0).bits 4 4 = 1 →
    exec (.shadowSync q) s = .next (Safety.served (s.setMask 0x5200 0 136 (s.maskOf 0x5204 0 136)) q 0x5201 0 stOk))) ∧
  (∀ (s : State) (a : Arm) (f : Nat) (xs : List LaneEcc), Safety.wf s = true →
  (s.shadowArming = some a → s.armReady a = true →
    exec (.armingComplete xs) s = .next (s.shadowArmed a xs)) ∧
  (s.shadowArming = some a → s.armReady a = true → (s.commit.ring = none ∨ s.ringArming.isSome = true) →
    ∃ t : State, exec (.armingComplete []) s = .next t ∧ t.get CM_ARMED_STATE = (if a.trig then 3 else 2) ∧
      t.get CM_ARMED_ARM_NS = s.armNs a ∧ t.lanes = s.lanes) ∧
  (s.shadowArming = none → s.ringArming = some a → s.armReady a = true →
    exec (.armingComplete xs) s = .next (s.ringArmed a xs)) ∧
  (s.shadowArming = none → s.ringArming = none → exec (.armingComplete xs) s = .next s) ∧
  (s.commit.ring = none → s.ringNext = some f → (s.modeNow = modeService ∨ s.modeNow = modeHoldover) →
    f ≤ s.frame.frame + 3 → s.frame.frame < f →
    ∃ (b : Arm) (u : State), exec .ringCommitArmStart s = .next (({ u with commit := { u.commit with ring := some b } } : State).armWakes b).voteRose ∧
      b.target = f ∧ b.trig = false ∧ b.due = (s.dueAt f).map Prod.fst ∧ b.waits = s.shadowArming.isSome ∧ u.get SR_STATUS_STATE = 1 ∧
      u.get SR_STATUS_BASIS_CHANGED = 0 ∧ u.commit = s.commit ∧ u.lanes = s.lanes) ∧
  (s.ringNext = none → exec .ringCommitArmStart s = .next s.voteRose) ∧
  (s.frame.running = true →
    (s.commit.shadow = some a → a.trig = true → s.get CM_ARMED_STATE = 3 → s.on CM_TRIG_IN_EN = true →
      ∃ t : State, exec .trigInEdge s = .next t ∧ t.commit.shadow = none ∧ t.frame = s.frame ∧ t.get CM_ARMED_STATE = 0 ∧
        t.get CM_ARMED_RESULT = 1 ∧
        t.get CM_COMMITS_COUNT = satAdd (CM_COMMITS_COUNT.hi + 1 - CM_COMMITS_COUNT.lo) (s.get CM_COMMITS_COUNT) 1) ∧
    ((s.commit.shadow.map Arm.trig ≠ some true ∨ s.get CM_ARMED_STATE ≠ 3 ∨ s.on CM_TRIG_IN_EN = false) →
      exec .trigInEdge s = .next (s.bump CM_TRIG_IGNORED_COUNT))))

/-- Schedule rings: push and flush; the Tide Table window, the neighbour and the coefficient writes. Derived from
05_tide_table_and_rearrangement.md. -/
def Obligations.SchedulesAndTables : Prop :=
  (∀ (s : State) (w : Wr) (e : Nat),
  (∀ (v : Word) (last : Nat), v = Safety.valueOf s w 0x5101 0 → last = ((s.ringOf (v.bits 27 16)).getLast?.map RingEntry.frame).getD 0 →
    Safety.admits s w 0x5101 0 = true →
    (s.frame.frame + 4 ≤ s.get64 0x5100 0 → last < s.get64 0x5100 0 → (v.bits 8 8 = 1 → v.bits 4 4 = v.bits 9 9) →
      ((s.ringOf (v.bits 27 16)).length < 8 →
        exec (.schedulePush w) s = .next (Safety.served (s.setRing (v.bits 27 16) (s.ringOf (v.bits 27 16) ++
          [{ frame := s.get64 0x5100 0, next := decide (v.bits 9 9 = 1),
             ovr := if v.bits 8 8 = 1 then some (v.bits 4 0) else none }])) w.q 0x5101 0 stOk)) ∧
      (8 ≤ (s.ringOf (v.bits 27 16)).length →
        exec (.schedulePush w) s = .next (s.answerWrite w.q 0x5101 0 stState))) ∧
    ((s.get64 0x5100 0 < s.frame.frame + 4 ∨ (s.ringOf (v.bits 27 16) ≠ [] ∧ s.get64 0x5100 0 ≤ last) ∨
        (v.bits 8 8 = 1 ∧ v.bits 4 4 ≠ v.bits 9 9)) →
      exec (.schedulePush w) s = .next (s.answerWrite w.q 0x5101 0 stRange))) ∧
  (Safety.admits s w 0x5105 e = true → (Safety.valueOf s w 0x5105 e).bits 0 0 = 1 →
    exec (.scheduleFlush e w) s = .next (Safety.served (s.setRing e []) w.q 0x5105 e stOk)) ∧
  (Safety.admits s w 0x5106 0 = true → (Safety.valueOf s w 0x5106 0).bits 0 0 = 1 →
    exec (.scheduleFlushAll w) s = .next (Safety.served
      { s with commit := { s.commit with rings := [] } } w.q 0x5106 0 stOk))) ∧
  (∀ (s : State) (w : Wr) (q : Rq) (hi : Bool) (j e st : Nat), Safety.wf s = true →
  (Safety.admits s (cmdWrite q 1) 0x5002 0 = true → (Safety.valueOf s (cmdWrite q 1) 0x5002 0).bits 1 1 = 0 →
    (Safety.valueOf s (cmdWrite q 1) 0x5002 0).bits 0 0 = 1 → s.on TI_STATUS_PENDING = false →
    exec (.ttWindowRead q .clean) s = .next (Safety.served
      ((s.setMask 0x5001 0 4 (s.entry (s.get TT_WIN_INDEX_INDEX)).toNat).windowDone (s.get TT_WIN_INDEX_INDEX) 0) q 0x5002 0 stOk) ∧
    exec (.ttWindowRead q .corrected) s = .next (Safety.served
      (((s.bump TT_ECC_CORRECTED_COUNT).setMask 0x5001 0 4 (s.entry (s.get TT_WIN_INDEX_INDEX)).toNat).windowDone
        (s.get TT_WIN_INDEX_INDEX) 1) q 0x5002 0 stOk)) ∧
  (Safety.admits s (cmdWrite q 2) 0x5002 0 = true → (Safety.valueOf s (cmdWrite q 2) 0x5002 0).bits 1 1 = 1 →
    (Safety.valueOf s (cmdWrite q 2) 0x5002 0).bits 0 0 = 0 →
    (s.on SM_STATUS_MARGINAL = false → s.modeNow ≠ modeSurvey → entrySource s.windowEntry ≤ 3 →
      exec (.ttWindowWrite q) s = .next (Safety.served
        ((((s.writeEntry (s.get TT_WIN_INDEX_INDEX) s.windowEntry).bumpGen).unlearn (s.get TT_WIN_INDEX_INDEX)).windowDone
          (s.get TT_WIN_INDEX_INDEX) 0) q 0x5002 0 stOk) ∧
      ( 
        ∀ i, (s.writeEntry (s.get TT_WIN_INDEX_INDEX) s.windowEntry).entry i =
          if i = s.get TT_WIN_INDEX_INDEX then s.windowEntry else s.entry i)) ∧
    (((s.on SM_STATUS_MARGINAL = true ∧ st = stState) ∨
        (s.on SM_STATUS_MARGINAL = false ∧ s.modeNow = modeSurvey ∧ st = stMode) ∨
        (s.on SM_STATUS_MARGINAL = false ∧ s.modeNow ≠ modeSurvey ∧ 3 < entrySource s.windowEntry ∧ st = stRange)) →
      exec (.ttWindowWrite q) s = .next ((s.bump TT_WRITES_REFUSED_COUNT).answerWrite q 0x5002 0 st))) ∧
  (∀ i, i = (if hi then 0x5011 else 0x5010) → Safety.admits s w i e = true → s.surveying = false →
    ((neighbours (Safety.valueOf s w i e)).contains e = false →
      (neighbours (Safety.valueOf s w i e) ++ neighbours (s.word (if i = 0x5010 then 0x5011 else 0x5010) e)).Nodup →
      exec (.neighbourWrite hi e w) s = .next (Safety.served (s.defer i e (Safety.valueOf s w i e)) w.q i e stDeferred)) ∧
    ((neighbours (Safety.valueOf s w i e)).contains e = true →
      exec (.neighbourWrite hi e w) s = .next (s.answerWrite w.q i e stRange))) ∧
  (j < 12 → Safety.admits s w (0x5400 + j) e = true → s.surveying = false →
    ((Safety.valueOf s w (0x5400 + j) e).bits 12 12 = 0 ∨ (Safety.valueOf s w (0x5400 + j) e).bits 27 16 ≠ e →
      exec (.aggressorWrite j e w) s = .next
        (Safety.served (s.defer (0x5400 + j) e (Safety.valueOf s w (0x5400 + j) e)) w.q (0x5400 + j) e stDeferred)) ∧
    ((Safety.valueOf s w (0x5400 + j) e).bits 12 12 = 1 → (Safety.valueOf s w (0x5400 + j) e).bits 27 16 = e →
      exec (.aggressorWrite j e w) s = .next (s.answerWrite w.q (0x5400 + j) e stRange))))

/-- Survey and abort requests, and the survey's stages: where each begins and ends and which follows. Derived from
06_survey_and_calibration.md. -/
def Obligations.Survey : Prop :=
  (∀ (s : State) (q : Rq) (clear : Bool), Safety.wf s = true →
  (∀ v, v = cmdWrite q (1 + 4 * clear.toNat) → Safety.admits s v 0x5800 0 = true →
    (Safety.valueOf s v 0x5800 0).bits 0 0 = 1 → (Safety.valueOf s v 0x5800 0).bits 1 1 = 0 →
    (Safety.valueOf s v 0x5800 0).bits 2 2 = clear.toNat →
    (s.modeNow = modeService → s.on SM_STATUS_MARGINAL = false → s.stage = 0 → s.survey.entry = none →
      s.get PW_STATUS_PHASE = 0 →
      ((∀ e ∈ s.surveyed, s.coloured e = true) →
        exec (.surveyGo q clear) s = .next (Safety.served
          { (s.set SV_COLOUR_BAD_VALID 0).set SV_COLOUR_BAD_ELEMENT 0 with survey := {
              entry := some (s.frame.ticks + 1), clear := clear, elems := s.surveyed,
              parked := s.surveyed.filter fun e => (s.lane e).st = .park } } q 0x5800 0 stOk)) ∧
      (∀ e, s.surveyed.find? (fun e => !s.coloured e) = some e →
        exec (.surveyGo q clear) s = .next
          (((s.set SV_COLOUR_BAD_VALID 1).set SV_COLOUR_BAD_ELEMENT e).answerWrite q 0x5800 0 stRange))) ∧
    (s.modeNow = modeService → (s.on SM_STATUS_MARGINAL = true ∨ s.stage ≠ 0 ∨ s.survey.entry ≠ none ∨ s.get PW_STATUS_PHASE ≠ 0) →
      exec (.surveyGo q clear) s = .next (s.answerWrite q 0x5800 0 stState)) ∧
    (s.modeNow ≠ modeService → exec (.surveyGo q clear) s = .next (s.answerWrite q 0x5800 0 stMode))) ∧
  (Safety.admits s (cmdWrite q 2) 0x5800 0 = true → (Safety.valueOf s (cmdWrite q 2) 0x5800 0).bits 0 0 = 0 →
    (Safety.valueOf s (cmdWrite q 2) 0x5800 0).bits 1 1 = 1 →
    ((s.stage ≠ 0 ∨ s.survey.entry ≠ none) → s.stage ≠ 6 → s.survey.abort = false →
      exec (.surveyAbort q) s = .next (Safety.served
        { s with survey := { s.survey with abort := true, result := 2 } } q 0x5800 0 stOk)) ∧
    ((s.stage ≠ 0 ∨ s.survey.entry ≠ none) → s.stage ≠ 6 → s.survey.abort = true →
      exec (.surveyAbort q) s = .next (Safety.served s q 0x5800 0 stOk)) ∧
    ((s.stage = 6 ∨ (s.stage = 0 ∧ s.survey.entry = none)) →
      exec (.surveyAbort q) s = .next (s.answerWrite q 0x5800 0 stState)))) ∧
  (∀ (s : State) (t : Nat) (eccs : List LaneEcc), Safety.wf s = true →
  (s.survey.entry = some t → t ≤ s.frame.ticks → s.modeNow = modeService → s.stage = 0 →
    ∃ u : State, exec .surveyEntry s = .next u ∧ u.safe.dark = BitVec.allOnes 256 ∧ u.commit.shadow = none ∧ u.commit.ring = none ∧
      u.commit.fAgg = [] ∧ u.commit.self = [] ∧ u.survey.entry = none ∧ u.survey.wait = true ∧ u.survey.elems = s.survey.elems) ∧
  ((s.survey.entry = none ∨ s.modeNow ≠ modeService) → exec .surveyEntry s = .next s) ∧
  (s.passDue = true →
    ∃ u : State, exec (.surveyPassStart []) s = .next u ∧ u.survey.conf = some (if s.stage = 1 then 0 else s.get SV_STATUS_STEP) ∧
      u.survey.wait = false ∧ u.survey.start = s.frame.ticks ∧ u.survey.elems = s.survey.elems ∧ u.frame = s.frame) ∧
  (s.passDue = false → exec (.surveyPassStart eccs) s = .next s) ∧
  (s.stage = 2 → s.survey.wait = false → s.on SV_STATUS_SUSPENDED = false →
    exec .sweepStepEnd s = .next ((s.survey.xs.map Prod.fst).foldl State.sweepStep s)) ∧
  (s.stageOver 2 = true →
    (s.get SV_STATUS_STEP < 31 →
      exec .surveyCapture s = .next ((s.survey.take.foldl State.captureElement s).toStage 2 (s.get SV_STATUS_STEP + 1))) ∧
    (s.get SV_STATUS_STEP = 31 →
      exec .surveyCapture s = .next (((s.survey.take.foldl State.captureElement s).toStage 3 0).beginStage s.frame.tide))) ∧
  (s.stageOver 3 = true →
    ∃ u : State, exec .crosstalkBaselineEnd s = .next u ∧ u.frame = s.frame ∧
      u.survey.groups = s.aggressorGroups ∧ u.stage = (if s.aggressorGroups = [] then 5 else 4) ∧ u.get SV_STATUS_STEP = 0) ∧
  (s.stageOver 4 = true →
    (s.survey.dwell = 0 →
      ∃ u : State, exec .aggressorDwellEnd s = .next u ∧ u.survey.dwell = 1 ∧ u.survey.plus = s.survey.gather ∧
        u.survey.start = s.frame.ticks ∧ u.survey.gather = [] ∧ u.objs = s.objs) ∧
    (s.survey.dwell = 1 →
      ∃ u : State, exec .aggressorDwellEnd s = .next u ∧ u.survey.dwell = 2 ∧ u.survey.minus = s.survey.gather ∧
        u.survey.start = s.frame.ticks ∧ u.survey.gather = []) ∧
    (1 < s.survey.dwell → s.get SV_STATUS_STEP < 127 →
      ∃ u : State, exec .aggressorDwellEnd s = .next u ∧ u.frame = s.frame ∧
        (s.get SV_STATUS_STEP + 1 < s.survey.groups.length → u.stage = 4 ∧ u.get SV_STATUS_STEP = s.get SV_STATUS_STEP + 1) ∧
        (s.survey.groups.length ≤ s.get SV_STATUS_STEP + 1 → u.stage = 5 ∧ u.get SV_STATUS_STEP = 0))) ∧
  (s.stageOver 5 = true →
    (s.survey.dwell = 0 →
      ∃ u : State, exec .selfProbeDwellEnd s = .next u ∧ u.survey.dwell = 1 ∧ u.survey.plus = s.survey.gather ∧
        u.survey.start = s.frame.ticks ∧ u.survey.gather = [] ∧ u.objs = s.objs) ∧
    (s.survey.dwell ≠ 0 →
      ∃ u : State, exec .selfProbeDwellEnd s = .next u ∧ u.frame = s.frame ∧
        (s.get SV_STATUS_STEP = 15 → u.stage = 6 ∧ u.survey.result = 1 ∧ u.survey.tiles = []) ∧
        (s.get SV_STATUS_STEP < 15 → u.stage = 5 ∧ u.get SV_STATUS_STEP = s.get SV_STATUS_STEP + 1))) ∧
  (s.stage = 6 → s.on SV_STATUS_SUSPENDED = false →
    (s.survey.restore = none → s.surveyReady = true → s.onBoundary = true →
      exec (.surveyRestore eccs) s = .next (s.restoreStart eccs) ∧
        ∃ u : State, exec (.surveyRestore []) s = .next u ∧ u.survey.restore = some s.frame.ticks ∧ u.survey.conf = none ∧ u.stage = 6) ∧
    (s.survey.restore = some t → t + s.window ≤ s.frame.ticks →
      exec (.surveyRestore eccs) s = .next s.restoreEnd ∧ s.restoreEnd.stage = 0 ∧
        s.restoreEnd.get SV_STATUS_RESULT = s.survey.result % 8 ∧ s.restoreEnd.survey = {} ∧
        (s.modeNow = modeSurvey → s.restoreEnd.mode.next = some (modeService, 3, s.frame.ticks + 1)))) ∧
  (s.on SV_STATUS_SUSPENDED = true → s.on SM_STATUS_MARGINAL = false → s.onBoundary = true →
    exec .surveyResume s = .next
      (({ s.set SV_STATUS_SUSPENDED 0 with survey := { s.survey with restore := none } } : State).beginStage s.frame.tide)) ∧
  ((s.on SV_STATUS_SUSPENDED = false ∨ s.on SM_STATUS_MARGINAL = true) → exec .surveyResume s = .next s))

/-- Calibration units are queued, started and ended; a correction is deferred, or refused while its unit runs. Derived
from 06_survey_and_calibration.md. -/
def Obligations.CalibrationRuns : Prop :=
  ∀ (s : State) (w : Wr) (u index sub : Nat) (xs : List Int) (r : CalRun), Safety.wf s = true →
  (s.frame.running = true → s.get SV_TEMP_DELTA_DELTA ≠ 0 →
    exec .calTemperatureCheck s = .next ((calUnits.filter s.unitStale).foldl State.queueUnit s)) ∧
  ((s.frame.running = false ∨ s.get SV_TEMP_DELTA_DELTA = 0) → exec .calTemperatureCheck s = .next s) ∧
  (∀ v, v = Safety.valueOf s w 0x5824 0 → Safety.admits s w 0x5824 0 = true →
    (v.bits 15 15 = 0 → v.bits 8 0 ≤ 383 → s.cal.queue.contains (v.bits 8 0) = false → s.unitRuns (v.bits 8 0) = false →
      exec (.calRequest w) s = .next (Safety.served
        { s with cal := { s.cal with queue := s.cal.queue ++ [v.bits 8 0] } } w.q 0x5824 0 stOk)) ∧
    (v.bits 15 15 = 0 → v.bits 8 0 ≤ 383 → (s.cal.queue.contains (v.bits 8 0) = true ∨ s.unitRuns (v.bits 8 0) = true) →
      exec (.calRequest w) s = .next (Safety.served s w.q 0x5824 0 stOk)) ∧
    (v.bits 15 15 = 1 →
      exec (.calRequest w) s = .next (Safety.served (calUnits.foldl State.queueUnit s) w.q 0x5824 0 stOk)) ∧
    (v.bits 15 15 = 0 → 383 < v.bits 8 0 → exec (.calRequest w) s = .next (s.answerWrite w.q 0x5824 0 stRange))) ∧
  (s.mayRun u = true →
    (s.clocked (unitDomain u) = true →
      exec (.calRunStart u) s = .next (s.beginRun u false).voteRose ∧
        (s.beginRun u false).cal.queue = s.cal.queue.filter (fun x => x ≠ u) ∧
        (s.beginRun u false).cal.runs = s.cal.runs ++ [{ unit := u, start := s.frame.ticks, temp := s.unitSensor u, survey := false }]) ∧
    (s.clocked (unitDomain u) = false → exec (.calRunStart u) s = .next (s.demandWake 3 (unitDomain u)))) ∧
  (s.mayRun u = false → exec (.calRunStart u) s = .next s) ∧
  (s.cal.runs.find? (fun r => r.unit = u) = some r →
    (r.start + runLength u - 1 ≤ s.frame.ticks →
      ∃ t : State, exec (.calRunEnd u xs) s = .next t ∧ t.cal.runs = s.cal.runs.filter (fun x => x.unit ≠ u) ∧
        t.cal.clear = s.cal.clear ++ [u] ∧ t.lanes = s.lanes ∧
        (u < 384 → t.rd SV_RUNS_COUNT u = satAdd (SV_RUNS_COUNT.hi + 1 - SV_RUNS_COUNT.lo) (s.rd SV_RUNS_COUNT u) 1 ∧
          t.word 0x5823 u = BitVec.ofNat 32 (2 ^ 31 + toBits 12 r.temp))) ∧
    (s.frame.ticks < r.start + runLength u - 1 → exec (.calRunEnd u xs) s = .next s)) ∧
  (index = 0x5823 ∨ index = 0x5830 ∨ index = 0x5831 → Safety.admits s w index sub = true →
    (s.unitRuns (correctionUnit index sub) = false →
      exec (.calCorrectionWrite index sub w) s = .next
        (Safety.served (s.defer index sub (Safety.valueOf s w index sub)) w.q index sub stDeferred)) ∧
    (s.unitRuns (correctionUnit index sub) = true →
      exec (.calCorrectionWrite index sub w) s = .next (s.answerWrite w.q index sub stState)))

/-- Ring time exchange: marks, DREQ, DRESP and losses; authorised steps: GO, CANCEL and their refusal. Derived from
07_time_and_timestamps.md, 02_timing_synthesiser.md. -/
def Obligations.TimeOverTheRing : Prop :=
  (∀ (s : State) (q : Rq) (id : Nat), Safety.wf s = true →
  (∀ v, v = cmdWrite q (1 + 256 * (id % 256)) → Safety.admits s v 0x2411 0 = true →
    (Safety.valueOf s v 0x2411 0).bits 0 0 = 1 → (Safety.valueOf s v 0x2411 0).bits 1 1 = 0 →
    (Safety.valueOf s v 0x2411 0).bits 15 8 = id % 256 →
    (s.modeNow = modeService → s.on TB_JUMP_PENDING_VALID = true → s.on SM_STATUS_MARGINAL = false → s.time.step = none →
      (id % 256 = s.get TB_JUMP_PENDING_JUMP_ID → s.frame.frame + 3 ≤ s.stepWords.1 →
        (s.time.delta - s.stepWords.2 * 1000000).natAbs ≤ 600000 →
        exec (.stepAuthorise q id) s = .next (Safety.served
          { (s.set TB_STATUS_STEP_SCHEDULED 1).set TB_STATUS_STEP_CANCELLED 0 with
            time := { s.time with step := some s.stepWords } } q 0x2411 0 stOk)) ∧
      ((id % 256 ≠ s.get TB_JUMP_PENDING_JUMP_ID ∨ s.stepWords.1 < s.frame.frame + 3 ∨
          600000 < (s.time.delta - s.stepWords.2 * 1000000).natAbs) →
        exec (.stepAuthorise q id) s = .next (s.answerWrite q 0x2411 0 stRange))) ∧
    (s.modeNow = modeService → (s.on TB_JUMP_PENDING_VALID = false ∨ s.on SM_STATUS_MARGINAL = true ∨ s.time.step ≠ none) →
      exec (.stepAuthorise q id) s = .next (s.answerWrite q 0x2411 0 stState)) ∧
    (s.modeNow ≠ modeService → exec (.stepAuthorise q id) s = .next (s.answerWrite q 0x2411 0 stMode))) ∧
  (∀ v, v = cmdWrite q (2 + 256 * (id % 256)) → Safety.admits s v 0x2411 0 = true →
    (Safety.valueOf s v 0x2411 0).bits 0 0 = 0 → (Safety.valueOf s v 0x2411 0).bits 1 1 = 1 →
    exec (.stepCancel q id) s = .next (Safety.served
      { s.set TB_STATUS_STEP_SCHEDULED 0 with time := { s.time with step := none } } q 0x2411 0 stOk))) ∧
  (∀ (s : State) (x : MarkMeas) (m : Mark) (d : Dreq) (ds : List Dreq) (y : Dresp) (t3 frame seq t4 : Nat), Safety.wf s = true →
  (s.acting = true → s.on TC_STATUS_CLK_READY = true →
    (x.port % 2 = s.timingPort →
      ∃ t : State, exec (.frameMarkReceive x) s = .next t ∧ t.time.mark = (if x.unset then none else
        some { frame := x.frame, t1 := x.t1, t2 := x.t2, atFrame := s.frame.frame, tick := s.frame.ticks }) ∧
        t.get TB_STATUS_SERVER_UNSET = x.unset.toNat ∧ t.get TB_STATUS_SERVER_COAST = x.coast.toNat ∧ t.timing = s.timing) ∧
    (x.port % 2 ≠ s.timingPort → s.tc = 5 → s.on TC_CONTROL_TRIM_EN = true →
      ∃ t : State, exec (.frameMarkReceive x) s = .next t ∧ t.time = s.time ∧ t.objs = s.objs ∧
        (s.timing.trimFirst = none →
          t.timing.trimFirst = some (s.frame.ticks * 96000 + x.t2, x.frame * 96000 + x.t1) ∧ t.timing.trimLast = none) ∧
        (s.timing.trimFirst ≠ none →
          t.timing.trimFirst = s.timing.trimFirst ∧ t.timing.trimLast = some (s.frame.ticks * 96000 + x.t2, x.frame * 96000 + x.t1))) ∧
    (x.port % 2 ≠ s.timingPort → (s.tc ≠ 5 ∨ s.on TC_CONTROL_TRIM_EN = false) → exec (.frameMarkReceive x) s = .next s)) ∧
  ((s.acting = false ∨ s.on TC_STATUS_CLK_READY = false) →
    exec (.frameMarkReceive x) s = .next s ∧ exec (.dreqReceive frame seq t4) s = .next s) ∧
  (s.time.mark = some m → s.acting = true → s.time.due = true → m.tick = s.frame.ticks →
    exec (.dreqSend t3) s = .next
      (({ s with time := { s.time with
          seq := (s.time.seq + 1) % 256, due := false, mark := none,
          dreqs := s.time.dreqs ++ [{ seq := (s.time.seq + 1) % 256, mark := m, t3 := t3, sentTick := s.frame.ticks }] } } : State).sendCtl
        (2 * s.timingPort) 0x31 (BitVec.ofNat 56 (m.frame % 2 ^ 32 + (s.time.seq + 1) % 256 * 2 ^ 32)))) ∧
  ((s.time.mark = none ∨ s.time.due = false) → exec (.dreqSend t3) s = .next s) ∧
  (s.acting = true → s.on TC_STATUS_CLK_READY = true →
    exec (.dreqReceive frame seq t4) s = .next (s.sendCtl (2 * s.timingPort + 1) 0x32
      (BitVec.ofNat 56 (seq % 256 + s.frame.frame % 2 ^ 16 * 2 ^ 8 + t4 % 2 ^ 24 * 2 ^ 24 + s.timeBits * 2 ^ 48)))) ∧
  (∀ (z : Int × Int) (u : State), s.time.dreqs.find? (fun d => d.seq = y.seq % 256) = some d →
    z = exchangeOf ((d.mark.frame * 96000 + d.mark.t1 : Nat) : Int) ((d.mark.atFrame * 96000 + d.mark.t2 : Nat) : Int)
      ((d.mark.atFrame * 96000 + d.t3 : Nat) : Int) ((serverFrame d.mark.frame y.frame16 * 96000 + y.t4 : Nat) : Int)
      (s.rdI TB_ASYM_ASYM s.timingPort) →
    u = { s with time := { s.time with dreqs := s.time.dreqs.erase d, lost := 0 } } →
    ((s.time.delays.length < 16 ∨ (16 * z.1 - s.time.delays.sum).natAbs ≤ 16 * 96 * s.get TB_XCHG_OUTLIER) →
      exec (.drespReceive y) s = .next (u.acceptExchange z.1 z.2)) ∧
    (16 ≤ s.time.delays.length → 16 * 96 * s.get TB_XCHG_OUTLIER < (16 * z.1 - s.time.delays.sum).natAbs →
      exec (.drespReceive y) s = .next u.discardExchange)) ∧
  (s.time.dreqs.find? (fun d => d.seq = y.seq % 256) = none → exec (.drespReceive y) s = .next s) ∧
  (s.time.dreqs = d :: ds →
    (d.sentTick + 2 ≤ s.frame.ticks →
      exec .drespTimeout s = .next ({ s with time := { s.time with dreqs := ds } } : State).loseExchange) ∧
    (s.frame.ticks < d.sentTick + 2 → exec .drespTimeout s = .next s)) ∧
  (s.time.dreqs = [] → exec .drespTimeout s = .next s))

/-- Lasting light crossings are counted and captured, short ones are glitches; captures enter the FIFO. Derived from
07_time_and_timestamps.md. -/
def Obligations.LightAtThePorts : Prop :=
  ∀ (s : State) (p bin ua lasts quad : Nat) (c : Capture) (lit : Bool), Safety.wf s = true →  p < 256 →
  (s.pdActive p = true → s.rd PD_STATUS_LEVEL p = lit.toNat →
    (if lit then ua ≤ 2 * (s.pd p).field PD_CFG_TH_OFF else 2 * (s.pd p).field PD_CFG_TH_ON ≤ ua) →
    ((s.pd p).field PD_CFG_DWELL ≤ lasts →
      ∃ t : State, exec (.lightCrossing p bin ua lasts) s = .next t ∧ t.rd PD_STATUS_LEVEL p = 1 - lit.toNat ∧
        t.rd PD_EDGES_COUNT p = (s.rd PD_EDGES_COUNT p + 1) % 2 ^ 32 ∧ (t.pd p).input = ua ∧ (t.pd p).wait.isSome = true ∧
        ((s.pd p).wait ≠ none → (t.pd p).wait = (s.pd p).wait ∧ (t.pd p).merges = (s.pd p).merges + 1) ∧
        t.ev = s.ev ∧ t.lanes = s.lanes) ∧
    (lasts < (s.pd p).field PD_CFG_DWELL →
      ∃ t : State, exec (.lightCrossing p bin ua lasts) s = .next t ∧ t.rd PD_STATUS_LEVEL p = s.rd PD_STATUS_LEVEL p ∧
        t.rd PD_EDGES_COUNT p = s.rd PD_EDGES_COUNT p ∧ (t.pd p).wait = (s.pd p).wait ∧ (t.pd p).merges = (s.pd p).merges + 1)) ∧
  (s.pdActive p = false →
    exec (.lightCrossing p bin ua lasts) s = .next (s.setPd p { s.pd p with input := ua }) ∧ exec (.lightLevel p) s = .next s) ∧
  (s.pdActive p = true → (s.pd p).started = false → (s.pd p).wait = none →
    ∃ t : State, exec (.lightLevel p) s = .next t ∧ (t.pd p).started = true ∧ t.rd PD_STATUS_LEVEL p = (s.startLevel p).toNat ∧
      (t.pd p).wait.isSome = true ∧ t.ev = s.ev) ∧
  ((s.pd p).started = true → exec (.lightLevel p) s = .next s) ∧
  (quad < 4 → s.nextLight quad = some p → (s.pd p).wait = some c →
    ((s.ev.tookUp ≠ s.frame.up ∨ s.ev.took.testBit quad = false) →
      ∃ t : State, exec (.lightRecordEnqueue quad) s = .next t ∧ (t.pd p).wait = none ∧ t.ev.tookUp = s.frame.up ∧
        t.ev.took = (if s.ev.tookUp = s.frame.up then s.ev.took else 0) ||| 2 ^ quad ∧
        (∀ o, o ≠ p → t.pd o = s.pd o) ∧
        (s.recording = true → s.fifoRoom c.code = false → t.rd PD_LOST_COUNT p =
          satAdd (PD_LOST_COUNT.hi + 1 - PD_LOST_COUNT.lo) (s.rd PD_LOST_COUNT p) 1)) ∧
    (s.ev.tookUp = s.frame.up → s.ev.took.testBit quad = true → exec (.lightRecordEnqueue quad) s = .next s))

/-- The evidence writer's cycle, in order of precedence, and the seal timeout. Derived from 08_evidence_log.md. -/
def Obligations.EvidenceWriter : Prop :=
  ∀ (s : State) (n : Nat) (k : BitVec 256) (id time flags : Nat) (g : Gap) (x : FifoRec) (xs : List FifoRec), s.writerRuns = true →
  (s.ev.start = some n → exec .evidenceRecordWrite s = .next (s.startChain n)) ∧
  (s.ev.start = some 2 → exec .chainRestart s = .next (s.startChain 2)) ∧
  (s.ev.start ≠ some 2 → exec .chainRestart s = .next s) ∧
  (s.ev.start = none → (s.on EV_STATUS_HOLDING = true ∨ s.on EV_STATUS_CHAIN = false) → exec .evidenceRecordWrite s = .next s) ∧
  (s.ev.start = none → s.on EV_STATUS_CHAIN = true → s.on EV_STATUS_HOLDING = false →
    (s.ev.keyQueue = some (k, id, time, flags) → exec .evidenceRecordWrite s = .next (s.endGaps.writeKey k id time flags)) ∧
    (s.ev.keyQueue = none → s.endGaps.endedGap = some g → exec .evidenceRecordWrite s = .next (s.endGaps.writeGap g)) ∧
    (s.ev.keyQueue = none → s.endGaps.endedGap = none → s.on EV_STATUS_FILLING = true →
      exec .evidenceRecordWrite s = .next s.endGaps.writeFill) ∧
    (s.ev.keyQueue = none → s.endGaps.endedGap = none → s.on EV_STATUS_FILLING = false →
      (s.ev.fifo = x :: xs →
        exec .evidenceRecordWrite s = .next
          ((({ s.endGaps with ev := { s.endGaps.ev with fifo := xs } } : State).postingDelay x.crossUp).writeEvent x.r)) ∧
      (s.ev.fifo = [] → exec .evidenceRecordWrite s = .next s.endGaps))) ∧
  (s.sealDue = true → s.ev.start = none → s.on EV_STATUS_HOLDING = false → s.ev.keyQueue = none → s.endGaps.endedGap = none →
    s.ev.fifo = [] → exec .sealTimeout s = .next (s.endGaps.set EV_STATUS_FILLING 1)) ∧
  (s.sealDue = true → s.writerCycle.sealDue = false → exec .sealTimeout s = .next s.writerCycle) ∧
  (s.sealDue = false → exec .sealTimeout s = .next s)

/-- A record takes the next slot with sequence number 62 n + slot, and the 62nd seals the block. Derived from
08_evidence_log.md. -/
def Obligations.EvidenceSlots : Prop :=
  ∀ (s : State) (r : Rec),
  (s.ev.openRecs.length < 61 →
    (s.writeSlot r).ev.openRecs = s.ev.openRecs ++ [r.stored (62 * s.ev.num + s.ev.openRecs.length)] ∧
    (s.writeSlot r).ev.sealed = s.ev.sealed ∧ (s.writeSlot r).ev.num = s.ev.num ∧ (s.writeSlot r).objs = s.objs) ∧
  (s.ev.openRecs.length = 61 →
    ∃ b, (s.writeSlot r).ev.sealed = s.ev.sealed ++ [b] ∧ b.num = s.ev.num ∧ b.recs.length = 64 ∧
      b.recs.take 62 = s.ev.openRecs ++ [r.stored (62 * s.ev.num + 61)] ∧ (s.writeSlot r).ev.openRecs = [] ∧
      (s.writeSlot r).ev.num = s.ev.num + 1 ∧
      (s.writeSlot r).ev.prevTag = blockTag s.ev.key s.ev.prevTag s.ev.num (s.ev.openRecs ++ [r.stored (62 * s.ev.num + 61)]))

/-- SEAL_NOW, key COMMIT and key LOCK: accepted writes, and a COMMIT refused under LOCK. Derived from
08_evidence_log.md, 10_object_dictionary.md. -/
def Obligations.EvidenceWrites : Prop :=
  ∀ (s : State) (w : Wr), Safety.wf s = true →
  (∀ v, v = Safety.valueOf s w 0x2601 0 → Safety.admits s w 0x2601 0 = true → v.bits 31 31 = 1 →
    (v.bits 19 0 = 0 ∨ 10 ≤ v.bits 19 0) → v.bits 19 0 ≤ 1000000 →
    (s.on EV_STATUS_CHAIN = true → s.ev.openRecs ≠ [] →
      exec (.sealNow w) s = .next (Safety.served ((s.set EV_CTRL_SEAL_TIMEOUT (v.bits 19 0)).set EV_STATUS_FILLING 1) w.q 0x2601 0 stOk)) ∧
    ((s.on EV_STATUS_CHAIN = false ∨ s.ev.openRecs = []) →
      exec (.sealNow w) s = .next (Safety.served s w.q 0x2601 0 stOk))) ∧
  (∀ v, v = Safety.valueOf s w 0x2603 0 → Safety.admits s w 0x2603 0 = true →
    (s.on EV_KEY_CTRL_LOCK = false → v.bits 31 31 = 1 → s.on EV_STATUS_KEY_PENDING = false →
      (v.bits 30 30 = 0 →
        exec (.keyCommit w) s = .next (Safety.served (s.commitKey (v.bits 15 0)) w.q 0x2603 0 stOk)) ∧
      (v.bits 30 30 = 1 →
        exec (.keyCommit w) s = .next (Safety.served ((s.commitKey (v.bits 15 0)).set EV_KEY_CTRL_LOCK 1) w.q 0x2603 0 stOk))) ∧
    (s.on EV_KEY_CTRL_LOCK = false → v.bits 31 31 = 1 → s.on EV_STATUS_KEY_PENDING = true →
      exec (.keyCommit w) s = .next (s.answerWrite w.q 0x2603 0 stState)) ∧
    (s.on EV_KEY_CTRL_LOCK = true → v.bits 30 30 = 1 → v.bits 31 31 = 1 →
      exec (.keyCommit w) s = .next (s.answerWrite w.q 0x2603 0 stState)) ∧
    (s.on EV_KEY_CTRL_LOCK = true → v.bits 30 30 = 0 →
      exec (.keyCommit w) s = .next (s.answerWrite w.q 0x2603 0 stAccess) ∧
      exec (.keyLock w) s = .next (s.answerWrite w.q 0x2603 0 stAccess)) ∧
    (v.bits 31 31 = 0 → v.bits 30 30 = 1 →
      (v.bits 15 0 = s.get EV_KEY_CTRL_KEY_ID →
        exec (.keyLock w) s = .next (Safety.served (s.set EV_KEY_CTRL_LOCK 1) w.q 0x2603 0 stOk)) ∧
      (v.bits 15 0 ≠ s.get EV_KEY_CTRL_KEY_ID →
        exec (.keyLock w) s = .next (s.answerWrite w.q 0x2603 0 stRange))))

/-- Good request frames take one of four buffers of their port; other frames are counted. Derived from
10_object_dictionary.md, 09_feade_ring.md. -/
def Obligations.RequestBuffers : Prop :=
  ∀ (s : State) (p : Nat) (f : RxFrame), p < 4 →
  (s.pairUp p = true → s.takesIn (portOf p) = true → s.takes f = true →
    (frameGood f = true → f.stomped = false → requestType f.ftype = true →
      ((s.port (portOf p)).reqs.length < 4 →
        ∃ t : State, exec (.requestReceive p f) s = .next t ∧ (t.port (portOf p)).reqs =
          (s.port (portOf p)).reqs ++ [{ fromD := decide (p % 2 = 1), frame := f }] ∧
          t.port (1 - portOf p) = s.port (1 - portOf p) ∧ t.objs = s.objs ∧ t.lanes = s.lanes ∧ t.svc = s.svc) ∧
      (4 ≤ (s.port (portOf p)).reqs.length →
        exec (.requestReceive p f) s = .next (s.bumpAt ID_SERVICE_COUNT (4 * portOf p + 2)))) ∧
    (frameGood f = true → f.stomped = false → requestType f.ftype = false →
      exec (.requestReceive p f) s = .next (s.bumpAt ID_SERVICE_COUNT (4 * portOf p + 3))) ∧
    (frameGood f = false → exec (.requestReceive p f) s = .next (s.bumpAt FL_CRC_ERRORS_COUNT p)) ∧
    (frameGood f = true → f.stomped = true → exec (.requestReceive p f) s = .next s)) ∧
  ((s.pairUp p = false ∨ s.takesIn (portOf p) = false ∨ s.takes f = false) → exec (.requestReceive p f) s = .next s)

/-- Single and bulk reads answer with the words as a read returns them, with the marks that two of them leave. Derived
from 10_object_dictionary.md, 03_clocks_and_drive_synthesiser.md, 08_evidence_log.md. -/
def Obligations.ReadRequests : Prop :=
  ∀ (s : State) (q : Rq) (index sub count d : Nat) (raw : Word) (eccs : List (EccOutcome × Word)), s.servesNow q = true → q.bcast = false →
  (s.formedNow q = true →
    (s.waitsFor index sub = none → s.unknown index sub = none → s.peerReset index sub = false →
      (∃ v t, exec (.readRequest q index sub) s = .next (t.answerWord q 1 index sub stOk v) ∧
        (v, t) = s.readValue q.port index sub .clean 0) ∧
      (∀ ecc, ∃ v t, exec (.evidenceRead q index sub ecc raw) s = .next (t.answerWord q 1 index sub stOk v) ∧
        (v, t) = s.readValue q.port index sub ecc raw)) ∧
    (∀ st, s.waitsFor index sub = none → s.unknown index sub = some st →
      exec (.readRequest q index sub) s = .next (s.answerWord q 1 index sub st 0)) ∧
    (s.waitsFor index sub = none → s.unknown index sub = none → s.peerReset index sub = true →
      exec (.readRequest q index sub) s = .next (s.answerWord q 1 index sub stPeerReset 0)) ∧
    (s.waitsFor index sub = some d →
      exec (.readRequest q index sub) s = .next ((s.stall index sub d).putBack (.read q index sub .clean 0))) ∧
    (s.on TC_STATUS_CLK_READY = true →
      exec (.ckStatusRead q) s = .next
        ((s.set CK_STATUS_READY_SEEN 1).answerWord q 1 0x2200 0 stOk ((s.set CK_STATUS_READY_SEEN 1).view 0x2200 0))) ∧
    (s.on TC_STATUS_CLK_READY = false →
      exec (.ckStatusRead q) s = .next (s.answerWord q 1 0x2200 0 stOk (s.view 0x2200 0))) ∧
    (s.waitsFor 0x2609 sub = none → s.unknown 0x2609 sub = none → s.peerReset 0x2609 sub = false →
      sub / 8 < s.ev.openRecs.length →
      exec (.evidenceRead q 0x2609 sub .uncorrected raw) s = .next
        ((s.evEcc .uncorrected).answerWord q 1 0x2609 sub stOk raw)) ∧
    (1 ≤ count → count ≤ s.bulkMost q →
      (∀ st got t, s.readRun q.port index sub [] (eccRun count eccs) = (st, got, [], t) →
        exec (.bulkReadRequest q index sub ⟨count, eccs⟩) s = .next (t.answerRun q index sub st got.reverse)) ∧
      (∀ st got x xs t, s.readRun q.port index sub [] (eccRun count eccs) = (st, got, x :: xs, t) →
        exec (.bulkReadRequest q index sub ⟨count, eccs⟩) s = .next (t.putBack (.bulkRead q index sub got (x :: xs))))) ∧
    ((count = 0 ∨ s.bulkMost q < count) →
      exec (.bulkReadRequest q index sub ⟨count, eccs⟩) s = .next (s.answerRun q index sub stFormat []))) ∧
  (s.formedNow q = false →
    exec (.readRequest q index sub) s = .next (s.answerWord q 1 index sub stFormat 0) ∧
    exec (.bulkReadRequest q index sub ⟨count, eccs⟩) s = .next (s.answerRun q index sub stFormat []))

/-- A read of a 64-bit object's low word latches its high word for that port alone. Derived from
10_object_dictionary.md. -/
def Obligations.LatchedReads : Prop :=
  ∀ (s : State) (q : Rq) (index sub : Nat), q.port < 2 → s.servesNow q = true → q.bcast = false → s.formedNow q = true →
  s.waitsFor index sub = none → s.unknown index sub = none → s.peerReset index sub = false → lowOf64 index sub = true →
  ∃ t : State, exec (.word64ReadLatch q index sub) s = .next t ∧ t.latched q.port index (sub + 1) = some (s.view index (sub + 1)) ∧
    (t.port (1 - q.port)).latch = (s.port (1 - q.port)).latch ∧ t.lanes = s.lanes ∧
    (∀ u : State, u.portA = t.portA → u.portB = t.portB →
      u.readValue q.port index (sub + 1) .clean 0 = (s.view index (sub + 1), u))

/-- A read of TB_NOW.00 latches the four words of the device's time for the reading port alone. Formalises R160. -/
def Obligations.TimeNowLatch : Prop :=
  ∀ (s : State) (q : Rq), q.port < 2 → s.servesNow q = true → q.bcast = false → s.formedNow q = true →
  (∃ t : State, exec (.timeReadLatch q) s = .next (t.answerWord q 1 0x2400 0 stOk (BitVec.ofNat 32 (timeSeconds s.now))) ∧
    (t.port q.port).now = [BitVec.ofNat 32 (timeSeconds s.now), BitVec.ofNat 32 (timeSeconds s.now / 2 ^ 32),
      BitVec.ofNat 32 (timeNs s.now), BitVec.ofNat 32 (timeFraction s.now)] ∧
    (t.port (1 - q.port)).now = (s.port (1 - q.port)).now ∧ t.objs = s.objs ∧ t.frame = s.frame) ∧
  (∀ k, 1 ≤ k → k < 4 → exec (.readRequest q 0x2400 k) s = .next (s.answerWord q 1 0x2400 k stOk ((s.port q.port).now.getD k 0))) ∧
  (s.frame.tc = 0 → s.now = s.frame.frame * 1000 * 768) ∧
  timeSeconds s.now = s.now / (768 * 10 ^ 9) ∧ timeNs s.now = s.now / 768 % 10 ^ 9 ∧ timeNs s.now < 2 ^ 30 ∧
  timeFraction s.now < 2 ^ 16 ∧ s.now = (s.frame.frame * 3000 + s.frame.tc) * 256

/-- Bulk writes run their items in order; a write of an object without a row of its own runs that object's rule.
Derived from 10_object_dictionary.md. -/
def Obligations.BulkAndObjectWrites : Prop :=
  (∀ (s : State) (q : Rq) (stop : Bool) (items : List BulkItem), s.servesNow q = true →
  (s.formedNow q = true → bulkOk items = true →
    (∀ b t, s.runSteps q.port stop {} (bulkSteps items) = (b, [], t) →
      exec (.bulkWriteRequest q stop items) s = .next (t.endBulk q b)) ∧
    (∀ b x xs t, s.runSteps q.port stop {} (bulkSteps items) = (b, x :: xs, t) →
      exec (.bulkWriteRequest q stop items) s = .next (t.putBack (.bulkWrite q stop b (x :: xs))))) ∧
  ((s.formedNow q = false ∨ bulkOk items = false) →
    exec (.bulkWriteRequest q stop items) s = .next (s.answerBulk q stFormat {})) ∧
  (∀ (b : Bulk) (x : BulkStep) (xs : List BulkStep),
    (b.passes x = false → s.writeWaits x.index x.sub x.value = none →
      s.runSteps q.port stop b (x :: xs) =
        State.runSteps (s.bulkWord q.port stop b x).2 q.port stop (s.bulkWord q.port stop b x).1 xs) ∧
    (b.stop = true → s.runSteps q.port stop b (x :: xs) = s.runSteps q.port stop b xs))) ∧
  (∀ (s : State) (w : Wr) (index sub st : Nat) (t : State),
  (Safety.admits s w index sub = true → s.objectRule .clean w.q.port index sub (Safety.valueOf s w index sub) = (st, t) →
    (refuses st = false → exec (.objectWrite index sub w) s = .next (Safety.served t w.q index sub st)) ∧
    (refuses st = true → exec (.objectWrite index sub w) s = .next
      ((t.countRefused st index sub (Safety.valueOf s w index sub)).answerWrite w.q index sub st))) ∧
  (s.objectRule .clean w.q.port 0x2004 1 (Safety.valueOf s w 0x2004 1) =
    if (Safety.valueOf s w 0x2004 1).bits 23 0 = 16777215 then (stRange, s)
    else (stOk, s.setWord 0x2004 1 (Safety.valueOf s w 0x2004 1))) ∧
  (s.servesNow w.q = true → s.formedNow w.q = true → s.writeWaits index sub (w.value &&& w.mask) = none →
    (s.precheck w.q.port index sub w.mask = none → (objRow index sub).isSome = true → w.mask = 0 →
      exec (.objectWrite index sub w) s = .next (s.answerWrite w.q index sub stOk)) ∧
    (s.precheck w.q.port index sub w.mask = some st →
      exec (.objectWrite index sub w) s = .next
        ((s.countRefused st index sub (w.value &&& w.mask)).answerWrite w.q index sub st))) ∧
  (s.servesNow w.q = true → s.formedNow w.q = false →
    exec (.objectWrite index sub w) s = .next (s.answerWrite w.q index sub stFormat)))

/-- Arbitration tokens are assembled, checked and reported; sections are released; the token key is written once.
Derived from 10_object_dictionary.md, 09_feade_ring.md. -/
def Obligations.TokensAndSections : Prop :=
  (∀ (s : State) (p dest epoch : Nat) (tag : BitVec 64) (k : Token) (ks : List Token), Safety.wf s = true →
  (s.pairUp p = true →
    exec (.arbToken p dest epoch ⟨tag, false⟩) s = .next (s.forward p (headItem dest epoch tag)) ∧
    (s.acting = true → dest = s.address → dest < 256 →
      exec (.arbToken p dest epoch ⟨tag, true⟩) s = .next
        { s with tokens := s.tokens ++ [{ port := portOf p, dest := dest, epoch := epoch % 2 ^ 32, tag := tag,
                                          ahead := s.requestsOf (portOf p) }] }) ∧
    (s.toUs dest = false →
      exec (.arbToken p dest epoch ⟨tag, true⟩) s = .next
        (((s.pass p (headItem dest epoch tag)).pass p (tailItem tag))))) ∧
  (s.pairUp p = false → exec (.arbToken p dest epoch ⟨tag, true⟩) s = .next s) ∧
  (s.tokens = k :: ks → s.svc.held = none → k.port < 2 →
    ∃ t : State, exec .tokenOutcome s = .next t.goOn ∧ t.tokens = ks ∧ t.get SE_LAST_TOKEN_RESULT = s.judgeToken k + 1 ∧
      t.get SE_LAST_TOKEN_PORT = k.port + 1 ∧ t.lanes = s.lanes ∧ t.commit = s.commit ∧
      (s.judgeToken k ≠ 0 → t.get SE_EPOCH_EPOCH = s.get SE_EPOCH_EPOCH ∧ t.get SE_EPOCH_ACTIVE = s.get SE_EPOCH_ACTIVE) ∧
      (s.judgeToken k = 0 → k.epoch < 2 ^ 32 → t.get SE_EPOCH_EPOCH = k.epoch ∧ t.get SE_EPOCH_ACTIVE = k.port + 1)) ∧
  ((s.tokens = [] ∨ s.svc.held ≠ none) → exec .tokenOutcome s = .next s) ∧
  (s.on SE_EPOCH_KEY_SET = false → s.judgeToken k = 4) ∧
  (s.judgeToken k = 0 → s.get SE_EPOCH_EPOCH < k.epoch ∧ k.tag.toNat = s.expectedTag k)) ∧
  (∀ (s : State) (w : Wr) (k : Nat), w.q.port < 2 → k < 16 → Safety.wf s = true →
  (Safety.admits s w 0x1302 0 = true →
    ∃ t : State, exec (.seRelease w) s = .next (Safety.served t w.q 0x1302 0 stOk) ∧
      t.rd SE_SECTION_OWNER_OWNER k =
        (if (Safety.valueOf s w 0x1302 0).toNat.testBit k = true ∧ s.rd SE_SECTION_OWNER_OWNER k = w.q.port + 1 then 0
         else s.rd SE_SECTION_OWNER_OWNER k) ∧
      t.rd SE_SECTION_OWNER_GRANTS k = s.rd SE_SECTION_OWNER_GRANTS k ∧ t.commit = s.commit) ∧
  (Safety.admits s w 0x1341 (k % 8) = true → s.arbMask ||| 2 ^ (k % 8) = 255 →
    exec (.arbKeyWrite (k % 8) w) s = .next (Safety.served
      (({ s.setWord 0x1341 (k % 8) (Safety.valueOf s w 0x1341 (k % 8)) with arbMask := 255 } : State).set SE_EPOCH_KEY_SET 1)
      w.q 0x1341 (k % 8) stOk)) ∧
  (Safety.admits s w 0x1341 (k % 8) = true → s.arbMask ||| 2 ^ (k % 8) ≠ 255 →
    exec (.arbKeyWrite (k % 8) w) s = .next (Safety.served
      { s.setWord 0x1341 (k % 8) (Safety.valueOf s w 0x1341 (k % 8)) with arbMask := s.arbMask ||| 2 ^ (k % 8) }
      w.q 0x1341 (k % 8) stOk)) ∧
  (s.servesNow w.q = true → s.formedNow w.q = true → s.waitsFor 0x1341 (k % 8) = none → s.available 0x1341 (k % 8) = true →
    w.mask = BitVec.allOnes 32 → s.get SE_EPOCH_EPOCH ≠ 0 → s.get SE_EPOCH_ACTIVE = w.q.port + 1 →
    exec (.arbKeyWrite (k % 8) w) s = .next (s.answerWrite w.q 0x1341 (k % 8) stAccess)))

/-- SE_ACQUIRE is all or nothing. Formalises R252. -/
def Obligations.SectionsAcquired : Prop :=
  ∀ (s : State) (w : Wr), w.q.port < 2 →
  (Safety.admits s w 0x1301 0 = true → Safety.wf s = true →
    (∀ k < 16, (Safety.valueOf s w 0x1301 0).toNat.testBit k = true →
      s.rd SE_SECTION_OWNER_OWNER k = 0 ∨ s.rd SE_SECTION_OWNER_OWNER k = w.q.port + 1) →
    ∃ t : State, exec (.seAcquire w) s = .next (Safety.served t w.q 0x1301 0 stOk) ∧
      (∀ k < 16, t.rd SE_SECTION_OWNER_OWNER k =
        if (Safety.valueOf s w 0x1301 0).toNat.testBit k = true then w.q.port + 1 else s.rd SE_SECTION_OWNER_OWNER k) ∧
      (∀ k < 16, t.rd SE_SECTION_OWNER_GRANTS k =
        if (Safety.valueOf s w 0x1301 0).toNat.testBit k = true ∧ s.rd SE_SECTION_OWNER_OWNER k = 0
        then (s.rd SE_SECTION_OWNER_GRANTS k + 1) % 2 ^ (SE_SECTION_OWNER_GRANTS.hi + 1 - SE_SECTION_OWNER_GRANTS.lo)
        else s.rd SE_SECTION_OWNER_GRANTS k) ∧
      t.lanes = s.lanes ∧ t.commit = s.commit) ∧
  (Safety.admits s w 0x1301 0 = true →
    (∀ k < 16, (Safety.valueOf s w 0x1301 0).toNat.testBit k = true → s.rd SE_SECTION_OWNER_OWNER k = w.q.port + 1) →
    exec (.seAcquire w) s = .next (Safety.served s w.q 0x1301 0 stOk)) ∧
  (∀ k < 16, Safety.admits s w 0x1301 0 = true → (Safety.valueOf s w 0x1301 0).toNat.testBit k = true →
    s.rd SE_SECTION_OWNER_OWNER k ≠ 0 → s.rd SE_SECTION_OWNER_OWNER k ≠ w.q.port + 1 →
    exec (.seAcquire w) s = .next (s.answerWrite w.q 0x1301 0 stState)) ∧
  (s.servesNow w.q = true → s.formedNow w.q = true → s.waitsFor 0x1301 0 = none → s.available 0x1301 0 = true →
    w.mask = BitVec.allOnes 32 → s.get SE_EPOCH_EPOCH ≠ 0 → s.get SE_EPOCH_ACTIVE ≠ w.q.port + 1 →
    exec (.seAcquire w) s = .next (s.answerWrite w.q 0x1301 0 stNotActive))

/-- BT_CTRL BEGIN, END, RUN and ABORT: what each accepted command leaves, and END refused outside a download. Derived
from 11_boot_and_modes.md. -/
def Obligations.DownloadCommands : Prop :=
  ∀ (s : State) (w : Wr) (v : Word), v = Safety.valueOf s w 0x1401 0 → Safety.admits s w 0x1401 0 = true →
  (s.modeNow = modeBoot →
    (v.bits 2 0 = 1 → bootAllowed 1 (s.get BT_STATUS_STATE) = true →
      (768 ≤ s.get BT_LENGTH_BYTES → s.get BT_LENGTH_BYTES ≤ 786944 →
        exec (.bootBegin w) s = .next (Safety.served
          (((s.dropChunks (s.get BT_LENGTH_BYTES)).set BT_STATUS_STATE 1).set BT_STATUS_SESSION (v.bits 31 16)) w.q 0x1401 0 stOk)) ∧
      ((s.get BT_LENGTH_BYTES < 768 ∨ 786944 < s.get BT_LENGTH_BYTES) →
        exec (.bootBegin w) s = .next (s.answerWrite w.q 0x1401 0 stRange))) ∧
    (v.bits 2 0 = 2 → s.get BT_STATUS_STATE = 1 →
      exec (.bootEnd w) s = .next (Safety.served (s.set BT_STATUS_STATE 2) w.q 0x1401 0 stOk)) ∧
    (v.bits 2 0 = 3 → s.get BT_STATUS_STATE = 3 →
      exec (.bootRun w) s = .next (Safety.served s.bootRun w.q 0x1401 0 stOk)) ∧
    (v.bits 2 0 = 4 → bootAllowed 4 (s.get BT_STATUS_STATE) = true →
      exec (.bootAbort w) s = .next (Safety.served ((s.dropChunks 0).set BT_STATUS_STATE 0) w.q 0x1401 0 stOk))) ∧
  (v.bits 2 0 = 2 → s.get BT_STATUS_STATE ≠ 1 → exec (.bootEnd w) s = .next (s.answerWrite w.q 0x1401 0 stState)) ∧
  (v.bits 2 0 = 3 → s.get BT_STATUS_STATE ≠ 3 → exec (.bootRun w) s = .next (s.answerWrite w.q 0x1401 0 stState)) ∧
  (v.bits 2 0 = 3 → s.get BT_STATUS_STATE = 3 → s.modeNow ≠ modeBoot →
    exec (.bootRun w) s = .next (s.answerWrite w.q 0x1401 0 stMode))

/-- IMAGE frames are stored or refused, the image check ends in READY or its result, and the domains start. Derived
from 11_boot_and_modes.md. -/
def Obligations.ImageAndDomains : Prop :=
  ∀ (s : State) (q : Rq) (f : ImgFrame), Safety.wf s = true →
  (s.servesNow q = true → s.formedNow q = true → q.bcast = false → s.notActive q.port = false → s.holdsGuard q.port 0x1400 = true →
    (s.get BT_STATUS_STATE = 1 → f.session = s.get BT_STATUS_SESSION → f.offset % 256 = 0 →
      f.offset / 256 + f.chunks.length ≤ s.chunkCount →
      ∃ t : State, exec (.imageFrame q f) s = .next (t.takeRequest q) ∧
        (∀ k < f.chunks.length, t.boot.chunks.lookup (f.offset / 256 + k) = f.chunks[k]?) ∧
        (∀ j, (j < f.offset / 256 ∨ f.offset / 256 + f.chunks.length ≤ j) → t.boot.chunks.lookup j = s.boot.chunks.lookup j) ∧
        t.boot.length = s.boot.length ∧ t.get BT_STATUS_STATE = 1 ∧ t.lanes = s.lanes) ∧
    ((s.get BT_STATUS_STATE ≠ 1 ∨ f.session ≠ s.get BT_STATUS_SESSION ∨ f.offset % 256 ≠ 0 ∨
        s.chunkCount < f.offset / 256 + f.chunks.length) →
      exec (.imageFrame q f) s = .next ((s.takeRequest q).bump BT_IMAGE_REFUSED_COUNT))) ∧
  (s.running 0x1C = true → s.get BT_STATUS_STATE = 2 →
    (s.firstMissing = none →
      ∃ t : State, exec .imageCheckDone s = .next t ∧ t.get BT_STATUS_RESULT = imageResult s.imageBytes s.boot.length ∧
        t.get BT_STATUS_STATE = (if imageResult s.imageBytes s.boot.length = 1 then 3 else 4) ∧
        t.boot.fwIf = (if imageResult s.imageBytes s.boot.length = 1 then BitVec.ofNat 32 (field s.imageBytes 12 4) else s.boot.fwIf) ∧
        t.lanes = s.lanes) ∧
    (s.firstMissing.isSome = true →
      ∃ t : State, exec .imageCheckDone s = .next t ∧ t.get BT_STATUS_STATE = 1 ∧ t.get BT_STATUS_RESULT = 2 ∧
        t.boot = s.boot ∧ t.lanes = s.lanes)) ∧
  (s.get BT_STATUS_STATE ≠ 2 → exec .imageCheckDone s = .next s) ∧
  (s.get BT_STATUS_STATE = 5 → s.running 0x1C = true → s.on CK_STATUS_SRC = true →
    ∃ t : State, exec .domainStart s = .next t ∧ (s.pow.wakes = [] → t.on BT_STATUS_DOMAINS_UP = true) ∧
      (∀ d < 0x21, t.domState d = if s.domState d = 0 then 1 else s.domState d) ∧ t.lanes = s.lanes) ∧
  ((s.get BT_STATUS_STATE ≠ 5 ∨ s.on CK_STATUS_SRC = false) → exec .domainStart s = .next s)

/-- MD_REQUEST and what blocks it; mode changes take effect at their tick or count as refused; the clock stop of
DORMANT entry. Derived from 11_boot_and_modes.md. -/
def Obligations.Modes : Prop :=
  (∀ (s u : State) (w : Wr) (n : Nat), Safety.admits s w 0x1801 0 = true → n = (Safety.valueOf s w 0x1801 0).bits 3 0 →
  u = (if s.modeAsked then s.bump MD_REFUSED_COUNT else s) →
  (s.on MD_MODE_ENTERING = false →
    (n = 2 → s.modeNow = modeBoot → s.serviceOk = true →
      exec (.modeRequestService w) s = .next (Safety.served
        { u.set MD_REQUEST_REQ 2 with mode := { s.mode with next := some (modeService, 1, s.frame.ticks + 1) } }
        w.q 0x1801 0 stOk)) ∧
    (n = 2 → s.modeNow = modeService →
      exec (.modeRequestService w) s = .next (Safety.served
        { u.set MD_REQUEST_REQ 2 with mode := { s.mode with next := none } } w.q 0x1801 0 stOk)) ∧
    (n = 2 → s.modeNow = modeBoot → s.serviceOk = false →
      exec (.modeRequestService w) s = .next ((s.bump MD_REFUSED_COUNT).answerWrite w.q 0x1801 0 stState)) ∧
    (n = 2 → s.modeNow ≠ modeBoot → s.modeNow ≠ modeService →
      exec (.modeRequestService w) s = .next ((s.bump MD_REFUSED_COUNT).answerWrite w.q 0x1801 0 stMode)) ∧
    (n = 4 → s.modeNow = modeService → s.dormantOk = true →
      exec (.modeRequestDormant w) s = .next (Safety.served
        { u.set MD_REQUEST_REQ 4 with mode := { s.mode with next := some (modeDormant, 6, s.frame.ticks + 1) } }
        w.q 0x1801 0 stOk)) ∧
    (n = 4 → s.modeNow = modeService → s.dormantOk = false →
      exec (.modeRequestDormant w) s = .next ((s.bump MD_REFUSED_COUNT).answerWrite w.q 0x1801 0 stState)) ∧
    (n = 4 → s.modeNow ≠ modeService →
      exec (.modeRequestDormant w) s = .next ((s.bump MD_REFUSED_COUNT).answerWrite w.q 0x1801 0 stMode))) ∧
  (s.on MD_MODE_ENTERING = true →
    exec (.modeRequestService w) s = .next ((s.bump MD_REFUSED_COUNT).answerWrite w.q 0x1801 0 stState) ∧
    exec (.modeRequestDormant w) s = .next ((s.bump MD_REFUSED_COUNT).answerWrite w.q 0x1801 0 stState))) ∧
  (∀ (s : State) (m due : Nat), Safety.wf s = true →
  (due ≤ s.frame.ticks →
    (s.mode.next = some (m, 1, due) → s.modeNow = modeBoot → s.serviceOk = true →
      ∃ t : State, exec .modeChange s = .next t ∧ t.modeNow = modeService ∧ t.get MD_MODE_PRIOR = modeBoot ∧ t.get MD_MODE_CAUSE = 1 ∧
        t.mode.next = none ∧ t.lanes = s.lanes ∧ t.get MD_CHANGES_COUNT = satAdd 32 (s.get MD_CHANGES_COUNT) 1) ∧
    (s.mode.next = some (m, 1, due) → (s.modeNow ≠ modeBoot ∨ s.serviceOk = false) →
      exec .modeChange s = .next (({ s with mode := { s.mode with next := none } } : State).bump MD_REFUSED_COUNT)) ∧
    (s.mode.next = some (m, 6, due) → s.modeNow = modeService → s.dormantOk = true →
      ∃ t : State, exec .modeChange s = .next t ∧ t.modeNow = modeDormant ∧ t.on MD_MODE_ENTERING = true ∧ t.mode.entry = 1 ∧
        t.mode.next = none ∧ t.commit.shadow = none ∧ t.commit.ring = none ∧ t.pow.pend = none ∧ t.lanes = s.lanes) ∧
    (s.mode.next = some (m, 6, due) → (s.modeNow ≠ modeService ∨ s.dormantOk = false) →
      exec .modeChange s = .next (({ s with mode := { s.mode with next := none } } : State).bump MD_REFUSED_COUNT)) ∧
    (s.mode.next = some (m, 5, due) → s.modeNow = modeHoldover → s.on TC_STATUS_LOCK = true →
      ∃ t : State, exec .modeChange s = .next t ∧ t.modeNow = modeService ∧ t.get MD_MODE_CAUSE = 5 ∧ t.mode.next = none ∧
        t.lanes = s.lanes) ∧
    (s.mode.next = some (m, 3, due) → s.modeNow = modeSurvey →
      ∃ t : State, exec .modeChange s = .next t ∧ t.modeNow = modeService ∧ t.get MD_MODE_CAUSE = 3 ∧ t.lanes = s.lanes) ∧
    (s.mode.next = some (m, 10, due) → s.modeNow = modeDormant →
      ∃ t : State, exec .modeChange s = .next t ∧ t.modeNow = modeService ∧ t.get MD_MODE_CAUSE = 10 ∧ t.mode.entry = 0 ∧
        t.on MD_MODE_ENTERING = false ∧ t.lanes = s.lanes)) ∧
  ((s.mode.next = none ∨ (s.mode.next = some (m, 5, due) ∧ s.frame.ticks < due)) → exec .modeChange s = .next s) ∧
  (s.modeNow = modeDormant → s.on MD_MODE_ENTERING = true → s.mode.entry = 2 →
    (s.mode.wake = false →
      ∃ t : State, exec .dormantClockStop s = .next t ∧ t.frame.running = false ∧ t.mode.entry = 3 ∧
        t.on MD_MODE_ENTERING = false ∧ t.tc = 0 ∧ t.on TC_STATUS_CLK_READY = false ∧ t.get TC_DCO_FINE_s01 = s.fine % 65536) ∧
    (s.mode.wake = true →
      ∃ t : State, exec .dormantClockStop s = .next t ∧ t.frame.running = false ∧ t.mode.entry = 0 ∧ t.boot.waking = true ∧
        t.on MD_MODE_ENTERING = false ∧ t.on TC_STATUS_CLK_READY = false)) ∧
  ((s.modeNow ≠ modeDormant ∨ s.mode.entry ≠ 2) → exec .dormantClockStop s = .next s))

/-- PW_REQUEST GO waits for its tick, pends behind a running request, supersedes one pending, or is out of range.
Derived from 12_power_states.md. -/
def Obligations.PowerRequests : Prop :=
  ∀ (s : State) (w : Wr) (r n : PowReq), Safety.admits s w 0x6001 2 = true → (Safety.valueOf s w 0x6001 2).bits 31 31 = 1 →
  n = PowReq.mk s.namedDomains ((Safety.valueOf s w 0x6001 2).bits 1 0) (s.frame.ticks + 1) false →
  (s.modeNow ≠ modeDormant → s.on MD_MODE_ENTERING = false → s.namedDomains.any (fun d => s.domState d = 0) = false →
    s.namedDomains.contains (0x1D + w.q.port) = false →
    (s.namedDomains ≠ [] → s.namedDomains.all (accepts n.target) = true →
      (s.pow.run = none → s.pow.pend = none →
        exec (.powerRequest w) s = .next (Safety.served
          { s.set PW_STATUS_BUSY 1 with pow := { s.pow with run := some n } } w.q 0x6001 2 stOk)) ∧
      (s.pow.run.isSome = true → s.pow.pend = none →
        exec (.powerRequest w) s = .next (Safety.served
          { s.set PW_STATUS_PENDING 1 with pow := { s.pow with pend := some n } } w.q 0x6001 2 stOk)) ∧
      (s.pow.pend = some r →
        exec (.powerRequest w) s = .next (Safety.served
          { (((s.set PW_STATUS_RESULT 4).bumpAt PW_COUNTS_COUNT 4).set PW_STATUS_PENDING 1) with
            pow := { s.pow with pend := some n } } w.q 0x6001 2 stOk))) ∧
    ((s.namedDomains = [] ∨ s.namedDomains.all (accepts n.target) = false) →
      exec (.powerRequest w) s = .next (s.answerWrite w.q 0x6001 2 stRange))) ∧
  (s.modeNow ≠ modeDormant → (s.on MD_MODE_ENTERING = true ∨ s.namedDomains.any (fun d => s.domState d = 0) = true ∨
      s.namedDomains.contains (0x1D + w.q.port) = true) →
    exec (.powerRequest w) s = .next (s.answerWrite w.q 0x6001 2 stState)) ∧
  (s.modeNow = modeDormant → exec (.powerRequest w) s = .next (s.answerWrite w.q 0x6001 2 stMode))

/-- Neap entry: start, vote check, isolation domain by domain, and power-down. Derived from 12_power_states.md. -/
def Obligations.NeapEntry : Prop :=
  ∀ (s : State) (r : PowReq) (k d : Nat) (ds : List Nat), Safety.wf s = true → s.pow.run = some r →
  (s.get PW_STATUS_PHASE = 0 → r.due ≤ s.frame.ticks →
    (r.target = 3 →
      ∃ t : State, exec .powerRequestStart s = .next t ∧ t.get PW_STATUS_PHASE = 1 ∧ t.get PW_STATUS_BUSY = 1 ∧
        t.pow.run = some { r with due := s.frame.ticks + 1 } ∧ t.pow.isolated = [] ∧ t.lanes = s.lanes) ∧
    (r.target = 1 →
      ∃ t : State, exec .powerRequestStart s = .next t ∧ t.pow.run = none ∧ t.get PW_STATUS_BUSY = 0 ∧
        t.get PW_STATUS_RESULT = 1 ∧ t.lanes = s.lanes ∧ ∀ d ∈ r.doms, d < 0x21 → t.rd PW_DOMAIN_TARGET d = 1 ∧ t.domState d = s.domState d) ∧
    (r.target = 2 → refuser (s.runVotes r.doms) 127 r.doms = none →
      ∃ t : State, exec .powerRequestStart s = .next t ∧ t.pow.run = none ∧ t.get PW_STATUS_BUSY = 0 ∧
        t.get PW_STATUS_RESULT = 1 ∧ t.lanes = s.lanes ∧ ∀ d ∈ r.doms, d < 0x21 → s.domState d = 1 → t.domState d = 2) ∧
    (r.target = 2 → refuser (s.runVotes r.doms) 127 r.doms = some (k, d) →
      ∃ t : State, exec .powerRequestStart s = .next t ∧ t.pow.run = none ∧ t.get PW_STATUS_BUSY = 0 ∧
        t.get PW_STATUS_RESULT = 2 ∧ t.get PW_LAST_REFUSAL_CLIENT = k ∧ t.lanes = s.lanes)) ∧
  (s.frame.ticks < r.due → exec .powerRequestStart s = .next s) ∧
  (s.get PW_STATUS_PHASE = 1 → r.due ≤ s.frame.ticks → r.dormant = false → refuser (s.neapVotes r.doms) 127 r.doms = some (k, d) →
    exec .neapVoteCheck s = .next (((s.clearTransit r.doms).recordRefusal k d 1 0 3 0).endPower 2)) ∧
  (s.get PW_STATUS_PHASE = 1 → r.due ≤ s.frame.ticks → refuser (s.neapVotes r.doms) 127 r.doms = none →
    ∃ t : State, exec .neapVoteCheck s = .next t ∧ t.pow.toIsolate = s.neapList r ∧
      t.get PW_STATUS_PHASE = (if s.neapList r = [] then 3 else 2) ∧ t.pow.run = some r ∧ t.lanes = s.lanes) ∧
  (s.get PW_STATUS_PHASE ≠ 1 → exec .neapVoteCheck s = .next s) ∧
  (s.get PW_STATUS_PHASE = 2 →
    (s.pow.toIsolate = d :: ds → refuser (s.neapVotes r.doms) 15 (r.doms ++ s.pow.isolated ++ s.pow.toIsolate) = none →
      ∃ t : State, exec .neapIsolate s = .next t ∧ t.pow.isolated = s.pow.isolated ++ [d] ∧ t.pow.toIsolate = ds ∧
        t.get PW_STATUS_PHASE = (if ds = [] then 3 else 2) ∧ t.running d = false ∧ t.lanes = s.lanes) ∧
    (refuser (s.neapVotes r.doms) 15 (r.doms ++ s.pow.isolated ++ s.pow.toIsolate) = some (k, d) →
      exec .neapIsolate s = .next (s.rollBack r k d))) ∧
  (s.get PW_STATUS_PHASE ≠ 2 → exec .neapIsolate s = .next s) ∧
  (s.get PW_STATUS_PHASE = 3 →
    ∃ t : State, exec .neapPowerDown s = .next t ∧ t.pow.run = none ∧ t.pow.isolated = [] ∧ t.get PW_STATUS_BUSY = 0 ∧
      t.get PW_STATUS_RESULT = 1 ∧ (∀ d ∈ s.pow.isolated, d < 0x21 → t.domState d = 3) ∧
      (r.dormant = true → s.modeNow = modeDormant → t.mode.entry = 2)) ∧
  (s.get PW_STATUS_PHASE ≠ 3 → exec .neapPowerDown s = .next s)

/-- Demand wakes of sleeping domains: start, DORMANT, completion. Derived from 12_power_states.md. -/
def Obligations.WakesFromSleep : Prop :=
  ∀ (s : State) (d client : Nat) (w : Waking), Safety.wf s = true → d < 0x21 →
  (s.modeNow ≠ modeDormant → s.wakeCause d client = true → s.isolatedNow d = false → (s.domState d = 2 ∨ s.domState d = 3) →
    (∀ x ∈ s.pow.wakes, x.dom ≠ d) → client < 256 →
    ∃ t : State, exec (.domainWake d client) s = .next t ∧ t.rd PW_DOMAIN_TRANSIT d = 1 ∧ t.rd PW_DOMAIN_TARGET d = 1 ∧
      t.rd PW_DOMAIN_WOKEN_BY d = client ∧ t.domState d = s.domState d ∧ t.lanes = s.lanes ∧
      Waking.mk d (s.domState d) 1 client 1 s.frame.up ∈ t.pow.wakes ∧
      (16 ≤ d → t.pow.wakes = s.pow.wakes ++ [Waking.mk d (s.domState d) 1 client 1 s.frame.up] ∧
        t.rd PW_COUNTS_COUNT 5 = satAdd 32 (s.rd PW_COUNTS_COUNT 5) 1)) ∧
  (s.modeNow ≠ modeDormant → s.wakeCause d client = true → s.isolatedNow d = true → 16 ≤ d → (∀ x ∈ s.pow.late, x.1 ≠ d) →
    exec (.domainWake d client) s = .next { s with pow := { s.pow with late := s.pow.late ++ [(d, client)] } }) ∧
  ((s.modeNow = modeDormant ∨ s.wakeCause d client = false) → exec (.domainWake d client) s = .next s) ∧
  (s.pow.wakes.find? (fun w => w.dom = d) = some w → w.target < 4 → s.wakeReady d = true →
    ∃ t : State, exec (.domainWakeDone d) s = .next t.goOn ∧ t.pow.wakes = s.pow.wakes.filter (fun x => x.dom ≠ d) ∧
      t.domState d = w.target ∧ t.rd PW_DOMAIN_TRANSIT d = 0 ∧ t.lanes = s.lanes ∧ t.svc = s.svc) ∧
  ((s.pow.wakes.find? (fun w => w.dom = d) = none ∨ s.wakeReady d = false) → exec (.domainWakeDone d) s = .next s.goOn)

/-- Performance level requests, steps, frequency changes and the regulator's transactions. Derived from
12_power_states.md. -/
def Obligations.PerformanceSteps : Prop :=
  ∀ (s : State) (w : Wr) (v a b t mv n : Nat) (back : Bool), Safety.wf s = true →
  (Safety.admits s w 0x6101 0 = true → v = (Safety.valueOf s w 0x6101 0).bits 1 0 →
    (s.modeNow ≠ modeDormant → s.surveying = false → (s.on CK_STATUS_SRC = true ∨ v ≠ 2) → (s.on CK_LINK_CFG_FSEL = false ∨ v = 0) →
      (v < 3 → s.allFit s.windows (levelPath s.stepBase v) = true →
        exec (.perfLevelRequest w) s = .next
          (Safety.served (({ s with perf := { s.perf with asked := true } } : State).queueLevel v) w.q 0x6101 0 stOk)) ∧
      (v < 3 → s.allFit s.windows (levelPath s.stepBase v) = false →
        exec (.perfLevelRequest w) s = .next ((s.bumpAt PL_COUNTS_COUNT 1).answerWrite w.q 0x6101 0 stBudget)) ∧
      (v = 3 → exec (.perfLevelRequest w) s = .next ((s.bumpAt PL_COUNTS_COUNT 1).answerWrite w.q 0x6101 0 stRange))) ∧
    (s.modeNow ≠ modeDormant → s.surveying = false →
      ((s.on CK_STATUS_SRC = false ∧ v = 2) ∨ (s.on CK_LINK_CFG_FSEL = true ∧ v ≠ 0)) →
      exec (.perfLevelRequest w) s = .next ((s.bumpAt PL_COUNTS_COUNT 1).answerWrite w.q 0x6101 0 stState)) ∧
    ((s.modeNow = modeDormant ∨ s.surveying = true) →
      exec (.perfLevelRequest w) s = .next ((s.bumpAt PL_COUNTS_COUNT 1).answerWrite w.q 0x6101 0 stMode))) ∧
  (s.perf.pend = some t → s.mayStart t = true → s.perf.step = none →
    (s.get PL_STATUS_LEVEL < t →
      ∃ u : State, exec .perfStepStart s = .next u ∧ u.perf.step = some (s.get PL_STATUS_LEVEL, s.get PL_STATUS_LEVEL + 1) ∧
        u.perf.freqTick = some (s.frame.ticks + 2) ∧ u.get PL_STATUS_BUSY = 1 ∧ u.get PL_STATUS_LEVEL = s.get PL_STATUS_LEVEL) ∧
    (t < s.get PL_STATUS_LEVEL →
      ∃ u : State, exec .perfStepStart s = .next u ∧ u.perf.step = some (s.get PL_STATUS_LEVEL, s.get PL_STATUS_LEVEL - 1) ∧
        u.perf.op = some (if s.modeKnown then .writeVout (s.setpoint (s.get PL_STATUS_LEVEL - 1)) false else .readMode) ∧
        u.get PL_STATUS_BUSY = 1 ∧ u.get PL_STATUS_LEVEL = s.get PL_STATUS_LEVEL) ∧
    (t = s.get PL_STATUS_LEVEL →
      ∃ u : State, exec .perfStepStart s = .next u ∧ u.perf.pend = none ∧ u.get PL_STATUS_PENDING = 0 ∧ u.get PL_STATUS_RESULT = 1)) ∧
  (s.perf.pend = some t → t ≠ s.get PL_STATUS_LEVEL → s.on SM_STATUS_MARGINAL = true → exec .perfStepStart s = .next s) ∧
  (s.perf.step = some (a, b) → s.perf.freqTick = some t → b < 3 →
    (t ≤ s.frame.ticks → s.frame.tc = 0 →
      ∃ u : State, exec .perfFrequencyChange s = .next u ∧ u.get PL_STATUS_LEVEL = b ∧ u.rd TC_OUTDIV_RATIO 1 = 2 * tcPerEc b ∧
        u.rd TC_OUTDIV_RATIO 2 = 4 * tcPerEc b ∧ u.perf.lastTick = some s.frame.ticks ∧ u.perf.freqTick = none ∧
        (b ≤ a → u.perf.step = none ∧ u.get PL_STATUS_BUSY = 0)) ∧
    ((s.frame.ticks < t ∨ s.frame.tc ≠ 0) → exec .perfFrequencyChange s = .next s)) ∧
  (s.perf.op = some (.writeVout mv back) →
    (∃ u : State, exec (.pmbusTransactionDone .ack) s = .next u ∧ u.perf.settling = (!back) ∧ (s.perf.statusDue = false → u.perf.op = none)) ∧
    (s.perf.retries < 2 →
      exec (.pmbusTransactionDone .nack) s = .next { s with perf := { s.perf with retries := s.perf.retries + 1 } })) ∧
  (s.perf.op = some .readStatus →
    exec (.pmbusTransactionDone (.word n)) s = .next (s.set SM_ALERT_STATUS_WORD (n % 65536)).freeBus) ∧
  (s.perf.op = some .readMode → exec (.pmbusTransactionDone (.word n)) s = .next (s.gotMode n)) ∧
  (s.perf.op = some (.readVout mv) → exec (.pmbusTransactionDone (.word n)) s = .next (s.gotVout mv n)) ∧
  (s.perf.op = none → exec (.pmbusTransactionDone (.word n)) s = .next s) ∧
  (s.perf.settling = true → ∃ u : State, exec .voutSettleEnd s = .next u ∧ u.perf.settling = false ∧
    u.perf.op = some (.readVout (s.setpoint s.stepBase)) ∧ u.objs = s.objs) ∧
  (s.perf.settling = false → exec .voutSettleEnd s = .next s)

/-- A change of performance level leaves the ratios of TCLK, HCLK, DSREF and ACLK as they are. Formalises R59. -/
def Obligations.OtherClocksKeepTheirRatios : Prop :=
  ∀ (s t : State) (k : Nat), Safety.wf s = true → exec .perfFrequencyChange s = .next t → k < 6 → k ≠ 1 → k ≠ 2 →
  t.rd TC_OUTDIV_RATIO k = s.rd TC_OUTDIV_RATIO k ∧ t.rd TC_OUTDIV_RUNNING k = s.rd TC_OUTDIV_RUNNING k ∧
    t.prescale = s.prescale ∧ t.ratio = s.ratio

/-- A domain reset: accepted, begun at the next tick, released with its content lost, ended with the last handshake.
Derived from 14_resets_and_persistence.md. -/
def Obligations.DomainResets : Prop :=
  ∀ (s : State) (w : Wr) (r : DomReset) (d : Nat), Safety.wf s = true →
  (Safety.admits s w 0x6012 0 = true → (Safety.valueOf s w 0x6012 0).bits 31 31 = 1 → (Safety.valueOf s w 0x6012 0).bits 5 0 = d →
    (d ≤ 0x20 → s.modeNow ≠ modeDormant → s.surveying = false →
      (s.rst.dom = none → s.on PW_STATUS_BUSY = false → s.domState d ≠ 0 → d ≠ 0x1D + w.q.port →
        (d < 16 → s.groupBusy d = false) → (d = 0x19 → s.get CM_ARMED_STATE = 0 ∧ s.get SR_STATUS_STATE = 0) →
        (d ≠ 0x19 → (s.runVotes [] d).testBit 2 = false) → (s.runVotes [] d).testBit 3 = false →
        exec (.domainResetRequest w) s = .next (Safety.served
          (({ s.set PW_DOMAIN_RESET_BUSY 1 with
              rst := { s.rst with dom := some { dom := d, due := s.frame.ticks + 1, phase := 0, drops := 0 } } } : State).demandWake 0xFE d)
          w.q 0x6012 0 stOk)) ∧
      ((s.rst.dom.isSome = true ∨ s.on PW_STATUS_BUSY = true ∨ s.domState d = 0 ∨ d = 0x1D + w.q.port) →
        exec (.domainResetRequest w) s = .next (s.answerWrite w.q 0x6012 0 stState))) ∧
    (d ≤ 0x20 → (s.modeNow = modeDormant ∨ s.surveying = true) →
      exec (.domainResetRequest w) s = .next (s.answerWrite w.q 0x6012 0 stMode)) ∧
    (0x20 < d → exec (.domainResetRequest w) s = .next (s.answerWrite w.q 0x6012 0 stRange))) ∧
  (s.rst.dom = some r →
    (r.phase = 0 → s.running r.dom = true → (r.due ≤ s.frame.ticks ∨ s.frame.running = false) →
      ∃ t : State, exec .domainResetStart s = .next t.goOn ∧ t.rst.dom = some { r with phase := 1 } ∧ t.objs = s.objs ∧
        t.lanes = s.lanes ∧ t.running r.dom = false ∧ (0x10 ≤ r.dom → r.dom < 0x14 → t.monStopped (r.dom - 0x10) = true)) ∧
    ((r.phase ≠ 0 ∨ (s.frame.running = true ∧ s.frame.ticks < r.due)) → exec .domainResetStart s = .next s.goOn) ∧
    (r.phase = 1 →
      ∃ t : State, exec .domainResetRelease s = .next t.goOn ∧ t.rst.dom = some { r with phase := 2 } ∧
        (∀ index sub, sub < 65536 → objDomain index sub ≠ some r.dom → t.word index sub = s.word index sub) ∧
        (0x10 ≤ r.dom → t.lanes = s.lanes) ∧ (r.dom = 0x1F → t.survey = {} ∧ t.get SV_STATUS_STATE = 0)) ∧
    (r.phase ≠ 1 → exec .domainResetRelease s = .next s.goOn) ∧
    (0 < r.phase →
      exec (.crossingPeerDrop r.dom) s = .next
        (({ s.bumpAt PW_XING_PEER_RESETS r.dom with rst := { s.rst with dom := some { r with drops := r.drops + 1 } } } : State).goOn)) ∧
    (r.phase = 2 → r.drops ≤ 1 →
      exec (.crossingHandshakeDone r.dom) s = .next
        { (s.bumpAt PW_XING_RESETS r.dom).set PW_DOMAIN_RESET_BUSY 0 with rst := { s.rst with dom := none } }) ∧
    (r.phase = 2 → 1 < r.drops →
      exec (.crossingHandshakeDone r.dom) s = .next
        { s with rst := { s.rst with dom := some { r with drops := r.drops - 1 } } }))

/-- Frames and wakes in transit, own frames, signal detection, block lock and HELLOs. Derived from 09_feade_ring.md,
11_boot_and_modes.md. -/
def Obligations.RingTransit : Prop :=
  ∀ (s : State) (p q dest n ty : Nat) (f : RxFrame) (fs : List RxFrame) (x : RxItem) (xs : List RxItem) (y : BitVec 56) (h : Hello),
  Safety.wf s = true → p < 4 →
  (s.pairUp p = true → s.repeats = false →
    (s.outPair (otherPair p) = some q → (s.pair q).through = [] → (s.pair q).busyUp ≤ max s.frame.up (s.pair p).rxUp →
      frameGood f = true → knownType f.ftype = true → (f.dest ≠ s.address ∨ s.takesIn (portOf p) = false) → f.hops < 255 →
      (f.len ≤ 64 ∨ s.version q ≠ 0x10) →
      ∃ t : State, exec (.frameForward p (.frame f)) s = .next t ∧ (t.pair q).sent = some (.frame { f with hops := f.hops + 1 }) ∧
        (t.pair q).busyUp = max s.frame.up (s.pair p).rxUp + blockTc (lineBlocks f) ∧ t.objs = s.objs ∧ t.lanes = s.lanes) ∧
    (f.dest = s.address → s.takesIn (portOf p) = true → knownType f.ftype = true → frameGood f = true →
      exec (.frameForward p (.frame f)) s = .next s) ∧
    (f.hops = 255 → f.dest ≠ s.address → frameGood f = true → knownType f.ftype = true →
      exec (.frameForward p (.frame f)) s = .next (s.bumpAt FL_DISCARDED_COUNT p)) ∧
    (exec (.frameForward p (.badSync n none)) s = .next (s.bumpBy FL_SYNC_ERRORS_COUNT p n)) ∧
    (∀ c, (c = 0 ∨ c = 0x10) → exec (.frameForward p (.control c y)) s = .next s) ∧
    ((ty = 0x50 ∨ ty = 0x70) → exec (.frameForward p (.control ty y)) s = .next (s.pass p (.control ty y)))) ∧
  (s.pairUp p = true → s.repeats = true → staysHere x = false → exec (.frameForward p x) s = .next (s.pass p x)) ∧
  (s.pairUp p = false → exec (.frameForward p x) s = .next s) ∧
  (s.repeats = false → s.pairUp p = true →
    ((s.pair p).through = [] → (s.pair p).own = f :: fs → lineBlocks f + 8 ≤ 192 →
      ∃ t : State, exec (.ownFrameTransmit p) s = .next t ∧ (t.pair p).own = fs ∧ (t.pair p).sentOwn = some (s.cut p f).1 ∧
        (t.pair p).busyUp = max s.frame.up (s.pair p).busyUp + blockTc (lineBlocks (s.cut p f).1) ∧ t.lanes = s.lanes) ∧
    ((s.pair p).through = x :: xs → (s.pair p).own = [] →
      ∃ t : State, exec (.ownFrameTransmit p) s = .next t ∧ (t.pair p).through = xs ∧ (t.pair p).own = [] ∧
        (t.pair p).sentOwn = (s.pair p).sentOwn ∧ t.lanes = s.lanes ∧
        (x = .frame f → (t.pair p).sent = some (.frame (s.cut p f).1)) ∧ (x = .control ty y → (t.pair p).sent = some x)) ∧
    ((s.pair p).through = [] → (s.pair p).own = [] → exec (.ownFrameTransmit p) s = .next s)) ∧
  ((s.repeats = true ∨ s.pairUp p = false) → exec (.ownFrameTransmit p) s = .next s) ∧
  (s.safe.vaonLow = false →
    (s.rd FL_STATUS_STATE p = 0 → exec (.linkSignalDetect ⟨p, false⟩) s = .next (s.wr FL_STATUS_STATE p 1)) ∧
    (s.rd FL_STATUS_STATE p ≤ 1 →
      exec (.linkSignalDetect ⟨p, true⟩) s = .next (s.wr FL_STATUS_STATE p 2).collectorSamples ∧
      (s.standing = [] → ∃ t : State, exec (.linkSignalDetect ⟨p, true⟩) s = .next t ∧ t.rd FL_STATUS_STATE p = 2 ∧
        t.lanes = s.lanes ∧ t.frame = s.frame))) ∧
  (∀ cdr, (s.safe.vaonLow = true ∨ 2 ≤ s.rd FL_STATUS_STATE p) → exec (.linkSignalDetect ⟨p, cdr⟩) s = .next s) ∧
  (s.rd FL_STATUS_STATE p = 2 →
    ∃ t : State, exec (.linkBlockLock p) s = .next t.goOn ∧ t.rd FL_STATUS_STATE p = 3 ∧ (t.pair p).hellos = 0 ∧
      (t.pair p).agreed = 0 ∧ (t.pair p).toldAgreed = false ∧ (t.pair p).peer = none ∧
      (t.pair p).offer11 = decide (s.rd FL_CTRL_VERSION_MAX (portOf p) = 1) ∧
      t = { s with objs := t.objs, pairs := t.pairs } ∧ Safety.pagesKept [0x11] s t) ∧
  (s.pairUp p = false → s.silent p = false →
    ((s.pair p).agreed = 0 →
      ∃ t : State, exec (.helloSend p) s = .next t ∧ (t.pair p).seq = ((s.pair p).seq + 1) % 256 ∧
        (t.pair p).ctl.map Prod.fst = some 0x10 ∧ t.objs = s.objs ∧ t.lanes = s.lanes) ∧
    ((s.pair p).agreed ≠ 0 → (s.pair p).peer = some h → h.agreed = true → h.version = (s.pair p).agreed →
      s.rd FL_STATUS_STATE p = 3 →
      ∃ t : State, exec (.helloSend p) s = .next t ∧ (t.pair p).seq = ((s.pair p).seq + 1) % 256 ∧
        (t.pair p).ctl.map Prod.fst = some 0x10 ∧ t.rd FL_STATUS_STATE p = 4 ∧ (t.pair p).upUp = s.frame.up ∧ t.lanes = s.lanes)) ∧
  ((s.pairUp p = true ∨ s.silent p = true) → exec (.helloSend p) s = .next s) ∧
  (∀ u : State, u = (if s.pairUp p then s.pass p (.control 0x50 (BitVec.ofNat 56 (dest % 256 + 0xA5 * 256))) else s) →
    s.rd FL_STATUS_STATE p ≠ 0 →
    (s.rst.held = [] → s.toUs dest = true → s.modeNow = modeDormant → s.on MD_MODE_ENTERING = true →
      s.boot.waking = false → s.mode.wake = false →
      exec (.wakeReceive p dest) s = .next
        { u.bump FL_WAKES_COUNT with mode := { s.mode with wake := true } }) ∧
    (s.rst.held = [] → s.toUs dest = true → s.modeNow = modeDormant → s.on MD_MODE_ENTERING = false →
      s.boot.waking = false → s.mode.wake = false →
      exec (.wakeReceive p dest) s = .next (u.bump FL_WAKES_COUNT).beginExit) ∧
    (s.rst.held = [] → s.toUs dest = true → s.modeNow = modeSafe → s.mode.safeFrom = modeDormant →
      exec (.wakeReceive p dest) s = .next (u.bump FL_WAKES_COUNT)) ∧
    ((s.rst.held ≠ [] ∨ s.toUs dest = false ∨ (s.modeNow ≠ modeDormant ∧ s.modeNow ≠ modeSafe)) →
      exec (.wakeReceive p dest) s = .next u)) ∧
  (s.rd FL_STATUS_STATE p = 0 → exec (.wakeReceive p dest) s = .next s)

/-- HELLOs bring a pair UP; a loss resets its status; its stream is looped and released. Derived from 09_feade_ring.md. -/
def Obligations.LinkUpAndLoss : Prop :=
  ∀ (s : State) (p fine v : Nat) (h k : Hello), Safety.wf s = true → p < 4 →
  (s.rd FL_STATUS_STATE p = 3 → ((s.pair p).peer = none ∨ ((s.pair p).peer = some k ∧ sameHello h k = false)) →
    ∃ t : State, exec (.helloReceive p h) s = .next t ∧ (t.pair p).hellos = 1 ∧ (t.pair p).peer = some h ∧ (t.pair p).agreed = 0 ∧
      t.rd FL_STATUS_PEER_ADDR p = h.addr % 256 ∧ t.rd FL_STATUS_STATE p = 3 ∧ t.lanes = s.lanes) ∧
  (s.rd FL_STATUS_STATE p = 3 → (s.pair p).peer = some k → sameHello h k = true →
    ((s.pair p).hellos ≤ 1 →
      ∃ t : State, exec (.helloReceive p h) s = .next t ∧ (t.pair p).hellos = (s.pair p).hellos + 1 ∧ (t.pair p).agreed = 0 ∧
        t.rd FL_STATUS_STATE p = 3 ∧ t.lanes = s.lanes) ∧
    (2 ≤ (s.pair p).hellos → v = commonVersion (s.pair p).offer11 h →
      (v ≠ 0 → ((s.pair p).agreed ≠ v ∨ (s.pair p).toldAgreed = false ∨ h.agreed = false ∨ h.version ≠ v) →
        ∃ t : State, exec (.helloReceive p h) s = .next t ∧ (t.pair p).agreed = v ∧ t.rd FL_STATUS_STATE p = 3 ∧
          t.lanes = s.lanes) ∧
      (v ≠ 0 → (s.pair p).agreed = v → (s.pair p).toldAgreed = true → h.agreed = true → h.version = v →
        ∃ t : State, exec (.helloReceive p h) s = .next t ∧ t.rd FL_STATUS_STATE p = 4 ∧ t.rd FL_VERSION_AGREED_VALID p = 1 ∧
          t.rd FL_VERSION_AGREED_MAJOR p = v / 16 ∧ t.rd FL_VERSION_AGREED_MINOR p = v % 16 ∧ (t.pair p).upUp = s.frame.up ∧
          t.lanes = s.lanes) ∧
      (v = 0 →
        ∃ t : State, exec (.helloReceive p h) s = .next t ∧ (t.pair p).agreed = 0 ∧ (t.pair p).noVersion = true ∧
          t.rd FL_STATUS_STATE p = 3 ∧ t.lanes = s.lanes))) ∧
  (s.rd FL_STATUS_STATE p ≠ 3 → exec (.helloReceive p h) s = .next s) ∧
  (∀ u : State, u = s.declareLoss p → s.rd FL_STATUS_STATE p ≠ 0 →
    (u.rd FL_STATUS_STATE p = 0 ∧ u.rd FL_STATUS_PEER_ADDR p = 0xFF ∧ u.rd FL_VERSION_AGREED_VALID p = 0 ∧
      (u.pair p).lostUp = some s.frame.up ∧ (u.pair p).hellos = 0 ∧
      (s.repeats = false → u.rd FL_LOSSES_COUNT p = satAdd 32 (s.rd FL_LOSSES_COUNT p) 1) ∧ u.lanes = s.lanes ∧
      (s.rd FL_CTRL_LOOP_EN (portOf p) = 1 → s.rd FL_STATUS_LOOPED p = 0 → (u.pair p).engage = true)) ∧
    ((s.blockLocked p = false ∨ s.rst.held ≠ []) → exec (.linkLoss p fine) s = .next u) ∧
    (s.blockLocked p = true → s.rst.held = [] →
      exec (.linkLoss p fine) s = .next (
        if p = 2 * s.timingPort then u.refLoss fine else if p = 2 * (1 - s.timingPort) then u.loseTrim else u))) ∧
  (s.rd FL_STATUS_STATE p = 0 → exec (.linkLoss p fine) s = .next s) ∧
  ((s.pair p).engage = true →
    ∃ t : State, exec (.loopEngage p) s = .next t ∧ t.rd FL_STATUS_LOOPED p = 1 ∧ (t.pair p).engage = false ∧
      t.rd FL_LOOPS_COUNT p = satAdd (FL_LOOPS_COUNT.hi + 1 - FL_LOOPS_COUNT.lo) (s.rd FL_LOOPS_COUNT p) 1 ∧
      (t.pair (otherPair p)).own = (s.pair (otherPair p)).own ++ (s.pair p).own ∧
      (t.pair (otherPair p)).through = (s.pair (otherPair p)).through ++ (s.pair p).through ∧ t.lanes = s.lanes) ∧
  ((s.pair p).engage = false → exec (.loopEngage p) s = .next s) ∧
  (s.rd FL_STATUS_LOOPED p = 1 → s.pairUp p = true →
    (s.pair p).upUp + 3000 * s.rd FL_CTRL_LOOP_HOLD (portOf p) ≤ s.frame.up →
    ∃ t : State, exec (.loopRelease p) s = .next t ∧ t.rd FL_STATUS_LOOPED p = 0 ∧ t.lanes = s.lanes) ∧
  ((s.rd FL_STATUS_LOOPED p = 0 ∨ s.pairUp p = false ∨
      s.frame.up < (s.pair p).upUp + 3000 * s.rd FL_CTRL_LOOP_HOLD (portOf p)) →
    exec (.loopRelease p) s = .next s)

/-- When a RING_RESET is acted on, and when it is counted and changes nothing. Formalises R224. -/
def Obligations.RingResetBlocks : Prop :=
  ∀ (s : State) (p dest epoch : Nat), Safety.wf s = true → p < 4 →
  (s.pairUp p = true → s.repeats = false →
    ∀ u : State, u = (if dest = s.address then s
        else s.pass p (.control 0x60 (BitVec.ofNat 56 (dest % 256 + epoch % 2 ^ 32 * 256)))) →
    (s.toUs dest = true →
      ((s.get SE_EPOCH_EPOCH = 0 ∨ (epoch = s.get SE_EPOCH_EPOCH ∧ s.get SE_EPOCH_ACTIVE = portOf p + 1)) → s.rst.ringDue = none →
        exec (.ringResetReceive p dest epoch) s = .next
          { u with rst := { u.rst with ringDue := some (s.frame.up + 600), ringPort := portOf p + 1 } }) ∧
      ((s.get SE_EPOCH_EPOCH = 0 ∨ (epoch = s.get SE_EPOCH_EPOCH ∧ s.get SE_EPOCH_ACTIVE = portOf p + 1)) →
        s.rst.ringDue.isSome = true → exec (.ringResetReceive p dest epoch) s = .next u) ∧
      (s.get SE_EPOCH_EPOCH ≠ 0 → (epoch ≠ s.get SE_EPOCH_EPOCH ∨ s.get SE_EPOCH_ACTIVE ≠ portOf p + 1) →
        exec (.ringResetReceive p dest epoch) s = .next (u.bump FL_RESETS_REFUSED_COUNT))) ∧
    (s.toUs dest = false → exec (.ringResetReceive p dest epoch) s = .next u) ∧
    u.rst = s.rst ∧ u.lanes = s.lanes ∧ u.frame = s.frame) ∧
  (s.pairUp p = true → s.repeats = true →
    exec (.ringResetReceive p dest epoch) s = .next (s.pass p (.control 0x60 (BitVec.ofNat 56 (dest % 256 + epoch % 2 ^ 32 * 256))))) ∧
  (s.pairUp p = false → exec (.ringResetReceive p dest epoch) s = .next s)

/-- Fault reports, windows, records, containments, read-backs, SAFE_IN_N and the end of a cause. Derived from
13_faults_and_safe_state.md. -/
def Obligations.FaultReports : Prop :=
  ∀ (s : State) (r : Report) (w : Window) (src act unit due p sev : Nat) (x : Rec) (xs : List Rec), Safety.wf s = true →
  (s.collects = true → reservedSource r.src = false → s.masked r.src r.unit = false →
    ((s.wireSeen r).wire = true ∨ s.sourceBit FC_ACTIVE_BITS r.src = false) → sev = s.taken (s.wireSeen r) →
    (s.fault.window = none → sev ≤ 2 →
      ∃ t : State, exec (.faultReport [r]) s = .next t ∧ t.sourceBit FC_STICKY_BITS r.src = true ∧
        t.sourceBit FC_ACTIVE_BITS r.src = true ∧
        t.rd FC_COUNT_COUNT r.src = satAdd (FC_COUNT_COUNT.hi + 1 - FC_COUNT_COUNT.lo) (s.rd FC_COUNT_COUNT r.src) 1 ∧
        t.on FC_STATUS_WINDOW = true ∧ (1 ≤ sev → t.on FC_STATUS_DEGRADED = true) ∧
        (t.fault.window.map fun w => (w.closeUp, w.waitTick, w.boundUp)) =
          some ((s.windowEnd sev).1, (s.windowEnd sev).2, s.frame.up + s.pathTc 3000) ∧
        (t.fault.window.map fun w => (w.r.source, w.r.unit, w.r.sev, w.r.merged)) = some (r.src, r.unit, sev, 0) ∧
        t.fault.contain = s.fault.contain ++ (if s.containAction r.src sev = 0 then [] else
          [(r.src, s.containAction r.src sev, r.unit, if s.on TC_STATUS_CLK_READY then s.frame.ticks + 1 else s.frame.ticks, false)]) ∧
        t.lanes = s.lanes ∧ t.safe = s.safe ∧ t.frame = s.frame) ∧
    (s.fault.window = some w → sev ≤ w.r.escalated →
      ∃ t : State, exec (.faultReport [r]) s = .next t ∧ t.sourceBit FC_STICKY_BITS r.src = true ∧
        (t.fault.window.map fun w => (w.r.source, w.r.merged, w.r.escalated, w.closeUp)) =
          some (w.r.source, satAdd 16 w.r.merged 1, w.r.escalated, w.closeUp) ∧
        t.fault.contain = s.fault.contain ∧ t.lanes = s.lanes ∧ t.safe = s.safe ∧ t.frame = s.frame)) ∧
  ((s.collects = false ∨ reservedSource r.src = true ∨ s.masked r.src r.unit = true ∨
      ((s.wireSeen r).wire = false ∧ s.sourceBit FC_ACTIVE_BITS r.src = true)) → exec (.faultReport [r]) s = .next s) ∧
  (s.windowEnd 0 = (s.frame.up + s.pathTc 64, none) ∧ s.windowEnd 1 = s.windowEnd 0 ∧
    s.windowEnd 2 = (s.frame.up, if s.on TC_STATUS_CLK_READY then some (s.frame.ticks + 1) else none) ∧
    s.windowEnd 3 = (s.frame.up + s.pathTc 3000, none) ∧ s.windowEnd 4 = s.windowEnd 3) ∧
  (s.fault.window = some w → s.windowDue = true →
    (s.fault.fifo.length < 32 →
      ∃ t : State, exec .reactionWindowClose s = .next t ∧ t.fault.window = none ∧ t.fault.fifo = s.fault.fifo ++ [w.r.toRec] ∧
        t.on FC_STATUS_WINDOW = false ∧ t.lanes = s.lanes) ∧
    (32 ≤ s.fault.fifo.length →
      ∃ t : State, exec .reactionWindowClose s = .next t ∧ t.fault.window = none ∧ t.fault.fifo = s.fault.fifo ∧
        t.get FC_LOST_COUNT = satAdd (FC_LOST_COUNT.hi + 1 - FC_LOST_COUNT.lo) (s.get FC_LOST_COUNT) 1 ∧
        t.fault.gap.isSome = true ∧ t.lanes = s.lanes)) ∧
  (s.windowDue = false → exec .reactionWindowClose s = .next s) ∧
  (s.fault.contain = [(src, act, unit, due, false)] → due ≤ s.frame.ticks →
    exec .containmentApply s = .next (s.liveLanes.foldl (fun s e => s.containLane src act unit e)
      { s with fault := { s.fault with contain := [(src, act, unit, due, true)] } })) ∧
  ((∀ c, c ∈ s.fault.contain → c.2.2.2.2 = true ∨ s.frame.ticks < c.2.2.2.1) → exec .containmentApply s = .next s) ∧
  (s.fault.fifo = x :: xs → s.recording = true → s.fifoRoom x.code = true →
    (s.fault.gap = none → exec .faultRecordEnqueue s = .next { s.enqueue x none with fault := { s.fault with fifo := xs } }) ∧
    (∀ g, s.fault.gap = some g →
      exec .faultRecordEnqueue s = .next { s.postRec g.toRec none with fault := { s.fault with gap := none } })) ∧
  (s.fault.fifo = x :: xs → s.fault.gap = none → s.recording = false →
    exec .faultRecordEnqueue s = .next { s.postRec x none with fault := { s.fault with fifo := xs } }) ∧
  (s.fault.fifo = x :: xs → s.recording = true → s.fifoRoom x.code = false → exec .faultRecordEnqueue s = .next s) ∧
  (s.fault.fifo = [] → exec .faultRecordEnqueue s = .next s) ∧
  (∃ u : State, u.safe.dark = BitVec.allOnes 256 ∧ u.safe.flt = true ∧ u.safe.inLow = true ∧
    u.safe.latchHold = s.safe.vgate ∧ u.on SF_STATE_SAFE_IN = true ∧ u.lanes = s.lanes ∧
    exec .safeInLow s = .next (if s.collects then (u.passTo (s.frame.up + s.pathTc 2)).collectorSamples else u)) ∧
  (exec .fltReadbackMismatch s = .next (s.raiseLevel 13 unitDevice)) ∧
  (p < 256 → (s.gateMoving p = true ∨ s.collects = false) → exec (.gateReadbackMismatch p) s = .next s) ∧
  (p < 256 → s.gateMoving p = false → s.collects = true →
    exec (.gateReadbackMismatch p) s = .next
      (((s.wr GT_STATUS_READBACK_FAULT p 1).assertFlt (s.frame.up + s.pathTc 8)).raiseLevel
        (if s.get SF_STATE_STATE = 0 then 57 else 4) p)) ∧
  (src < 128 → (src < 5 ∨ 10 < src) → s.collects = true →
    ∃ t : State, exec (.faultCauseEnd src) s = .next t ∧ t.sourceBit FC_ACTIVE_BITS src = false ∧ t.lanes = s.lanes ∧
      t.fault = s.fault ∧ (src = 3 → t.safe.inLow = false) ∧ (src = 12 → t.on SM_STATUS_ALERT = false)) ∧
  (5 ≤ src → src ≤ 10 → exec (.faultCauseEnd src) s = .next s)

/-- A report at S3 outside a safe state enters the safe state. Derived from 13_faults_and_safe_state.md,
11_boot_and_modes.md. -/
def Obligations.SafeStateEntry : Prop :=
  ∀ (s : State) (r : Report), Safety.wf s = true → s.collects = true → s.fault.window = none → reservedSource r.src = false →
  s.masked r.src r.unit = false → ((s.wireSeen r).wire = true ∨ s.sourceBit FC_ACTIVE_BITS r.src = false) →
  3 ≤ s.rd FC_CFG_SEVERITY r.src → s.get SF_STATE_STATE = 0 →
  ∃ t : State, exec (.faultReport [r]) s = .next t ∧
    t.get SF_STATE_STATE = (if s.rd FC_CFG_SEVERITY r.src = 3 then 1 else 2) ∧ t.get SF_STATE_CAUSE = r.src ∧
    (3 < s.rd FC_CFG_SEVERITY r.src → t.on SF_FATAL_LATCHED = true) ∧
    t.safe.dark = BitVec.allOnes 256 ∧ t.safe.flt = true ∧ t.safe.release = none ∧ t.modeNow = modeSafe ∧
    t.commit.ring = none ∧ t.survey = {} ∧ t.cal.runs = [] ∧
    (t.fault.window.map fun w => w.closeUp) = some (s.frame.up + s.pathTc 3000) ∧
    ∀ e, (t.lane e).st = .off ∨ (t.lane e).st = .park ∨ (t.lane e).st = .fault

/-- FC_CLEAR of one source, of all and of FC_FIRST, and TI_INJECT. Derived from 13_faults_and_safe_state.md. -/
def Obligations.FaultClears : Prop :=
  ∀ (s : State) (w : Wr), Safety.wf s = true →
  (∀ v, v = Safety.valueOf s w 0x7005 0 → Safety.admits s w 0x7005 0 = true →
    (v.bits 31 31 = 0 → v.bits 30 30 = 0 → s.sourceBit FC_ACTIVE_BITS (v.bits 6 0) = false →
      exec (.faultClearSource w) s = .next (Safety.served (s.clearSource (v.bits 6 0)).settleStatus w.q 0x7005 0 stOk)) ∧
    (v.bits 31 31 = 0 → v.bits 30 30 = 0 → s.sourceBit FC_ACTIVE_BITS (v.bits 6 0) = true →
      exec (.faultClearSource w) s = .next (s.answerWrite w.q 0x7005 0 stState)) ∧
    (∀ u : State, u = ((List.range 128).filter fun k => !s.sourceBit FC_ACTIVE_BITS k).foldl State.clearSource s →
      v.bits 31 31 = 1 →
      (v.bits 30 30 = 0 → exec (.faultClearAll w) s = .next (Safety.served u.settleStatus w.q 0x7005 0 stOk)) ∧
      (v.bits 30 30 = 1 → s.get SF_STATE_STATE = 0 → s.fault.window = none →
        exec (.faultClearAll w) s = .next (Safety.served u.emptyFirst.settleStatus w.q 0x7005 0 stOk))) ∧
    (v.bits 31 31 = 0 → v.bits 30 30 = 1 → s.get SF_STATE_STATE = 0 → s.fault.window = none →
      exec (.firstFaultClear w) s = .next (Safety.served s.emptyFirst.settleStatus w.q 0x7005 0 stOk)) ∧
    (v.bits 30 30 = 1 → (s.get SF_STATE_STATE ≠ 0 ∨ s.fault.window.isSome = true) →
      exec (.firstFaultClear w) s = .next (s.answerWrite w.q 0x7005 0 stState))) ∧
  (∀ k, k < 128 → (s.clearSource k).sourceBit FC_STICKY_BITS k = false ∧
    (∀ j, j < 128 → j ≠ k → (s.clearSource k).sourceBit FC_STICKY_BITS j = s.sourceBit FC_STICKY_BITS j) ∧
    (s.clearSource k).fault.contain = s.fault.contain.filter (fun c => c.1 ≠ k) ∧
    ∀ j, (s.clearSource k).rd FC_COUNT_COUNT j = s.rd FC_COUNT_COUNT j) ∧
  (s.fault.taken = 0 → s.settleStatus.on FC_STATUS_DEGRADED = false) ∧
  (∀ v, v = Safety.valueOf s w 0x7C00 0 → Safety.admits s w 0x7C00 0 = true →
    (v.bits 31 31 = 0 → exec (.faultInject w) s = .next (Safety.served s w.q 0x7C00 0 stOk)) ∧
    (v.bits 31 31 = 1 →
      ((0 < s.injLeft ∨ s.modeNow = modeSafe ∨ (sourceUnits (v.bits 6 0)).all (s.masked (v.bits 6 0)) = true) →
        exec (.faultInject w) s = .next (s.answerWrite w.q 0x7C00 0 stState)) ∧
      (s.injLeft = 0 → s.modeNow ≠ modeSafe → (sourceUnits (v.bits 6 0)).all (s.masked (v.bits 6 0)) = false →
        (reservedSource (v.bits 6 0) = false → v.bits 23 16 ≠ 0 → v.bits 9 8 ≠ 0 →
          (s.rd FC_CFG_FLOOR (v.bits 6 0) ≠ 4 ∨ (v.bits 30 30 = 1 ∧ s.modeNow = modeBoot)) →
          ∃ t : State, exec (.faultInject w) s = .next (Safety.served t w.q 0x7C00 0 stOk) ∧ t.on TI_STATUS_PENDING = true ∧
            t.get TI_STATUS_REMAINING = v.bits 23 16 ∧ t.get TI_STATUS_SOURCE = v.bits 6 0 ∧ t.fault.invert = v.bits 9 8 ∧
            t.fault.injUp = s.frame.up ∧ t.lanes = s.lanes) ∧
        ((reservedSource (v.bits 6 0) = true ∨ v.bits 23 16 = 0 ∨ v.bits 9 8 = 0 ∨
            (s.rd FC_CFG_FLOOR (v.bits 6 0) = 4 ∧ (v.bits 30 30 = 0 ∨ s.modeNow ≠ modeBoot))) →
          exec (.faultInject w) s = .next (s.answerWrite w.q 0x7C00 0 stRange)))))

/-- SF_RELEASE, its refusals, its effect at the next tick and the mode that follows. Derived from
13_faults_and_safe_state.md, 11_boot_and_modes.md. -/
def Obligations.SafeRelease : Prop :=
  ∀ (s : State) (w : Wr) (t : Nat), Safety.wf s = true →
  (∀ v, v = Safety.valueOf s w 0x7101 0 → Safety.admits s w 0x7101 0 = true →
    (v.bits 0 0 = 0 → exec (.safeRelease w) s = .next (Safety.served s w.q 0x7101 0 stOk)) ∧
    (v.bits 0 0 = 1 →
      (s.releasable = true → v.bits 31 16 = 0x5AFE →
        (s.on TC_STATUS_CLK_READY = true →
          exec (.safeRelease w) s = .next (Safety.served
            { (s.bumpAt SF_COUNTS_COUNT 2).clearSevere with safe := { s.safe with release := some (s.frame.ticks + 1) } }
            w.q 0x7101 0 stOk)) ∧
        (s.on TC_STATUS_CLK_READY = false →
          exec (.safeRelease w) s = .next (Safety.served (s.bumpAt SF_COUNTS_COUNT 2).clearSevere.endSafe w.q 0x7101 0 stOk))) ∧
      (s.releasable = false → v.bits 31 16 = 0x5AFE →
        exec (.safeRelease w) s = .next ((s.bumpAt SF_COUNTS_COUNT 3).answerWrite w.q 0x7101 0 stState)) ∧
      (v.bits 31 16 ≠ 0x5AFE →
        exec (.safeRelease w) s = .next ((s.bumpAt SF_COUNTS_COUNT 3).answerWrite w.q 0x7101 0 stRange)))) ∧
  (s.safe.release = some t → t ≤ s.frame.ticks →
    (s.mode.safeFrom ≠ modeDormant →
      ∃ u : State, exec .safeReleaseEffect s = .next u ∧ u.get SF_STATE_STATE = 0 ∧ u.safe.flt = s.safe.hold ∧
        u.safe.release = none ∧ u.safe.dark = s.safe.dark ∧ u.modeNow = s.modeAfter ∧ u.get MD_MODE_CAUSE = 9 ∧
        (∀ k, k < 8 → u.word 0x5204 (0x80 + k) = 0xFFFFFFFF) ∧ u.lanes = s.lanes) ∧
    (s.mode.safeFrom = modeDormant → s.frame.running = false →
      ∃ u : State, exec .safeReleaseEffect s = .next u ∧ u.get SF_STATE_STATE = 0 ∧ u.safe.flt = s.safe.hold ∧
        u.safe.release = none ∧ u.boot.waking = true ∧ u.lanes = s.lanes)) ∧
  (s.safe.release = some t → s.frame.ticks < t → exec .safeReleaseEffect s = .next s) ∧
  (s.safe.release = none → exec .safeReleaseEffect s = .next s) ∧
  (2 ≤ s.get TB_STATUS_STATE → s.mode.safeFrom = modeService → s.modeAfter = if s.coasting then modeHoldover else modeService) ∧
  ((s.get TB_STATUS_STATE ≤ 1 ∨ s.mode.safeFrom = modeBoot) → s.modeAfter = modeBoot)

/-- Supply rails, SUPPLY_MARGINAL, the brownout reset, temperature conversions and the regulator's alert. Derived from
13_faults_and_safe_state.md, 14_resets_and_persistence.md. -/
def Obligations.SupplyAndTemperature : Prop :=
  ∀ (s : State) (r lowest status t k : Nat) (v : Int), Safety.wf s = true → r < 2 →
  ((s.rail r).low = false →
    ∃ u : State, exec (.supplyWarningCross r lowest) s = .next u ∧
      u.rail r = { low := true, crossUp := s.frame.up, dip := false, lowest := lowest } ∧ u.rail (1 - r) = s.rail (1 - r) ∧
      (if r = 0 then u.on SM_STATUS_VCORE_LOW else u.on SM_STATUS_VTIME_LOW) = true ∧ u.lanes = s.lanes) ∧
  ((s.rail r).low = true → exec (.supplyWarningCross r lowest) s = .next s) ∧
  ((s.rail r).low = true → (s.rail r).dip = false → s.rst.held = [] →
    ∃ u : State, exec (.supplyDipQualify r lowest) s = .next (u.raiseLevel (8 + r) unitDevice) ∧ u.on SM_STATUS_MARGINAL = true ∧
      (u.rail r).dip = true ∧ (u.rail r).lowest = min (s.rail r).lowest lowest ∧ u.supply.recoverUp = none ∧
      u.on TB_STATUS_SUSPENDED = true ∧ u.cal.runs = [] ∧ u.time.step = none ∧ u.time.resume = false ∧
      u.frame.up = max s.frame.up ((s.rail r).crossUp + 300) ∧
      u.rd SM_COUNTS_COUNT (1 + 3 * r) =
        satAdd (SM_COUNTS_COUNT.hi + 1 - SM_COUNTS_COUNT.lo) (s.rd SM_COUNTS_COUNT (1 + 3 * r)) 1) ∧
  (((s.rail r).low = false ∨ (s.rail r).dip = true ∨ s.rst.held ≠ []) → exec (.supplyDipQualify r lowest) s = .next s) ∧
  ((s.rail r).low = true → (s.rail r).dip = false →
    exec (.supplyRecover ⟨r, lowest⟩) s = .next (if s.rst.held = [] then
      (((s.setLow r false).setRail r {}).endCause (5 + r)).bumpAt SM_COUNTS_COUNT (3 * r)
      else ((s.setLow r false).setRail r {}).endCause (5 + r))) ∧
  ((s.rail r).low = true → (s.rail r).dip = true →
    ∃ u : State, exec (.supplyRecover ⟨r, lowest⟩) s = .next u ∧ u.rail r = {} ∧ u.supply.recoverUp = some s.frame.up ∧
      u.word 0x7812 (2 * r) = BitVec.ofNat 32 (s.nsSince (s.rail r).crossUp) ∧
      u.word 0x7812 (2 * r + 1) = BitVec.ofNat 32 (min (s.rail r).lowest lowest % 65536) ∧ u.lanes = s.lanes) ∧
  ((s.rail r).low = false → exec (.supplyRecover ⟨r, lowest⟩) s = .next s) ∧
  (s.supply.recoverUp = some t → t + 30000 ≤ s.frame.up → s.supply.vcore.dip = false → s.supply.vtime.dip = false →
    s.on SM_STATUS_MARGINAL = true →
    ∃ u : State, exec .supplyMarginalClear s = .next u ∧ u.on SM_STATUS_MARGINAL = false ∧ u.supply.recoverUp = none ∧
      u.time.resume = true ∧ u.lanes = s.lanes) ∧
  (s.supply.recoverUp = some t → s.frame.up < t + 30000 → exec .supplyMarginalClear s = .next s) ∧
  ((s.supply.recoverUp = none ∨ s.supply.vcore.dip = true ∨ s.supply.vtime.dip = true) →
    exec .supplyMarginalClear s = .next s) ∧
  (s.rst.held.contains 1 = false → s.rst.held.contains 2 = false → s.supply.brown = none →
    ((s.rail r).low = true →
      exec (.supplyResetLevel r) s = .next (({ s.bumpAt SM_COUNTS_COUNT (2 + 3 * r) with
        supply := { s.supply with brown := some (s.frame.up + s.pathTc 64, r) } } : State).raiseLevel (5 + r) unitDevice)) ∧
    ((s.rail r).low = false →
      ∃ u : State, exec (.supplyResetLevel r) s = .next (u.raiseLevel (5 + r) unitDevice) ∧ (u.rail r).low = true ∧
        u.supply.brown = some (s.frame.up + s.pathTc 64, r) ∧ u.lanes = s.lanes)) ∧
  ((s.rst.held.contains 1 = true ∨ s.rst.held.contains 2 = true ∨ s.supply.brown.isSome = true) →
    exec (.supplyResetLevel r) s = .next s) ∧
  (s.supply.brown = some (t, r) →
    ∃ u : State, exec .brownoutResetAssert s = .next u ∧ u.rst.held = 2 :: s.rst.held ∧ u.rst.rail = r + 1 ∧ u.lanes = [] ∧
      u.supply.brown = none ∧ u.safe.dark = BitVec.allOnes 256 ∧ u.frame.up = max s.frame.up t) ∧
  (s.supply.brown = none → exec .brownoutResetAssert s = .next s) ∧
  (s.rst.held = [] → k < 65 → -2048 ≤ v → v ≤ 2047 →
    ∃ u : State, exec (.temperatureConversion [(k, v)]) s = .next u ∧
      (if k < 64 then u.rdI (TH_TILE_TEMP_TEMP.tile k) 0 else u.getI TH_TIME_TEMP_TEMP) = v ∧
      u.getI TH_MAX_TEMP = (if s.getI TH_MAX_TEMP = 0 then v else max v (s.getI TH_MAX_TEMP)) ∧
      u.fault.crit = hotSensors (s.get TH_LIMITS_CRIT) s.fault.crit [(k, v)] ∧
      u.fault.warm = hotSensors (s.get TH_LIMITS_WARN) s.fault.warm [(k, v)] ∧
      (u.fault.crit = [] → u.fault.warm = [] → k < 64 → u.lanes = s.lanes)) ∧
  (∀ l, s.rst.held ≠ [] → exec (.temperatureConversion l) s = .next s) ∧
  (∀ u : State, u = (s.set SM_STATUS_ALERT 1).raiseLevel 12 unitDevice → s.on SM_STATUS_ALERT = false → s.rst.held = [] →
    ((u.perf.op.isSome = true ∨ u.perf.asked = false) →
      exec (.pmbusAlert status) s = .next { u with perf := { u.perf with statusDue := true } }) ∧
    (u.perf.op = none → u.perf.asked = true →
      exec (.pmbusAlert status) s = .next (u.set SM_ALERT_STATUS_WORD (status % 65536)))) ∧
  ((s.on SM_STATUS_ALERT = true ∨ s.rst.held ≠ []) → exec (.pmbusAlert status) s = .next s)

/-- Cold, pin and ring resets, the release of a device reset, and VGATE crossings. Derived from
14_resets_and_persistence.md, 03_clocks_and_drive_synthesiser.md. -/
def Obligations.DeviceResets : Prop :=
  ∀ (s : State) (width d : Nat) (x : Straps), Safety.wf s = true →
  (∃ t : State, exec .coldReset s = .next t ∧ t.rst.held = 1 :: s.rst.held ∧ t.lanes = [] ∧ t.safe.dark = BitVec.allOnes 256 ∧
    t.safe.hold = true ∧ t.safe.flt = true ∧ t.frame.running = false) ∧
  (100 ≤ width →
    ∃ t : State, exec (.pinReset width) s = .next t ∧ t.rst.held = 3 :: s.rst.held ∧ t.lanes = [] ∧
      t.safe.dark = BitVec.allOnes 256 ∧ t.safe.hold = true ∧ t.safe.flt = true ∧ t.frame.running = false) ∧
  (width < 40 → exec (.pinReset width) s = .next s) ∧
  (40 ≤ width → width < 100 →
    exec (.pinReset width) s = .next { s with fresh := s.fresh + 1 } ∨
      ∃ t : State, exec (.pinReset width) s = .next t ∧ t.rst.held = 3 :: s.rst.held ∧ t.lanes = []) ∧
  (s.rst.ringDue = some d →
    ∃ t : State, exec .ringResetAssert s = .next t ∧ t.rst.held = 4 :: s.rst.held ∧ t.rst.ringDue = none ∧ t.lanes = [] ∧
      t.rst.ringPort = s.rst.ringPort ∧ t.safe.hold = true ∧ t.safe.flt = true ∧ t.frame.up = max s.frame.up d) ∧
  (s.rst.ringDue = none → exec .ringResetAssert s = .next s) ∧
  (s.rst.held = [] → exec (.resetRelease x) s = .next s) ∧
  (s.rst.held ≠ [] → s.on SF_FATAL_LATCHED = false → s.standing = [] →
    ∃ t : State, exec (.resetRelease x) s = .next t ∧ t.rst.held = [] ∧ t.modeNow = modeBoot ∧ t.get MD_MODE_CAUSE = 0 ∧
      t.get MD_RESET_CAUSE_KIND = s.rst.held.foldl min 4 ∧ t.tc = 1 ∧ t.lanes = s.lanes ∧ t.safe.hold = s.safe.hold ∧
      (s.rst.held.foldl min 4 ≤ 2 → t.get ID_STRAPS_ADDR = x.addr % 2 ^ (ID_STRAPS_ADDR.hi + 1 - ID_STRAPS_ADDR.lo)) ∧
      (∀ k, k < 8 → t.word 0x5204 (0x80 + k) = 0xFFFFFFFF)) ∧
  (s.rst.held ≠ [] → s.on SF_FATAL_LATCHED = true → s.fault.window = none → s.rd FC_CFG_SEVERITY 2 = 4 →
    s.get SF_STATE_STATE = 0 →
    ∃ t : State, exec (.resetRelease x) s = .next t ∧ t.rst.held = [] ∧ t.modeNow = modeSafe ∧ t.get SF_STATE_STATE = 2 ∧
      t.on MD_RESET_CAUSE_FATAL_SEEN = true) ∧
  ((s.safe.sampled = true ∨ s.rst.held ≠ []) →
    exec (.vgateCrossing true) s = .next { s with safe := { s.safe with vgate := true } }) ∧
  (s.safe.sampled = false → s.rst.held = [] →
    ∃ t : State, exec (.vgateCrossing true) s = .next t ∧ t.safe.vgate = true ∧ t.safe.sampled = true ∧
      t.get ID_STRAPS_SAFEPOL = s.safe.pin.toNat ∧ t.lanes = s.lanes) ∧
  (∃ t : State, exec (.vgateCrossing false) s = .next t ∧ t.safe.vgate = false ∧ t.safe.latchHold = false ∧ t.lanes = s.lanes ∧
    (s.safe.vaonLow = true → t.on SF_FATAL_LATCHED = false) ∧ (s.safe.vaonLow = false → t.objs = s.objs))

/-- The state after reset, in which the model's invariant holds. Derived from 14_resets_and_persistence.md,
11_boot_and_modes.md, 13_faults_and_safe_state.md. -/
def Obligations.ResetState : Prop :=
  Safety.wf State.reset = true ∧ State.reset.pending = [] ∧ State.reset.modeNow = modeBoot ∧ State.reset.get MD_MODE_PRIOR = 0 ∧
  State.reset.get MD_RESET_CAUSE_KIND = 1 ∧ State.reset.get MD_CHANGES_COUNT = 1 ∧ State.reset.tc = 1 ∧
  State.reset.get SF_STATE_STATE = 0 ∧ State.reset.on SF_FATAL_LATCHED = false ∧ State.reset.safe.dark = BitVec.allOnes 256 ∧
  State.reset.safe.hold = true ∧ State.reset.safe.flt = true ∧ State.reset.rst.held = [] ∧ State.reset.lanes = [] ∧
  State.reset.frame.running = false ∧ State.reset.on CK_STATUS_SRC = false ∧ State.reset.get PL_STATUS_LEVEL = 1 ∧
  State.reset.on EV_STATUS_CHAIN = false ∧ State.reset.get SE_EPOCH_EPOCH = 0 ∧ State.reset.svc = {} ∧
  (∀ d, d < 0x21 → State.reset.domState d = 0) ∧ (∀ k, k < 4 → State.reset.rd FL_STATUS_STATE k = 0) ∧
  (∀ k, k < 8 → State.reset.word 0x5204 (0x80 + k) = 0xFFFFFFFF) ∧ (∀ k, k < 16 → State.reset.rd SE_SECTION_OWNER_OWNER k = 0)

/-- Every step from a state of the model's invariant leads to one. Derived from 01_architecture_and_frame.md,
08_evidence_log.md, 10_object_dictionary.md. -/
def Obligations.EveryStepKeepsTheInvariant : Prop :=
  ∀ (s t : State), Safety.wf s = true → step s = .next t → Safety.wf t = true

/-- No command changes the queue of the commands that wait. Derived from 10_object_dictionary.md. -/
def Obligations.CommandsLeaveTheQueue : Prop :=
  ∀ (c : Instr) (s t : State), Safety.wf s = true → exec c s = .next t → t.pending = s.pending

/-- Every command completes in every state of the model's invariant. Derived from 95_what_each_step_holds.md,
10_object_dictionary.md, 08_evidence_log.md. -/
def Obligations.EveryCommandCompletes : Prop :=
  ∀ (c : Instr) (s : State), Safety.wf s = true →
  ∃ t : State, exec c s = .next t ∧ Safety.wf t = true ∧ t.pending = s.pending

/-- Every admitted write command runs its object's rule on the value formed and is answered with its outcome. Derived
from 10_object_dictionary.md. -/
def Obligations.WriteCommands : Prop :=
  ∀ (c : Instr) (s : State) (w : Wr) (i k : Nat), Safety.wf s = true → Safety.writeRow c = some (i, k, w) →
  (Safety.admits s w i k = true →
    ∀ r : Nat × State, r = s.objectRule (Safety.eccOf c) w.q.port i k (Safety.valueOf s w i k) →
    (refuses r.1 = false → exec c s = .next (Safety.served r.2 w.q i k r.1)) ∧
    (refuses r.1 = true →
      exec c s = .next ((r.2.countRefused r.1 i k (Safety.valueOf s w i k)).answerWrite w.q i k r.1))) ∧
  (s.servesNow w.q = true → s.formedNow w.q = true → s.writeWaits i k 0 = none →
    s.precheck w.q.port i k w.mask = none → w.mask = 0 → exec c s = .next (s.answerWrite w.q i k stOk)) ∧
  (s.servesNow w.q = true → s.formedNow w.q = false → exec c s = .next (s.answerWrite w.q i k stFormat)) ∧
  (s.hears w.q = false → exec c s = .next s)

/-- A write refused before its object's own rule changes only the answer and the counts of requests. Derived from
10_object_dictionary.md, 13_faults_and_safe_state.md. -/
def Obligations.RefusedWrites : Prop :=
  ∀ (c : Instr) (s : State) (w : Wr) (i k st : Nat), Safety.wf s = true → Safety.writeRow c = some (i, k, w) →
  s.servesNow w.q = true → s.formedNow w.q = true → s.writeWaits i k (w.value &&& w.mask) = none →
  s.precheck w.q.port i k w.mask = some st →
  ∃ t : State, exec c s = .next t ∧ t = (s.countRefused st i k (w.value &&& w.mask)).answerWrite w.q i k st ∧
    t = { s with objs := t.objs, pairs := t.pairs, portA := t.portA, portB := t.portB, lastPort := t.lastPort } ∧
    Safety.pagesKept [0x10, 0x11, 0x50, 0x71] s t

/-- A change of DIV_MODE is bumpless. Formalises R43. -/
def Obligations.DivModeBumpless : Prop :=
  ∀ (s : State) (w : Wr), Safety.wf s = true → Safety.admits s w 0x2001 0 = true → (Safety.valueOf s w 0x2001 0).bits 3 0 ≤ 6 →
  (s.get TC_CONTROL_DIV_MODE = 1 → (Safety.valueOf s w 0x2001 0).bits 5 5 = 0 →
    ∃ t : State, exec (.divModeWrite w) s = .next (Safety.served t w.q 0x2001 0 stOk) ∧ t.get TC_CONTROL_DIV_MODE = 0 ∧
      t.get TC_DIV_NEXT_PRESCALE = s.get TC_DIV_ACTIVE_PRESCALE ∧ t.get TC_DIV_NEXT_NINT = s.get TC_DIV_ACTIVE_NINT ∧
      t.get TC_DIV_NEXT_FRAC = s.get TC_DIV_ACTIVE_FRAC ∧ t.prescale = s.prescale ∧ t.ratio = s.ratio) ∧
  (s.get TC_CONTROL_DIV_MODE = 0 → (Safety.valueOf s w 0x2001 0).bits 5 5 = 1 →
    ∃ t : State, exec (.divModeWrite w) s = .next (Safety.served t w.q 0x2001 0 stOk) ∧ t.get TC_CONTROL_DIV_MODE = 1 ∧
      t.get TC_TRACK_NOW = toBits 32 (offsetOf s.prescale s.offsetLsb) ∧
      t.get TC_TRACK_TARGET = toBits 32 (offsetOf s.prescale s.offsetLsb) ∧ t.prescale = s.prescale ∧ t.ratio = s.ratio)

/-- EV_ACK: what is refused, and what an accepted one frees. Formalises R199. -/
def Obligations.EvidenceAck : Prop :=
  ∀ (s : State) (w : Wr) (n : Nat), Safety.wf s = true → n = (Safety.valueOf s w 0x2606 0).bits 9 0 →
  (Safety.admits s w 0x2606 0 = true →
    ((Safety.valueOf s w 0x2606 0).bits 31 16 ≠ s.evHead % 65536 ∨ n = 0 ∨ s.ev.sealed.length < n →
      exec (.evidenceAck w) s = .next (s.answerWrite w.q 0x2606 0 stRange)) ∧
    ((Safety.valueOf s w 0x2606 0).bits 31 16 = s.evHead % 65536 → 1 ≤ n → n ≤ s.ev.sealed.length →
      ∃ t : State, exec (.evidenceAck w) s = .next (Safety.served t w.q 0x2606 0 stOk) ∧ t.ev.sealed = s.ev.sealed.drop n ∧
        t.evHead = s.evHead + n ∧ t.lanes = s.lanes)) ∧
  (s.servesNow w.q = true → s.formedNow w.q = true → w.mask = BitVec.allOnes 32 →
    s.writeWaits 0x2606 0 (w.value &&& w.mask) = none →
    s.notActive w.q.port = false → s.rd SE_SECTION_OWNER_OWNER 6 ≠ w.q.port + 1 →
    exec (.evidenceAck w) s = .next (s.answerWrite w.q 0x2606 0 stGuard))

/-- Frame of the drive synthesiser's events. Derived from 03_clocks_and_drive_synthesiser.md. -/
def Obligations.FrameDrive : Prop :=
  ∀ (s t : State) (c : Instr) (coarse : Nat), Safety.wf s = true →
  c ∈ [Instr.dsStart, .dsPhaseEnd coarse, .dsStartTimeout, .pdmSourceMove, .sscChangeApply] → exec c s = .next t →
  t = { s with objs := t.objs, clocks := t.clocks } ∧ Safety.pagesKept [0x21] s t

/-- Frame of forwarding, own frames, HELLOs and loopback. Derived from 09_feade_ring.md, 07_time_and_timestamps.md,
08_evidence_log.md. -/
def Obligations.FrameRing : Prop :=
  ∀ (s t : State) (c : Instr) (p : Nat) (x : RxItem) (h : Hello), Safety.wf s = true → p < 4 → exec c s = .next t →
  (c ∈ [Instr.frameForward p x, .ownFrameTransmit p] →
    t = { s with objs := t.objs, pairs := t.pairs } ∧ Safety.pagesKept [0x11] s t) ∧
  (c ∈ [Instr.helloSend p, .helloReceive p h, .loopEngage p, .loopRelease p] →
    t = { s with objs := t.objs, pairs := t.pairs, ev := t.ev, fresh := t.fresh } ∧ Safety.pagesKept [0x11, 0x24, 0x26] s t)

/-- Frame of recentring, tracking steps, an aborted re-lock and qualification. Derived from 02_timing_synthesiser.md. -/
def Obligations.FrameTiming : Prop :=
  ∀ (s t : State) (c : Instr) (f : Nat) (within : Bool) (offset : Int), Safety.wf s = true → s.timing.commit = none →
  c ∈ [Instr.recentre f, .trackRampStep, .relockTimeout, .referenceQualified within offset] → exec c s = .next t →
  t = { s with objs := t.objs, timing := t.timing, fresh := t.fresh, frame := { s.frame with up := t.frame.up, tc := t.frame.tc } } ∧
    Safety.pagesKept [0x20] s t

/-- Frame of the evidence writer. Derived from 08_evidence_log.md, 07_time_and_timestamps.md. -/
def Obligations.FrameEvidence : Prop :=
  ∀ (s t : State) (c : Instr), Safety.wf s = true →
  c ∈ [Instr.evidenceRecordWrite, .sealTimeout, .chainRestart] → exec c s = .next t →
  t = { s with objs := t.objs, ev := t.ev } ∧ Safety.pagesKept [0x25, 0x26] s t

/-- Frame of the reads that wait for no domain and meet no uncorrectable error. Derived from 10_object_dictionary.md,
08_evidence_log.md. -/
def Obligations.FrameReads : Prop :=
  ∀ (s t : State) (c : Instr) (q : Rq) (i k : Nat) (ecc : EccOutcome) (raw : Word), Safety.wf s = true → s.waitsFor i k = none →
  s.svcFree = true → s.on TI_STATUS_PENDING = false → ecc ≠ .uncorrected →
  (c = .timeReadLatch q → s.waitsFor 0x2400 0 = none) → (c = .ckStatusRead q → s.waitsFor 0x2200 0 = none) →
  c ∈ [Instr.readRequest q i k, .word64ReadLatch q i k, .evidenceRead q i k ecc raw, .timeReadLatch q, .ckStatusRead q] →
  exec c s = .next t →
  t = { s with objs := t.objs, pairs := t.pairs, portA := t.portA, portB := t.portB, lastPort := t.lastPort, svc := t.svc } ∧
    Safety.pagesKept [0x10, 0x11, 0x22, 0x26] s t
end

