-- ==== Sys2Proof/Laws/State.lean ====
section
/-! SUPPORT. What each update of the state leaves alone, field by field. -/

namespace Sys2Proof.Machine

variable (s : State)

/-! `State.setWord` -/

@[simp] theorem State.setWord_pending (i k : Nat) (v : Word) : (s.setWord i k v).pending = s.pending := rfl
@[simp] theorem State.setWord_force (i k : Nat) (v : Word) : (s.setWord i k v).force = s.force := rfl
@[simp] theorem State.setWord_deferred (i k : Nat) (v : Word) : (s.setWord i k v).deferred = s.deferred := rfl
@[simp] theorem State.setWord_fresh (i k : Nat) (v : Word) : (s.setWord i k v).fresh = s.fresh := rfl
@[simp] theorem State.setWord_frame (i k : Nat) (v : Word) : (s.setWord i k v).frame = s.frame := rfl
@[simp] theorem State.setWord_timing (i k : Nat) (v : Word) : (s.setWord i k v).timing = s.timing := rfl
@[simp] theorem State.setWord_time (i k : Nat) (v : Word) : (s.setWord i k v).time = s.time := rfl
@[simp] theorem State.setWord_pds (i k : Nat) (v : Word) : (s.setWord i k v).pds = s.pds := rfl
@[simp] theorem State.setWord_ev (i k : Nat) (v : Word) : (s.setWord i k v).ev = s.ev := rfl
@[simp] theorem State.setWord_pairs (i k : Nat) (v : Word) : (s.setWord i k v).pairs = s.pairs := rfl
@[simp] theorem State.setWord_portA (i k : Nat) (v : Word) : (s.setWord i k v).portA = s.portA := rfl
@[simp] theorem State.setWord_portB (i k : Nat) (v : Word) : (s.setWord i k v).portB = s.portB := rfl
@[simp] theorem State.setWord_lastPort (i k : Nat) (v : Word) : (s.setWord i k v).lastPort = s.lastPort := rfl
@[simp] theorem State.setWord_tokens (i k : Nat) (v : Word) : (s.setWord i k v).tokens = s.tokens := rfl
@[simp] theorem State.setWord_svc (i k : Nat) (v : Word) : (s.setWord i k v).svc = s.svc := rfl
@[simp] theorem State.setWord_arbMask (i k : Nat) (v : Word) : (s.setWord i k v).arbMask = s.arbMask := rfl
@[simp] theorem State.setWord_boot (i k : Nat) (v : Word) : (s.setWord i k v).boot = s.boot := rfl
@[simp] theorem State.setWord_mode (i k : Nat) (v : Word) : (s.setWord i k v).mode = s.mode := rfl
@[simp] theorem State.setWord_pow (i k : Nat) (v : Word) : (s.setWord i k v).pow = s.pow := rfl
@[simp] theorem State.setWord_perf (i k : Nat) (v : Word) : (s.setWord i k v).perf = s.perf := rfl
@[simp] theorem State.setWord_fault (i k : Nat) (v : Word) : (s.setWord i k v).fault = s.fault := rfl
@[simp] theorem State.setWord_safe (i k : Nat) (v : Word) : (s.setWord i k v).safe = s.safe := rfl
@[simp] theorem State.setWord_supply (i k : Nat) (v : Word) : (s.setWord i k v).supply = s.supply := rfl
@[simp] theorem State.setWord_rst (i k : Nat) (v : Word) : (s.setWord i k v).rst = s.rst := rfl
@[simp] theorem State.setWord_lanes (i k : Nat) (v : Word) : (s.setWord i k v).lanes = s.lanes := rfl
@[simp] theorem State.setWord_mons (i k : Nat) (v : Word) : (s.setWord i k v).mons = s.mons := rfl
@[simp] theorem State.setWord_commit (i k : Nat) (v : Word) : (s.setWord i k v).commit = s.commit := rfl
@[simp] theorem State.setWord_tiles (i k : Nat) (v : Word) : (s.setWord i k v).tiles = s.tiles := rfl
@[simp] theorem State.setWord_notes (i k : Nat) (v : Word) : (s.setWord i k v).notes = s.notes := rfl
@[simp] theorem State.setWord_clocks (i k : Nat) (v : Word) : (s.setWord i k v).clocks = s.clocks := rfl
@[simp] theorem State.setWord_cal (i k : Nat) (v : Word) : (s.setWord i k v).cal = s.cal := rfl
@[simp] theorem State.setWord_survey (i k : Nat) (v : Word) : (s.setWord i k v).survey = s.survey := rfl

/-! `State.wr` -/

@[simp] theorem State.wr_pending (F : Field) (e v : Nat) : (s.wr F e v).pending = s.pending := rfl
@[simp] theorem State.wr_force (F : Field) (e v : Nat) : (s.wr F e v).force = s.force := rfl
@[simp] theorem State.wr_deferred (F : Field) (e v : Nat) : (s.wr F e v).deferred = s.deferred := rfl
@[simp] theorem State.wr_fresh (F : Field) (e v : Nat) : (s.wr F e v).fresh = s.fresh := rfl
@[simp] theorem State.wr_frame (F : Field) (e v : Nat) : (s.wr F e v).frame = s.frame := rfl
@[simp] theorem State.wr_timing (F : Field) (e v : Nat) : (s.wr F e v).timing = s.timing := rfl
@[simp] theorem State.wr_time (F : Field) (e v : Nat) : (s.wr F e v).time = s.time := rfl
@[simp] theorem State.wr_pds (F : Field) (e v : Nat) : (s.wr F e v).pds = s.pds := rfl
@[simp] theorem State.wr_ev (F : Field) (e v : Nat) : (s.wr F e v).ev = s.ev := rfl
@[simp] theorem State.wr_pairs (F : Field) (e v : Nat) : (s.wr F e v).pairs = s.pairs := rfl
@[simp] theorem State.wr_portA (F : Field) (e v : Nat) : (s.wr F e v).portA = s.portA := rfl
@[simp] theorem State.wr_portB (F : Field) (e v : Nat) : (s.wr F e v).portB = s.portB := rfl
@[simp] theorem State.wr_lastPort (F : Field) (e v : Nat) : (s.wr F e v).lastPort = s.lastPort := rfl
@[simp] theorem State.wr_tokens (F : Field) (e v : Nat) : (s.wr F e v).tokens = s.tokens := rfl
@[simp] theorem State.wr_svc (F : Field) (e v : Nat) : (s.wr F e v).svc = s.svc := rfl
@[simp] theorem State.wr_arbMask (F : Field) (e v : Nat) : (s.wr F e v).arbMask = s.arbMask := rfl
@[simp] theorem State.wr_boot (F : Field) (e v : Nat) : (s.wr F e v).boot = s.boot := rfl
@[simp] theorem State.wr_mode (F : Field) (e v : Nat) : (s.wr F e v).mode = s.mode := rfl
@[simp] theorem State.wr_pow (F : Field) (e v : Nat) : (s.wr F e v).pow = s.pow := rfl
@[simp] theorem State.wr_perf (F : Field) (e v : Nat) : (s.wr F e v).perf = s.perf := rfl
@[simp] theorem State.wr_fault (F : Field) (e v : Nat) : (s.wr F e v).fault = s.fault := rfl
@[simp] theorem State.wr_safe (F : Field) (e v : Nat) : (s.wr F e v).safe = s.safe := rfl
@[simp] theorem State.wr_supply (F : Field) (e v : Nat) : (s.wr F e v).supply = s.supply := rfl
@[simp] theorem State.wr_rst (F : Field) (e v : Nat) : (s.wr F e v).rst = s.rst := rfl
@[simp] theorem State.wr_lanes (F : Field) (e v : Nat) : (s.wr F e v).lanes = s.lanes := rfl
@[simp] theorem State.wr_mons (F : Field) (e v : Nat) : (s.wr F e v).mons = s.mons := rfl
@[simp] theorem State.wr_commit (F : Field) (e v : Nat) : (s.wr F e v).commit = s.commit := rfl
@[simp] theorem State.wr_tiles (F : Field) (e v : Nat) : (s.wr F e v).tiles = s.tiles := rfl
@[simp] theorem State.wr_notes (F : Field) (e v : Nat) : (s.wr F e v).notes = s.notes := rfl
@[simp] theorem State.wr_clocks (F : Field) (e v : Nat) : (s.wr F e v).clocks = s.clocks := rfl
@[simp] theorem State.wr_cal (F : Field) (e v : Nat) : (s.wr F e v).cal = s.cal := rfl
@[simp] theorem State.wr_survey (F : Field) (e v : Nat) : (s.wr F e v).survey = s.survey := rfl

/-! `State.set` -/

@[simp] theorem State.set_pending (F : Field) (v : Nat) : (s.set F v).pending = s.pending := rfl
@[simp] theorem State.set_force (F : Field) (v : Nat) : (s.set F v).force = s.force := rfl
@[simp] theorem State.set_deferred (F : Field) (v : Nat) : (s.set F v).deferred = s.deferred := rfl
@[simp] theorem State.set_fresh (F : Field) (v : Nat) : (s.set F v).fresh = s.fresh := rfl
@[simp] theorem State.set_frame (F : Field) (v : Nat) : (s.set F v).frame = s.frame := rfl
@[simp] theorem State.set_timing (F : Field) (v : Nat) : (s.set F v).timing = s.timing := rfl
@[simp] theorem State.set_time (F : Field) (v : Nat) : (s.set F v).time = s.time := rfl
@[simp] theorem State.set_pds (F : Field) (v : Nat) : (s.set F v).pds = s.pds := rfl
@[simp] theorem State.set_ev (F : Field) (v : Nat) : (s.set F v).ev = s.ev := rfl
@[simp] theorem State.set_pairs (F : Field) (v : Nat) : (s.set F v).pairs = s.pairs := rfl
@[simp] theorem State.set_portA (F : Field) (v : Nat) : (s.set F v).portA = s.portA := rfl
@[simp] theorem State.set_portB (F : Field) (v : Nat) : (s.set F v).portB = s.portB := rfl
@[simp] theorem State.set_lastPort (F : Field) (v : Nat) : (s.set F v).lastPort = s.lastPort := rfl
@[simp] theorem State.set_tokens (F : Field) (v : Nat) : (s.set F v).tokens = s.tokens := rfl
@[simp] theorem State.set_svc (F : Field) (v : Nat) : (s.set F v).svc = s.svc := rfl
@[simp] theorem State.set_arbMask (F : Field) (v : Nat) : (s.set F v).arbMask = s.arbMask := rfl
@[simp] theorem State.set_boot (F : Field) (v : Nat) : (s.set F v).boot = s.boot := rfl
@[simp] theorem State.set_mode (F : Field) (v : Nat) : (s.set F v).mode = s.mode := rfl
@[simp] theorem State.set_pow (F : Field) (v : Nat) : (s.set F v).pow = s.pow := rfl
@[simp] theorem State.set_perf (F : Field) (v : Nat) : (s.set F v).perf = s.perf := rfl
@[simp] theorem State.set_fault (F : Field) (v : Nat) : (s.set F v).fault = s.fault := rfl
@[simp] theorem State.set_safe (F : Field) (v : Nat) : (s.set F v).safe = s.safe := rfl
@[simp] theorem State.set_supply (F : Field) (v : Nat) : (s.set F v).supply = s.supply := rfl
@[simp] theorem State.set_rst (F : Field) (v : Nat) : (s.set F v).rst = s.rst := rfl
@[simp] theorem State.set_lanes (F : Field) (v : Nat) : (s.set F v).lanes = s.lanes := rfl
@[simp] theorem State.set_mons (F : Field) (v : Nat) : (s.set F v).mons = s.mons := rfl
@[simp] theorem State.set_commit (F : Field) (v : Nat) : (s.set F v).commit = s.commit := rfl
@[simp] theorem State.set_tiles (F : Field) (v : Nat) : (s.set F v).tiles = s.tiles := rfl
@[simp] theorem State.set_notes (F : Field) (v : Nat) : (s.set F v).notes = s.notes := rfl
@[simp] theorem State.set_clocks (F : Field) (v : Nat) : (s.set F v).clocks = s.clocks := rfl
@[simp] theorem State.set_cal (F : Field) (v : Nat) : (s.set F v).cal = s.cal := rfl
@[simp] theorem State.set_survey (F : Field) (v : Nat) : (s.set F v).survey = s.survey := rfl

/-! `State.setB` -/

@[simp] theorem State.setB_pending (F : Field) (b : Bool) : (s.setB F b).pending = s.pending := rfl
@[simp] theorem State.setB_force (F : Field) (b : Bool) : (s.setB F b).force = s.force := rfl
@[simp] theorem State.setB_deferred (F : Field) (b : Bool) : (s.setB F b).deferred = s.deferred := rfl
@[simp] theorem State.setB_fresh (F : Field) (b : Bool) : (s.setB F b).fresh = s.fresh := rfl
@[simp] theorem State.setB_frame (F : Field) (b : Bool) : (s.setB F b).frame = s.frame := rfl
@[simp] theorem State.setB_timing (F : Field) (b : Bool) : (s.setB F b).timing = s.timing := rfl
@[simp] theorem State.setB_time (F : Field) (b : Bool) : (s.setB F b).time = s.time := rfl
@[simp] theorem State.setB_pds (F : Field) (b : Bool) : (s.setB F b).pds = s.pds := rfl
@[simp] theorem State.setB_ev (F : Field) (b : Bool) : (s.setB F b).ev = s.ev := rfl
@[simp] theorem State.setB_pairs (F : Field) (b : Bool) : (s.setB F b).pairs = s.pairs := rfl
@[simp] theorem State.setB_portA (F : Field) (b : Bool) : (s.setB F b).portA = s.portA := rfl
@[simp] theorem State.setB_portB (F : Field) (b : Bool) : (s.setB F b).portB = s.portB := rfl
@[simp] theorem State.setB_lastPort (F : Field) (b : Bool) : (s.setB F b).lastPort = s.lastPort := rfl
@[simp] theorem State.setB_tokens (F : Field) (b : Bool) : (s.setB F b).tokens = s.tokens := rfl
@[simp] theorem State.setB_svc (F : Field) (b : Bool) : (s.setB F b).svc = s.svc := rfl
@[simp] theorem State.setB_arbMask (F : Field) (b : Bool) : (s.setB F b).arbMask = s.arbMask := rfl
@[simp] theorem State.setB_boot (F : Field) (b : Bool) : (s.setB F b).boot = s.boot := rfl
@[simp] theorem State.setB_mode (F : Field) (b : Bool) : (s.setB F b).mode = s.mode := rfl
@[simp] theorem State.setB_pow (F : Field) (b : Bool) : (s.setB F b).pow = s.pow := rfl
@[simp] theorem State.setB_perf (F : Field) (b : Bool) : (s.setB F b).perf = s.perf := rfl
@[simp] theorem State.setB_fault (F : Field) (b : Bool) : (s.setB F b).fault = s.fault := rfl
@[simp] theorem State.setB_safe (F : Field) (b : Bool) : (s.setB F b).safe = s.safe := rfl
@[simp] theorem State.setB_supply (F : Field) (b : Bool) : (s.setB F b).supply = s.supply := rfl
@[simp] theorem State.setB_rst (F : Field) (b : Bool) : (s.setB F b).rst = s.rst := rfl
@[simp] theorem State.setB_lanes (F : Field) (b : Bool) : (s.setB F b).lanes = s.lanes := rfl
@[simp] theorem State.setB_mons (F : Field) (b : Bool) : (s.setB F b).mons = s.mons := rfl
@[simp] theorem State.setB_commit (F : Field) (b : Bool) : (s.setB F b).commit = s.commit := rfl
@[simp] theorem State.setB_tiles (F : Field) (b : Bool) : (s.setB F b).tiles = s.tiles := rfl
@[simp] theorem State.setB_notes (F : Field) (b : Bool) : (s.setB F b).notes = s.notes := rfl
@[simp] theorem State.setB_clocks (F : Field) (b : Bool) : (s.setB F b).clocks = s.clocks := rfl
@[simp] theorem State.setB_cal (F : Field) (b : Bool) : (s.setB F b).cal = s.cal := rfl
@[simp] theorem State.setB_survey (F : Field) (b : Bool) : (s.setB F b).survey = s.survey := rfl

/-! `State.wrI` -/

@[simp] theorem State.wrI_pending (F : Field) (e : Nat) (v : Int) : (s.wrI F e v).pending = s.pending := rfl
@[simp] theorem State.wrI_force (F : Field) (e : Nat) (v : Int) : (s.wrI F e v).force = s.force := rfl
@[simp] theorem State.wrI_deferred (F : Field) (e : Nat) (v : Int) : (s.wrI F e v).deferred = s.deferred := rfl
@[simp] theorem State.wrI_fresh (F : Field) (e : Nat) (v : Int) : (s.wrI F e v).fresh = s.fresh := rfl
@[simp] theorem State.wrI_frame (F : Field) (e : Nat) (v : Int) : (s.wrI F e v).frame = s.frame := rfl
@[simp] theorem State.wrI_timing (F : Field) (e : Nat) (v : Int) : (s.wrI F e v).timing = s.timing := rfl
@[simp] theorem State.wrI_time (F : Field) (e : Nat) (v : Int) : (s.wrI F e v).time = s.time := rfl
@[simp] theorem State.wrI_pds (F : Field) (e : Nat) (v : Int) : (s.wrI F e v).pds = s.pds := rfl
@[simp] theorem State.wrI_ev (F : Field) (e : Nat) (v : Int) : (s.wrI F e v).ev = s.ev := rfl
@[simp] theorem State.wrI_pairs (F : Field) (e : Nat) (v : Int) : (s.wrI F e v).pairs = s.pairs := rfl
@[simp] theorem State.wrI_portA (F : Field) (e : Nat) (v : Int) : (s.wrI F e v).portA = s.portA := rfl
@[simp] theorem State.wrI_portB (F : Field) (e : Nat) (v : Int) : (s.wrI F e v).portB = s.portB := rfl
@[simp] theorem State.wrI_lastPort (F : Field) (e : Nat) (v : Int) : (s.wrI F e v).lastPort = s.lastPort := rfl
@[simp] theorem State.wrI_tokens (F : Field) (e : Nat) (v : Int) : (s.wrI F e v).tokens = s.tokens := rfl
@[simp] theorem State.wrI_svc (F : Field) (e : Nat) (v : Int) : (s.wrI F e v).svc = s.svc := rfl
@[simp] theorem State.wrI_arbMask (F : Field) (e : Nat) (v : Int) : (s.wrI F e v).arbMask = s.arbMask := rfl
@[simp] theorem State.wrI_boot (F : Field) (e : Nat) (v : Int) : (s.wrI F e v).boot = s.boot := rfl
@[simp] theorem State.wrI_mode (F : Field) (e : Nat) (v : Int) : (s.wrI F e v).mode = s.mode := rfl
@[simp] theorem State.wrI_pow (F : Field) (e : Nat) (v : Int) : (s.wrI F e v).pow = s.pow := rfl
@[simp] theorem State.wrI_perf (F : Field) (e : Nat) (v : Int) : (s.wrI F e v).perf = s.perf := rfl
@[simp] theorem State.wrI_fault (F : Field) (e : Nat) (v : Int) : (s.wrI F e v).fault = s.fault := rfl
@[simp] theorem State.wrI_safe (F : Field) (e : Nat) (v : Int) : (s.wrI F e v).safe = s.safe := rfl
@[simp] theorem State.wrI_supply (F : Field) (e : Nat) (v : Int) : (s.wrI F e v).supply = s.supply := rfl
@[simp] theorem State.wrI_rst (F : Field) (e : Nat) (v : Int) : (s.wrI F e v).rst = s.rst := rfl
@[simp] theorem State.wrI_lanes (F : Field) (e : Nat) (v : Int) : (s.wrI F e v).lanes = s.lanes := rfl
@[simp] theorem State.wrI_mons (F : Field) (e : Nat) (v : Int) : (s.wrI F e v).mons = s.mons := rfl
@[simp] theorem State.wrI_commit (F : Field) (e : Nat) (v : Int) : (s.wrI F e v).commit = s.commit := rfl
@[simp] theorem State.wrI_tiles (F : Field) (e : Nat) (v : Int) : (s.wrI F e v).tiles = s.tiles := rfl
@[simp] theorem State.wrI_notes (F : Field) (e : Nat) (v : Int) : (s.wrI F e v).notes = s.notes := rfl
@[simp] theorem State.wrI_clocks (F : Field) (e : Nat) (v : Int) : (s.wrI F e v).clocks = s.clocks := rfl
@[simp] theorem State.wrI_cal (F : Field) (e : Nat) (v : Int) : (s.wrI F e v).cal = s.cal := rfl
@[simp] theorem State.wrI_survey (F : Field) (e : Nat) (v : Int) : (s.wrI F e v).survey = s.survey := rfl

/-! `State.setI` -/

@[simp] theorem State.setI_pending (F : Field) (v : Int) : (s.setI F v).pending = s.pending := rfl
@[simp] theorem State.setI_force (F : Field) (v : Int) : (s.setI F v).force = s.force := rfl
@[simp] theorem State.setI_deferred (F : Field) (v : Int) : (s.setI F v).deferred = s.deferred := rfl
@[simp] theorem State.setI_fresh (F : Field) (v : Int) : (s.setI F v).fresh = s.fresh := rfl
@[simp] theorem State.setI_frame (F : Field) (v : Int) : (s.setI F v).frame = s.frame := rfl
@[simp] theorem State.setI_timing (F : Field) (v : Int) : (s.setI F v).timing = s.timing := rfl
@[simp] theorem State.setI_time (F : Field) (v : Int) : (s.setI F v).time = s.time := rfl
@[simp] theorem State.setI_pds (F : Field) (v : Int) : (s.setI F v).pds = s.pds := rfl
@[simp] theorem State.setI_ev (F : Field) (v : Int) : (s.setI F v).ev = s.ev := rfl
@[simp] theorem State.setI_pairs (F : Field) (v : Int) : (s.setI F v).pairs = s.pairs := rfl
@[simp] theorem State.setI_portA (F : Field) (v : Int) : (s.setI F v).portA = s.portA := rfl
@[simp] theorem State.setI_portB (F : Field) (v : Int) : (s.setI F v).portB = s.portB := rfl
@[simp] theorem State.setI_lastPort (F : Field) (v : Int) : (s.setI F v).lastPort = s.lastPort := rfl
@[simp] theorem State.setI_tokens (F : Field) (v : Int) : (s.setI F v).tokens = s.tokens := rfl
@[simp] theorem State.setI_svc (F : Field) (v : Int) : (s.setI F v).svc = s.svc := rfl
@[simp] theorem State.setI_arbMask (F : Field) (v : Int) : (s.setI F v).arbMask = s.arbMask := rfl
@[simp] theorem State.setI_boot (F : Field) (v : Int) : (s.setI F v).boot = s.boot := rfl
@[simp] theorem State.setI_mode (F : Field) (v : Int) : (s.setI F v).mode = s.mode := rfl
@[simp] theorem State.setI_pow (F : Field) (v : Int) : (s.setI F v).pow = s.pow := rfl
@[simp] theorem State.setI_perf (F : Field) (v : Int) : (s.setI F v).perf = s.perf := rfl
@[simp] theorem State.setI_fault (F : Field) (v : Int) : (s.setI F v).fault = s.fault := rfl
@[simp] theorem State.setI_safe (F : Field) (v : Int) : (s.setI F v).safe = s.safe := rfl
@[simp] theorem State.setI_supply (F : Field) (v : Int) : (s.setI F v).supply = s.supply := rfl
@[simp] theorem State.setI_rst (F : Field) (v : Int) : (s.setI F v).rst = s.rst := rfl
@[simp] theorem State.setI_lanes (F : Field) (v : Int) : (s.setI F v).lanes = s.lanes := rfl
@[simp] theorem State.setI_mons (F : Field) (v : Int) : (s.setI F v).mons = s.mons := rfl
@[simp] theorem State.setI_commit (F : Field) (v : Int) : (s.setI F v).commit = s.commit := rfl
@[simp] theorem State.setI_tiles (F : Field) (v : Int) : (s.setI F v).tiles = s.tiles := rfl
@[simp] theorem State.setI_notes (F : Field) (v : Int) : (s.setI F v).notes = s.notes := rfl
@[simp] theorem State.setI_clocks (F : Field) (v : Int) : (s.setI F v).clocks = s.clocks := rfl
@[simp] theorem State.setI_cal (F : Field) (v : Int) : (s.setI F v).cal = s.cal := rfl
@[simp] theorem State.setI_survey (F : Field) (v : Int) : (s.setI F v).survey = s.survey := rfl

/-! `State.bumpBy` -/

@[simp] theorem State.bumpBy_pending (F : Field) (e n : Nat) : (s.bumpBy F e n).pending = s.pending := rfl
@[simp] theorem State.bumpBy_force (F : Field) (e n : Nat) : (s.bumpBy F e n).force = s.force := rfl
@[simp] theorem State.bumpBy_deferred (F : Field) (e n : Nat) : (s.bumpBy F e n).deferred = s.deferred := rfl
@[simp] theorem State.bumpBy_fresh (F : Field) (e n : Nat) : (s.bumpBy F e n).fresh = s.fresh := rfl
@[simp] theorem State.bumpBy_frame (F : Field) (e n : Nat) : (s.bumpBy F e n).frame = s.frame := rfl
@[simp] theorem State.bumpBy_timing (F : Field) (e n : Nat) : (s.bumpBy F e n).timing = s.timing := rfl
@[simp] theorem State.bumpBy_time (F : Field) (e n : Nat) : (s.bumpBy F e n).time = s.time := rfl
@[simp] theorem State.bumpBy_pds (F : Field) (e n : Nat) : (s.bumpBy F e n).pds = s.pds := rfl
@[simp] theorem State.bumpBy_ev (F : Field) (e n : Nat) : (s.bumpBy F e n).ev = s.ev := rfl
@[simp] theorem State.bumpBy_pairs (F : Field) (e n : Nat) : (s.bumpBy F e n).pairs = s.pairs := rfl
@[simp] theorem State.bumpBy_portA (F : Field) (e n : Nat) : (s.bumpBy F e n).portA = s.portA := rfl
@[simp] theorem State.bumpBy_portB (F : Field) (e n : Nat) : (s.bumpBy F e n).portB = s.portB := rfl
@[simp] theorem State.bumpBy_lastPort (F : Field) (e n : Nat) : (s.bumpBy F e n).lastPort = s.lastPort := rfl
@[simp] theorem State.bumpBy_tokens (F : Field) (e n : Nat) : (s.bumpBy F e n).tokens = s.tokens := rfl
@[simp] theorem State.bumpBy_svc (F : Field) (e n : Nat) : (s.bumpBy F e n).svc = s.svc := rfl
@[simp] theorem State.bumpBy_arbMask (F : Field) (e n : Nat) : (s.bumpBy F e n).arbMask = s.arbMask := rfl
@[simp] theorem State.bumpBy_boot (F : Field) (e n : Nat) : (s.bumpBy F e n).boot = s.boot := rfl
@[simp] theorem State.bumpBy_mode (F : Field) (e n : Nat) : (s.bumpBy F e n).mode = s.mode := rfl
@[simp] theorem State.bumpBy_pow (F : Field) (e n : Nat) : (s.bumpBy F e n).pow = s.pow := rfl
@[simp] theorem State.bumpBy_perf (F : Field) (e n : Nat) : (s.bumpBy F e n).perf = s.perf := rfl
@[simp] theorem State.bumpBy_fault (F : Field) (e n : Nat) : (s.bumpBy F e n).fault = s.fault := rfl
@[simp] theorem State.bumpBy_safe (F : Field) (e n : Nat) : (s.bumpBy F e n).safe = s.safe := rfl
@[simp] theorem State.bumpBy_supply (F : Field) (e n : Nat) : (s.bumpBy F e n).supply = s.supply := rfl
@[simp] theorem State.bumpBy_rst (F : Field) (e n : Nat) : (s.bumpBy F e n).rst = s.rst := rfl
@[simp] theorem State.bumpBy_lanes (F : Field) (e n : Nat) : (s.bumpBy F e n).lanes = s.lanes := rfl
@[simp] theorem State.bumpBy_mons (F : Field) (e n : Nat) : (s.bumpBy F e n).mons = s.mons := rfl
@[simp] theorem State.bumpBy_commit (F : Field) (e n : Nat) : (s.bumpBy F e n).commit = s.commit := rfl
@[simp] theorem State.bumpBy_tiles (F : Field) (e n : Nat) : (s.bumpBy F e n).tiles = s.tiles := rfl
@[simp] theorem State.bumpBy_notes (F : Field) (e n : Nat) : (s.bumpBy F e n).notes = s.notes := rfl
@[simp] theorem State.bumpBy_clocks (F : Field) (e n : Nat) : (s.bumpBy F e n).clocks = s.clocks := rfl
@[simp] theorem State.bumpBy_cal (F : Field) (e n : Nat) : (s.bumpBy F e n).cal = s.cal := rfl
@[simp] theorem State.bumpBy_survey (F : Field) (e n : Nat) : (s.bumpBy F e n).survey = s.survey := rfl

/-! `State.bump` -/

@[simp] theorem State.bump_pending (F : Field) : (s.bump F).pending = s.pending := rfl
@[simp] theorem State.bump_force (F : Field) : (s.bump F).force = s.force := rfl
@[simp] theorem State.bump_deferred (F : Field) : (s.bump F).deferred = s.deferred := rfl
@[simp] theorem State.bump_fresh (F : Field) : (s.bump F).fresh = s.fresh := rfl
@[simp] theorem State.bump_frame (F : Field) : (s.bump F).frame = s.frame := rfl
@[simp] theorem State.bump_timing (F : Field) : (s.bump F).timing = s.timing := rfl
@[simp] theorem State.bump_time (F : Field) : (s.bump F).time = s.time := rfl
@[simp] theorem State.bump_pds (F : Field) : (s.bump F).pds = s.pds := rfl
@[simp] theorem State.bump_ev (F : Field) : (s.bump F).ev = s.ev := rfl
@[simp] theorem State.bump_pairs (F : Field) : (s.bump F).pairs = s.pairs := rfl
@[simp] theorem State.bump_portA (F : Field) : (s.bump F).portA = s.portA := rfl
@[simp] theorem State.bump_portB (F : Field) : (s.bump F).portB = s.portB := rfl
@[simp] theorem State.bump_lastPort (F : Field) : (s.bump F).lastPort = s.lastPort := rfl
@[simp] theorem State.bump_tokens (F : Field) : (s.bump F).tokens = s.tokens := rfl
@[simp] theorem State.bump_svc (F : Field) : (s.bump F).svc = s.svc := rfl
@[simp] theorem State.bump_arbMask (F : Field) : (s.bump F).arbMask = s.arbMask := rfl
@[simp] theorem State.bump_boot (F : Field) : (s.bump F).boot = s.boot := rfl
@[simp] theorem State.bump_mode (F : Field) : (s.bump F).mode = s.mode := rfl
@[simp] theorem State.bump_pow (F : Field) : (s.bump F).pow = s.pow := rfl
@[simp] theorem State.bump_perf (F : Field) : (s.bump F).perf = s.perf := rfl
@[simp] theorem State.bump_fault (F : Field) : (s.bump F).fault = s.fault := rfl
@[simp] theorem State.bump_safe (F : Field) : (s.bump F).safe = s.safe := rfl
@[simp] theorem State.bump_supply (F : Field) : (s.bump F).supply = s.supply := rfl
@[simp] theorem State.bump_rst (F : Field) : (s.bump F).rst = s.rst := rfl
@[simp] theorem State.bump_lanes (F : Field) : (s.bump F).lanes = s.lanes := rfl
@[simp] theorem State.bump_mons (F : Field) : (s.bump F).mons = s.mons := rfl
@[simp] theorem State.bump_commit (F : Field) : (s.bump F).commit = s.commit := rfl
@[simp] theorem State.bump_tiles (F : Field) : (s.bump F).tiles = s.tiles := rfl
@[simp] theorem State.bump_notes (F : Field) : (s.bump F).notes = s.notes := rfl
@[simp] theorem State.bump_clocks (F : Field) : (s.bump F).clocks = s.clocks := rfl
@[simp] theorem State.bump_cal (F : Field) : (s.bump F).cal = s.cal := rfl
@[simp] theorem State.bump_survey (F : Field) : (s.bump F).survey = s.survey := rfl

/-! `State.bumpAt` -/

@[simp] theorem State.bumpAt_pending (F : Field) (e : Nat) : (s.bumpAt F e).pending = s.pending := rfl
@[simp] theorem State.bumpAt_force (F : Field) (e : Nat) : (s.bumpAt F e).force = s.force := rfl
@[simp] theorem State.bumpAt_deferred (F : Field) (e : Nat) : (s.bumpAt F e).deferred = s.deferred := rfl
@[simp] theorem State.bumpAt_fresh (F : Field) (e : Nat) : (s.bumpAt F e).fresh = s.fresh := rfl
@[simp] theorem State.bumpAt_frame (F : Field) (e : Nat) : (s.bumpAt F e).frame = s.frame := rfl
@[simp] theorem State.bumpAt_timing (F : Field) (e : Nat) : (s.bumpAt F e).timing = s.timing := rfl
@[simp] theorem State.bumpAt_time (F : Field) (e : Nat) : (s.bumpAt F e).time = s.time := rfl
@[simp] theorem State.bumpAt_pds (F : Field) (e : Nat) : (s.bumpAt F e).pds = s.pds := rfl
@[simp] theorem State.bumpAt_ev (F : Field) (e : Nat) : (s.bumpAt F e).ev = s.ev := rfl
@[simp] theorem State.bumpAt_pairs (F : Field) (e : Nat) : (s.bumpAt F e).pairs = s.pairs := rfl
@[simp] theorem State.bumpAt_portA (F : Field) (e : Nat) : (s.bumpAt F e).portA = s.portA := rfl
@[simp] theorem State.bumpAt_portB (F : Field) (e : Nat) : (s.bumpAt F e).portB = s.portB := rfl
@[simp] theorem State.bumpAt_lastPort (F : Field) (e : Nat) : (s.bumpAt F e).lastPort = s.lastPort := rfl
@[simp] theorem State.bumpAt_tokens (F : Field) (e : Nat) : (s.bumpAt F e).tokens = s.tokens := rfl
@[simp] theorem State.bumpAt_svc (F : Field) (e : Nat) : (s.bumpAt F e).svc = s.svc := rfl
@[simp] theorem State.bumpAt_arbMask (F : Field) (e : Nat) : (s.bumpAt F e).arbMask = s.arbMask := rfl
@[simp] theorem State.bumpAt_boot (F : Field) (e : Nat) : (s.bumpAt F e).boot = s.boot := rfl
@[simp] theorem State.bumpAt_mode (F : Field) (e : Nat) : (s.bumpAt F e).mode = s.mode := rfl
@[simp] theorem State.bumpAt_pow (F : Field) (e : Nat) : (s.bumpAt F e).pow = s.pow := rfl
@[simp] theorem State.bumpAt_perf (F : Field) (e : Nat) : (s.bumpAt F e).perf = s.perf := rfl
@[simp] theorem State.bumpAt_fault (F : Field) (e : Nat) : (s.bumpAt F e).fault = s.fault := rfl
@[simp] theorem State.bumpAt_safe (F : Field) (e : Nat) : (s.bumpAt F e).safe = s.safe := rfl
@[simp] theorem State.bumpAt_supply (F : Field) (e : Nat) : (s.bumpAt F e).supply = s.supply := rfl
@[simp] theorem State.bumpAt_rst (F : Field) (e : Nat) : (s.bumpAt F e).rst = s.rst := rfl
@[simp] theorem State.bumpAt_lanes (F : Field) (e : Nat) : (s.bumpAt F e).lanes = s.lanes := rfl
@[simp] theorem State.bumpAt_mons (F : Field) (e : Nat) : (s.bumpAt F e).mons = s.mons := rfl
@[simp] theorem State.bumpAt_commit (F : Field) (e : Nat) : (s.bumpAt F e).commit = s.commit := rfl
@[simp] theorem State.bumpAt_tiles (F : Field) (e : Nat) : (s.bumpAt F e).tiles = s.tiles := rfl
@[simp] theorem State.bumpAt_notes (F : Field) (e : Nat) : (s.bumpAt F e).notes = s.notes := rfl
@[simp] theorem State.bumpAt_clocks (F : Field) (e : Nat) : (s.bumpAt F e).clocks = s.clocks := rfl
@[simp] theorem State.bumpAt_cal (F : Field) (e : Nat) : (s.bumpAt F e).cal = s.cal := rfl
@[simp] theorem State.bumpAt_survey (F : Field) (e : Nat) : (s.bumpAt F e).survey = s.survey := rfl

/-! `State.put64` -/

@[simp] theorem State.put64_pending (i k v : Nat) : (s.put64 i k v).pending = s.pending := rfl
@[simp] theorem State.put64_force (i k v : Nat) : (s.put64 i k v).force = s.force := rfl
@[simp] theorem State.put64_deferred (i k v : Nat) : (s.put64 i k v).deferred = s.deferred := rfl
@[simp] theorem State.put64_fresh (i k v : Nat) : (s.put64 i k v).fresh = s.fresh := rfl
@[simp] theorem State.put64_frame (i k v : Nat) : (s.put64 i k v).frame = s.frame := rfl
@[simp] theorem State.put64_timing (i k v : Nat) : (s.put64 i k v).timing = s.timing := rfl
@[simp] theorem State.put64_time (i k v : Nat) : (s.put64 i k v).time = s.time := rfl
@[simp] theorem State.put64_pds (i k v : Nat) : (s.put64 i k v).pds = s.pds := rfl
@[simp] theorem State.put64_ev (i k v : Nat) : (s.put64 i k v).ev = s.ev := rfl
@[simp] theorem State.put64_pairs (i k v : Nat) : (s.put64 i k v).pairs = s.pairs := rfl
@[simp] theorem State.put64_portA (i k v : Nat) : (s.put64 i k v).portA = s.portA := rfl
@[simp] theorem State.put64_portB (i k v : Nat) : (s.put64 i k v).portB = s.portB := rfl
@[simp] theorem State.put64_lastPort (i k v : Nat) : (s.put64 i k v).lastPort = s.lastPort := rfl
@[simp] theorem State.put64_tokens (i k v : Nat) : (s.put64 i k v).tokens = s.tokens := rfl
@[simp] theorem State.put64_svc (i k v : Nat) : (s.put64 i k v).svc = s.svc := rfl
@[simp] theorem State.put64_arbMask (i k v : Nat) : (s.put64 i k v).arbMask = s.arbMask := rfl
@[simp] theorem State.put64_boot (i k v : Nat) : (s.put64 i k v).boot = s.boot := rfl
@[simp] theorem State.put64_mode (i k v : Nat) : (s.put64 i k v).mode = s.mode := rfl
@[simp] theorem State.put64_pow (i k v : Nat) : (s.put64 i k v).pow = s.pow := rfl
@[simp] theorem State.put64_perf (i k v : Nat) : (s.put64 i k v).perf = s.perf := rfl
@[simp] theorem State.put64_fault (i k v : Nat) : (s.put64 i k v).fault = s.fault := rfl
@[simp] theorem State.put64_safe (i k v : Nat) : (s.put64 i k v).safe = s.safe := rfl
@[simp] theorem State.put64_supply (i k v : Nat) : (s.put64 i k v).supply = s.supply := rfl
@[simp] theorem State.put64_rst (i k v : Nat) : (s.put64 i k v).rst = s.rst := rfl
@[simp] theorem State.put64_lanes (i k v : Nat) : (s.put64 i k v).lanes = s.lanes := rfl
@[simp] theorem State.put64_mons (i k v : Nat) : (s.put64 i k v).mons = s.mons := rfl
@[simp] theorem State.put64_commit (i k v : Nat) : (s.put64 i k v).commit = s.commit := rfl
@[simp] theorem State.put64_tiles (i k v : Nat) : (s.put64 i k v).tiles = s.tiles := rfl
@[simp] theorem State.put64_notes (i k v : Nat) : (s.put64 i k v).notes = s.notes := rfl
@[simp] theorem State.put64_clocks (i k v : Nat) : (s.put64 i k v).clocks = s.clocks := rfl
@[simp] theorem State.put64_cal (i k v : Nat) : (s.put64 i k v).cal = s.cal := rfl
@[simp] theorem State.put64_survey (i k v : Nat) : (s.put64 i k v).survey = s.survey := rfl

/-! `State.enforce` -/

@[simp] theorem State.enforce_pending (k : Nat) : (s.enforce k).pending = s.pending := rfl
@[simp] theorem State.enforce_objs (k : Nat) : (s.enforce k).objs = s.objs := rfl
@[simp] theorem State.enforce_deferred (k : Nat) : (s.enforce k).deferred = s.deferred := rfl
@[simp] theorem State.enforce_fresh (k : Nat) : (s.enforce k).fresh = s.fresh := rfl
@[simp] theorem State.enforce_frame (k : Nat) : (s.enforce k).frame = s.frame := rfl
@[simp] theorem State.enforce_timing (k : Nat) : (s.enforce k).timing = s.timing := rfl
@[simp] theorem State.enforce_time (k : Nat) : (s.enforce k).time = s.time := rfl
@[simp] theorem State.enforce_pds (k : Nat) : (s.enforce k).pds = s.pds := rfl
@[simp] theorem State.enforce_ev (k : Nat) : (s.enforce k).ev = s.ev := rfl
@[simp] theorem State.enforce_pairs (k : Nat) : (s.enforce k).pairs = s.pairs := rfl
@[simp] theorem State.enforce_portA (k : Nat) : (s.enforce k).portA = s.portA := rfl
@[simp] theorem State.enforce_portB (k : Nat) : (s.enforce k).portB = s.portB := rfl
@[simp] theorem State.enforce_lastPort (k : Nat) : (s.enforce k).lastPort = s.lastPort := rfl
@[simp] theorem State.enforce_tokens (k : Nat) : (s.enforce k).tokens = s.tokens := rfl
@[simp] theorem State.enforce_svc (k : Nat) : (s.enforce k).svc = s.svc := rfl
@[simp] theorem State.enforce_arbMask (k : Nat) : (s.enforce k).arbMask = s.arbMask := rfl
@[simp] theorem State.enforce_boot (k : Nat) : (s.enforce k).boot = s.boot := rfl
@[simp] theorem State.enforce_mode (k : Nat) : (s.enforce k).mode = s.mode := rfl
@[simp] theorem State.enforce_pow (k : Nat) : (s.enforce k).pow = s.pow := rfl
@[simp] theorem State.enforce_perf (k : Nat) : (s.enforce k).perf = s.perf := rfl
@[simp] theorem State.enforce_fault (k : Nat) : (s.enforce k).fault = s.fault := rfl
@[simp] theorem State.enforce_safe (k : Nat) : (s.enforce k).safe = s.safe := rfl
@[simp] theorem State.enforce_supply (k : Nat) : (s.enforce k).supply = s.supply := rfl
@[simp] theorem State.enforce_rst (k : Nat) : (s.enforce k).rst = s.rst := rfl
@[simp] theorem State.enforce_lanes (k : Nat) : (s.enforce k).lanes = s.lanes := rfl
@[simp] theorem State.enforce_mons (k : Nat) : (s.enforce k).mons = s.mons := rfl
@[simp] theorem State.enforce_commit (k : Nat) : (s.enforce k).commit = s.commit := rfl
@[simp] theorem State.enforce_tiles (k : Nat) : (s.enforce k).tiles = s.tiles := rfl
@[simp] theorem State.enforce_notes (k : Nat) : (s.enforce k).notes = s.notes := rfl
@[simp] theorem State.enforce_clocks (k : Nat) : (s.enforce k).clocks = s.clocks := rfl
@[simp] theorem State.enforce_cal (k : Nat) : (s.enforce k).cal = s.cal := rfl
@[simp] theorem State.enforce_survey (k : Nat) : (s.enforce k).survey = s.survey := rfl

/-! `State.setBoth` -/

@[simp] theorem State.setBoth_pending (i k : Nat) (v : Word) : (s.setBoth i k v).pending = s.pending := rfl
@[simp] theorem State.setBoth_deferred (i k : Nat) (v : Word) : (s.setBoth i k v).deferred = s.deferred := rfl
@[simp] theorem State.setBoth_fresh (i k : Nat) (v : Word) : (s.setBoth i k v).fresh = s.fresh := rfl
@[simp] theorem State.setBoth_frame (i k : Nat) (v : Word) : (s.setBoth i k v).frame = s.frame := rfl
@[simp] theorem State.setBoth_timing (i k : Nat) (v : Word) : (s.setBoth i k v).timing = s.timing := rfl
@[simp] theorem State.setBoth_time (i k : Nat) (v : Word) : (s.setBoth i k v).time = s.time := rfl
@[simp] theorem State.setBoth_pds (i k : Nat) (v : Word) : (s.setBoth i k v).pds = s.pds := rfl
@[simp] theorem State.setBoth_ev (i k : Nat) (v : Word) : (s.setBoth i k v).ev = s.ev := rfl
@[simp] theorem State.setBoth_pairs (i k : Nat) (v : Word) : (s.setBoth i k v).pairs = s.pairs := rfl
@[simp] theorem State.setBoth_portA (i k : Nat) (v : Word) : (s.setBoth i k v).portA = s.portA := rfl
@[simp] theorem State.setBoth_portB (i k : Nat) (v : Word) : (s.setBoth i k v).portB = s.portB := rfl
@[simp] theorem State.setBoth_lastPort (i k : Nat) (v : Word) : (s.setBoth i k v).lastPort = s.lastPort := rfl
@[simp] theorem State.setBoth_tokens (i k : Nat) (v : Word) : (s.setBoth i k v).tokens = s.tokens := rfl
@[simp] theorem State.setBoth_svc (i k : Nat) (v : Word) : (s.setBoth i k v).svc = s.svc := rfl
@[simp] theorem State.setBoth_arbMask (i k : Nat) (v : Word) : (s.setBoth i k v).arbMask = s.arbMask := rfl
@[simp] theorem State.setBoth_boot (i k : Nat) (v : Word) : (s.setBoth i k v).boot = s.boot := rfl
@[simp] theorem State.setBoth_mode (i k : Nat) (v : Word) : (s.setBoth i k v).mode = s.mode := rfl
@[simp] theorem State.setBoth_pow (i k : Nat) (v : Word) : (s.setBoth i k v).pow = s.pow := rfl
@[simp] theorem State.setBoth_perf (i k : Nat) (v : Word) : (s.setBoth i k v).perf = s.perf := rfl
@[simp] theorem State.setBoth_fault (i k : Nat) (v : Word) : (s.setBoth i k v).fault = s.fault := rfl
@[simp] theorem State.setBoth_safe (i k : Nat) (v : Word) : (s.setBoth i k v).safe = s.safe := rfl
@[simp] theorem State.setBoth_supply (i k : Nat) (v : Word) : (s.setBoth i k v).supply = s.supply := rfl
@[simp] theorem State.setBoth_rst (i k : Nat) (v : Word) : (s.setBoth i k v).rst = s.rst := rfl
@[simp] theorem State.setBoth_lanes (i k : Nat) (v : Word) : (s.setBoth i k v).lanes = s.lanes := rfl
@[simp] theorem State.setBoth_mons (i k : Nat) (v : Word) : (s.setBoth i k v).mons = s.mons := rfl
@[simp] theorem State.setBoth_commit (i k : Nat) (v : Word) : (s.setBoth i k v).commit = s.commit := rfl
@[simp] theorem State.setBoth_tiles (i k : Nat) (v : Word) : (s.setBoth i k v).tiles = s.tiles := rfl
@[simp] theorem State.setBoth_notes (i k : Nat) (v : Word) : (s.setBoth i k v).notes = s.notes := rfl
@[simp] theorem State.setBoth_clocks (i k : Nat) (v : Word) : (s.setBoth i k v).clocks = s.clocks := rfl
@[simp] theorem State.setBoth_cal (i k : Nat) (v : Word) : (s.setBoth i k v).cal = s.cal := rfl
@[simp] theorem State.setBoth_survey (i k : Nat) (v : Word) : (s.setBoth i k v).survey = s.survey := rfl

/-! `State.defer` -/

@[simp] theorem State.defer_pending (i k : Nat) (v : Word) : (s.defer i k v).pending = s.pending := rfl
@[simp] theorem State.defer_force (i k : Nat) (v : Word) : (s.defer i k v).force = s.force := rfl
@[simp] theorem State.defer_fresh (i k : Nat) (v : Word) : (s.defer i k v).fresh = s.fresh := rfl
@[simp] theorem State.defer_frame (i k : Nat) (v : Word) : (s.defer i k v).frame = s.frame := rfl
@[simp] theorem State.defer_timing (i k : Nat) (v : Word) : (s.defer i k v).timing = s.timing := rfl
@[simp] theorem State.defer_time (i k : Nat) (v : Word) : (s.defer i k v).time = s.time := rfl
@[simp] theorem State.defer_pds (i k : Nat) (v : Word) : (s.defer i k v).pds = s.pds := rfl
@[simp] theorem State.defer_ev (i k : Nat) (v : Word) : (s.defer i k v).ev = s.ev := rfl
@[simp] theorem State.defer_pairs (i k : Nat) (v : Word) : (s.defer i k v).pairs = s.pairs := rfl
@[simp] theorem State.defer_portA (i k : Nat) (v : Word) : (s.defer i k v).portA = s.portA := rfl
@[simp] theorem State.defer_portB (i k : Nat) (v : Word) : (s.defer i k v).portB = s.portB := rfl
@[simp] theorem State.defer_lastPort (i k : Nat) (v : Word) : (s.defer i k v).lastPort = s.lastPort := rfl
@[simp] theorem State.defer_tokens (i k : Nat) (v : Word) : (s.defer i k v).tokens = s.tokens := rfl
@[simp] theorem State.defer_svc (i k : Nat) (v : Word) : (s.defer i k v).svc = s.svc := rfl
@[simp] theorem State.defer_arbMask (i k : Nat) (v : Word) : (s.defer i k v).arbMask = s.arbMask := rfl
@[simp] theorem State.defer_boot (i k : Nat) (v : Word) : (s.defer i k v).boot = s.boot := rfl
@[simp] theorem State.defer_mode (i k : Nat) (v : Word) : (s.defer i k v).mode = s.mode := rfl
@[simp] theorem State.defer_pow (i k : Nat) (v : Word) : (s.defer i k v).pow = s.pow := rfl
@[simp] theorem State.defer_perf (i k : Nat) (v : Word) : (s.defer i k v).perf = s.perf := rfl
@[simp] theorem State.defer_fault (i k : Nat) (v : Word) : (s.defer i k v).fault = s.fault := rfl
@[simp] theorem State.defer_safe (i k : Nat) (v : Word) : (s.defer i k v).safe = s.safe := rfl
@[simp] theorem State.defer_supply (i k : Nat) (v : Word) : (s.defer i k v).supply = s.supply := rfl
@[simp] theorem State.defer_rst (i k : Nat) (v : Word) : (s.defer i k v).rst = s.rst := rfl
@[simp] theorem State.defer_lanes (i k : Nat) (v : Word) : (s.defer i k v).lanes = s.lanes := rfl
@[simp] theorem State.defer_mons (i k : Nat) (v : Word) : (s.defer i k v).mons = s.mons := rfl
@[simp] theorem State.defer_commit (i k : Nat) (v : Word) : (s.defer i k v).commit = s.commit := rfl
@[simp] theorem State.defer_tiles (i k : Nat) (v : Word) : (s.defer i k v).tiles = s.tiles := rfl
@[simp] theorem State.defer_notes (i k : Nat) (v : Word) : (s.defer i k v).notes = s.notes := rfl
@[simp] theorem State.defer_clocks (i k : Nat) (v : Word) : (s.defer i k v).clocks = s.clocks := rfl
@[simp] theorem State.defer_cal (i k : Nat) (v : Word) : (s.defer i k v).cal = s.cal := rfl
@[simp] theorem State.defer_survey (i k : Nat) (v : Word) : (s.defer i k v).survey = s.survey := rfl

/-! `State.atTc` -/

@[simp] theorem State.atTc_pending (n : Nat) : (s.atTc n).pending = s.pending := rfl
@[simp] theorem State.atTc_objs (n : Nat) : (s.atTc n).objs = s.objs := rfl
@[simp] theorem State.atTc_force (n : Nat) : (s.atTc n).force = s.force := rfl
@[simp] theorem State.atTc_deferred (n : Nat) : (s.atTc n).deferred = s.deferred := rfl
@[simp] theorem State.atTc_fresh (n : Nat) : (s.atTc n).fresh = s.fresh := rfl
@[simp] theorem State.atTc_timing (n : Nat) : (s.atTc n).timing = s.timing := rfl
@[simp] theorem State.atTc_time (n : Nat) : (s.atTc n).time = s.time := rfl
@[simp] theorem State.atTc_pds (n : Nat) : (s.atTc n).pds = s.pds := rfl
@[simp] theorem State.atTc_ev (n : Nat) : (s.atTc n).ev = s.ev := rfl
@[simp] theorem State.atTc_pairs (n : Nat) : (s.atTc n).pairs = s.pairs := rfl
@[simp] theorem State.atTc_portA (n : Nat) : (s.atTc n).portA = s.portA := rfl
@[simp] theorem State.atTc_portB (n : Nat) : (s.atTc n).portB = s.portB := rfl
@[simp] theorem State.atTc_lastPort (n : Nat) : (s.atTc n).lastPort = s.lastPort := rfl
@[simp] theorem State.atTc_tokens (n : Nat) : (s.atTc n).tokens = s.tokens := rfl
@[simp] theorem State.atTc_svc (n : Nat) : (s.atTc n).svc = s.svc := rfl
@[simp] theorem State.atTc_arbMask (n : Nat) : (s.atTc n).arbMask = s.arbMask := rfl
@[simp] theorem State.atTc_boot (n : Nat) : (s.atTc n).boot = s.boot := rfl
@[simp] theorem State.atTc_mode (n : Nat) : (s.atTc n).mode = s.mode := rfl
@[simp] theorem State.atTc_pow (n : Nat) : (s.atTc n).pow = s.pow := rfl
@[simp] theorem State.atTc_perf (n : Nat) : (s.atTc n).perf = s.perf := rfl
@[simp] theorem State.atTc_fault (n : Nat) : (s.atTc n).fault = s.fault := rfl
@[simp] theorem State.atTc_safe (n : Nat) : (s.atTc n).safe = s.safe := rfl
@[simp] theorem State.atTc_supply (n : Nat) : (s.atTc n).supply = s.supply := rfl
@[simp] theorem State.atTc_rst (n : Nat) : (s.atTc n).rst = s.rst := rfl
@[simp] theorem State.atTc_lanes (n : Nat) : (s.atTc n).lanes = s.lanes := rfl
@[simp] theorem State.atTc_mons (n : Nat) : (s.atTc n).mons = s.mons := rfl
@[simp] theorem State.atTc_commit (n : Nat) : (s.atTc n).commit = s.commit := rfl
@[simp] theorem State.atTc_tiles (n : Nat) : (s.atTc n).tiles = s.tiles := rfl
@[simp] theorem State.atTc_notes (n : Nat) : (s.atTc n).notes = s.notes := rfl
@[simp] theorem State.atTc_clocks (n : Nat) : (s.atTc n).clocks = s.clocks := rfl
@[simp] theorem State.atTc_cal (n : Nat) : (s.atTc n).cal = s.cal := rfl
@[simp] theorem State.atTc_survey (n : Nat) : (s.atTc n).survey = s.survey := rfl

/-! `State.setLoop`, `State.setFine` -/

@[simp] theorem State.setLoop_pending (l : LoopSt) : (s.setLoop l).pending = s.pending := rfl
@[simp] theorem State.setLoop_objs (l : LoopSt) : (s.setLoop l).objs = s.objs := rfl
@[simp] theorem State.setLoop_force (l : LoopSt) : (s.setLoop l).force = s.force := rfl
@[simp] theorem State.setLoop_deferred (l : LoopSt) : (s.setLoop l).deferred = s.deferred := rfl
@[simp] theorem State.setLoop_fresh (l : LoopSt) : (s.setLoop l).fresh = s.fresh := rfl
@[simp] theorem State.setLoop_frame (l : LoopSt) : (s.setLoop l).frame = s.frame := rfl
@[simp] theorem State.setLoop_time (l : LoopSt) : (s.setLoop l).time = s.time := rfl
@[simp] theorem State.setLoop_pds (l : LoopSt) : (s.setLoop l).pds = s.pds := rfl
@[simp] theorem State.setLoop_ev (l : LoopSt) : (s.setLoop l).ev = s.ev := rfl
@[simp] theorem State.setLoop_pairs (l : LoopSt) : (s.setLoop l).pairs = s.pairs := rfl
@[simp] theorem State.setLoop_portA (l : LoopSt) : (s.setLoop l).portA = s.portA := rfl
@[simp] theorem State.setLoop_portB (l : LoopSt) : (s.setLoop l).portB = s.portB := rfl
@[simp] theorem State.setLoop_lastPort (l : LoopSt) : (s.setLoop l).lastPort = s.lastPort := rfl
@[simp] theorem State.setLoop_tokens (l : LoopSt) : (s.setLoop l).tokens = s.tokens := rfl
@[simp] theorem State.setLoop_svc (l : LoopSt) : (s.setLoop l).svc = s.svc := rfl
@[simp] theorem State.setLoop_arbMask (l : LoopSt) : (s.setLoop l).arbMask = s.arbMask := rfl
@[simp] theorem State.setLoop_boot (l : LoopSt) : (s.setLoop l).boot = s.boot := rfl
@[simp] theorem State.setLoop_mode (l : LoopSt) : (s.setLoop l).mode = s.mode := rfl
@[simp] theorem State.setLoop_pow (l : LoopSt) : (s.setLoop l).pow = s.pow := rfl
@[simp] theorem State.setLoop_perf (l : LoopSt) : (s.setLoop l).perf = s.perf := rfl
@[simp] theorem State.setLoop_fault (l : LoopSt) : (s.setLoop l).fault = s.fault := rfl
@[simp] theorem State.setLoop_safe (l : LoopSt) : (s.setLoop l).safe = s.safe := rfl
@[simp] theorem State.setLoop_supply (l : LoopSt) : (s.setLoop l).supply = s.supply := rfl
@[simp] theorem State.setLoop_rst (l : LoopSt) : (s.setLoop l).rst = s.rst := rfl
@[simp] theorem State.setLoop_lanes (l : LoopSt) : (s.setLoop l).lanes = s.lanes := rfl
@[simp] theorem State.setLoop_mons (l : LoopSt) : (s.setLoop l).mons = s.mons := rfl
@[simp] theorem State.setLoop_commit (l : LoopSt) : (s.setLoop l).commit = s.commit := rfl
@[simp] theorem State.setLoop_tiles (l : LoopSt) : (s.setLoop l).tiles = s.tiles := rfl
@[simp] theorem State.setLoop_notes (l : LoopSt) : (s.setLoop l).notes = s.notes := rfl
@[simp] theorem State.setLoop_clocks (l : LoopSt) : (s.setLoop l).clocks = s.clocks := rfl
@[simp] theorem State.setLoop_cal (l : LoopSt) : (s.setLoop l).cal = s.cal := rfl
@[simp] theorem State.setLoop_survey (l : LoopSt) : (s.setLoop l).survey = s.survey := rfl
@[simp] theorem State.setLoop_loop (l : LoopSt) : (s.setLoop l).timing.loop = l := rfl
@[simp] theorem State.setFine_pending (n : Nat) : (s.setFine n).pending = s.pending := rfl
@[simp] theorem State.setFine_objs (n : Nat) : (s.setFine n).objs = s.objs := rfl
@[simp] theorem State.setFine_force (n : Nat) : (s.setFine n).force = s.force := rfl
@[simp] theorem State.setFine_deferred (n : Nat) : (s.setFine n).deferred = s.deferred := rfl
@[simp] theorem State.setFine_fresh (n : Nat) : (s.setFine n).fresh = s.fresh := rfl
@[simp] theorem State.setFine_frame (n : Nat) : (s.setFine n).frame = s.frame := rfl
@[simp] theorem State.setFine_time (n : Nat) : (s.setFine n).time = s.time := rfl
@[simp] theorem State.setFine_pds (n : Nat) : (s.setFine n).pds = s.pds := rfl
@[simp] theorem State.setFine_ev (n : Nat) : (s.setFine n).ev = s.ev := rfl
@[simp] theorem State.setFine_pairs (n : Nat) : (s.setFine n).pairs = s.pairs := rfl
@[simp] theorem State.setFine_portA (n : Nat) : (s.setFine n).portA = s.portA := rfl
@[simp] theorem State.setFine_portB (n : Nat) : (s.setFine n).portB = s.portB := rfl
@[simp] theorem State.setFine_lastPort (n : Nat) : (s.setFine n).lastPort = s.lastPort := rfl
@[simp] theorem State.setFine_tokens (n : Nat) : (s.setFine n).tokens = s.tokens := rfl
@[simp] theorem State.setFine_svc (n : Nat) : (s.setFine n).svc = s.svc := rfl
@[simp] theorem State.setFine_arbMask (n : Nat) : (s.setFine n).arbMask = s.arbMask := rfl
@[simp] theorem State.setFine_boot (n : Nat) : (s.setFine n).boot = s.boot := rfl
@[simp] theorem State.setFine_mode (n : Nat) : (s.setFine n).mode = s.mode := rfl
@[simp] theorem State.setFine_pow (n : Nat) : (s.setFine n).pow = s.pow := rfl
@[simp] theorem State.setFine_perf (n : Nat) : (s.setFine n).perf = s.perf := rfl
@[simp] theorem State.setFine_fault (n : Nat) : (s.setFine n).fault = s.fault := rfl
@[simp] theorem State.setFine_safe (n : Nat) : (s.setFine n).safe = s.safe := rfl
@[simp] theorem State.setFine_supply (n : Nat) : (s.setFine n).supply = s.supply := rfl
@[simp] theorem State.setFine_rst (n : Nat) : (s.setFine n).rst = s.rst := rfl
@[simp] theorem State.setFine_lanes (n : Nat) : (s.setFine n).lanes = s.lanes := rfl
@[simp] theorem State.setFine_mons (n : Nat) : (s.setFine n).mons = s.mons := rfl
@[simp] theorem State.setFine_commit (n : Nat) : (s.setFine n).commit = s.commit := rfl
@[simp] theorem State.setFine_tiles (n : Nat) : (s.setFine n).tiles = s.tiles := rfl
@[simp] theorem State.setFine_notes (n : Nat) : (s.setFine n).notes = s.notes := rfl
@[simp] theorem State.setFine_clocks (n : Nat) : (s.setFine n).clocks = s.clocks := rfl
@[simp] theorem State.setFine_cal (n : Nat) : (s.setFine n).cal = s.cal := rfl
@[simp] theorem State.setFine_survey (n : Nat) : (s.setFine n).survey = s.survey := rfl

/-! `State.idle`: the frame counter, and the timing loop with the free values it takes. -/

/-- A cycle of the timing loop changes the loop, and how many free values have been taken. -/
theorem State.loopTick_keeps : s.loopTick =
    { s with timing := { s.timing with loop := s.loopTick.timing.loop }, fresh := s.loopTick.fresh } := by
  unfold State.loopTick
  extract_lets l t
  have h : t = { s with timing := { s.timing with loop := t.timing.loop } } := by
    simp only [t]; split <;> rfl
  clear_value t
  split
  · rw [h]; rfl
  · rw [h]

theorem State.idle_keeps :
    s.idle = { s with frame := s.idle.frame, timing := s.idle.timing, fresh := s.idle.fresh } := by
  unfold State.idle
  extract_lets f t
  rw [t.loopTick_keeps]

theorem State.idle_frame : s.idle.frame =
    { s.frame with up := s.frame.up + 1, tc := if s.frame.running then min (s.frame.tc + 1) 2999 else s.frame.tc } := by
  unfold State.idle
  extract_lets f t
  rw [t.loopTick_keeps]

@[simp] theorem State.idle_pending : s.idle.pending = s.pending := by rw [s.idle_keeps]
@[simp] theorem State.idle_objs : s.idle.objs = s.objs := by rw [s.idle_keeps]
@[simp] theorem State.idle_force : s.idle.force = s.force := by rw [s.idle_keeps]
@[simp] theorem State.idle_deferred : s.idle.deferred = s.deferred := by rw [s.idle_keeps]
@[simp] theorem State.idle_time : s.idle.time = s.time := by rw [s.idle_keeps]
@[simp] theorem State.idle_pds : s.idle.pds = s.pds := by rw [s.idle_keeps]
@[simp] theorem State.idle_ev : s.idle.ev = s.ev := by rw [s.idle_keeps]
@[simp] theorem State.idle_pairs : s.idle.pairs = s.pairs := by rw [s.idle_keeps]
@[simp] theorem State.idle_portA : s.idle.portA = s.portA := by rw [s.idle_keeps]
@[simp] theorem State.idle_portB : s.idle.portB = s.portB := by rw [s.idle_keeps]
@[simp] theorem State.idle_lastPort : s.idle.lastPort = s.lastPort := by rw [s.idle_keeps]
@[simp] theorem State.idle_tokens : s.idle.tokens = s.tokens := by rw [s.idle_keeps]
@[simp] theorem State.idle_svc : s.idle.svc = s.svc := by rw [s.idle_keeps]
@[simp] theorem State.idle_arbMask : s.idle.arbMask = s.arbMask := by rw [s.idle_keeps]
@[simp] theorem State.idle_boot : s.idle.boot = s.boot := by rw [s.idle_keeps]
@[simp] theorem State.idle_mode : s.idle.mode = s.mode := by rw [s.idle_keeps]
@[simp] theorem State.idle_pow : s.idle.pow = s.pow := by rw [s.idle_keeps]
@[simp] theorem State.idle_perf : s.idle.perf = s.perf := by rw [s.idle_keeps]
@[simp] theorem State.idle_fault : s.idle.fault = s.fault := by rw [s.idle_keeps]
@[simp] theorem State.idle_safe : s.idle.safe = s.safe := by rw [s.idle_keeps]
@[simp] theorem State.idle_supply : s.idle.supply = s.supply := by rw [s.idle_keeps]
@[simp] theorem State.idle_rst : s.idle.rst = s.rst := by rw [s.idle_keeps]
@[simp] theorem State.idle_lanes : s.idle.lanes = s.lanes := by rw [s.idle_keeps]
@[simp] theorem State.idle_mons : s.idle.mons = s.mons := by rw [s.idle_keeps]
@[simp] theorem State.idle_commit : s.idle.commit = s.commit := by rw [s.idle_keeps]
@[simp] theorem State.idle_tiles : s.idle.tiles = s.tiles := by rw [s.idle_keeps]
@[simp] theorem State.idle_notes : s.idle.notes = s.notes := by rw [s.idle_keeps]
@[simp] theorem State.idle_clocks : s.idle.clocks = s.clocks := by rw [s.idle_keeps]
@[simp] theorem State.idle_cal : s.idle.cal = s.cal := by rw [s.idle_keeps]
@[simp] theorem State.idle_survey : s.idle.survey = s.survey := by rw [s.idle_keeps]

/-! `State.passTo` -/

@[simp] theorem State.passTo_pending (n : Nat) : (s.passTo n).pending = s.pending := rfl
@[simp] theorem State.passTo_objs (n : Nat) : (s.passTo n).objs = s.objs := rfl
@[simp] theorem State.passTo_force (n : Nat) : (s.passTo n).force = s.force := rfl
@[simp] theorem State.passTo_deferred (n : Nat) : (s.passTo n).deferred = s.deferred := rfl
@[simp] theorem State.passTo_fresh (n : Nat) : (s.passTo n).fresh = s.fresh := rfl
@[simp] theorem State.passTo_timing (n : Nat) : (s.passTo n).timing = s.timing := rfl
@[simp] theorem State.passTo_time (n : Nat) : (s.passTo n).time = s.time := rfl
@[simp] theorem State.passTo_pds (n : Nat) : (s.passTo n).pds = s.pds := rfl
@[simp] theorem State.passTo_ev (n : Nat) : (s.passTo n).ev = s.ev := rfl
@[simp] theorem State.passTo_pairs (n : Nat) : (s.passTo n).pairs = s.pairs := rfl
@[simp] theorem State.passTo_portA (n : Nat) : (s.passTo n).portA = s.portA := rfl
@[simp] theorem State.passTo_portB (n : Nat) : (s.passTo n).portB = s.portB := rfl
@[simp] theorem State.passTo_lastPort (n : Nat) : (s.passTo n).lastPort = s.lastPort := rfl
@[simp] theorem State.passTo_tokens (n : Nat) : (s.passTo n).tokens = s.tokens := rfl
@[simp] theorem State.passTo_svc (n : Nat) : (s.passTo n).svc = s.svc := rfl
@[simp] theorem State.passTo_arbMask (n : Nat) : (s.passTo n).arbMask = s.arbMask := rfl
@[simp] theorem State.passTo_boot (n : Nat) : (s.passTo n).boot = s.boot := rfl
@[simp] theorem State.passTo_mode (n : Nat) : (s.passTo n).mode = s.mode := rfl
@[simp] theorem State.passTo_pow (n : Nat) : (s.passTo n).pow = s.pow := rfl
@[simp] theorem State.passTo_perf (n : Nat) : (s.passTo n).perf = s.perf := rfl
@[simp] theorem State.passTo_fault (n : Nat) : (s.passTo n).fault = s.fault := rfl
@[simp] theorem State.passTo_safe (n : Nat) : (s.passTo n).safe = s.safe := rfl
@[simp] theorem State.passTo_supply (n : Nat) : (s.passTo n).supply = s.supply := rfl
@[simp] theorem State.passTo_rst (n : Nat) : (s.passTo n).rst = s.rst := rfl
@[simp] theorem State.passTo_lanes (n : Nat) : (s.passTo n).lanes = s.lanes := rfl
@[simp] theorem State.passTo_mons (n : Nat) : (s.passTo n).mons = s.mons := rfl
@[simp] theorem State.passTo_commit (n : Nat) : (s.passTo n).commit = s.commit := rfl
@[simp] theorem State.passTo_tiles (n : Nat) : (s.passTo n).tiles = s.tiles := rfl
@[simp] theorem State.passTo_notes (n : Nat) : (s.passTo n).notes = s.notes := rfl
@[simp] theorem State.passTo_clocks (n : Nat) : (s.passTo n).clocks = s.clocks := rfl
@[simp] theorem State.passTo_cal (n : Nat) : (s.passTo n).cal = s.cal := rfl
@[simp] theorem State.passTo_survey (n : Nat) : (s.passTo n).survey = s.survey := rfl

/-! `State.setLane` -/

@[simp] theorem State.setLane_pending (e : Nat) (l : Lane) : (s.setLane e l).pending = s.pending := rfl
@[simp] theorem State.setLane_objs (e : Nat) (l : Lane) : (s.setLane e l).objs = s.objs := rfl
@[simp] theorem State.setLane_force (e : Nat) (l : Lane) : (s.setLane e l).force = s.force := rfl
@[simp] theorem State.setLane_deferred (e : Nat) (l : Lane) : (s.setLane e l).deferred = s.deferred := rfl
@[simp] theorem State.setLane_fresh (e : Nat) (l : Lane) : (s.setLane e l).fresh = s.fresh := rfl
@[simp] theorem State.setLane_frame (e : Nat) (l : Lane) : (s.setLane e l).frame = s.frame := rfl
@[simp] theorem State.setLane_timing (e : Nat) (l : Lane) : (s.setLane e l).timing = s.timing := rfl
@[simp] theorem State.setLane_time (e : Nat) (l : Lane) : (s.setLane e l).time = s.time := rfl
@[simp] theorem State.setLane_pds (e : Nat) (l : Lane) : (s.setLane e l).pds = s.pds := rfl
@[simp] theorem State.setLane_ev (e : Nat) (l : Lane) : (s.setLane e l).ev = s.ev := rfl
@[simp] theorem State.setLane_pairs (e : Nat) (l : Lane) : (s.setLane e l).pairs = s.pairs := rfl
@[simp] theorem State.setLane_portA (e : Nat) (l : Lane) : (s.setLane e l).portA = s.portA := rfl
@[simp] theorem State.setLane_portB (e : Nat) (l : Lane) : (s.setLane e l).portB = s.portB := rfl
@[simp] theorem State.setLane_lastPort (e : Nat) (l : Lane) : (s.setLane e l).lastPort = s.lastPort := rfl
@[simp] theorem State.setLane_tokens (e : Nat) (l : Lane) : (s.setLane e l).tokens = s.tokens := rfl
@[simp] theorem State.setLane_svc (e : Nat) (l : Lane) : (s.setLane e l).svc = s.svc := rfl
@[simp] theorem State.setLane_arbMask (e : Nat) (l : Lane) : (s.setLane e l).arbMask = s.arbMask := rfl
@[simp] theorem State.setLane_boot (e : Nat) (l : Lane) : (s.setLane e l).boot = s.boot := rfl
@[simp] theorem State.setLane_mode (e : Nat) (l : Lane) : (s.setLane e l).mode = s.mode := rfl
@[simp] theorem State.setLane_pow (e : Nat) (l : Lane) : (s.setLane e l).pow = s.pow := rfl
@[simp] theorem State.setLane_perf (e : Nat) (l : Lane) : (s.setLane e l).perf = s.perf := rfl
@[simp] theorem State.setLane_fault (e : Nat) (l : Lane) : (s.setLane e l).fault = s.fault := rfl
@[simp] theorem State.setLane_safe (e : Nat) (l : Lane) : (s.setLane e l).safe = s.safe := rfl
@[simp] theorem State.setLane_supply (e : Nat) (l : Lane) : (s.setLane e l).supply = s.supply := rfl
@[simp] theorem State.setLane_rst (e : Nat) (l : Lane) : (s.setLane e l).rst = s.rst := rfl
@[simp] theorem State.setLane_mons (e : Nat) (l : Lane) : (s.setLane e l).mons = s.mons := rfl
@[simp] theorem State.setLane_commit (e : Nat) (l : Lane) : (s.setLane e l).commit = s.commit := rfl
@[simp] theorem State.setLane_tiles (e : Nat) (l : Lane) : (s.setLane e l).tiles = s.tiles := rfl
@[simp] theorem State.setLane_notes (e : Nat) (l : Lane) : (s.setLane e l).notes = s.notes := rfl
@[simp] theorem State.setLane_clocks (e : Nat) (l : Lane) : (s.setLane e l).clocks = s.clocks := rfl
@[simp] theorem State.setLane_cal (e : Nat) (l : Lane) : (s.setLane e l).cal = s.cal := rfl
@[simp] theorem State.setLane_survey (e : Nat) (l : Lane) : (s.setLane e l).survey = s.survey := rfl

/-! `State.setMon` -/

@[simp] theorem State.setMon_pending (m : Nat) (x : Mon) : (s.setMon m x).pending = s.pending := rfl
@[simp] theorem State.setMon_objs (m : Nat) (x : Mon) : (s.setMon m x).objs = s.objs := rfl
@[simp] theorem State.setMon_force (m : Nat) (x : Mon) : (s.setMon m x).force = s.force := rfl
@[simp] theorem State.setMon_deferred (m : Nat) (x : Mon) : (s.setMon m x).deferred = s.deferred := rfl
@[simp] theorem State.setMon_fresh (m : Nat) (x : Mon) : (s.setMon m x).fresh = s.fresh := rfl
@[simp] theorem State.setMon_frame (m : Nat) (x : Mon) : (s.setMon m x).frame = s.frame := rfl
@[simp] theorem State.setMon_timing (m : Nat) (x : Mon) : (s.setMon m x).timing = s.timing := rfl
@[simp] theorem State.setMon_time (m : Nat) (x : Mon) : (s.setMon m x).time = s.time := rfl
@[simp] theorem State.setMon_pds (m : Nat) (x : Mon) : (s.setMon m x).pds = s.pds := rfl
@[simp] theorem State.setMon_ev (m : Nat) (x : Mon) : (s.setMon m x).ev = s.ev := rfl
@[simp] theorem State.setMon_pairs (m : Nat) (x : Mon) : (s.setMon m x).pairs = s.pairs := rfl
@[simp] theorem State.setMon_portA (m : Nat) (x : Mon) : (s.setMon m x).portA = s.portA := rfl
@[simp] theorem State.setMon_portB (m : Nat) (x : Mon) : (s.setMon m x).portB = s.portB := rfl
@[simp] theorem State.setMon_lastPort (m : Nat) (x : Mon) : (s.setMon m x).lastPort = s.lastPort := rfl
@[simp] theorem State.setMon_tokens (m : Nat) (x : Mon) : (s.setMon m x).tokens = s.tokens := rfl
@[simp] theorem State.setMon_svc (m : Nat) (x : Mon) : (s.setMon m x).svc = s.svc := rfl
@[simp] theorem State.setMon_arbMask (m : Nat) (x : Mon) : (s.setMon m x).arbMask = s.arbMask := rfl
@[simp] theorem State.setMon_boot (m : Nat) (x : Mon) : (s.setMon m x).boot = s.boot := rfl
@[simp] theorem State.setMon_mode (m : Nat) (x : Mon) : (s.setMon m x).mode = s.mode := rfl
@[simp] theorem State.setMon_pow (m : Nat) (x : Mon) : (s.setMon m x).pow = s.pow := rfl
@[simp] theorem State.setMon_perf (m : Nat) (x : Mon) : (s.setMon m x).perf = s.perf := rfl
@[simp] theorem State.setMon_fault (m : Nat) (x : Mon) : (s.setMon m x).fault = s.fault := rfl
@[simp] theorem State.setMon_safe (m : Nat) (x : Mon) : (s.setMon m x).safe = s.safe := rfl
@[simp] theorem State.setMon_supply (m : Nat) (x : Mon) : (s.setMon m x).supply = s.supply := rfl
@[simp] theorem State.setMon_rst (m : Nat) (x : Mon) : (s.setMon m x).rst = s.rst := rfl
@[simp] theorem State.setMon_lanes (m : Nat) (x : Mon) : (s.setMon m x).lanes = s.lanes := rfl
@[simp] theorem State.setMon_commit (m : Nat) (x : Mon) : (s.setMon m x).commit = s.commit := rfl
@[simp] theorem State.setMon_tiles (m : Nat) (x : Mon) : (s.setMon m x).tiles = s.tiles := rfl
@[simp] theorem State.setMon_notes (m : Nat) (x : Mon) : (s.setMon m x).notes = s.notes := rfl
@[simp] theorem State.setMon_clocks (m : Nat) (x : Mon) : (s.setMon m x).clocks = s.clocks := rfl
@[simp] theorem State.setMon_cal (m : Nat) (x : Mon) : (s.setMon m x).cal = s.cal := rfl
@[simp] theorem State.setMon_survey (m : Nat) (x : Mon) : (s.setMon m x).survey = s.survey := rfl

/-! `State.setPd` -/

@[simp] theorem State.setPd_pending (p : Nat) (x : PdSt) : (s.setPd p x).pending = s.pending := rfl
@[simp] theorem State.setPd_objs (p : Nat) (x : PdSt) : (s.setPd p x).objs = s.objs := rfl
@[simp] theorem State.setPd_force (p : Nat) (x : PdSt) : (s.setPd p x).force = s.force := rfl
@[simp] theorem State.setPd_deferred (p : Nat) (x : PdSt) : (s.setPd p x).deferred = s.deferred := rfl
@[simp] theorem State.setPd_fresh (p : Nat) (x : PdSt) : (s.setPd p x).fresh = s.fresh := rfl
@[simp] theorem State.setPd_frame (p : Nat) (x : PdSt) : (s.setPd p x).frame = s.frame := rfl
@[simp] theorem State.setPd_timing (p : Nat) (x : PdSt) : (s.setPd p x).timing = s.timing := rfl
@[simp] theorem State.setPd_time (p : Nat) (x : PdSt) : (s.setPd p x).time = s.time := rfl
@[simp] theorem State.setPd_ev (p : Nat) (x : PdSt) : (s.setPd p x).ev = s.ev := rfl
@[simp] theorem State.setPd_pairs (p : Nat) (x : PdSt) : (s.setPd p x).pairs = s.pairs := rfl
@[simp] theorem State.setPd_portA (p : Nat) (x : PdSt) : (s.setPd p x).portA = s.portA := rfl
@[simp] theorem State.setPd_portB (p : Nat) (x : PdSt) : (s.setPd p x).portB = s.portB := rfl
@[simp] theorem State.setPd_lastPort (p : Nat) (x : PdSt) : (s.setPd p x).lastPort = s.lastPort := rfl
@[simp] theorem State.setPd_tokens (p : Nat) (x : PdSt) : (s.setPd p x).tokens = s.tokens := rfl
@[simp] theorem State.setPd_svc (p : Nat) (x : PdSt) : (s.setPd p x).svc = s.svc := rfl
@[simp] theorem State.setPd_arbMask (p : Nat) (x : PdSt) : (s.setPd p x).arbMask = s.arbMask := rfl
@[simp] theorem State.setPd_boot (p : Nat) (x : PdSt) : (s.setPd p x).boot = s.boot := rfl
@[simp] theorem State.setPd_mode (p : Nat) (x : PdSt) : (s.setPd p x).mode = s.mode := rfl
@[simp] theorem State.setPd_pow (p : Nat) (x : PdSt) : (s.setPd p x).pow = s.pow := rfl
@[simp] theorem State.setPd_perf (p : Nat) (x : PdSt) : (s.setPd p x).perf = s.perf := rfl
@[simp] theorem State.setPd_fault (p : Nat) (x : PdSt) : (s.setPd p x).fault = s.fault := rfl
@[simp] theorem State.setPd_safe (p : Nat) (x : PdSt) : (s.setPd p x).safe = s.safe := rfl
@[simp] theorem State.setPd_supply (p : Nat) (x : PdSt) : (s.setPd p x).supply = s.supply := rfl
@[simp] theorem State.setPd_rst (p : Nat) (x : PdSt) : (s.setPd p x).rst = s.rst := rfl
@[simp] theorem State.setPd_lanes (p : Nat) (x : PdSt) : (s.setPd p x).lanes = s.lanes := rfl
@[simp] theorem State.setPd_mons (p : Nat) (x : PdSt) : (s.setPd p x).mons = s.mons := rfl
@[simp] theorem State.setPd_commit (p : Nat) (x : PdSt) : (s.setPd p x).commit = s.commit := rfl
@[simp] theorem State.setPd_tiles (p : Nat) (x : PdSt) : (s.setPd p x).tiles = s.tiles := rfl
@[simp] theorem State.setPd_notes (p : Nat) (x : PdSt) : (s.setPd p x).notes = s.notes := rfl
@[simp] theorem State.setPd_clocks (p : Nat) (x : PdSt) : (s.setPd p x).clocks = s.clocks := rfl
@[simp] theorem State.setPd_cal (p : Nat) (x : PdSt) : (s.setPd p x).cal = s.cal := rfl
@[simp] theorem State.setPd_survey (p : Nat) (x : PdSt) : (s.setPd p x).survey = s.survey := rfl

/-! `State.setTile` -/

@[simp] theorem State.setTile_pending (t : Nat) (x : TileSt) : (s.setTile t x).pending = s.pending := rfl
@[simp] theorem State.setTile_objs (t : Nat) (x : TileSt) : (s.setTile t x).objs = s.objs := rfl
@[simp] theorem State.setTile_force (t : Nat) (x : TileSt) : (s.setTile t x).force = s.force := rfl
@[simp] theorem State.setTile_deferred (t : Nat) (x : TileSt) : (s.setTile t x).deferred = s.deferred := rfl
@[simp] theorem State.setTile_fresh (t : Nat) (x : TileSt) : (s.setTile t x).fresh = s.fresh := rfl
@[simp] theorem State.setTile_frame (t : Nat) (x : TileSt) : (s.setTile t x).frame = s.frame := rfl
@[simp] theorem State.setTile_timing (t : Nat) (x : TileSt) : (s.setTile t x).timing = s.timing := rfl
@[simp] theorem State.setTile_time (t : Nat) (x : TileSt) : (s.setTile t x).time = s.time := rfl
@[simp] theorem State.setTile_pds (t : Nat) (x : TileSt) : (s.setTile t x).pds = s.pds := rfl
@[simp] theorem State.setTile_ev (t : Nat) (x : TileSt) : (s.setTile t x).ev = s.ev := rfl
@[simp] theorem State.setTile_pairs (t : Nat) (x : TileSt) : (s.setTile t x).pairs = s.pairs := rfl
@[simp] theorem State.setTile_portA (t : Nat) (x : TileSt) : (s.setTile t x).portA = s.portA := rfl
@[simp] theorem State.setTile_portB (t : Nat) (x : TileSt) : (s.setTile t x).portB = s.portB := rfl
@[simp] theorem State.setTile_lastPort (t : Nat) (x : TileSt) : (s.setTile t x).lastPort = s.lastPort := rfl
@[simp] theorem State.setTile_tokens (t : Nat) (x : TileSt) : (s.setTile t x).tokens = s.tokens := rfl
@[simp] theorem State.setTile_svc (t : Nat) (x : TileSt) : (s.setTile t x).svc = s.svc := rfl
@[simp] theorem State.setTile_arbMask (t : Nat) (x : TileSt) : (s.setTile t x).arbMask = s.arbMask := rfl
@[simp] theorem State.setTile_boot (t : Nat) (x : TileSt) : (s.setTile t x).boot = s.boot := rfl
@[simp] theorem State.setTile_mode (t : Nat) (x : TileSt) : (s.setTile t x).mode = s.mode := rfl
@[simp] theorem State.setTile_pow (t : Nat) (x : TileSt) : (s.setTile t x).pow = s.pow := rfl
@[simp] theorem State.setTile_perf (t : Nat) (x : TileSt) : (s.setTile t x).perf = s.perf := rfl
@[simp] theorem State.setTile_fault (t : Nat) (x : TileSt) : (s.setTile t x).fault = s.fault := rfl
@[simp] theorem State.setTile_safe (t : Nat) (x : TileSt) : (s.setTile t x).safe = s.safe := rfl
@[simp] theorem State.setTile_supply (t : Nat) (x : TileSt) : (s.setTile t x).supply = s.supply := rfl
@[simp] theorem State.setTile_rst (t : Nat) (x : TileSt) : (s.setTile t x).rst = s.rst := rfl
@[simp] theorem State.setTile_lanes (t : Nat) (x : TileSt) : (s.setTile t x).lanes = s.lanes := rfl
@[simp] theorem State.setTile_mons (t : Nat) (x : TileSt) : (s.setTile t x).mons = s.mons := rfl
@[simp] theorem State.setTile_commit (t : Nat) (x : TileSt) : (s.setTile t x).commit = s.commit := rfl
@[simp] theorem State.setTile_notes (t : Nat) (x : TileSt) : (s.setTile t x).notes = s.notes := rfl
@[simp] theorem State.setTile_clocks (t : Nat) (x : TileSt) : (s.setTile t x).clocks = s.clocks := rfl
@[simp] theorem State.setTile_cal (t : Nat) (x : TileSt) : (s.setTile t x).cal = s.cal := rfl
@[simp] theorem State.setTile_survey (t : Nat) (x : TileSt) : (s.setTile t x).survey = s.survey := rfl

/-! `State.setPair` -/

@[simp] theorem State.setPair_pending (p : Nat) (x : PairSt) : (s.setPair p x).pending = s.pending := rfl
@[simp] theorem State.setPair_objs (p : Nat) (x : PairSt) : (s.setPair p x).objs = s.objs := rfl
@[simp] theorem State.setPair_force (p : Nat) (x : PairSt) : (s.setPair p x).force = s.force := rfl
@[simp] theorem State.setPair_deferred (p : Nat) (x : PairSt) : (s.setPair p x).deferred = s.deferred := rfl
@[simp] theorem State.setPair_fresh (p : Nat) (x : PairSt) : (s.setPair p x).fresh = s.fresh := rfl
@[simp] theorem State.setPair_frame (p : Nat) (x : PairSt) : (s.setPair p x).frame = s.frame := rfl
@[simp] theorem State.setPair_timing (p : Nat) (x : PairSt) : (s.setPair p x).timing = s.timing := rfl
@[simp] theorem State.setPair_time (p : Nat) (x : PairSt) : (s.setPair p x).time = s.time := rfl
@[simp] theorem State.setPair_pds (p : Nat) (x : PairSt) : (s.setPair p x).pds = s.pds := rfl
@[simp] theorem State.setPair_ev (p : Nat) (x : PairSt) : (s.setPair p x).ev = s.ev := rfl
@[simp] theorem State.setPair_portA (p : Nat) (x : PairSt) : (s.setPair p x).portA = s.portA := rfl
@[simp] theorem State.setPair_portB (p : Nat) (x : PairSt) : (s.setPair p x).portB = s.portB := rfl
@[simp] theorem State.setPair_lastPort (p : Nat) (x : PairSt) : (s.setPair p x).lastPort = s.lastPort := rfl
@[simp] theorem State.setPair_tokens (p : Nat) (x : PairSt) : (s.setPair p x).tokens = s.tokens := rfl
@[simp] theorem State.setPair_svc (p : Nat) (x : PairSt) : (s.setPair p x).svc = s.svc := rfl
@[simp] theorem State.setPair_arbMask (p : Nat) (x : PairSt) : (s.setPair p x).arbMask = s.arbMask := rfl
@[simp] theorem State.setPair_boot (p : Nat) (x : PairSt) : (s.setPair p x).boot = s.boot := rfl
@[simp] theorem State.setPair_mode (p : Nat) (x : PairSt) : (s.setPair p x).mode = s.mode := rfl
@[simp] theorem State.setPair_pow (p : Nat) (x : PairSt) : (s.setPair p x).pow = s.pow := rfl
@[simp] theorem State.setPair_perf (p : Nat) (x : PairSt) : (s.setPair p x).perf = s.perf := rfl
@[simp] theorem State.setPair_fault (p : Nat) (x : PairSt) : (s.setPair p x).fault = s.fault := rfl
@[simp] theorem State.setPair_safe (p : Nat) (x : PairSt) : (s.setPair p x).safe = s.safe := rfl
@[simp] theorem State.setPair_supply (p : Nat) (x : PairSt) : (s.setPair p x).supply = s.supply := rfl
@[simp] theorem State.setPair_rst (p : Nat) (x : PairSt) : (s.setPair p x).rst = s.rst := rfl
@[simp] theorem State.setPair_lanes (p : Nat) (x : PairSt) : (s.setPair p x).lanes = s.lanes := rfl
@[simp] theorem State.setPair_mons (p : Nat) (x : PairSt) : (s.setPair p x).mons = s.mons := rfl
@[simp] theorem State.setPair_commit (p : Nat) (x : PairSt) : (s.setPair p x).commit = s.commit := rfl
@[simp] theorem State.setPair_tiles (p : Nat) (x : PairSt) : (s.setPair p x).tiles = s.tiles := rfl
@[simp] theorem State.setPair_notes (p : Nat) (x : PairSt) : (s.setPair p x).notes = s.notes := rfl
@[simp] theorem State.setPair_clocks (p : Nat) (x : PairSt) : (s.setPair p x).clocks = s.clocks := rfl
@[simp] theorem State.setPair_cal (p : Nat) (x : PairSt) : (s.setPair p x).cal = s.cal := rfl
@[simp] theorem State.setPair_survey (p : Nat) (x : PairSt) : (s.setPair p x).survey = s.survey := rfl

/-! `State.setPort`: one of two fields -/

@[simp] theorem State.setPort_pending (p : Nat) (x : PortSt) : (s.setPort p x).pending = s.pending := by
  unfold State.setPort; split <;> rfl
@[simp] theorem State.setPort_objs (p : Nat) (x : PortSt) : (s.setPort p x).objs = s.objs := by
  unfold State.setPort; split <;> rfl
@[simp] theorem State.setPort_force (p : Nat) (x : PortSt) : (s.setPort p x).force = s.force := by
  unfold State.setPort; split <;> rfl
@[simp] theorem State.setPort_deferred (p : Nat) (x : PortSt) : (s.setPort p x).deferred = s.deferred := by
  unfold State.setPort; split <;> rfl
@[simp] theorem State.setPort_fresh (p : Nat) (x : PortSt) : (s.setPort p x).fresh = s.fresh := by
  unfold State.setPort; split <;> rfl
@[simp] theorem State.setPort_frame (p : Nat) (x : PortSt) : (s.setPort p x).frame = s.frame := by
  unfold State.setPort; split <;> rfl
@[simp] theorem State.setPort_timing (p : Nat) (x : PortSt) : (s.setPort p x).timing = s.timing := by
  unfold State.setPort; split <;> rfl
@[simp] theorem State.setPort_time (p : Nat) (x : PortSt) : (s.setPort p x).time = s.time := by
  unfold State.setPort; split <;> rfl
@[simp] theorem State.setPort_pds (p : Nat) (x : PortSt) : (s.setPort p x).pds = s.pds := by
  unfold State.setPort; split <;> rfl
@[simp] theorem State.setPort_ev (p : Nat) (x : PortSt) : (s.setPort p x).ev = s.ev := by
  unfold State.setPort; split <;> rfl
@[simp] theorem State.setPort_pairs (p : Nat) (x : PortSt) : (s.setPort p x).pairs = s.pairs := by
  unfold State.setPort; split <;> rfl
@[simp] theorem State.setPort_lastPort (p : Nat) (x : PortSt) : (s.setPort p x).lastPort = s.lastPort := by
  unfold State.setPort; split <;> rfl
@[simp] theorem State.setPort_tokens (p : Nat) (x : PortSt) : (s.setPort p x).tokens = s.tokens := by
  unfold State.setPort; split <;> rfl
@[simp] theorem State.setPort_svc (p : Nat) (x : PortSt) : (s.setPort p x).svc = s.svc := by
  unfold State.setPort; split <;> rfl
@[simp] theorem State.setPort_arbMask (p : Nat) (x : PortSt) : (s.setPort p x).arbMask = s.arbMask := by
  unfold State.setPort; split <;> rfl
@[simp] theorem State.setPort_boot (p : Nat) (x : PortSt) : (s.setPort p x).boot = s.boot := by
  unfold State.setPort; split <;> rfl
@[simp] theorem State.setPort_mode (p : Nat) (x : PortSt) : (s.setPort p x).mode = s.mode := by
  unfold State.setPort; split <;> rfl
@[simp] theorem State.setPort_pow (p : Nat) (x : PortSt) : (s.setPort p x).pow = s.pow := by
  unfold State.setPort; split <;> rfl
@[simp] theorem State.setPort_perf (p : Nat) (x : PortSt) : (s.setPort p x).perf = s.perf := by
  unfold State.setPort; split <;> rfl
@[simp] theorem State.setPort_fault (p : Nat) (x : PortSt) : (s.setPort p x).fault = s.fault := by
  unfold State.setPort; split <;> rfl
@[simp] theorem State.setPort_safe (p : Nat) (x : PortSt) : (s.setPort p x).safe = s.safe := by
  unfold State.setPort; split <;> rfl
@[simp] theorem State.setPort_supply (p : Nat) (x : PortSt) : (s.setPort p x).supply = s.supply := by
  unfold State.setPort; split <;> rfl
@[simp] theorem State.setPort_rst (p : Nat) (x : PortSt) : (s.setPort p x).rst = s.rst := by
  unfold State.setPort; split <;> rfl
@[simp] theorem State.setPort_lanes (p : Nat) (x : PortSt) : (s.setPort p x).lanes = s.lanes := by
  unfold State.setPort; split <;> rfl
@[simp] theorem State.setPort_mons (p : Nat) (x : PortSt) : (s.setPort p x).mons = s.mons := by
  unfold State.setPort; split <;> rfl
@[simp] theorem State.setPort_commit (p : Nat) (x : PortSt) : (s.setPort p x).commit = s.commit := by
  unfold State.setPort; split <;> rfl
@[simp] theorem State.setPort_tiles (p : Nat) (x : PortSt) : (s.setPort p x).tiles = s.tiles := by
  unfold State.setPort; split <;> rfl
@[simp] theorem State.setPort_notes (p : Nat) (x : PortSt) : (s.setPort p x).notes = s.notes := by
  unfold State.setPort; split <;> rfl
@[simp] theorem State.setPort_clocks (p : Nat) (x : PortSt) : (s.setPort p x).clocks = s.clocks := by
  unfold State.setPort; split <;> rfl
@[simp] theorem State.setPort_cal (p : Nat) (x : PortSt) : (s.setPort p x).cal = s.cal := by
  unfold State.setPort; split <;> rfl
@[simp] theorem State.setPort_survey (p : Nat) (x : PortSt) : (s.setPort p x).survey = s.survey := by
  unfold State.setPort; split <;> rfl

/-! Elapsed time depends on the model's clock alone. -/

variable {s}

theorem State.usSince_congr {t : State} (h : t.frame = s.frame) (u : Nat) : t.usSince u = s.usSince u := by
  unfold State.usSince; rw [h]

theorem State.nsSince_congr {t : State} (h : t.frame = s.frame) (u : Nat) : t.nsSince u = s.nsSince u := by
  unfold State.nsSince; rw [h]

theorem State.now_congr {t : State} (h : t.frame = s.frame) : t.now = s.now := by
  unfold State.now; rw [h]

@[simp] theorem State.usSince_wr {F : Field} {e v u : Nat} : (s.wr F e v).usSince u = s.usSince u := State.usSince_congr rfl u
@[simp] theorem State.usSince_set {F : Field} {v u : Nat} : (s.set F v).usSince u = s.usSince u := State.usSince_congr rfl u
@[simp] theorem State.nsSince_wr {F : Field} {e v u : Nat} : (s.wr F e v).nsSince u = s.nsSince u := State.nsSince_congr rfl u
@[simp] theorem State.now_wr {F : Field} {e v : Nat} : (s.wr F e v).now = s.now := State.now_congr rfl
@[simp] theorem State.now_set {F : Field} {v : Nat} : (s.set F v).now = s.now := State.now_congr rfl

end Sys2Proof.Machine
end

