-- ==== Sys2Proof/Laws/Table.lean ====
section
/-! SUPPORT. Sparse arrays: a read after a write, and the canonical form. -/

namespace Sys2Proof.Machine

variable {α : Type} [DecidableEq α] (d : Nat → α)

theorem Table.above_some {n k : Nat} : Table.above (some n) k = true ↔ n < k := by simp [Table.above]

theorem Table.wfFrom_cons {b : Option Nat} {j : Nat} {v : α} {t : Table α} :
    Table.wfFrom d b ((j, v) :: t) = true ↔
      Table.above b j = true ∧ v ≠ d j ∧ Table.wfFrom d (some j) t = true := by
  simp [Table.wfFrom, and_assoc]

theorem Table.wfFrom_weaken {b : Nat} {t : Table α} (h : Table.wfFrom d (some b) t = true) {c : Option Nat}
    (hc : ∀ n, c = some n → n ≤ b) : Table.wfFrom d c t = true := by
  cases t with
  | nil => rfl
  | cons p t =>
    obtain ⟨j, v⟩ := p
    rw [Table.wfFrom_cons] at h ⊢
    refine ⟨?_, h.2⟩
    cases c with
    | none => rfl
    | some n =>
      have h1 := hc n rfl
      have h2 := Table.above_some.mp h.1
      exact Table.above_some.mpr (by omega)

theorem Table.find_below {b k : Nat} {t : Table α} (h : Table.wfFrom d (some b) t = true) (hk : k ≤ b) :
    Table.find d k t = d k := by
  cases t with
  | nil => rfl
  | cons p t =>
    obtain ⟨j, v⟩ := p
    have := Table.above_some.mp ((Table.wfFrom_cons d).mp h).1
    rw [Table.find, if_neg (by omega), if_pos (by omega)]

/-- Reading the key just written, in any table that is in canonical form above some bound. -/
theorem Table.find_put_same_from {b : Option Nat} {k : Nat} {v : α} {t : Table α} (h : Table.wfFrom d b t = true) :
    Table.find d k (Table.put d k v t) = v := by
  induction t generalizing b with
  | nil => by_cases hv : v = d k <;> simp [Table.put, Table.find, hv]
  | cons p t ih =>
    obtain ⟨j, w⟩ := p
    have h' := ((Table.wfFrom_cons d).mp h).2.2
    rcases lt_trichotomy j k with hj | rfl | hj
    · simp [Table.put, Table.find, hj.ne, not_lt.mpr hj.le, ih h']
    · by_cases hv : v = d j
      · simp [Table.put, hv, Table.find_below d h' (le_refl _)]
      · simp [Table.put, Table.find, hv]
    · by_cases hv : v = d k
      · simp [Table.put, Table.find, hj.ne', hj, hv]
      · simp [Table.put, Table.find, hj.ne', hj, hv]

/-- A write leaves every other key alone, in any table that is in canonical form above some bound. -/
theorem Table.find_put_other_from {k i : Nat} {v : α} {t : Table α} {b : Option Nat}
    (h : Table.wfFrom d b t = true) (hi : i ≠ k) : Table.find d i (Table.put d k v t) = Table.find d i t := by
  induction t generalizing b with
  | nil => by_cases hv : v = d k <;> simp [Table.put, Table.find, hv, hi.symm]
  | cons p t ih =>
    obtain ⟨j, w⟩ := p
    have h' := ((Table.wfFrom_cons d).mp h).2.2
    rcases lt_trichotomy j k with hj | rfl | hj
    · simp [Table.put, Table.find, hj.ne, not_lt.mpr hj.le, ih h']
    · by_cases hv : v = d j
      · by_cases hlt : i < j
        · simp [Table.put, Table.find, hv, hi.symm, hlt, Table.find_below d h' hlt.le]
        · simp [Table.put, Table.find, hv, hi.symm, hlt]
      · simp [Table.put, Table.find, hv, hi.symm]
    · by_cases hv : v = d k
      · simp [Table.put, hj.ne', hj, hv]
      · by_cases hlt : i < k
        · simp [Table.put, Table.find, hj.ne', hj, hv, hi.symm, hlt, (hlt.trans hj).ne', hlt.trans hj]
        · simp [Table.put, Table.find, hj.ne', hj, hv, hi.symm, hlt]

theorem Table.wfFrom_put {k : Nat} {v : α} {t : Table α} {b : Option Nat} (h : Table.wfFrom d b t = true)
    (hb : Table.above b k = true) : Table.wfFrom d b (Table.put d k v t) = true := by
  induction t generalizing b with
  | nil => by_cases hv : v = d k <;> simp [Table.put, hv, Table.wfFrom, hb]
  | cons p t ih =>
    obtain ⟨j, w⟩ := p
    have hc := (Table.wfFrom_cons d).mp h
    rcases lt_trichotomy j k with hj | rfl | hj
    · simp only [Table.put, if_neg hj.ne, if_neg (not_lt.mpr hj.le)]
      exact (Table.wfFrom_cons d).mpr ⟨hc.1, hc.2.1, ih hc.2.2 (Table.above_some.mpr hj)⟩
    · by_cases hv : v = d j
      · rw [Table.put, if_pos rfl, if_pos hv]
        refine Table.wfFrom_weaken d hc.2.2 (fun n hn => ?_)
        subst hn; exact (Table.above_some.mp hc.1).le
      · rw [Table.put, if_pos rfl, if_neg hv]
        exact (Table.wfFrom_cons d).mpr ⟨hc.1, hv, hc.2.2⟩
    · by_cases hv : v = d k
      · rw [Table.put, if_neg hj.ne', if_pos hj, if_pos hv]; exact h
      · rw [Table.put, if_neg hj.ne', if_pos hj, if_neg hv]
        exact (Table.wfFrom_cons d).mpr ⟨hb, hv, (Table.wfFrom_cons d).mpr ⟨Table.above_some.mpr hj, hc.2⟩⟩

theorem Table.wfFrom_mapVals {f : Nat → α → α} {t : Table α} {b : Option Nat} (h : Table.wfFrom d b t = true) :
    Table.wfFrom d b (Table.mapVals d f t) = true := by
  induction t generalizing b with
  | nil => rfl
  | cons p t ih =>
    obtain ⟨j, w⟩ := p
    have hc := (Table.wfFrom_cons d).mp h
    by_cases hv : f j w = d j
    · rw [Table.mapVals, if_pos hv]
      refine Table.wfFrom_weaken d (ih hc.2.2) (fun n hn => ?_)
      subst hn; exact (Table.above_some.mp hc.1).le
    · rw [Table.mapVals, if_neg hv]
      exact (Table.wfFrom_cons d).mpr ⟨hc.1, hv, ih hc.2.2⟩

theorem Table.wfFrom_filter {f : Nat × α → Bool} {t : Table α} {b : Option Nat} (h : Table.wfFrom d b t = true) :
    Table.wfFrom d b (t.filter f) = true := by
  induction t generalizing b with
  | nil => rfl
  | cons p t ih =>
    obtain ⟨j, w⟩ := p
    have hc := (Table.wfFrom_cons d).mp h
    by_cases hv : f (j, w) = true
    · rw [List.filter_cons_of_pos hv]
      exact (Table.wfFrom_cons d).mpr ⟨hc.1, hc.2.1, ih hc.2.2⟩
    · rw [List.filter_cons_of_neg hv]
      refine Table.wfFrom_weaken d (ih hc.2.2) (fun n hn => ?_)
      subst hn; exact (Table.above_some.mp hc.1).le

/-- Reading the key just written. -/
theorem Table.find_put_same {k : Nat} {v : α} {t : Table α} (h : Table.wf d t = true) :
    Table.find d k (Table.put d k v t) = v := Table.find_put_same_from d h

/-- A write leaves every other key alone. -/
theorem Table.find_put_other {k i : Nat} {v : α} {t : Table α} (h : Table.wf d t = true) (hi : i ≠ k) :
    Table.find d i (Table.put d k v t) = Table.find d i t := Table.find_put_other_from d h hi

/-- A write keeps the canonical form. -/
theorem Table.wf_put {k : Nat} {v : α} {t : Table α} (h : Table.wf d t = true) :
    Table.wf d (Table.put d k v t) = true := Table.wfFrom_put d h rfl

/-- Rewriting the listed values keeps the canonical form. -/
theorem Table.wf_mapVals {f : Nat → α → α} {t : Table α} (h : Table.wf d t = true) :
    Table.wf d (Table.mapVals d f t) = true := Table.wfFrom_mapVals d h

/-- Dropping entries keeps the canonical form. -/
theorem Table.wf_filter {f : Nat × α → Bool} {t : Table α} (h : Table.wf d t = true) :
    Table.wf d (t.filter f) = true := Table.wfFrom_filter d h

end Sys2Proof.Machine
end

