-- ==== Sys2Proof/Laws/Word.lean ====
section
/-! SUPPORT. A field read after a field is written, in the same word; ranges of the number forms. -/

namespace Sys2Proof

theorem Word.put_toNat_parts {w : Word} {hi lo v : Nat} (hl : lo ≤ hi) (hh : hi < 32) :
    (w.put hi lo v).toNat = w.toNat % 2 ^ lo + 2 ^ lo * (v % 2 ^ (hi + 1 - lo) +
      2 ^ (hi + 1 - lo) * (w.toNat / 2 ^ (hi + 1))) := by
  have e : 2 ^ (hi + 1) = 2 ^ lo * 2 ^ (hi + 1 - lo) := by rw [← pow_add]; congr 1; omega
  have e32 : 2 ^ 32 = 2 ^ (hi + 1) * 2 ^ (31 - hi) := by rw [← pow_add]; congr 1; omega
  have hb : w.toNat / 2 ^ (hi + 1) + 1 ≤ 2 ^ (31 - hi) :=
    Nat.div_lt_of_lt_mul (e32 ▸ w.isLt)
  have ha : w.toNat % 2 ^ lo + 1 ≤ 2 ^ lo := Nat.mod_lt _ (by positivity)
  have hx : v % 2 ^ (hi + 1 - lo) + 1 ≤ 2 ^ (hi + 1 - lo) := Nat.mod_lt _ (by positivity)
  unfold Word.put
  rw [BitVec.toNat_ofNat, Nat.mod_eq_of_lt]
  · rw [e]; ring
  · rw [e32, e]
    rw [e] at hb
    generalize w.toNat / (2 ^ lo * 2 ^ (hi + 1 - lo)) = b at *
    generalize 2 ^ lo = L at *
    generalize 2 ^ (hi + 1 - lo) = N at *
    generalize 2 ^ (31 - hi) = R at *
    have h1 : (v % N + 1) * L ≤ N * L := Nat.mul_le_mul_right L hx
    have h2 : (b + 1) * (L * N) ≤ R * (L * N) := Nat.mul_le_mul_right _ hb
    nlinarith

/-- A field just written reads as the low bits of what was written. -/
theorem Word.bits_put_same {w : Word} {hi lo v : Nat} (hl : lo ≤ hi) (hh : hi < 32) :
    (w.put hi lo v).bits hi lo = v % 2 ^ (hi + 1 - lo) := by
  rw [Word.bits, Word.put_toNat_parts hl hh, Nat.add_mul_div_left _ _ (by positivity),
    Nat.div_eq_of_lt (Nat.mod_lt _ (by positivity)), zero_add, Nat.add_mul_mod_self_left, Nat.mod_mod]

/-- Fields above and below the one written read as before. -/
theorem Word.bits_put_other {w : Word} {hi lo v hi' lo' : Nat} (hl : lo ≤ hi) (hh : hi < 32)
    (hd : hi < lo' ∨ hi' < lo ∧ lo' ≤ hi') : (w.put hi lo v).bits hi' lo' = w.bits hi' lo' := by
  have e : 2 ^ (hi + 1) = 2 ^ lo * 2 ^ (hi + 1 - lo) := by rw [← pow_add]; congr 1; omega
  have hx : v % 2 ^ (hi + 1 - lo) < 2 ^ (hi + 1 - lo) := Nat.mod_lt _ (by positivity)
  have ha : w.toNat % 2 ^ lo < 2 ^ lo := Nat.mod_lt _ (by positivity)
  rcases hd with hd | ⟨hd, hd'⟩
  · have e' : 2 ^ lo' = 2 ^ lo * 2 ^ (hi + 1 - lo) * 2 ^ (lo' - hi - 1) := by
      rw [← e, ← pow_add]; congr 1; omega
    unfold Word.bits
    congr 1
    rw [Word.put_toNat_parts hl hh, e', ← Nat.div_div_eq_div_mul, ← Nat.div_div_eq_div_mul,
      Nat.add_mul_div_left _ _ (by positivity), Nat.div_eq_of_lt ha, zero_add,
      Nat.add_mul_div_left _ _ (by positivity), Nat.div_eq_of_lt hx, zero_add, e, ← Nat.div_div_eq_div_mul,
      ← Nat.div_div_eq_div_mul, ← Nat.div_div_eq_div_mul]
  · have hk : lo' + (hi' + 1 - lo') ≤ lo := by omega
    have key : ∀ n : Nat, n / 2 ^ lo' % 2 ^ (hi' + 1 - lo') = n % 2 ^ lo / 2 ^ lo' % 2 ^ (hi' + 1 - lo') := by
      intro n
      have e1 : 2 ^ lo = 2 ^ lo' * 2 ^ (lo - lo') := by rw [← pow_add]; congr 1; omega
      rw [e1, Nat.mod_mul_right_div_self]
      exact (Nat.mod_mod_of_dvd _ (pow_dvd_pow 2 (by omega))).symm
    unfold Word.bits
    rw [key, key w.toNat, Word.put_toNat_parts hl hh, Nat.add_mul_mod_self_left, Nat.mod_mod]

theorem Word.bits_lt (w : Word) (hi lo : Nat) : w.bits hi lo < 2 ^ (hi + 1 - lo) := Nat.mod_lt _ (by positivity)

theorem Word.bits_one (w : Word) (n : Nat) : w.bits n n = 0 ∨ w.bits n n = 1 := by
  have := Word.bits_lt w n n
  simp only [Nat.add_sub_cancel_left, pow_one] at this
  omega

/-- Two's complement reads back what it holds. -/
theorem signedOf_toBits {n : Nat} {i : Int} (hn : 0 < n) (h1 : -2 ^ (n - 1) ≤ i) (h2 : i < 2 ^ (n - 1)) :
    signedOf n (toBits n i) = i := by
  obtain ⟨m, rfl⟩ : ∃ m, n = m + 1 := ⟨n - 1, by omega⟩
  simp only [Nat.add_sub_cancel] at h1 h2
  have hp : (2 : Int) ^ (m + 1) = 2 * 2 ^ m := by rw [pow_succ]; ring
  have hpn : (2 : Nat) ^ (m + 1) = 2 * 2 ^ m := by rw [pow_succ]; ring
  have hc : ((2 ^ m : Nat) : Int) = 2 ^ m := by push_cast; rfl
  unfold signedOf toBits
  simp only [Nat.add_sub_cancel]
  rw [hpn]
  push_cast
  generalize hP : (2 : Int) ^ m = P at *
  have hPn : ((2 ^ m : Nat) : Int) = P := hc
  generalize (2 : Nat) ^ m = Q at *
  subst hPn
  by_cases hi : 0 ≤ i
  · have e : i % (2 * (Q : Int)) = i := Int.emod_eq_of_lt hi (by omega)
    rw [e]
    have e2 : i.toNat % (2 * Q) = i.toNat := Nat.mod_eq_of_lt (by omega)
    rw [show ((i.toNat : Nat) : Int) % (2 * (Q : Int)) = ((i.toNat % (2 * Q) : Nat) : Int) by push_cast; rfl, e2,
      if_pos (by omega)]
    omega
  · have e : i % (2 * (Q : Int)) = i + 2 * Q := by
      rw [← Int.add_mul_emod_self_right i 1, Int.emod_eq_of_lt] <;> omega
    rw [e]
    have e2 : (i + 2 * (Q : Int)).toNat % (2 * Q) = (i + 2 * (Q : Int)).toNat := Nat.mod_eq_of_lt (by omega)
    rw [show (((i + 2 * (Q : Int)).toNat : Nat) : Int) % (2 * (Q : Int)) =
      (((i + 2 * (Q : Int)).toNat % (2 * Q) : Nat) : Int) by push_cast; rfl, e2, if_neg (by omega)]
    omega

theorem toBits_lt (n : Nat) (i : Int) : toBits n i < 2 ^ n := by
  unfold toBits
  have := Int.emod_lt_of_pos i (b := ((2 ^ n : Nat) : Int)) (by positivity)
  have := Int.emod_nonneg i (b := ((2 ^ n : Nat) : Int)) (by positivity)
  omega

end Sys2Proof
end

