-- ==== Sys2Proof/Laws/Words.lean ====
section
/-! SUPPORT. The dictionary's words: a read after a write, other words, and the canonical form kept by every operation
that writes a word. -/

namespace Sys2Proof.Machine

/-- The dictionary's words stand in canonical form. -/
def State.ok (s : State) : Prop := Table.wf objDefault s.objs = true

/-- The words in force stand in canonical form. -/
def State.forceOk (s : State) : Prop := Table.wf objDefault s.force = true

variable {s : State}

/-! The canonical form is kept. -/

theorem State.ok_of_objs {t : State} (h : s.ok) (e : t.objs = s.objs) : t.ok := by unfold State.ok; rw [e]; exact h

@[simp] theorem State.setWord_ok {i k : Nat} {v : Word} (h : s.ok) : (s.setWord i k v).ok := Table.wf_put _ h
@[simp] theorem State.wr_ok {F : Field} {e v : Nat} (h : s.ok) : (s.wr F e v).ok := State.setWord_ok h
@[simp] theorem State.set_ok {F : Field} {v : Nat} (h : s.ok) : (s.set F v).ok := State.setWord_ok h
@[simp] theorem State.setB_ok {F : Field} {b : Bool} (h : s.ok) : (s.setB F b).ok := State.setWord_ok h
@[simp] theorem State.wrI_ok {F : Field} {e : Nat} {v : Int} (h : s.ok) : (s.wrI F e v).ok := State.setWord_ok h
@[simp] theorem State.setI_ok {F : Field} {v : Int} (h : s.ok) : (s.setI F v).ok := State.setWord_ok h
@[simp] theorem State.bumpBy_ok {F : Field} {e n : Nat} (h : s.ok) : (s.bumpBy F e n).ok := State.setWord_ok h
@[simp] theorem State.bump_ok {F : Field} (h : s.ok) : (s.bump F).ok := State.setWord_ok h
@[simp] theorem State.bumpAt_ok {F : Field} {e : Nat} (h : s.ok) : (s.bumpAt F e).ok := State.setWord_ok h
@[simp] theorem State.put64_ok {i k v : Nat} (h : s.ok) : (s.put64 i k v).ok := State.setWord_ok (State.setWord_ok h)
@[simp] theorem State.raiseTo_ok {F : Field} {v : Nat} (h : s.ok) : (s.raiseTo F v).ok := by
  unfold State.raiseTo; split
  · exact State.set_ok h
  · exact h
@[simp] theorem State.enforce_ok {k : Nat} (h : s.ok) : (s.enforce k).ok := h
@[simp] theorem State.enforce_forceOk {k : Nat} (h : s.forceOk) : (s.enforce k).forceOk := Table.wf_put _ h
@[simp] theorem State.setBoth_ok {i k : Nat} {v : Word} (h : s.ok) : (s.setBoth i k v).ok := Table.wf_put _ h
@[simp] theorem State.setBoth_forceOk {i k : Nat} {v : Word} (h : s.forceOk) : (s.setBoth i k v).forceOk := Table.wf_put _ h
@[simp] theorem State.defer_ok {i k : Nat} {v : Word} (h : s.ok) : (s.defer i k v).ok := Table.wf_put _ h

/-! Words. -/

/-- A word read after a word is written. -/
theorem State.word_setWord {i k i' k' : Nat} {v : Word} (h : s.ok) :
    (s.setWord i k v).word i' k' = if objKey i' k' = objKey i k then v else s.word i' k' := by
  unfold State.word State.setWord
  split
  · next e => rw [e]; exact Table.find_put_same _ h
  · next e => exact Table.find_put_other _ h e

theorem State.word_setWord_same {i k : Nat} {v : Word} (h : s.ok) : (s.setWord i k v).word i k = v := by
  rw [State.word_setWord h, if_pos rfl]

/-- A word depends on the dictionary alone. -/
theorem State.word_congr {t : State} (e : t.objs = s.objs) (i k : Nat) : t.word i k = s.word i k := by
  unfold State.word; rw [e]

theorem State.rd_congr {t : State} (e : t.objs = s.objs) (F : Field) (k : Nat) : t.rd F k = s.rd F k := by
  unfold State.rd; rw [State.word_congr e]

/-- A field read after a field is written. -/
theorem State.rd_wr {F G : Field} {e e' v : Nat} (h : s.ok) :
    (s.wr F e v).rd G e' = if objKey G.index (G.sub + e') = objKey F.index (F.sub + e)
      then ((s.word F.index (F.sub + e)).put F.hi F.lo v).bits G.hi G.lo else s.rd G e' := by
  unfold State.rd State.wr
  rw [State.word_setWord h]
  split <;> rfl

/-- The field just written. -/
theorem State.rd_wr_same {F : Field} {e v : Nat} (h : s.ok) (hl : F.lo ≤ F.hi) (hh : F.hi < 32) :
    (s.wr F e v).rd F e = v % 2 ^ (F.hi + 1 - F.lo) := by
  rw [State.rd_wr h, if_pos rfl, Word.bits_put_same hl hh]

/-- A field of another word, or another field of the same word. -/
theorem State.rd_wr_other {F G : Field} {e e' v : Nat} (h : s.ok)
    (hd : objKey G.index (G.sub + e') ≠ objKey F.index (F.sub + e) ∨
      F.lo ≤ F.hi ∧ F.hi < 32 ∧ (F.hi < G.lo ∨ G.hi < F.lo ∧ G.lo ≤ G.hi)) : (s.wr F e v).rd G e' = s.rd G e' := by
  rw [State.rd_wr h]
  split
  · next hk =>
    rcases hd with hd | ⟨h1, h2, h3⟩
    · exact absurd hk hd
    · rw [Word.bits_put_other h1 h2 h3]
      unfold State.rd State.word; rw [hk]
  · rfl

theorem State.set_eq {F : Field} {v : Nat} : s.set F v = s.wr F 0 v := rfl
theorem State.setB_eq {F : Field} {b : Bool} : s.setB F b = s.wr F 0 b.toNat := rfl
theorem State.wrI_eq {F : Field} {e : Nat} {v : Int} : s.wrI F e v = s.wr F e (toBits (F.hi + 1 - F.lo) v) := rfl
theorem State.setI_eq {F : Field} {v : Int} : s.setI F v = s.wr F 0 (toBits (F.hi + 1 - F.lo) v) := rfl
theorem State.bump_eq {F : Field} : s.bump F = s.wr F 0 (satAdd (F.hi + 1 - F.lo) (s.rd F 0) 1) := rfl
theorem State.bumpAt_eq {F : Field} {e : Nat} : s.bumpAt F e = s.wr F e (satAdd (F.hi + 1 - F.lo) (s.rd F e) 1) := rfl

/-- A saturated count fits its field. -/
theorem satAdd_lt {n a b : Nat} : satAdd n a b < 2 ^ n := by
  unfold satAdd; split
  · assumption
  · exact Nat.sub_lt (by positivity) one_pos

/-! What is in force. -/

theorem State.forceWord_congr {t : State} (e : t.force = s.force) (i k : Nat) : t.forceWord i k = s.forceWord i k := by
  unfold State.forceWord; rw [e]

/-! Lanes, inputs, ports and tiles in canonical form. -/

theorem State.lane_setLane {e e' : Nat} {l : Lane} (h : Table.wf (fun _ => ({} : Lane)) s.lanes = true) :
    (s.setLane e l).lane e' = if e' = e then l else s.lane e' := by
  unfold State.lane State.setLane
  split
  · next x => subst x; exact Table.find_put_same _ h
  · next x => exact Table.find_put_other _ h x

theorem State.mon_setMon {m m' : Nat} {x : Mon} (h : Table.wf (fun _ => ({} : Mon)) s.mons = true) :
    (s.setMon m x).mon m' = if m' = m then x else s.mon m' := by
  unfold State.mon State.setMon
  split
  · next y => subst y; exact Table.find_put_same _ h
  · next y => exact Table.find_put_other _ h y

theorem State.pd_setPd {p p' : Nat} {x : PdSt} (h : Table.wf (fun _ => ({} : PdSt)) s.pds = true) :
    (s.setPd p x).pd p' = if p' = p then x else s.pd p' := by
  unfold State.pd State.setPd
  split
  · next y => subst y; exact Table.find_put_same _ h
  · next y => exact Table.find_put_other _ h y

/-! The dictionary as a table alone, so that updates of other fields fall away by projection. -/

/-- A field of a table of words. -/
def Words.rd (t : Table Word) (F : Field) (e : Nat) : Nat := (t.find objDefault (objKey F.index (F.sub + e))).bits F.hi F.lo

/-- A word replaced. -/
def Words.put (t : Table Word) (i k : Nat) (v : Word) : Table Word := t.put objDefault (objKey i k) v

/-- A field replaced. -/
def Words.wr (t : Table Word) (F : Field) (e v : Nat) : Table Word :=
  Words.put t F.index (F.sub + e) ((t.find objDefault (objKey F.index (F.sub + e))).put F.hi F.lo v)

/-- The canonical form. -/
def Words.ok (t : Table Word) : Prop := Table.wf objDefault t = true

theorem State.rd_objs {F : Field} {e : Nat} : s.rd F e = Words.rd s.objs F e := rfl
theorem State.get_objs {F : Field} : s.get F = Words.rd s.objs F 0 := rfl
theorem State.on_objs {F : Field} : s.on F = decide (Words.rd s.objs F 0 = 1) := rfl
theorem State.setWord_objs {i k : Nat} {v : Word} : (s.setWord i k v).objs = Words.put s.objs i k v := rfl
theorem State.wr_objs {F : Field} {e v : Nat} : (s.wr F e v).objs = Words.wr s.objs F e v := rfl
theorem State.set_objs {F : Field} {v : Nat} : (s.set F v).objs = Words.wr s.objs F 0 v := rfl
theorem State.setB_objs {F : Field} {b : Bool} : (s.setB F b).objs = Words.wr s.objs F 0 b.toNat := rfl
theorem State.wrI_objs {F : Field} {e : Nat} {v : Int} :
    (s.wrI F e v).objs = Words.wr s.objs F e (toBits (F.hi + 1 - F.lo) v) := rfl
theorem State.setI_objs {F : Field} {v : Int} : (s.setI F v).objs = Words.wr s.objs F 0 (toBits (F.hi + 1 - F.lo) v) := rfl
theorem State.bump_objs {F : Field} :
    (s.bump F).objs = Words.wr s.objs F 0 (satAdd (F.hi + 1 - F.lo) (Words.rd s.objs F 0) 1) := rfl
theorem State.bumpAt_objs {F : Field} {e : Nat} :
    (s.bumpAt F e).objs = Words.wr s.objs F e (satAdd (F.hi + 1 - F.lo) (Words.rd s.objs F e) 1) := rfl

theorem Words.put_ok {t : Table Word} {i k : Nat} {v : Word} (h : Words.ok t) : Words.ok (Words.put t i k v) :=
  Table.wf_put _ h
theorem Words.wr_ok {t : Table Word} {F : Field} {e v : Nat} (h : Words.ok t) : Words.ok (Words.wr t F e v) :=
  Table.wf_put _ h

/-- A field is as wide as its bits. -/
theorem Words.rd_lt (t : Table Word) (F : Field) (e : Nat) : Words.rd t F e < 2 ^ (F.hi + 1 - F.lo) := Word.bits_lt _ _ _

theorem State.rd_lt (s : State) (F : Field) (e : Nat) : s.rd F e < 2 ^ (F.hi + 1 - F.lo) := Word.bits_lt _ _ _

/-- The field just written. -/
theorem Words.rd_wr_same {t : Table Word} {F : Field} {e v : Nat} (h : Words.ok t) (hl : F.lo ≤ F.hi) (hh : F.hi < 32) :
    Words.rd (Words.wr t F e v) F e = v % 2 ^ (F.hi + 1 - F.lo) := by
  unfold Words.rd Words.wr Words.put
  rw [Table.find_put_same _ h, Word.bits_put_same hl hh]

/-- The field just written, where the value fits. -/
theorem Words.rd_wr_fits {t : Table Word} {F : Field} {e v : Nat} (h : Words.ok t) (hl : F.lo ≤ F.hi) (hh : F.hi < 32)
    (hv : v < 2 ^ (F.hi + 1 - F.lo)) : Words.rd (Words.wr t F e v) F e = v := by
  rw [Words.rd_wr_same h hl hh, Nat.mod_eq_of_lt hv]

/-- A field of another word, or another field of the same word. -/
theorem Words.rd_wr_other {t : Table Word} {F G : Field} {e e' v : Nat} (h : Words.ok t)
    (hd : objKey G.index (G.sub + e') ≠ objKey F.index (F.sub + e) ∨
      F.lo ≤ F.hi ∧ F.hi < 32 ∧ (F.hi < G.lo ∨ G.hi < F.lo ∧ G.lo ≤ G.hi)) :
    Words.rd (Words.wr t F e v) G e' = Words.rd t G e' := by
  unfold Words.rd Words.wr Words.put
  by_cases hk : objKey G.index (G.sub + e') = objKey F.index (F.sub + e)
  · obtain h1 | ⟨h1, h2, h3⟩ := hd
    · exact absurd hk h1
    · rw [hk, Table.find_put_same _ h, Word.bits_put_other h1 h2 h3]
  · rw [Table.find_put_other _ h hk]

/-- A field of a word just written whole. -/
theorem Words.rd_put_same {t : Table Word} {G : Field} {e' i k : Nat} {v : Word} (h : Words.ok t)
    (hd : objKey G.index (G.sub + e') = objKey i k) : Words.rd (Words.put t i k v) G e' = v.bits G.hi G.lo := by
  unfold Words.rd Words.put
  rw [hd, Table.find_put_same _ h]

/-- A field of another word than the one written. -/
theorem Words.rd_put_other {t : Table Word} {G : Field} {e' i k : Nat} {v : Word} (h : Words.ok t)
    (hd : objKey G.index (G.sub + e') ≠ objKey i k) : Words.rd (Words.put t i k v) G e' = Words.rd t G e' := by
  unfold Words.rd Words.put
  rw [Table.find_put_other _ h hd]

end Sys2Proof.Machine
end

