-- ==== Sys2Proof/Laws/Dictionary.lean ====
section
/-! SUPPORT. What a write request does, said once: an admitted one runs its object's rule on the formed value and is
answered; one that a check before the object's own turns away is answered and changes nothing else. -/

namespace Sys2Proof

open Machine

variable {s : State} {w : Wr} {i k : Nat}

/-- The premises of an admitted write, one by one. -/
theorem Safety.admits_iff : Safety.admits s w i k = true ↔
    s.servesNow w.q = true ∧ s.formedNow w.q = true ∧ s.writeWaits i k (w.value &&& w.mask) = none ∧
      (∃ r, objRow i k = some r) ∧ s.precheck w.q.port i k w.mask = none ∧ w.mask ≠ 0 ∧
      s.cutOff i k (Safety.valueOf s w i k) = false := by
  simp only [Safety.admits, Bool.and_eq_true, Option.isNone_iff_eq_none, Option.isSome_iff_exists,
    decide_eq_true_eq, Bool.not_eq_true']
  tauto

/-- A request that the service takes up at once. -/
theorem State.servesNow_iff {s : State} {q : Rq} :
    s.servesNow q = true ↔ s.hears q = true ∧ s.svcFree = true ∧ s.mayTake q = true := by
  simp [State.servesNow, and_assoc]

/-- Such a request is performed. -/
theorem State.submit_now {s : State} {v : Service} (h : s.servesNow v.rq = true) : s.submit v = s.perform v := by
  obtain ⟨_, h2, h3⟩ := State.servesNow_iff.mp h
  simp [State.submit, h2, h3]

/-- A write request that the service takes up: one word written and answered. -/
theorem State.writeRequest_now {s : State} {w : Wr} {i k : Nat} (h1 : s.servesNow w.q = true) (h2 : s.formedNow w.q = true)
    (h3 : s.writeWaits i k (w.value &&& w.mask) = none) (ecc : EccOutcome) :
    s.writeRequest ecc i k w = (s.writeWord ecc w.q.port i k w.value w.mask).2.answerWrite w.q i k
      (s.writeWord ecc w.q.port i k w.value w.mask).1 := by
  have h := (State.servesNow_iff.mp h1).1
  have e := State.submit_now (s := s) (v := .write w.q ecc i k w.value w.mask) h1
  simp only [State.writeRequest, h, Bool.not_true, Bool.false_eq_true, if_false, h2, if_true, e, State.perform,
    State.serve, h3]

/-- An admitted request runs its object's rule, and is answered with its status. -/
theorem Safety.writeRequest_admitted (h : Safety.admits s w i k = true) (ecc : EccOutcome) {st : Nat} {t : State}
    (e : s.objectRule ecc w.q.port i k (Safety.valueOf s w i k) = (st, t)) :
    s.writeRequest ecc i k w =
      if refuses st then (t.countRefused st i k (Safety.valueOf s w i k)).answerWrite w.q i k st
      else Safety.served t w.q i k st := by
  obtain ⟨h1, h2, h3, ⟨r, hr⟩, h5, h6, h7⟩ := Safety.admits_iff.mp h
  have hv : Safety.valueOf s w i k = s.formed r i k w.value w.mask := by simp [Safety.valueOf, hr]
  rw [hv] at e h7 ⊢
  rw [State.writeRequest_now h1 h2 h3 ecc]
  simp only [State.writeWord, h5, hr, if_neg h6, State.applyWrite, e, h7]
  split <;> rfl

/-- The rule accepts. -/
theorem Safety.writeRequest_accepted (h : Safety.admits s w i k = true) (ecc : EccOutcome) {st : Nat} {t : State}
    (e : s.objectRule ecc w.q.port i k (Safety.valueOf s w i k) = (st, t)) (hs : refuses st = false) :
    s.writeRequest ecc i k w = Safety.served t w.q i k st := by
  rw [Safety.writeRequest_admitted h ecc e, hs]; rfl

/-- The rule refuses. -/
theorem Safety.writeRequest_refused (h : Safety.admits s w i k = true) (ecc : EccOutcome) {st : Nat} {t : State}
    (e : s.objectRule ecc w.q.port i k (Safety.valueOf s w i k) = (st, t)) (hs : refuses st = true) :
    s.writeRequest ecc i k w = (t.countRefused st i k (Safety.valueOf s w i k)).answerWrite w.q i k st := by
  rw [Safety.writeRequest_admitted h ecc e, hs]; rfl

/-- A check before the object's own turns the request away. -/
theorem Safety.writeRequest_turnedAway (h1 : s.servesNow w.q = true) (h2 : s.formedNow w.q = true)
    (h3 : s.writeWaits i k (w.value &&& w.mask) = none) (ecc : EccOutcome) {st : Nat}
    (e : s.precheck w.q.port i k w.mask = some st) :
    s.writeRequest ecc i k w = (s.countRefused st i k (w.value &&& w.mask)).answerWrite w.q i k st := by
  rw [State.writeRequest_now h1 h2 h3 ecc]
  simp only [State.writeWord, e]

/-- A device that does not hear a request does nothing with it. -/
theorem Safety.writeRequest_unheard (h : s.hears w.q = false) (ecc : EccOutcome) : s.writeRequest ecc i k w = s := by
  simp [State.writeRequest, h]

end Sys2Proof
end

