-- ==== Sys2Proof/Laws/Good.lean ====
section
/-! SUPPORT. One predicate that every operation of the model keeps: the queue holds what it held, and every sparse table
stands in canonical form. Here: what it says, and the operations that write a table. -/

namespace Sys2Proof.Machine

/-- The queue is `p`, and the invariant of the model holds. -/
structure Good (p : List Instr) (s : State) : Prop where
  pending : s.pending = p
  objs : Table.wf objDefault s.objs = true
  force : Table.wf objDefault s.force = true
  lanes : Table.wf (fun _ => ({} : Lane)) s.lanes = true
  mons : Table.wf (fun _ => ({} : Mon)) s.mons = true
  pds : Table.wf (fun _ => ({} : PdSt)) s.pds = true
  tiles : Table.wf (fun _ => ({} : TileSt)) s.tiles = true
  tide : Table.wf (fun _ => (0 : BitVec 128)) s.commit.tide = true
  pairs : s.pairs.length = 4
  reqsA : s.portA.reqs.length ≤ 4
  reqsB : s.portB.reqs.length ≤ 4
  sealedLe : s.ev.sealed.length ≤ s.ev.num
  sealedNum : s.ev.sealed.map Block.num = List.range' (s.ev.num - s.ev.sealed.length) s.ev.sealed.length

variable {p : List Instr} {s t : State}

theorem Good.iff : Good p s ↔ s.pending = p ∧ Safety.wf s = true := by
  simp only [Safety.wf, Safety.tablesWf, Safety.sealedInOrder, Bool.and_eq_true, decide_eq_true_eq]
  constructor
  · rintro ⟨h1, h2, h3, h4, h5, h6, h7, h8, h9, ha, hb, hc, hd⟩
    exact ⟨h1, ⟨⟨⟨⟨⟨⟨⟨⟨⟨h2, h3⟩, h4⟩, h5⟩, h6⟩, h7⟩, h8⟩, h9⟩, ha⟩, hb⟩, hc, hd⟩
  · rintro ⟨h1, ⟨⟨⟨⟨⟨⟨⟨⟨⟨h2, h3⟩, h4⟩, h5⟩, h6⟩, h7⟩, h8⟩, h9⟩, ha⟩, hb⟩, hc, hd⟩
    exact ⟨h1, h2, h3, h4, h5, h6, h7, h8, h9, ha, hb, hc, hd⟩

/-- An update of other fields. -/
theorem Good.of (h : Good p s) (e1 : t.pending = s.pending) (e2 : t.objs = s.objs) (e3 : t.force = s.force)
    (e4 : t.lanes = s.lanes) (e5 : t.mons = s.mons) (e6 : t.pds = s.pds) (e7 : t.tiles = s.tiles)
    (e8 : t.commit.tide = s.commit.tide) (e9 : t.pairs = s.pairs) (e10 : t.portA = s.portA) (e11 : t.portB = s.portB)
    (e12 : t.ev.sealed = s.ev.sealed) (e13 : t.ev.num = s.ev.num) : Good p t := by
  obtain ⟨h1, h2, h3, h4, h5, h6, h7, h8, h9, ha, hb, hc, hd⟩ := h
  constructor
  · rw [e1]; exact h1
  · rw [e2]; exact h2
  · rw [e3]; exact h3
  · rw [e4]; exact h4
  · rw [e5]; exact h5
  · rw [e6]; exact h6
  · rw [e7]; exact h7
  · rw [e8]; exact h8
  · rw [e9]; exact h9
  · rw [e10]; exact ha
  · rw [e11]; exact hb
  · rw [e12, e13]; exact hc
  · rw [e12, e13]; exact hd

/-- An update of other fields, as it is written out. -/
theorem Good.of_mk {x0 : List Instr} {x1 : Table Word} {x2 : Table Word} {x3 : List (Nat × Bool)} {x4 : Nat} {x5 : FrameSt} {x6 :
    TimingSt} {x7 : TimeSt} {x8 : Table PdSt} {x9 : EvSt} {x10 : List PairSt} {x11 : PortSt} {x12 : PortSt} {x13 :
    Nat} {x14 : List Token} {x15 : Svc} {x16 : Nat} {x17 : BootSt} {x18 : ModeSt} {x19 : PowSt} {x20 : PerfSt} {x21
    : FaultSt} {x22 : SafeSt} {x23 : SupplySt} {x24 : ResetSt} {x25 : Table Lane} {x26 : Table Mon} {x27 : CommitSt}
    {x28 : Table TileSt} {x29 : List Note} {x30 : ClockSt} {x31 : CalSt} {x32 : SurveySt}
    (h : Good p s) (e1 : x0 = s.pending) (e2 : x1 = s.objs) (e3 : x2 = s.force) (e4 : x25 = s.lanes) (e5 : x26 =
    s.mons) (e6 : x8 = s.pds) (e7 : x28 = s.tiles) (e8 : x27.tide = s.commit.tide) (e9 : x10 = s.pairs) (e10 : x11 =
    s.portA) (e11 : x12 = s.portB) (e12 : x9.sealed = s.ev.sealed) (e13 : x9.num = s.ev.num) :
    Good p (State.mk x0 x1 x2 x3 x4 x5 x6 x7 x8 x9 x10 x11 x12 x13 x14 x15 x16 x17 x18 x19 x20 x21 x22 x23 x24 x25 x26 x27 x28 x29
      x30 x31 x32) :=
  Good.of h e1 e2 e3 e4 e5 e6 e7 e8 e9 e10 e11 e12 e13

/-- A state named on the way. -/
theorem Good.cut (h : Good p t) (hs : Good p t → Good p s) : Good p s := hs h

theorem Good.ite {c : Prop} [Decidable c] (hs : Good p s) (ht : Good p t) : Good p (if c then s else t) := by
  split <;> assumption

theorem Good.snd_eq {α : Type} {x : α × State} {a : α} (e : x = (a, t)) (h : Good p t) : Good p x.2 := by subst e; exact h

theorem Good.fst_eq {α : Type} {x : State × α} {a : α} (e : x = (t, a)) (h : Good p t) : Good p x.1 := by subst e; exact h

theorem Good.snd_mk {α : Type} {a : α} (h : Good p s) : Good p (a, s).2 := h

theorem Good.fst_mk {α : Type} {a : α} (h : Good p s) : Good p (s, a).1 := h

/-- A repeated operation. -/
theorem Good.foldl {α : Type} {f : State → α → State} {l : List α} (h : Good p s)
    (hf : ∀ t x, Good p t → Good p (f t x)) : Good p (l.foldl f s) := by
  induction l generalizing s with
  | nil => exact h
  | cons x xs ih => exact ih (hf s x h)

/-- A repeated operation that also gathers something. -/
theorem Good.foldlFst {α β : Type} {f : State × β → α → State × β} {l : List α} {x : State × β} (h : Good p x.1)
    (hf : ∀ y a, Good p y.1 → Good p (f y a).1) : Good p (l.foldl f x).1 := by
  induction l generalizing x with
  | nil => exact h
  | cons a l ih => exact ih (hf x a h)

/-- The component of a product that a function returns. -/
theorem Good.snd_of {α : Type} {x : α × State} {a : α} (e : x = (a, t)) (h : Good p x.2) : Good p t := by
  subst e; exact h

theorem Good.fst_of {α : Type} {x : State × α} {a : α} (e : x = (t, a)) (h : Good p x.1) : Good p t := by
  subst e; exact h

theorem Good.thd_of {α β : Type} {x : α × β × State} {a : α} {b : β} (e : x = (a, b, t)) (h : Good p x.2.2) : Good p t := by
  subst e; exact h

theorem Good.fth_of {α β γ : Type} {x : α × β × γ × State} {a : α} {b : β} {c : γ} (e : x = (a, b, c, t)) (h : Good p x.2.2.2) :
    Good p t := by subst e; exact h

theorem Good.iteSnd {α : Type} {c : Prop} [Decidable c] {x y : α × State} (hx : Good p x.2) (hy : Good p y.2) :
    Good p (if c then x else y).2 := by split <;> assumption

theorem Good.iteFst {α : Type} {c : Prop} [Decidable c] {x y : State × α} (hx : Good p x.1) (hy : Good p y.1) :
    Good p (if c then x else y).1 := by split <;> assumption

/-! Operations that write a table. -/

theorem State.setWord_good {i k : Nat} {v : Word} (h : Good p s) : Good p (s.setWord i k v) :=
  { h with objs := Table.wf_put _ h.objs }

theorem State.enforce_good {k : Nat} (h : Good p s) : Good p (s.enforce k) := { h with force := Table.wf_put _ h.force }

theorem State.setLane_good {e : Nat} {l : Lane} (h : Good p s) : Good p (s.setLane e l) :=
  { h with lanes := Table.wf_put _ h.lanes }

theorem State.setMon_good {m : Nat} {x : Mon} (h : Good p s) : Good p (s.setMon m x) :=
  { h with mons := Table.wf_put _ h.mons }

theorem State.setPd_good {q : Nat} {x : PdSt} (h : Good p s) : Good p (s.setPd q x) :=
  { h with pds := Table.wf_put _ h.pds }

theorem State.setTile_good {q : Nat} {x : TileSt} (h : Good p s) : Good p (s.setTile q x) :=
  { h with tiles := Table.wf_put _ h.tiles }

theorem State.each_good {n : Nat} {f : Nat → State → State} (h : Good p s) (hf : ∀ i t, Good p t → Good p (f i t)) :
    Good p (State.each n f s) := Good.foldl h fun t i ht => hf i t ht

theorem State.eachIn_good {l : List Nat} {f : Nat → State → State} (h : Good p s) (hf : ∀ i t, Good p t → Good p (f i t)) :
    Good p (State.eachIn l f s) := Good.foldl h fun t i ht => hf i t ht

theorem State.loseWords_good {lost : Pers → Bool} {f : Nat → Nat → Bool} (h : Good p s) : Good p (s.loseWords lost f) :=
  { h with objs := Table.wf_mapVals _ h.objs, force := Table.wf_mapVals _ h.force }

theorem State.setEntry_good {i : Nat} {v : BitVec 128} (h : Good p s) : Good p (s.setEntry i v) :=
  { h with tide := Table.wf_put _ h.tide }

theorem State.mapLanes_good {f : Nat → Lane → Lane} (h : Good p s) : Good p (s.mapLanes f) :=
  { h with lanes := Table.wf_mapVals _ h.lanes }

theorem State.eachLane_good {f : State → Nat → State} (h : Good p s) (hf : ∀ t e, Good p t → Good p (f t e)) :
    Good p (s.eachLane f) := Good.foldl h hf

theorem State.loseGroup_good {g : Nat} (h : Good p s) : Good p (s.loseGroup g) :=
  { h with lanes := Table.wf_mapVals _ h.lanes, tiles := Table.wf_filter _ h.tiles }

theorem State.loseMons_good {q : Nat} (h : Good p s) : Good p (s.loseMons q) := { h with mons := Table.wf_filter _ h.mons }

theorem State.losePorts_good (h : Good p s) : Good p s.losePorts := { h with pds := Table.wf_mapVals _ h.pds }

theorem State.stopPorts_good (h : Good p s) : Good p s.stopPorts := { h with pds := Table.wf_mapVals _ h.pds }

theorem State.freeBit_good (h : Good p s) : Good p s.freeBit.2 := { h with }

theorem State.free_good (h : Good p s) : Good p s.free.2 := { h with }

theorem State.setPort_good {q : Nat} {x : PortSt} (h : Good p s) (hx : x.reqs.length ≤ 4) : Good p (s.setPort q x) := by
  unfold State.setPort; split
  · exact { h with reqsA := hx }
  · exact { h with reqsB := hx }

theorem State.port_reqs {q : Nat} (h : Good p s) : (s.port q).reqs.length ≤ 4 := by
  unfold State.port; split
  · exact h.reqsA
  · exact h.reqsB

theorem State.setPair_good {q : Nat} {x : PairSt} (h : Good p s) : Good p (s.setPair q x) :=
  { h with pairs := (List.length_set ..).trans h.pairs }

theorem State.dropFirst_length {f : ReqBuf → Bool} {l : List ReqBuf} : (dropFirst f l).length ≤ l.length := by
  induction l with
  | nil => exact Nat.le_refl 0
  | cons x xs ih =>
    unfold dropFirst
    split
    · exact Nat.le_succ _
    · exact Nat.succ_le_succ ih

end Sys2Proof.Machine
end

