-- ==== Sys2Proof/Laws/GoodBase.lean ====
section
/-! SUPPORT. Every operation of these parts of the machine keeps the queue and the invariant: the named operations,
records, lanes, votes, commits, the fault collector and light. -/

namespace Sys2Proof.Machine

variable {cs : List Instr}

/-! Operations of Sys2Proof/Machine/Ops.lean. -/

theorem State.wr_good {s : State} {F : Machine.Field} {e : Nat} {v : Nat} (hg : Good cs s) : Good cs (State.wr s F e v)
    := by
  unfold State.wr
  repeat' with_reducible first
    | assumption | refine State.setWord_good ?_

theorem State.set_good {s : State} {F : Machine.Field} {v : Nat} (hg : Good cs s) : Good cs (State.set s F v) := by
  unfold State.set
  repeat' with_reducible first
    | assumption | refine State.wr_good ?_

theorem State.setB_good {s : State} {F : Machine.Field} {b : Bool} (hg : Good cs s) : Good cs (State.setB s F b) := by
  unfold State.setB
  repeat' with_reducible first
    | assumption | refine State.wr_good ?_

theorem State.wrI_good {s : State} {F : Machine.Field} {e : Nat} {v : Int} (hg : Good cs s) : Good cs (State.wrI s F e
    v) := by
  unfold State.wrI
  repeat' with_reducible first
    | assumption | refine State.wr_good ?_

theorem State.setI_good {s : State} {F : Machine.Field} {v : Int} (hg : Good cs s) : Good cs (State.setI s F v) := by
  unfold State.setI
  repeat' with_reducible first
    | assumption | refine State.wrI_good ?_

theorem State.bumpBy_good {s : State} {F : Machine.Field} {e : Nat} {n : Nat} (hg : Good cs s) : Good cs (State.bumpBy s
    F e n) := by
  unfold State.bumpBy
  repeat' with_reducible first
    | assumption | refine State.wr_good ?_

theorem State.bump_good {s : State} {F : Machine.Field} (hg : Good cs s) : Good cs (State.bump s F) := by
  unfold State.bump
  repeat' with_reducible first
    | assumption | refine State.bumpBy_good ?_

theorem State.bumpAt_good {s : State} {F : Machine.Field} {e : Nat} (hg : Good cs s) : Good cs (State.bumpAt s F e) :=
    by
  unfold State.bumpAt
  repeat' with_reducible first
    | assumption | refine State.bumpBy_good ?_

theorem State.raiseTo_good {s : State} {F : Machine.Field} {v : Nat} (hg : Good cs s) : Good cs (State.raiseTo s F v)
    := by
  unfold State.raiseTo
  repeat' with_reducible first
    | assumption | refine State.set_good ?_ | refine Good.ite ?_ ?_

theorem State.put64_good {s : State} {index : Nat} {sub : Nat} {v : Nat} (hg : Good cs s) : Good cs (State.put64 s index
    sub v) := by
  unfold State.put64
  repeat' with_reducible first
    | assumption | refine State.setWord_good ?_

theorem State.setBoth_good {s : State} {index : Nat} {sub : Nat} {v : Word} (hg : Good cs s) : Good cs (State.setBoth s
    index sub v) := by
  unfold State.setBoth
  repeat' with_reducible first
    | assumption | refine State.enforce_good ?_ | refine State.setWord_good ?_

theorem State.defer_good {s : State} {index : Nat} {sub : Nat} {v : Word} (hg : Good cs s) : Good cs (State.defer s
    index sub v) := by
  unfold State.defer
  repeat' first
    | (with_reducible first
      | assumption | refine State.setWord_good ?_ | refine Good.ite ?_ ?_ | refine Good.foldl ?_ ?_)
    | intro _
    | (extract_lets +onlyGivenNames x; refine Good.cut (t := x) ?_ ?_; unfold x; rotate_left; intro _; clear_value x)
    | extract_lets +onlyGivenNames x
    | with_reducible refine Good.of_mk ?_ rfl rfl rfl rfl rfl rfl rfl rfl rfl rfl rfl rfl rfl

theorem State.atTc_good {s : State} {tc : Nat} (hg : Good cs s) : Good cs (State.atTc s tc) := by
  unfold State.atTc
  repeat' first
    | (with_reducible first
      | assumption | refine Good.ite ?_ ?_ | refine Good.foldl ?_ ?_)
    | intro _
    | extract_lets +onlyGivenNames x
    | with_reducible refine Good.of_mk ?_ rfl rfl rfl rfl rfl rfl rfl rfl rfl rfl rfl rfl rfl

theorem State.passTo_good {s : State} {t : Nat} (hg : Good cs s) : Good cs (State.passTo s t) := by
  unfold State.passTo
  repeat' first
    | (with_reducible first
      | assumption | refine Good.ite ?_ ?_ | refine Good.foldl ?_ ?_)
    | intro _
    | extract_lets +onlyGivenNames x
    | with_reducible refine Good.of_mk ?_ rfl rfl rfl rfl rfl rfl rfl rfl rfl rfl rfl rfl rfl

/-! Operations of Sys2Proof/Machine/Records.lean. -/

theorem State.lose_good {s : State} {source : Nat} {r : Rec} (hg : Good cs s) : Good cs (State.lose s source r) := by
  unfold State.lose
  repeat' first
    | (with_reducible first
      | assumption | refine Good.ite ?_ ?_ | refine Good.foldl ?_ ?_)
    | intro _
    | extract_lets +onlyGivenNames x
    | with_reducible refine Good.of_mk ?_ rfl rfl rfl rfl rfl rfl rfl rfl rfl rfl rfl rfl rfl

theorem State.enqueue_good {s : State} {r : Rec} {cross : Option Nat} (hg : Good cs s) : Good cs (State.enqueue s r
    cross) := by
  unfold State.enqueue
  repeat' first
    | (with_reducible first
      | assumption | refine State.raiseTo_good ?_ | refine Good.ite ?_ ?_ | refine Good.foldl ?_ ?_)
    | intro _
    | extract_lets +onlyGivenNames x
    | with_reducible refine Good.of_mk ?_ rfl rfl rfl rfl rfl rfl rfl rfl rfl rfl rfl rfl rfl

theorem State.postRec_good {s : State} {r : Rec} {cross : Option Nat} (hg : Good cs s) : Good cs (State.postRec s r
    cross) := by
  unfold State.postRec
  repeat' with_reducible first
    | assumption | refine State.enqueue_good ?_ | refine State.lose_good ?_ | refine State.bump_good ?_
    | refine Good.ite ?_ ?_

theorem State.post_good {s : State} {code : Nat} {source : Nat} {payload : Nat} (hg : Good cs s) : Good cs (State.post s
    code source payload) := by
  unfold State.post
  repeat' with_reducible first
    | assumption | refine State.postRec_good ?_

theorem State.checked_good {s : State} {src : Nat} {o : EccOutcome} (hg : Good cs s) : Good cs (State.checked s src
    o).2 := by
  unfold State.checked
  repeat' first
    | (with_reducible first
      | assumption | refine State.setB_good ?_ | refine State.set_good ?_ | refine Good.ite ?_ ?_
      | refine Good.foldl ?_ ?_)
    | split
    | (with_reducible first
      | refine Good.snd_of (by assumption) ?_ | refine Good.fst_of (by assumption) ?_ | refine Good.thd_of (by assumption) ?_)
    | dsimp -zeta only
    | with_reducible refine Good.of_mk ?_ rfl rfl rfl rfl rfl rfl rfl rfl rfl rfl rfl rfl rfl

theorem State.checkedLanes_good {s : State} {src : Nat} {l : List LaneEcc} (hg : Good cs s) :
    Good cs (s.checkedLanes src l).2 := by
  induction l generalizing s with
  | nil => exact hg
  | cons x xs ih => exact ih (State.checked_good hg)

/-! Operations of Sys2Proof/Machine/Lanes.lean. -/

theorem State.setContext_good {s : State} {e : Nat} {c : Option Nat} (hg : Good cs s) : Good cs (State.setContext s e c)
    := by
  unfold State.setContext
  repeat' first
    | (with_reducible first
      | assumption | refine Good.ite ?_ ?_ | refine Good.foldl ?_ ?_)
    | intro _
    | extract_lets +onlyGivenNames x
    | with_reducible refine Good.of_mk ?_ rfl rfl rfl rfl rfl rfl rfl rfl rfl rfl rfl rfl rfl

theorem State.queueLane_good {s : State} {n : Note} (hg : Good cs s) : Good cs (State.queueLane s n) := by
  unfold State.queueLane
  repeat' with_reducible first
    | assumption | refine State.setTile_good ?_ | refine State.bump_good ?_ | refine Good.ite ?_ ?_

theorem State.moveLane_good {s : State} {e : Nat} {l : Lane} {new : LState} {cause : Nat} {code : Nat} {now : Bool} (hg :
    Good cs s) : Good cs (State.moveLane s e l new cause code now) := by
  unfold State.moveLane
  repeat' first
    | (with_reducible first
      | assumption | refine State.setLane_good ?_ | refine State.queueLane_good ?_ | refine Good.ite ?_ ?_
      | refine Good.foldl ?_ ?_)
    | intro _
    | extract_lets +onlyGivenNames x
    | with_reducible refine Good.of_mk ?_ rfl rfl rfl rfl rfl rfl rfl rfl rfl rfl rfl rfl rfl

theorem State.parkLane_good {s : State} {e : Nat} {cause : Nat} (hg : Good cs s) : Good cs (State.parkLane s e cause) :=
    by
  unfold State.parkLane
  repeat' with_reducible first
    | assumption | refine State.moveLane_good ?_

theorem State.offLane_good {s : State} {e : Nat} {cause : Nat} (hg : Good cs s) : Good cs (State.offLane s e cause) := by
  unfold State.offLane
  repeat' with_reducible first
    | assumption | refine State.setContext_good ?_ | refine State.moveLane_good ?_

theorem State.coastLane_good {s : State} {e : Nat} {cause : Nat} (hg : Good cs s) : Good cs (State.coastLane s e cause)
    := by
  unfold State.coastLane
  repeat' with_reducible first
    | assumption | refine State.moveLane_good ?_

theorem State.faultLane_good {s : State} {e : Nat} {f : Lane → Lane} (hg : Good cs s) : Good cs (State.faultLane s e
    f) := by
  unfold State.faultLane
  repeat' with_reducible first
    | assumption | refine State.moveLane_good ?_ | refine Good.ite ?_ ?_

theorem State.takeTerms_good {s : State} {e : Nat} {en : BitVec 128} (hg : Good cs s) : Good cs (State.takeTerms s e
    en) := by
  unfold State.takeTerms
  repeat' with_reducible first
    | assumption | refine State.setLane_good ?_ | refine State.bump_good ?_ | refine Good.ite ?_ ?_

theorem State.settleLane_good {s : State} {e : Nat} (hg : Good cs s) : Good cs (s.settleLane e) := by
  unfold State.settleLane
  exact Good.ite (State.setLane_good hg) (State.setLane_good hg)

theorem State.decideLane_good {s : State} {e : Nat} (hg : Good cs s) : Good cs (State.decideLane s e) := by
  unfold State.decideLane
  repeat' first
    | (with_reducible first
      | assumption | refine State.setLane_good ?_ | refine State.moveLane_good ?_ | refine Good.ite ?_ ?_
      | refine Good.foldl ?_ ?_)
    | split

theorem State.postTile_good {s : State} {t : Nat} (hg : Good cs s) : Good cs (State.postTile s t) := by
  unfold State.postTile
  repeat' first
    | (with_reducible first
      | assumption | refine State.setTile_good ?_ | refine State.postRec_good ?_ | refine Good.ite ?_ ?_
      | refine Good.foldl ?_ ?_)
    | intro _
    | (extract_lets +onlyGivenNames x; refine Good.cut (t := x) ?_ ?_; unfold x; rotate_left; intro _; clear_value x)
    | extract_lets +onlyGivenNames x
    | split

theorem State.postLanes_good {s : State} (hg : Good cs s) : Good cs (State.postLanes s) := by
  unfold State.postLanes
  repeat' first
    | (with_reducible first
      | assumption | refine State.queueLane_good ?_ | refine State.postTile_good ?_ | refine Good.ite ?_ ?_
      | refine Good.foldl ?_ ?_)
    | intro _
    | extract_lets +onlyGivenNames x
    | with_reducible refine Good.of_mk ?_ rfl rfl rfl rfl rfl rfl rfl rfl rfl rfl rfl rfl rfl

/-! Operations of Sys2Proof/Machine/Votes.lean. -/

theorem State.setMode_good {s : State} {new : Nat} {cause : Nat} (hg : Good cs s) : Good cs (State.setMode s new cause)
    := by
  unfold State.setMode
  repeat' with_reducible first
    | assumption | refine State.set_good ?_ | refine State.post_good ?_ | refine State.bump_good ?_

theorem State.setDomain_good {s : State} {d : Nat} {new : Nat} {cause : Nat} {client : Nat} {up : Nat} (hg : Good cs s) : Good
    cs (State.setDomain s d new cause client up) := by
  unfold State.setDomain
  repeat' with_reducible first
    | assumption | refine State.wr_good ?_ | refine State.post_good ?_ | refine Good.ite ?_ ?_

theorem State.demanded_good {s : State} {d : Nat} {cause : Nat} {client : Nat} (hg : Good cs s) : Good cs
    (State.demanded s d cause client) := by
  unfold State.demanded
  repeat' with_reducible first
    | assumption | refine State.wr_good ?_ | refine State.bumpAt_good ?_ | refine Good.ite ?_ ?_

theorem State.beginWake_good {s : State} {d : Nat} {target : Nat} {cause : Nat} {client : Nat} (hg : Good cs s) : Good cs
    (State.beginWake s d target cause client) := by
  unfold State.beginWake
  repeat' first
    | (with_reducible first
      | assumption | refine State.wr_good ?_ | refine State.demanded_good ?_ | refine Good.ite ?_ ?_
      | refine Good.foldl ?_ ?_)
    | intro _
    | extract_lets +onlyGivenNames x
    | with_reducible refine Good.of_mk ?_ rfl rfl rfl rfl rfl rfl rfl rfl rfl rfl rfl rfl rfl

theorem State.demandWake_good {s : State} {client : Nat} {d : Nat} (hg : Good cs s) : Good cs (State.demandWake s client
    d) := by
  unfold State.demandWake
  repeat' first
    | (with_reducible first
      | assumption | refine State.beginWake_good ?_ | refine Good.ite ?_ ?_ | refine Good.foldl ?_ ?_)
    | intro _
    | extract_lets +onlyGivenNames x
    | with_reducible refine Good.of_mk ?_ rfl rfl rfl rfl rfl rfl rfl rfl rfl rfl rfl rfl rfl

/-! Operations of Sys2Proof/Machine/Commits.lean. -/

theorem State.setMask_good {s : State} {index : Nat} {lo : Nat} {n : Nat} {v : Nat} (hg : Good cs s) : Good cs
    (State.setMask s index lo n v) := by
  unfold State.setMask
  repeat' first
    | (with_reducible first
      | assumption | refine State.each_good ?_ ?_ | refine State.setWord_good ?_ | refine Good.ite ?_ ?_
      | refine Good.foldl ?_ ?_)
    | intro _

theorem State.armWakes_good {s : State} {a : Arm} (hg : Good cs s) : Good cs (State.armWakes s a) := by
  unfold State.armWakes
  repeat' first
    | (with_reducible first
      | assumption | refine State.demandWake_good ?_ | refine Good.ite ?_ ?_ | refine Good.foldl ?_ ?_)
    | intro _

theorem State.mapArming_good {s : State} {f : Arm → Arm} (hg : Good cs s) : Good cs (State.mapArming s f) := by
  unfold State.mapArming
  repeat' first
    | (with_reducible first
      | assumption | refine Good.ite ?_ ?_ | refine Good.foldl ?_ ?_)
    | split
    | (with_reducible first
      | refine Good.snd_of (by assumption) ?_ | refine Good.fst_of (by assumption) ?_ | refine Good.thd_of (by assumption) ?_)
    | dsimp -zeta only
    | with_reducible refine Good.of_mk ?_ rfl rfl rfl rfl rfl rfl rfl rfl rfl rfl rfl rfl rfl

theorem State.armsClock_good {s : State} (hg : Good cs s) : Good cs (State.armsClock s) := by
  unfold State.armsClock
  repeat' with_reducible first
    | assumption | refine State.mapArming_good ?_

theorem State.seeNeighbours_good {s : State} {k : Nat} (hg : Good cs s) : Good cs (State.seeNeighbours s k) := by
  unfold State.seeNeighbours
  repeat' first
    | (with_reducible first
      | assumption | refine State.mapArming_good ?_ | refine State.armWakes_good ?_ | refine Good.ite ?_ ?_
      | refine Good.foldl ?_ ?_)
    | split
    | (with_reducible first
      | refine Good.snd_of (by assumption) ?_ | refine Good.fst_of (by assumption) ?_ | refine Good.thd_of (by assumption) ?_)
    | dsimp -zeta only
    | with_reducible refine Good.of_mk ?_ rfl rfl rfl rfl rfl rfl rfl rfl rfl rfl rfl rfl rfl

theorem State.writeEntry_good {s : State} {i : Nat} {v : BitVec 128} (hg : Good cs s) : Good cs (State.writeEntry s i
    v) := by
  unfold State.writeEntry
  repeat' with_reducible first
    | assumption | refine State.mapArming_good ?_ | refine State.setEntry_good ?_

theorem State.countEcc_good {s : State} {i : Nat} {o : EccOutcome} (hg : Good cs s) : Good cs (State.countEcc s i o)
    := by
  unfold State.countEcc
  repeat' first
    | (with_reducible first
      | assumption | refine State.bump_good ?_ | refine State.set_good ?_ | refine Good.ite ?_ ?_
      | refine Good.foldl ?_ ?_)
    | split

theorem State.eoEdge_good {s : State} {e : Nat} {en : BitVec 128} {changes : Bool} {up : Bool} {t : Nat} (hg : Good cs
    s) : Good cs (State.eoEdge s e en changes up t) := by
  unfold State.eoEdge
  repeat' with_reducible first
    | assumption | refine State.setLane_good ?_ | refine Good.ite ?_ ?_

theorem State.takeHop_good {s : State} {e : Nat} {en : BitVec 128} (hg : Good cs s) : Good cs (State.takeHop s e en)
    := by
  unfold State.takeHop
  repeat' first
    | (with_reducible first
      | assumption | refine State.moveLane_good ?_ | refine State.takeTerms_good ?_ | refine State.setLane_good ?_
      | refine Good.ite ?_ ?_ | refine Good.foldl ?_ ?_)
    | split

theorem State.commitRecord_good {s : State} {source : Nat} {time : Nat} {t : Tally} {changed : Nat} {gates : Nat} {src : Nat}
    {flags : Nat} (hg : Good cs s) : Good cs (State.commitRecord s source time t changed gates src flags) := by
  unfold State.commitRecord
  repeat' with_reducible first
    | assumption | refine State.postRec_good ?_

theorem State.moveGates_good {s : State} {changed : Nat} {at_ : Nat} (hg : Good cs s) : Good cs (State.moveGates s
    changed at_) := by
  unfold State.moveGates
  repeat' first
    | (with_reducible first
      | assumption | refine Good.ite ?_ ?_ | refine Good.foldl ?_ ?_)
    | intro _
    | extract_lets +onlyGivenNames x
    | with_reducible refine Good.of_mk ?_ rfl rfl rfl rfl rfl rfl rfl rfl rfl rfl rfl rfl rfl

theorem State.commitLane_good {a : Arm} {changed new skipped edge e : Nat} {st : State × Tally} (hg : Good cs st.1) :
    Good cs (State.commitLane a changed new skipped edge st e).1 := by
  obtain ⟨s, t⟩ := st
  have hg : Good cs s := hg
  have hc : ∀ {u : State} {x : CommitSt}, Good cs u → x.tide = u.commit.tide → Good cs ({ u with commit := x } : State) :=
    fun h e => { h with tide := e ▸ h.tide }
  unfold State.commitLane
  dsimp only
  split
  · exact hg
  split
  · exact hg
  · exact (State.setContext_good hg : Good cs (s.setContext e none))
  split
  · have hx := State.eoEdge_good (e := e) (en := a.entry e) (changes := changed.testBit e) (up := new.testBit e) (t := edge)
      (State.setContext_good (e := e) (c := some (a.context e)) hg)
    split
    · exact State.setLane_good hx
    · exact hc (State.takeHop_good hx) rfl
  · exact hg

theorem State.execCommit_good {s : State} {a : Arm} {src : Nat} {superseded : Bool} (hg : Good cs s) :
    Good cs (s.execCommit a src superseded) := by
  have hc : ∀ {u : State} {x : CommitSt}, Good cs u → x.tide = u.commit.tide → Good cs ({ u with commit := x } : State) :=
    fun h e => { h with tide := e ▸ h.tide }
  have hs : ∀ {u : State} {x : SafeSt}, Good cs u → Good cs ({ u with safe := x } : State) := fun h => { h with }
  unfold State.execCommit
  iterate 9 (extract_lets +onlyGivenNames x; clear_value x)
  extract_lets +onlyGivenNames x
  have hx : Good cs x := State.setMask_good hg
  clear_value x
  extract_lets +onlyGivenNames t0
  clear_value t0
  split
  rename_i y z heq
  have hz : Good cs y := Good.fst_of heq (Good.foldlFst hx fun _ _ h => State.commitLane_good h)
  clear heq
  extract_lets +onlyGivenNames gold gnew v sf u
  have hv : Good cs v := State.moveGates_good (State.setMask_good hz)
  have hu : Good cs u := Good.ite hz (hs hv)
  clear_value u v sf gnew gold
  extract_lets +onlyGivenNames basis u1 u2
  have h2 : Good cs u2 := State.put64_good (State.bump_good hu)
  clear_value u2 basis
  extract_lets +onlyGivenNames c1 u3 u4
  have h3 : Good cs u3 := hc h2 rfl
  have h4 : Good cs u4 := Good.ite (State.bumpAt_good h2) (State.set_good (State.set_good h3))
  clear_value u4 u3
  extract_lets +onlyGivenNames c2 u5
  have h5 : Good cs u5 := Good.ite (hc h4 rfl) h4
  clear_value u5
  exact State.commitRecord_good h5

theorem State.endShadow_good {s : State} {result : Nat} (hg : Good cs s) : Good cs (State.endShadow s result) := by
  unfold State.endShadow
  repeat' first
    | (with_reducible first
      | assumption | refine State.set_good ?_ | refine Good.ite ?_ ?_ | refine Good.foldl ?_ ?_)
    | intro _
    | (extract_lets +onlyGivenNames x; refine Good.cut (t := x) ?_ ?_; unfold x; rotate_left; intro _; clear_value x)
    | extract_lets +onlyGivenNames x
    | with_reducible refine Good.of_mk ?_ rfl rfl rfl rfl rfl rfl rfl rfl rfl rfl rfl rfl rfl

theorem State.missShadow_good {s : State} {result : Nat} (hg : Good cs s) : Good cs (State.missShadow s result) := by
  unfold State.missShadow
  repeat' first
    | (with_reducible first
      | assumption | refine State.bump_good ?_ | refine State.endShadow_good ?_ | refine State.commitRecord_good ?_
      | refine Good.ite ?_ ?_ | refine Good.foldl ?_ ?_)
    | split

theorem State.setRing_good {s : State} {e : Nat} {l : List RingEntry} (hg : Good cs s) : Good cs (State.setRing s e l)
    := by
  unfold State.setRing
  repeat' first
    | (with_reducible first
      | assumption | refine Good.ite ?_ ?_ | refine Good.foldl ?_ ?_)
    | intro _
    | extract_lets +onlyGivenNames x
    | with_reducible refine Good.of_mk ?_ rfl rfl rfl rfl rfl rfl rfl rfl rfl rfl rfl rfl rfl

theorem State.consumeRing_good {s : State} {f : Nat} (hg : Good cs s) : Good cs (State.consumeRing s f) := by
  unfold State.consumeRing
  repeat' first
    | (with_reducible first
      | assumption | refine State.setRing_good ?_ | refine Good.ite ?_ ?_ | refine Good.foldl ?_ ?_)
    | intro _

theorem State.endRing_good {s : State} (hg : Good cs s) : Good cs (State.endRing s) := by
  unfold State.endRing
  repeat' first
    | (with_reducible first
      | assumption | refine State.set_good ?_ | refine Good.ite ?_ ?_ | refine Good.foldl ?_ ?_)
    | intro _
    | (extract_lets +onlyGivenNames x; refine Good.cut (t := x) ?_ ?_; unfold x; rotate_left; intro _; clear_value x)
    | extract_lets +onlyGivenNames x
    | with_reducible refine Good.of_mk ?_ rfl rfl rfl rfl rfl rfl rfl rfl rfl rfl rfl rfl rfl

theorem State.missRing_good {s : State} {f : Nat} (hg : Good cs s) : Good cs (State.missRing s f) := by
  unfold State.missRing
  repeat' with_reducible first
    | assumption | refine State.endRing_good ?_ | refine State.bump_good ?_ | refine State.consumeRing_good ?_
    | refine State.commitRecord_good ?_ | refine Good.ite ?_ ?_

theorem State.startShadow_good {s : State} (hg : Good cs s) : Good cs (State.startShadow s) := by
  unfold State.startShadow
  repeat' first
    | (with_reducible first
      | assumption | refine State.armWakes_good ?_ | refine Good.ite ?_ ?_ | refine Good.foldl ?_ ?_)
    | split
    | (with_reducible first
      | refine Good.snd_of (by assumption) ?_ | refine Good.fst_of (by assumption) ?_ | refine Good.thd_of (by assumption) ?_)
    | dsimp -zeta only
    | with_reducible refine Good.of_mk ?_ rfl rfl rfl rfl rfl rfl rfl rfl rfl rfl rfl rfl rfl

theorem State.startRing_good {s : State} (hg : Good cs s) : Good cs (State.startRing s) := by
  unfold State.startRing
  repeat' first
    | (with_reducible first
      | assumption | refine State.endRing_good ?_ | refine State.armWakes_good ?_ | refine Good.ite ?_ ?_
      | refine Good.foldl ?_ ?_)
    | split
    | (with_reducible first
      | refine Good.snd_of (by assumption) ?_ | refine Good.fst_of (by assumption) ?_ | refine Good.thd_of (by assumption) ?_)
    | dsimp -zeta only
    | with_reducible refine Good.of_mk ?_ rfl rfl rfl rfl rfl rfl rfl rfl rfl rfl rfl rfl rfl

theorem State.startWaiting_good {s : State} (hg : Good cs s) : Good cs (State.startWaiting s) := by
  unfold State.startWaiting
  repeat' with_reducible first
    | assumption | refine State.startRing_good ?_ | refine State.startShadow_good ?_

theorem State.markBasis_good {s : State} {a : Arm} (hg : Good cs s) : Good cs (State.markBasis s a) := by
  unfold State.markBasis
  repeat' first
    | (with_reducible first
      | assumption | refine State.set_good ?_ | refine Good.ite ?_ ?_ | refine Good.foldl ?_ ?_)
    | split

theorem State.showActivity_good {s : State} {level : Nat} (hg : Good cs s) : Good cs (State.showActivity s level) := by
  unfold State.showActivity
  repeat' first
    | (with_reducible first
      | assumption | refine State.each_good ?_ ?_ | refine State.set_good ?_ | refine Good.ite ?_ ?_
      | refine Good.foldl ?_ ?_)
    | intro _

theorem State.feedForward_good {s : State} {level : Nat} (hg : Good cs s) : Good cs (State.feedForward s level) := by
  unfold State.feedForward
  repeat' first
    | (with_reducible first
      | assumption | refine Good.ite ?_ ?_ | refine Good.foldl ?_ ?_)
    | intro _
    | extract_lets +onlyGivenNames x
    | with_reducible refine Good.of_mk ?_ rfl rfl rfl rfl rfl rfl rfl rfl rfl rfl rfl rfl rfl

/-! Operations of Sys2Proof/Machine/Faults.lean. -/

theorem State.abandonCal_good {s : State} (hg : Good cs s) : Good cs (State.abandonCal s) := by
  unfold State.abandonCal
  repeat' first
    | (with_reducible first
      | assumption | refine State.bumpBy_good ?_ | refine Good.ite ?_ ?_ | refine Good.foldl ?_ ?_)
    | intro _
    | (extract_lets +onlyGivenNames x; refine Good.cut (t := x) ?_ ?_; unfold x; rotate_left; intro _; clear_value x)
    | extract_lets +onlyGivenNames x
    | with_reducible refine Good.of_mk ?_ rfl rfl rfl rfl rfl rfl rfl rfl rfl rfl rfl rfl rfl

theorem State.surveyCut_good {s : State} {result : Nat} (hg : Good cs s) : Good cs (State.surveyCut s result) := by
  unfold State.surveyCut
  repeat' first
    | (with_reducible first
      | assumption | refine State.set_good ?_ | refine Good.ite ?_ ?_ | refine Good.foldl ?_ ?_)
    | intro _
    | (extract_lets +onlyGivenNames x; refine Good.cut (t := x) ?_ ?_; unfold x; rotate_left; intro _; clear_value x)
    | extract_lets +onlyGivenNames x
    | with_reducible refine Good.of_mk ?_ rfl rfl rfl rfl rfl rfl rfl rfl rfl rfl rfl rfl rfl

theorem State.setSourceBit_good {s : State} {F : Machine.Field} {src : Nat} {b : Bool} (hg : Good cs s) : Good cs
    (State.setSourceBit s F src b) := by
  unfold State.setSourceBit
  repeat' with_reducible first
    | assumption | refine State.wr_good ?_

theorem State.safeLane_good {s : State} {e : Nat} (hg : Good cs s) : Good cs (State.safeLane s e) := by
  unfold State.safeLane
  repeat' with_reducible first
    | assumption | refine State.setContext_good ?_ | refine State.setLane_good ?_ | refine State.parkLane_good ?_
    | refine Good.ite ?_ ?_

theorem State.assertFlt_good {s : State} {at_ : Nat} (hg : Good cs s) : Good cs (State.assertFlt s at_) := by
  unfold State.assertFlt
  repeat' first
    | (with_reducible first
      | assumption | refine Good.ite ?_ ?_ | refine Good.foldl ?_ ?_)
    | intro _
    | extract_lets +onlyGivenNames x
    | with_reducible refine Good.of_mk ?_ rfl rfl rfl rfl rfl rfl rfl rfl rfl rfl rfl rfl rfl

theorem State.darken_good {s : State} {at_ : Nat} (hg : Good cs s) : Good cs (State.darken s at_) := by
  unfold State.darken
  repeat' first
    | (with_reducible first
      | assumption | refine State.moveGates_good ?_ | refine Good.ite ?_ ?_ | refine Good.foldl ?_ ?_)
    | intro _
    | (extract_lets +onlyGivenNames x; refine Good.cut (t := x) ?_ ?_; unfold x; rotate_left; intro _; clear_value x)
    | extract_lets +onlyGivenNames x
    | with_reducible refine Good.of_mk ?_ rfl rfl rfl rfl rfl rfl rfl rfl rfl rfl rfl rfl rfl

theorem State.enterSafe_good {s : State} {src : Nat} (hg : Good cs s) : Good cs (State.enterSafe s src) := by
  unfold State.enterSafe
  repeat' first
    | (with_reducible first
      | assumption | refine State.set_good ?_ | refine State.safeLane_good ?_ | refine State.assertFlt_good ?_
      | refine State.darken_good ?_ | refine State.endRing_good ?_ | refine State.missShadow_good ?_
      | refine State.abandonCal_good ?_ | refine State.surveyCut_good ?_ | refine State.setMode_good ?_
      | refine Good.ite ?_ ?_ | refine Good.foldl ?_ ?_)
    | intro _
    | extract_lets +onlyGivenNames x
    | with_reducible refine Good.of_mk ?_ rfl rfl rfl rfl rfl rfl rfl rfl rfl rfl rfl rfl rfl

theorem State.setFatal_good {s : State} {src : Nat} (hg : Good cs s) : Good cs (State.setFatal s src) := by
  unfold State.setFatal
  repeat' with_reducible first
    | assumption | refine State.set_good ?_ | refine State.bumpAt_good ?_ | refine Good.ite ?_ ?_

theorem State.reactSafe_good {s : State} {src : Nat} {sev : Nat} (hg : Good cs s) : Good cs (State.reactSafe s src sev)
    := by
  unfold State.reactSafe
  repeat' first
    | (with_reducible first
      | assumption | refine State.enterSafe_good ?_ | refine State.bumpAt_good ?_ | refine State.set_good ?_
      | refine State.setFatal_good ?_ | refine Good.ite ?_ ?_ | refine Good.foldl ?_ ?_)
    | intro _
    | (extract_lets +onlyGivenNames x; refine Good.cut (t := x) ?_ ?_; unfold x; rotate_left; intro _; clear_value x)
    | extract_lets +onlyGivenNames x
    | with_reducible refine Good.of_mk ?_ rfl rfl rfl rfl rfl rfl rfl rfl rfl rfl rfl rfl rfl

theorem State.react_good {s : State} {src : Nat} {unit : Nat} {sev : Nat} (hg : Good cs s) : Good cs (State.react s src
    unit sev) := by
  unfold State.react
  repeat' first
    | (with_reducible first
      | assumption | refine State.set_good ?_ | refine State.reactSafe_good ?_ | refine Good.ite ?_ ?_
      | refine Good.foldl ?_ ?_)
    | intro _
    | extract_lets +onlyGivenNames x
    | with_reducible refine Good.of_mk ?_ rfl rfl rfl rfl rfl rfl rfl rfl rfl rfl rfl rfl rfl

theorem State.countReport_good {s : State} {r : Report} (hg : Good cs s) : Good cs (State.countReport s r) := by
  unfold State.countReport
  repeat' first
    | (with_reducible first
      | assumption | refine State.bumpAt_good ?_ | refine State.setSourceBit_good ?_ | refine Good.ite ?_ ?_
      | refine Good.foldl ?_ ?_)
    | intro _
    | extract_lets +onlyGivenNames x
    | with_reducible refine Good.of_mk ?_ rfl rfl rfl rfl rfl rfl rfl rfl rfl rfl rfl rfl rfl

theorem State.captureFirst_good {s : State} {f : FaultRec} (hg : Good cs s) : Good cs (State.captureFirst s f) := by
  unfold State.captureFirst
  repeat' with_reducible first
    | assumption | refine State.set_good ?_ | refine State.setB_good ?_ | refine State.put64_good ?_
    | refine State.setMask_good ?_ | refine Good.ite ?_ ?_

theorem State.followFirst_good {s : State} {f : FaultRec} (hg : Good cs s) : Good cs (State.followFirst s f) := by
  unfold State.followFirst
  repeat' with_reducible first
    | assumption | refine State.set_good ?_ | refine Good.ite ?_ ?_

theorem State.openWindow_good {s : State} {rs : List Report} (hg : Good cs s) : Good cs (State.openWindow s rs) := by
  unfold State.openWindow
  repeat' first
    | (with_reducible first
      | assumption | refine State.react_good ?_ | refine State.captureFirst_good ?_ | refine State.set_good ?_
      | refine Good.ite ?_ ?_ | refine Good.foldl ?_ ?_)
    | split
    | (with_reducible first
      | refine Good.snd_of (by assumption) ?_ | refine Good.fst_of (by assumption) ?_ | refine Good.thd_of (by assumption) ?_)
    | dsimp -zeta only
    | with_reducible refine Good.of_mk ?_ rfl rfl rfl rfl rfl rfl rfl rfl rfl rfl rfl rfl rfl

theorem State.mergeReport_good {s : State} {w : Window} {r : Report} (hg : Good cs s) : Good cs (State.mergeReport s
    w r) := by
  unfold State.mergeReport
  repeat' first
    | (with_reducible first
      | assumption | refine State.react_good ?_ | refine State.set_good ?_ | refine State.followFirst_good ?_
      | refine Good.ite ?_ ?_ | refine Good.foldl ?_ ?_)
    | intro _
    | (extract_lets +onlyGivenNames x; refine Good.cut (t := x) ?_ ?_; unfold x; rotate_left; intro _; clear_value x)
    | extract_lets +onlyGivenNames x
    | with_reducible refine Good.of_mk ?_ rfl rfl rfl rfl rfl rfl rfl rfl rfl rfl rfl rfl rfl

theorem State.reportNow_good {s : State} {rs : List Report} (hg : Good cs s) : Good cs (State.reportNow s rs) := by
  unfold State.reportNow
  repeat' first
    | (with_reducible first
      | assumption | refine State.countReport_good ?_ | refine State.openWindow_good ?_
      | refine State.mergeReport_good ?_ | refine Good.ite ?_ ?_ | refine Good.foldl ?_ ?_)
    | intro _
    | (extract_lets +onlyGivenNames x; refine Good.cut (t := x) ?_ ?_; unfold x; rotate_left; intro _; clear_value x)
    | extract_lets +onlyGivenNames x
    | split

theorem State.report_good {s : State} {rs : List Report} (hg : Good cs s) : Good cs (State.report s rs) := by
  unfold State.report
  repeat' with_reducible first
    | assumption | refine State.reportNow_good ?_ | refine Good.ite ?_ ?_

theorem State.raise_good {s : State} {src : Nat} {unit : Nat} (hg : Good cs s) : Good cs (State.raise s src unit) := by
  unfold State.raise
  repeat' with_reducible first
    | assumption | refine State.report_good ?_

theorem State.raiseLevels_good {s : State} {l : List (Nat × Nat)} (hg : Good cs s) : Good cs (State.raiseLevels s l) := by
  unfold State.raiseLevels
  repeat' first
    | (with_reducible first
      | assumption | refine State.setSourceBit_good ?_ | refine State.report_good ?_ | refine Good.ite ?_ ?_
      | refine Good.foldl ?_ ?_)
    | intro _

theorem State.raiseLevel_good {s : State} {src : Nat} {unit : Nat} (hg : Good cs s) : Good cs (State.raiseLevel s src
    unit) := by
  unfold State.raiseLevel
  repeat' with_reducible first
    | assumption | refine State.raiseLevels_good ?_

theorem State.endCause_good {s : State} {src : Nat} (hg : Good cs s) : Good cs (State.endCause s src) := by
  unfold State.endCause
  repeat' with_reducible first
    | assumption | refine State.setSourceBit_good ?_

theorem State.closeWindow_good {s : State} (hg : Good cs s) : Good cs s.closeWindow := by
  have key : ∀ t : State, Good cs t → ∀ f : FaultSt, Good cs ({ t with fault := f } : State) := fun t ht f => { ht with }
  unfold State.closeWindow
  split
  · exact hg
  · refine Good.ite ?_ ?_
    · exact State.raiseTo_good (key _ (key _ (State.set_good (State.set_good (State.set_good hg))) _) _)
    · exact key _ (State.bump_good (key _ (State.set_good (State.set_good (State.set_good hg))) _)) _

theorem State.clearSource_good {s : State} {src : Nat} (hg : Good cs s) : Good cs (State.clearSource s src) := by
  unfold State.clearSource
  repeat' first
    | (with_reducible first
      | assumption | refine State.setSourceBit_good ?_ | refine Good.ite ?_ ?_ | refine Good.foldl ?_ ?_)
    | intro _
    | (extract_lets +onlyGivenNames x; refine Good.cut (t := x) ?_ ?_; unfold x; rotate_left; intro _; clear_value x)
    | extract_lets +onlyGivenNames x
    | with_reducible refine Good.of_mk ?_ rfl rfl rfl rfl rfl rfl rfl rfl rfl rfl rfl rfl rfl

theorem State.settleStatus_good {s : State} (hg : Good cs s) : Good cs (State.settleStatus s) := by
  unfold State.settleStatus
  repeat' with_reducible first
    | assumption | refine State.set_good ?_ | refine Good.ite ?_ ?_

/-! Operations of Sys2Proof/Machine/Light.lean. -/

theorem State.edge_good {s : State} {p : Nat} {bin : Nat} {level : Bool} (hg : Good cs s) : Good cs (State.edge s p bin
    level) := by
  unfold State.edge
  repeat' first
    | (with_reducible first
      | assumption | refine State.wr_good ?_ | refine State.setPd_good ?_ | refine State.bump_good ?_
      | refine Good.ite ?_ ?_ | refine Good.foldl ?_ ?_)
    | split
    | (with_reducible first
      | refine Good.snd_of (by assumption) ?_ | refine Good.fst_of (by assumption) ?_ | refine Good.thd_of (by assumption) ?_)
    | dsimp -zeta only
    | with_reducible refine Good.of_mk ?_ rfl rfl rfl rfl rfl rfl rfl rfl rfl rfl rfl rfl rfl

theorem State.glitch_good {s : State} {p : Nat} (hg : Good cs s) : Good cs (State.glitch s p) := by
  unfold State.glitch
  repeat' with_reducible first
    | assumption | refine State.setPd_good ?_ | refine State.bump_good ?_ | refine State.bumpAt_good ?_

theorem State.crossing_good {s : State} {p : Nat} {bin : Nat} {ua : Nat} {lasts : Nat} (hg : Good cs s) : Good cs
    (State.crossing s p bin ua lasts) := by
  unfold State.crossing
  repeat' with_reducible first
    | assumption | refine State.setPd_good ?_ | refine State.edge_good ?_ | refine State.glitch_good ?_
    | refine Good.ite ?_ ?_

theorem State.lightLevel_good {s : State} {p : Nat} (hg : Good cs s) : Good cs (State.lightLevel s p) := by
  unfold State.lightLevel
  repeat' with_reducible first
    | assumption | refine State.wr_good ?_ | refine State.setPd_good ?_ | refine Good.ite ?_ ?_

theorem State.takeLight_good {s : State} {q : Nat} (hg : Good cs s) : Good cs (State.takeLight s q) := by
  unfold State.takeLight
  repeat' first
    | (with_reducible first
      | assumption | refine State.postRec_good ?_ | refine State.setPd_good ?_ | refine State.bumpAt_good ?_
      | refine State.bump_good ?_ | refine Good.ite ?_ ?_ | refine Good.foldl ?_ ?_)
    | split
    | (with_reducible first
      | refine Good.snd_of (by assumption) ?_ | refine Good.fst_of (by assumption) ?_ | refine Good.thd_of (by assumption) ?_)
    | dsimp -zeta only
    | with_reducible refine Good.of_mk ?_ rfl rfl rfl rfl rfl rfl rfl rfl rfl rfl rfl rfl rfl

theorem State.retunePort_good {s : State} {p : Nat} (hg : Good cs s) : Good cs (State.retunePort s p) := by
  unfold State.retunePort
  repeat' with_reducible first
    | assumption | refine State.setPd_good ?_ | refine State.edge_good ?_ | refine Good.ite ?_ ?_

theorem State.retunePorts_good {s : State} (hg : Good cs s) : Good cs (State.retunePorts s) := by
  unfold State.retunePorts
  repeat' first
    | (with_reducible first
      | assumption | refine State.retunePort_good ?_ | refine Good.ite ?_ ?_ | refine Good.foldl ?_ ?_)
    | intro _

theorem State.wPdCfg_good {s : State} {p : Nat} {v : Word} (hg : Good cs s) : Good cs (State.wPdCfg s p v) := by
  unfold State.wPdCfg
  repeat' with_reducible first
    | assumption | refine State.setWord_good ?_ | refine State.setPd_good ?_

theorem State.gateStops_good {s : State} (hg : Good cs s) : Good cs (State.gateStops s) := by
  unfold State.gateStops
  repeat' with_reducible first
    | assumption | refine State.stopPorts_good ?_ | refine Good.ite ?_ ?_

end Sys2Proof.Machine
end

