-- ==== Sys2Proof/Laws/GoodFrame.lean ====
section
/-! SUPPORT. Every operation of these parts of the machine keeps the queue and the invariant: the timing loop's
words, the time base, the frame, lane and commit events and the evidence writer. -/

namespace Sys2Proof.Machine

variable {cs : List Instr}

/-! Operations of Sys2Proof/Machine/Loop.lean. -/

theorem State.setLoop_good {s : State} {l : LoopSt} (hg : Good cs s) : Good cs (State.setLoop s l) := by
  unfold State.setLoop
  repeat' first
    | (with_reducible first
      | assumption | refine Good.ite ?_ ?_ | refine Good.foldl ?_ ?_)
    | intro _
    | extract_lets +onlyGivenNames x
    | with_reducible refine Good.of_mk ?_ rfl rfl rfl rfl rfl rfl rfl rfl rfl rfl rfl rfl rfl

theorem State.setFine_good {s : State} {f : Nat} (hg : Good cs s) : Good cs (State.setFine s f) := by
  unfold State.setFine
  repeat' with_reducible first
    | assumption | refine State.setLoop_good ?_

theorem State.settlePulses_good {s : State} (hg : Good cs s) : Good cs (State.settlePulses s) := by
  unfold State.settlePulses
  repeat' with_reducible first
    | assumption | refine State.setLoop_good ?_

theorem State.waitPulses_good {s : State} (hg : Good cs s) : Good cs (State.waitPulses s) := by
  unfold State.waitPulses
  repeat' with_reducible first
    | assumption | refine State.settlePulses_good ?_ | refine State.passTo_good ?_

theorem State.refCycle_good {s : State} (hg : Good cs s) : Good cs (State.refCycle s) := by
  unfold State.refCycle
  repeat' with_reducible first
    | assumption | refine State.settlePulses_good ?_ | refine State.free_good ?_ | refine State.setLoop_good ?_

theorem State.loopTick_good {s : State} (hg : Good cs s) : Good cs (State.loopTick s) := by
  unfold State.loopTick
  repeat' with_reducible first
    | assumption | refine State.setLoop_good ?_ | refine State.refCycle_good ?_ | refine Good.ite ?_ ?_

theorem State.idle_good {s : State} (hg : Good cs s) : Good cs (State.idle s) := by
  unfold State.idle
  repeat' first
    | (with_reducible first
      | assumption | refine State.loopTick_good ?_ | refine Good.ite ?_ ?_ | refine Good.foldl ?_ ?_)
    | intro _
    | extract_lets +onlyGivenNames x
    | with_reducible refine Good.of_mk ?_ rfl rfl rfl rfl rfl rfl rfl rfl rfl rfl rfl rfl rfl

/-! Operations of Sys2Proof/Machine/TimeBase.lean. -/

theorem State.sendCtl_good {s : State} {p : Nat} {ty : Nat} {payload : BitVec 56} (hg : Good cs s) : Good cs
    (State.sendCtl s p ty payload) := by
  unfold State.sendCtl
  repeat' with_reducible first
    | assumption | refine State.setPair_good ?_ | refine Good.ite ?_ ?_

theorem State.sendMark_good {s : State} (hg : Good cs s) : Good cs (State.sendMark s) := by
  unfold State.sendMark
  repeat' with_reducible first
    | assumption | refine State.free_good ?_ | refine State.sendCtl_good ?_ | refine Good.ite ?_ ?_

theorem State.setTb_good {s : State} {n : Nat} (hg : Good cs s) : Good cs (State.setTb s n) := by
  unfold State.setTb
  repeat' first
    | (with_reducible first
      | assumption | refine State.set_good ?_ | refine Good.ite ?_ ?_ | refine Good.foldl ?_ ?_)
    | intro _
    | extract_lets +onlyGivenNames x
    | with_reducible refine Good.of_mk ?_ rfl rfl rfl rfl rfl rfl rfl rfl rfl rfl rfl rfl rfl

theorem State.setSteps_good {s : State} {n : Int} (hg : Good cs s) : Good cs (State.setSteps s n) := by
  unfold State.setSteps
  repeat' with_reducible first
    | assumption | refine State.setB_good ?_ | refine State.setI_good ?_

theorem State.restate_good {s : State} (hg : Good cs s) : Good cs (State.restate s) := by
  unfold State.restate
  repeat' with_reducible first
    | assumption | refine State.setSteps_good ?_

theorem State.enterSync_good {s : State} (hg : Good cs s) : Good cs (State.enterSync s) := by
  unfold State.enterSync
  repeat' with_reducible first
    | assumption | refine State.post_good ?_ | refine State.setTb_good ?_

theorem State.endEpisode_good {s : State} (hg : Good cs s) : Good cs (State.endEpisode s) := by
  unfold State.endEpisode
  repeat' first
    | (with_reducible first
      | assumption | refine State.set_good ?_ | refine Good.ite ?_ ?_ | refine Good.foldl ?_ ?_)
    | intro _
    | (extract_lets +onlyGivenNames x; refine Good.cut (t := x) ?_ ?_; unfold x; rotate_left; intro _; clear_value x)
    | extract_lets +onlyGivenNames x
    | with_reducible refine Good.of_mk ?_ rfl rfl rfl rfl rfl rfl rfl rfl rfl rfl rfl rfl rfl

theorem State.cancelStep_good {s : State} (hg : Good cs s) : Good cs (State.cancelStep s) := by
  unfold State.cancelStep
  repeat' first
    | (with_reducible first
      | assumption | refine State.bumpAt_good ?_ | refine State.set_good ?_ | refine Good.ite ?_ ?_
      | refine Good.foldl ?_ ?_)
    | split
    | (with_reducible first
      | refine Good.snd_of (by assumption) ?_ | refine Good.fst_of (by assumption) ?_ | refine Good.thd_of (by assumption) ?_)
    | dsimp -zeta only
    | with_reducible refine Good.of_mk ?_ rfl rfl rfl rfl rfl rfl rfl rfl rfl rfl rfl rfl rfl

theorem State.judgeOffset_good {s : State} (hg : Good cs s) : Good cs (State.judgeOffset s) := by
  unfold State.judgeOffset
  repeat' with_reducible first
    | assumption | refine State.enterSync_good ?_ | refine State.setTb_good ?_ | refine State.endEpisode_good ?_
    | refine State.cancelStep_good ?_ | refine Good.ite ?_ ?_

theorem State.holdTime_good {s : State} (hg : Good cs s) : Good cs (State.holdTime s) := by
  unfold State.holdTime
  repeat' first
    | (with_reducible first
      | assumption | refine State.cancelStep_good ?_ | refine State.setTb_good ?_ | refine Good.ite ?_ ?_
      | refine Good.foldl ?_ ?_)
    | intro _
    | (extract_lets +onlyGivenNames x; refine Good.cut (t := x) ?_ ?_; unfold x; rotate_left; intro _; clear_value x)
    | extract_lets +onlyGivenNames x
    | with_reducible refine Good.of_mk ?_ rfl rfl rfl rfl rfl rfl rfl rfl rfl rfl rfl rfl rfl

theorem State.resumeTime_good {s : State} (hg : Good cs s) : Good cs (State.resumeTime s) := by
  unfold State.resumeTime
  repeat' first
    | (with_reducible first
      | assumption | refine State.setTb_good ?_ | refine Good.ite ?_ ?_ | refine Good.foldl ?_ ?_)
    | intro _
    | (extract_lets +onlyGivenNames x; refine Good.cut (t := x) ?_ ?_; unfold x; rotate_left; intro _; clear_value x)
    | extract_lets +onlyGivenNames x
    | with_reducible refine Good.of_mk ?_ rfl rfl rfl rfl rfl rfl rfl rfl rfl rfl rfl rfl rfl

theorem State.unsetTime_good {s : State} (hg : Good cs s) : Good cs (State.unsetTime s) := by
  unfold State.unsetTime
  repeat' first
    | (with_reducible first
      | assumption | refine State.set_good ?_ | refine State.setSteps_good ?_ | refine Good.ite ?_ ?_
      | refine Good.foldl ?_ ?_)
    | intro _
    | (extract_lets +onlyGivenNames x; refine Good.cut (t := x) ?_ ?_; unfold x; rotate_left; intro _; clear_value x)
    | extract_lets +onlyGivenNames x
    | with_reducible refine Good.of_mk ?_ rfl rfl rfl rfl rfl rfl rfl rfl rfl rfl rfl rfl rfl

theorem State.loseExchange_good {s : State} (hg : Good cs s) : Good cs (State.loseExchange s) := by
  unfold State.loseExchange
  repeat' first
    | (with_reducible first
      | assumption | refine State.bumpAt_good ?_ | refine State.raise_good ?_ | refine Good.ite ?_ ?_
      | refine Good.foldl ?_ ?_)
    | intro _
    | extract_lets +onlyGivenNames x
    | with_reducible refine Good.of_mk ?_ rfl rfl rfl rfl rfl rfl rfl rfl rfl rfl rfl rfl rfl

theorem State.refuseJump_good {s : State} (hg : Good cs s) : Good cs (State.refuseJump s) := by
  unfold State.refuseJump
  repeat' first
    | (with_reducible first
      | assumption | refine State.set_good ?_ | refine State.setTb_good ?_ | refine State.setSteps_good ?_
      | refine State.bumpAt_good ?_ | refine State.post_good ?_ | refine Good.ite ?_ ?_ | refine Good.foldl ?_ ?_)
    | intro _
    | extract_lets +onlyGivenNames x
    | with_reducible refine Good.of_mk ?_ rfl rfl rfl rfl rfl rfl rfl rfl rfl rfl rfl rfl rfl

theorem State.endCoast_good {s : State} (hg : Good cs s) : Good cs (State.endCoast s) := by
  unfold State.endCoast
  repeat' first
    | (with_reducible first
      | assumption | refine State.enterSync_good ?_ | refine Good.ite ?_ ?_ | refine Good.foldl ?_ ?_)
    | intro _
    | extract_lets +onlyGivenNames x
    | with_reducible refine Good.of_mk ?_ rfl rfl rfl rfl rfl rfl rfl rfl rfl rfl rfl rfl rfl

theorem State.applyMeasure_good {s : State} (hg : Good cs s) : Good cs (State.applyMeasure s) := by
  unfold State.applyMeasure
  repeat' first
    | (with_reducible first
      | assumption | refine State.endCoast_good ?_ | refine State.restate_good ?_ | refine State.judgeOffset_good ?_
      | refine State.refuseJump_good ?_ | refine State.endEpisode_good ?_ | refine State.cancelStep_good ?_
      | refine State.enterSync_good ?_ | refine State.setTb_good ?_ | refine Good.ite ?_ ?_ | refine Good.foldl ?_ ?_)
    | split
    | (with_reducible first
      | refine Good.snd_of (by assumption) ?_ | refine Good.fst_of (by assumption) ?_ | refine Good.thd_of (by assumption) ?_)
    | dsimp -zeta only
    | with_reducible refine Good.of_mk ?_ rfl rfl rfl rfl rfl rfl rfl rfl rfl rfl rfl rfl rfl

theorem State.measure_good {s : State} (hg : Good cs s) : Good cs (State.measure s) := by
  unfold State.measure
  repeat' first
    | (with_reducible first
      | assumption | refine State.put64_good ?_ | refine State.set_good ?_ | refine State.setI_good ?_
      | refine State.applyMeasure_good ?_ | refine Good.ite ?_ ?_ | refine Good.foldl ?_ ?_)
    | split
    | (with_reducible first
      | refine Good.snd_of (by assumption) ?_ | refine Good.fst_of (by assumption) ?_ | refine Good.thd_of (by assumption) ?_)
    | dsimp -zeta only
    | with_reducible refine Good.of_mk ?_ rfl rfl rfl rfl rfl rfl rfl rfl rfl rfl rfl rfl rfl

theorem State.discardExchange_good {s : State} (hg : Good cs s) : Good cs (State.discardExchange s) := by
  unfold State.discardExchange
  repeat' first
    | (with_reducible first
      | assumption | refine State.bumpAt_good ?_ | refine Good.ite ?_ ?_ | refine Good.foldl ?_ ?_)
    | intro _
    | extract_lets +onlyGivenNames x
    | with_reducible refine Good.of_mk ?_ rfl rfl rfl rfl rfl rfl rfl rfl rfl rfl rfl rfl rfl

theorem State.newMean_good {s : State} (hg : Good cs s) : Good cs (State.newMean s) := by
  unfold State.newMean
  repeat' first
    | (with_reducible first
      | assumption | refine State.post_good ?_ | refine State.bumpAt_good ?_ | refine Good.ite ?_ ?_
      | refine Good.foldl ?_ ?_)
    | split
    | (with_reducible first
      | refine Good.snd_of (by assumption) ?_ | refine Good.fst_of (by assumption) ?_ | refine Good.thd_of (by assumption) ?_)
    | dsimp -zeta only
    | with_reducible refine Good.of_mk ?_ rfl rfl rfl rfl rfl rfl rfl rfl rfl rfl rfl rfl rfl

theorem State.acceptExchange_good {s : State} {d : Int} {delta : Int} (hg : Good cs s) : Good cs (State.acceptExchange s
    d delta) := by
  unfold State.acceptExchange
  repeat' first
    | (with_reducible first
      | assumption | refine State.bumpAt_good ?_ | refine State.newMean_good ?_ | refine State.measure_good ?_
      | refine Good.ite ?_ ?_ | refine Good.foldl ?_ ?_)
    | intro _
    | extract_lets +onlyGivenNames x
    | with_reducible refine Good.of_mk ?_ rfl rfl rfl rfl rfl rfl rfl rfl rfl rfl rfl rfl rfl

theorem State.markReceive_good {s : State} {x : MarkMeas} (hg : Good cs s) : Good cs (State.markReceive s x) := by
  unfold State.markReceive
  repeat' first
    | (with_reducible first
      | assumption | refine State.setB_good ?_ | refine Good.ite ?_ ?_ | refine Good.foldl ?_ ?_)
    | intro _
    | (extract_lets +onlyGivenNames x; refine Good.cut (t := x) ?_ ?_; unfold x; rotate_left; intro _; clear_value x)
    | extract_lets +onlyGivenNames x
    | with_reducible refine Good.of_mk ?_ rfl rfl rfl rfl rfl rfl rfl rfl rfl rfl rfl rfl rfl

theorem State.dreqSend_good {s : State} {t3 : Nat} (hg : Good cs s) : Good cs (State.dreqSend s t3) := by
  unfold State.dreqSend
  repeat' first
    | (with_reducible first
      | assumption | refine State.sendCtl_good ?_ | refine Good.ite ?_ ?_ | refine Good.foldl ?_ ?_)
    | split
    | (with_reducible first
      | refine Good.snd_of (by assumption) ?_ | refine Good.fst_of (by assumption) ?_ | refine Good.thd_of (by assumption) ?_)
    | dsimp -zeta only
    | with_reducible refine Good.of_mk ?_ rfl rfl rfl rfl rfl rfl rfl rfl rfl rfl rfl rfl rfl

theorem State.drespReceive_good {s : State} {x : Dresp} (hg : Good cs s) : Good cs (State.drespReceive s x) := by
  unfold State.drespReceive
  repeat' first
    | (with_reducible first
      | assumption | refine State.acceptExchange_good ?_ | refine State.discardExchange_good ?_
      | refine Good.ite ?_ ?_ | refine Good.foldl ?_ ?_)
    | split
    | (with_reducible first
      | refine Good.snd_of (by assumption) ?_ | refine Good.fst_of (by assumption) ?_ | refine Good.thd_of (by assumption) ?_)
    | dsimp -zeta only
    | with_reducible refine Good.of_mk ?_ rfl rfl rfl rfl rfl rfl rfl rfl rfl rfl rfl rfl rfl

theorem State.drespTimeout_good {s : State} (hg : Good cs s) : Good cs (State.drespTimeout s) := by
  unfold State.drespTimeout
  repeat' first
    | (with_reducible first
      | assumption | refine State.loseExchange_good ?_ | refine Good.ite ?_ ?_ | refine Good.foldl ?_ ?_)
    | split
    | (with_reducible first
      | refine Good.snd_of (by assumption) ?_ | refine Good.fst_of (by assumption) ?_ | refine Good.thd_of (by assumption) ?_)
    | dsimp -zeta only
    | with_reducible refine Good.of_mk ?_ rfl rfl rfl rfl rfl rfl rfl rfl rfl rfl rfl rfl rfl

theorem State.tickExchange_good {s : State} (hg : Good cs s) : Good cs (State.tickExchange s) := by
  unfold State.tickExchange
  repeat' first
    | (with_reducible first
      | assumption | refine State.loseExchange_good ?_ | refine Good.ite ?_ ?_ | refine Good.foldl ?_ ?_)
    | intro _
    | extract_lets +onlyGivenNames x
    | with_reducible refine Good.of_mk ?_ rfl rfl rfl rfl rfl rfl rfl rfl rfl rfl rfl rfl rfl

theorem State.renumber_good {s : State} {n : Int} (hg : Good cs s) : Good cs (State.renumber s n) := by
  unfold State.renumber
  repeat' first
    | (with_reducible first
      | assumption | refine State.eachIn_good ?_ ?_ | refine State.wr_good ?_ | refine Good.ite ?_ ?_
      | refine Good.foldl ?_ ?_)
    | intro _
    | (extract_lets +onlyGivenNames x; refine Good.cut (t := x) ?_ ?_; unfold x; rotate_left; intro _; clear_value x)
    | extract_lets +onlyGivenNames x
    | with_reducible refine Good.of_mk ?_ rfl rfl rfl rfl rfl rfl rfl rfl rfl rfl rfl rfl rfl

theorem State.setTime_good {s : State} {d : Int} {n : Int} (hg : Good cs s) : Good cs (State.setTime s d n) := by
  unfold State.setTime
  repeat' first
    | (with_reducible first
      | assumption | refine State.renumber_good ?_ | refine State.post_good ?_ | refine State.setTb_good ?_
      | refine State.judgeOffset_good ?_ | refine State.restate_good ?_ | refine Good.ite ?_ ?_
      | refine Good.foldl ?_ ?_)
    | intro _
    | extract_lets +onlyGivenNames x
    | with_reducible refine Good.of_mk ?_ rfl rfl rfl rfl rfl rfl rfl rfl rfl rfl rfl rfl rfl

theorem State.stepTime_good {s : State} {n : Int} (hg : Good cs s) : Good cs (State.stepTime s n) := by
  unfold State.stepTime
  repeat' first
    | (with_reducible first
      | assumption | refine State.bumpAt_good ?_ | refine State.renumber_good ?_ | refine State.set_good ?_
      | refine State.post_good ?_ | refine State.judgeOffset_good ?_ | refine State.restate_good ?_
      | refine Good.ite ?_ ?_ | refine Good.foldl ?_ ?_)
    | intro _
    | (extract_lets +onlyGivenNames x; refine Good.cut (t := x) ?_ ?_; unfold x; rotate_left; intro _; clear_value x)
    | extract_lets +onlyGivenNames x
    | with_reducible refine Good.of_mk ?_ rfl rfl rfl rfl rfl rfl rfl rfl rfl rfl rfl rfl rfl

theorem State.startPulse_good {s : State} {d : Int} (hg : Good cs s) : Good cs (State.startPulse s d) := by
  unfold State.startPulse
  repeat' with_reducible first
    | assumption | refine State.settlePulses_good ?_ | refine State.setLoop_good ?_

theorem State.phaseStep_good {s : State} (hg : Good cs s) : Good cs (State.phaseStep s) := by
  unfold State.phaseStep
  repeat' first
    | (with_reducible first
      | assumption | refine State.setSteps_good ?_ | refine State.startPulse_good ?_ | refine State.setI_good ?_
      | refine State.judgeOffset_good ?_ | refine Good.ite ?_ ?_ | refine Good.foldl ?_ ?_)
    | intro _
    | extract_lets +onlyGivenNames x
    | with_reducible refine Good.of_mk ?_ rfl rfl rfl rfl rfl rfl rfl rfl rfl rfl rfl rfl rfl

theorem State.authorise_good {s : State} {id : Nat} (hg : Good cs s) : Good cs (State.authorise s id).2 := by
  unfold State.authorise
  repeat' first
    | (with_reducible first
      | assumption | refine State.set_good ?_ | refine Good.ite ?_ ?_ | refine Good.foldl ?_ ?_)
    | split
    | (with_reducible first
      | refine Good.snd_of (by assumption) ?_ | refine Good.fst_of (by assumption) ?_ | refine Good.thd_of (by assumption) ?_)
    | dsimp -zeta only
    | with_reducible refine Good.of_mk ?_ rfl rfl rfl rfl rfl rfl rfl rfl rfl rfl rfl rfl rfl

theorem State.withdrawStep_good {s : State} (hg : Good cs s) : Good cs (State.withdrawStep s).2 := by
  unfold State.withdrawStep
  repeat' first
    | (with_reducible first
      | assumption | refine State.set_good ?_ | refine Good.ite ?_ ?_ | refine Good.foldl ?_ ?_)
    | intro _
    | (extract_lets +onlyGivenNames x; refine Good.cut (t := x) ?_ ?_; unfold x; rotate_left; intro _; clear_value x)
    | extract_lets +onlyGivenNames x
    | with_reducible refine Good.of_mk ?_ rfl rfl rfl rfl rfl rfl rfl rfl rfl rfl rfl rfl rfl

/-! Operations of Sys2Proof/Machine/Frame.lean. -/

theorem State.tickHeater_good {s : State} {e : Nat} (hg : Good cs s) : Good cs (State.tickHeater s e) := by
  unfold State.tickHeater
  repeat' with_reducible first
    | assumption | refine State.setLane_good ?_ | refine Good.ite ?_ ?_

theorem State.tickEo_good {s : State} {e : Nat} (hg : Good cs s) : Good cs (State.tickEo s e) := by
  unfold State.tickEo
  repeat' first
    | (with_reducible first
      | assumption | refine State.setLane_good ?_ | refine Good.ite ?_ ?_ | refine Good.foldl ?_ ?_)
    | split
    | (with_reducible first
      | refine Good.snd_of (by assumption) ?_ | refine Good.fst_of (by assumption) ?_ | refine Good.thd_of (by assumption) ?_)
    | dsimp -zeta only
    | with_reducible refine Good.of_mk ?_ rfl rfl rfl rfl rfl rfl rfl rfl rfl rfl rfl rfl rfl

theorem State.tickCmd_good {s : State} {e : Nat} (hg : Good cs s) : Good cs (State.tickCmd s e) := by
  unfold State.tickCmd
  repeat' first
    | (with_reducible first
      | assumption | refine State.offLane_good ?_ | refine State.moveLane_good ?_ | refine State.parkLane_good ?_
      | refine State.setLane_good ?_ | refine Good.ite ?_ ?_ | refine Good.foldl ?_ ?_)
    | split
    | (with_reducible first
      | refine Good.snd_of (by assumption) ?_ | refine Good.fst_of (by assumption) ?_ | refine Good.thd_of (by assumption) ?_)
    | dsimp -zeta only
    | with_reducible refine Good.of_mk ?_ rfl rfl rfl rfl rfl rfl rfl rfl rfl rfl rfl rfl rfl

theorem State.spendCmd_good {s : State} {e : Nat} (hg : Good cs s) : Good cs (State.spendCmd s e) := by
  unfold State.spendCmd
  repeat' with_reducible first
    | assumption | refine State.setLane_good ?_ | refine Good.ite ?_ ?_

theorem State.tickHop_good {s : State} {e : Nat} (hg : Good cs s) : Good cs (State.tickHop s e) := by
  unfold State.tickHop
  repeat' first
    | (with_reducible first
      | assumption | refine State.takeHop_good ?_ | refine State.setLane_good ?_ | refine Good.ite ?_ ?_
      | refine Good.foldl ?_ ?_)
    | split
    | (with_reducible first
      | refine Good.snd_of (by assumption) ?_ | refine Good.fst_of (by assumption) ?_ | refine Good.thd_of (by assumption) ?_)
    | dsimp -zeta only
    | with_reducible refine Good.of_mk ?_ rfl rfl rfl rfl rfl rfl rfl rfl rfl rfl rfl rfl rfl

theorem State.tickShadow_good {s : State} {due : Nat} (hg : Good cs s) : Good cs (State.tickShadow s due).1 := by
  unfold State.tickShadow
  repeat' first
    | (with_reducible first
      | assumption | refine State.execCommit_good ?_ | refine State.markBasis_good ?_
      | refine State.missShadow_good ?_ | refine Good.ite ?_ ?_ | refine Good.foldl ?_ ?_)
    | split
    | (with_reducible first
      | refine Good.snd_of (by assumption) ?_ | refine Good.fst_of (by assumption) ?_ | refine Good.thd_of (by assumption) ?_)
    | dsimp -zeta only
    | with_reducible refine Good.of_mk ?_ rfl rfl rfl rfl rfl rfl rfl rfl rfl rfl rfl rfl rfl

theorem State.tickRing_good {s : State} {due : Nat} {ran : Bool} (hg : Good cs s) : Good cs (State.tickRing s due
    ran).1 := by
  unfold State.tickRing
  repeat' first
    | (with_reducible first
      | assumption | refine State.missRing_good ?_ | refine State.consumeRing_good ?_ | refine State.bumpBy_good ?_
      | refine State.endRing_good ?_ | refine State.execCommit_good ?_ | refine Good.ite ?_ ?_
      | refine Good.foldl ?_ ?_)
    | intro _
    | (extract_lets +onlyGivenNames x; refine Good.cut (t := x) ?_ ?_; unfold x; rotate_left; intro _; clear_value x)
    | extract_lets +onlyGivenNames x
    | split

theorem State.tickGates_good {s : State} (hg : Good cs s) : Good cs (State.tickGates s) := by
  unfold State.tickGates
  repeat' first
    | (with_reducible first
      | assumption | refine Good.ite ?_ ?_ | refine Good.foldl ?_ ?_)
    | intro _
    | extract_lets +onlyGivenNames x
    | with_reducible refine Good.of_mk ?_ rfl rfl rfl rfl rfl rfl rfl rfl rfl rfl rfl rfl rfl

theorem State.fetchRun_good {s : State} {e : Nat} (hg : Good cs s) : Good cs (State.fetchRun s e) := by
  unfold State.fetchRun
  repeat' first
    | (with_reducible first
      | assumption | refine State.checked_good ?_ | refine State.countEcc_good ?_ | refine State.setLane_good ?_
      | refine State.raise_good ?_ | refine Good.ite ?_ ?_ | refine Good.foldl ?_ ?_)
    | split
    | (with_reducible first
      | refine Good.snd_of (by assumption) ?_ | refine Good.fst_of (by assumption) ?_ | refine Good.thd_of (by assumption) ?_)
    | dsimp -zeta only
    | with_reducible refine Good.of_mk ?_ rfl rfl rfl rfl rfl rfl rfl rfl rfl rfl rfl rfl rfl

theorem State.enterAcquire_good {s : State} {e : Nat} {c : Nat} {en : BitVec 128} (hg : Good cs s) : Good cs
    (State.enterAcquire s e c en) := by
  unfold State.enterAcquire
  repeat' first
    | (with_reducible first
      | assumption | refine State.takeTerms_good ?_ | refine State.setContext_good ?_ | refine State.eoEdge_good ?_
      | refine State.moveLane_good ?_ | refine Good.ite ?_ ?_ | refine Good.foldl ?_ ?_)
    | intro _
    | extract_lets +onlyGivenNames x
    | with_reducible refine Good.of_mk ?_ rfl rfl rfl rfl rfl rfl rfl rfl rfl rfl rfl rfl rfl

theorem State.tickRun_good {s : State} {e : Nat} (hg : Good cs s) : Good cs (State.tickRun s e) := by
  unfold State.tickRun
  repeat' first
    | (with_reducible first
      | assumption | refine State.moveLane_good ?_ | refine State.setLane_good ?_ | refine State.enterAcquire_good ?_
      | refine Good.ite ?_ ?_ | refine Good.foldl ?_ ?_)
    | split
    | (with_reducible first
      | refine Good.snd_of (by assumption) ?_ | refine Good.fst_of (by assumption) ?_ | refine Good.thd_of (by assumption) ?_)
    | dsimp -zeta only
    | with_reducible refine Good.of_mk ?_ rfl rfl rfl rfl rfl rfl rfl rfl rfl rfl rfl rfl rfl

theorem State.tickCoast_good {s : State} {e : Nat} (hg : Good cs s) : Good cs (State.tickCoast s e) := by
  unfold State.tickCoast
  repeat' with_reducible first
    | assumption | refine State.setLane_good ?_ | refine State.coastLane_good ?_ | refine Good.ite ?_ ?_

theorem State.firstSlice_good {s : State} {e : Nat} (hg : Good cs s) : Good cs (State.firstSlice s e) := by
  unfold State.firstSlice
  repeat' with_reducible first
    | assumption | refine State.setLane_good ?_ | refine Good.ite ?_ ?_

theorem State.raiseSat_good {s : State} {e : Nat} (hg : Good cs s) : Good cs (State.raiseSat s e) := by
  unfold State.raiseSat
  repeat' with_reducible first
    | assumption | refine State.raise_good ?_ | refine State.setLane_good ?_ | refine Good.ite ?_ ?_

theorem State.laneWork_good {s : State} {e : Nat} (hg : Good cs s) : Good cs (State.laneWork s e) := by
  unfold State.laneWork
  repeat' with_reducible first
    | assumption | refine State.setLane_good ?_ | refine Good.ite ?_ ?_

theorem State.discardStage_good {s : State} (hg : Good cs s) : Good cs (State.discardStage s) := by
  unfold State.discardStage
  repeat' first
    | (with_reducible first
      | assumption | refine State.mapLanes_good ?_ | refine Good.ite ?_ ?_ | refine Good.foldl ?_ ?_)
    | intro _
    | (extract_lets +onlyGivenNames x; refine Good.cut (t := x) ?_ ?_; unfold x; rotate_left; intro _; clear_value x)
    | extract_lets +onlyGivenNames x
    | with_reducible refine Good.of_mk ?_ rfl rfl rfl rfl rfl rfl rfl rfl rfl rfl rfl rfl rfl

theorem State.toStage_good {s : State} {stage : Nat} {step : Nat} (hg : Good cs s) : Good cs (State.toStage s stage
    step) := by
  unfold State.toStage
  repeat' first
    | (with_reducible first
      | assumption | refine State.set_good ?_ | refine State.discardStage_good ?_ | refine Good.ite ?_ ?_
      | refine Good.foldl ?_ ?_)
    | intro _
    | (extract_lets +onlyGivenNames x; refine Good.cut (t := x) ?_ ?_; unfold x; rotate_left; intro _; clear_value x)
    | extract_lets +onlyGivenNames x
    | with_reducible refine Good.of_mk ?_ rfl rfl rfl rfl rfl rfl rfl rfl rfl rfl rfl rfl rfl

theorem State.stopSurvey_good {s : State} (hg : Good cs s) : Good cs (State.stopSurvey s) := by
  unfold State.stopSurvey
  repeat' with_reducible first
    | assumption | refine State.toStage_good ?_ | refine State.abandonCal_good ?_ | refine Good.ite ?_ ?_

theorem State.suspendSurvey_good {s : State} (hg : Good cs s) : Good cs (State.suspendSurvey s) := by
  unfold State.suspendSurvey
  repeat' with_reducible first
    | assumption | refine State.discardStage_good ?_ | refine State.bump_good ?_ | refine State.set_good ?_
    | refine Good.ite ?_ ?_

theorem State.tickSurvey_good {s : State} (hg : Good cs s) : Good cs (State.tickSurvey s) := by
  unfold State.tickSurvey
  repeat' first
    | (with_reducible first
      | assumption | refine State.suspendSurvey_good ?_ | refine State.stopSurvey_good ?_ | refine Good.ite ?_ ?_
      | refine Good.foldl ?_ ?_)
    | intro _
    | extract_lets +onlyGivenNames x
    | with_reducible refine Good.of_mk ?_ rfl rfl rfl rfl rfl rfl rfl rfl rfl rfl rfl rfl rfl

theorem State.beginFrame_good {s : State} {num : Nat} (hg : Good cs s) : Good cs (State.beginFrame s num) := by
  unfold State.beginFrame
  repeat' first
    | (with_reducible first
      | assumption | refine Good.ite ?_ ?_ | refine Good.foldl ?_ ?_)
    | intro _
    | extract_lets +onlyGivenNames x
    | with_reducible refine Good.of_mk ?_ rfl rfl rfl rfl rfl rfl rfl rfl rfl rfl rfl rfl rfl

theorem State.tickCal_good {s : State} (hg : Good cs s) : Good cs (State.tickCal s) := by
  unfold State.tickCal
  repeat' first
    | (with_reducible first
      | assumption | refine State.setMon_good ?_ | refine State.wr_good ?_ | refine Good.ite ?_ ?_
      | refine Good.foldl ?_ ?_)
    | intro _
    | (extract_lets +onlyGivenNames x; refine Good.cut (t := x) ?_ ?_; unfold x; rotate_left; intro _; clear_value x)
    | extract_lets +onlyGivenNames x
    | with_reducible refine Good.of_mk ?_ rfl rfl rfl rfl rfl rfl rfl rfl rfl rfl rfl rfl rfl

theorem State.tickCommits_good {s : State} (hg : Good cs s) : Good cs (State.tickCommits s).1 := by
  unfold State.tickCommits
  repeat' first
    | (with_reducible first
      | assumption | refine State.tickShadow_good ?_ | refine State.tickRing_good ?_
      | refine State.startWaiting_good ?_)

theorem State.laneError_good {x : State × List Report} {e : LaneErr} (hg : Good cs x.1) :
    Good cs (State.laneError x e).1 := by
  unfold State.laneError
  split
  rename_i s rs
  extract_lets +onlyGivenNames i
  split
  rename_i o y heq
  have hy : Good cs y := Good.snd_of heq (State.checked_good hg)
  clear heq
  exact Good.iteFst (Good.fst_mk (State.faultLane_good (State.bump_good hy))) (Good.fst_mk (State.bump_good hy))

theorem State.frameHead_good {s : State} {errs : FrameErrs} (hg : Good cs s) : Good cs (s.frameHead errs) := by
  unfold State.frameHead
  extract_lets x1 x2
  have h1 : Good cs x1 := State.tickGates_good (State.retunePorts_good (State.tickCal_good hg))
  have h2 : Good cs x2 := State.eachLane_good h1 fun _ _ h => State.tickHeater_good h
  clear_value x2
  split
  rename_i y r1 heq
  have hy : Good cs y := Good.fst_of heq (Good.foldlFst h2 fun _ _ h => State.laneError_good h)
  clear heq
  extract_lets x4 x5 x6 x7
  have h4 : Good cs x4 := State.eachLane_good hy fun _ _ h => State.tickEo_good h
  have h5 : Good cs x5 := State.eachLane_good h4 fun _ _ h => Good.ite (State.settleLane_good h) h
  have h6 : Good cs x6 := State.eachLane_good (State.eachLane_good h5 fun _ _ h => State.tickCmd_good h) fun _ _ h =>
    State.spendCmd_good h
  have h7 : Good cs x7 := State.eachLane_good h6 fun _ _ h => State.tickHop_good h
  clear_value x7
  split
  rename_i z r2 heq
  have hz : Good cs z := Good.fst_of heq (State.tickCommits_good h7)
  clear heq
  extract_lets x8 x9 rst x10
  have h8 : Good cs x8 := State.eachLane_good (State.eachLane_good hz fun _ _ h => State.tickRun_good h) fun _ _ h =>
    State.tickCoast_good h
  have h9 : Good cs x9 := State.eachLane_good h8 fun _ _ h => Good.ite (State.decideLane_good h) h
  have h10 : Good cs x10 := { h9 with }
  clear_value x10
  exact Good.ite h10 (State.report_good h10)

theorem State.frameWork_good {s : State} (hg : Good cs s) : Good cs (State.frameWork s) := by
  unfold State.frameWork
  repeat' first
    | (with_reducible first
      | assumption | refine State.mapLanes_good ?_ | refine State.eachLane_good ?_ ?_
      | refine State.firstSlice_good ?_ | refine State.tickSurvey_good ?_ | refine State.feedForward_good ?_
      | refine State.showActivity_good ?_ | refine State.postLanes_good ?_ | refine State.laneWork_good ?_
      | refine Good.ite ?_ ?_ | refine Good.foldl ?_ ?_)
    | intro _

theorem State.tickResume_good {s : State} (hg : Good cs s) : Good cs (State.tickResume s) := by
  unfold State.tickResume
  repeat' first
    | (with_reducible first
      | assumption | refine State.set_good ?_ | refine Good.ite ?_ ?_ | refine Good.foldl ?_ ?_)
    | intro _
    | (extract_lets +onlyGivenNames x; refine Good.cut (t := x) ?_ ?_; unfold x; rotate_left; intro _; clear_value x)
    | extract_lets +onlyGivenNames x
    | with_reducible refine Good.of_mk ?_ rfl rfl rfl rfl rfl rfl rfl rfl rfl rfl rfl rfl rfl

theorem State.noteTide_good {s : State} {xs : List LaneEcc} (hg : Good cs s) : Good cs (State.noteTide s xs) := by
  unfold State.noteTide
  exact Good.of_mk hg rfl rfl rfl rfl rfl rfl rfl rfl rfl rfl rfl rfl rfl

theorem State.nextTick_good {s : State} {errs : FrameErrs} (hg : Good cs s) : Good cs (State.nextTick s errs) := by
  unfold State.nextTick
  repeat' first
    | (with_reducible first
      | assumption | refine State.eachLane_good ?_ ?_ | refine State.fetchRun_good ?_
      | refine State.beginFrame_good ?_ | refine State.mapLanes_good ?_ | refine State.setTime_good ?_
      | refine State.stepTime_good ?_ | refine State.tickExchange_good ?_ | refine State.sendMark_good ?_
      | refine State.frameWork_good ?_ | refine State.frameHead_good ?_ | refine State.tickResume_good ?_
      | refine State.noteTide_good ?_ | refine Good.ite ?_ ?_ | refine Good.foldl ?_ ?_)
    | intro _
    | extract_lets +onlyGivenNames x
    | split

theorem State.overrun_good {s : State} {t : Nat} (hg : Good cs s) : Good cs (State.overrun s t) := by
  unfold State.overrun
  repeat' first
    | (with_reducible first
      | assumption | refine State.bump_good ?_ | refine State.mapLanes_good ?_ | refine State.raise_good ?_
      | refine Good.ite ?_ ?_ | refine Good.foldl ?_ ?_)
    | intro _
    | extract_lets +onlyGivenNames x
    | with_reducible refine Good.of_mk ?_ rfl rfl rfl rfl rfl rfl rfl rfl rfl rfl rfl rfl rfl

theorem State.enforceChange_good {s : State} {k : Nat} (hg : Good cs s) : Good cs (State.enforceChange s k) := by
  unfold State.enforceChange
  repeat' first
    | (with_reducible first
      | assumption | refine State.setLane_good ?_ | refine State.seeNeighbours_good ?_ | refine State.enforce_good ?_
      | refine Good.ite ?_ ?_ | refine Good.foldl ?_ ?_)
    | split
    | (with_reducible first
      | refine Good.snd_of (by assumption) ?_ | refine Good.fst_of (by assumption) ?_ | refine Good.thd_of (by assumption) ?_)
    | dsimp -zeta only
    | with_reducible refine Good.of_mk ?_ rfl rfl rfl rfl rfl rfl rfl rfl rfl rfl rfl rfl rfl

theorem State.newWindow_good {s : State} (hg : Good cs s) : Good cs s.newWindow := by
  unfold State.newWindow
  extract_lets +onlyGivenNames w x y
  refine Good.ite ?_ hg
  have h : Good cs y := State.mapLanes_good (State.set_good (State.set_good (State.set_good hg)))
  exact { h with mons := Table.wf_mapVals _ h.mons }

theorem State.slackWindow_good {s : State} {late : List Nat} (hg : Good cs s) : Good cs (State.slackWindow s late) := by
  unfold State.slackWindow
  repeat' first
    | (with_reducible first
      | assumption | refine State.atTc_good ?_ | refine State.overrun_good ?_ | refine State.eachLane_good ?_ ?_
      | refine State.raiseSat_good ?_ | refine State.gateStops_good ?_ | refine State.newWindow_good ?_
      | refine State.enforceChange_good ?_ | refine Good.ite ?_ ?_ | refine Good.foldl ?_ ?_)
    | intro _
    | extract_lets +onlyGivenNames x
    | with_reducible refine Good.of_mk ?_ rfl rfl rfl rfl rfl rfl rfl rfl rfl rfl rfl rfl rfl

theorem State.accumulateAll_good {s : State} {m : Nat} {n : Nat} {x : Nat} (hg : Good cs s) : Good cs (State.accumulateAll
    s m n x) := by
  unfold State.accumulateAll
  repeat' with_reducible first
    | assumption | refine State.mapLanes_good ?_

theorem State.setRange_good {s : State} {m : Nat} {r : Nat} (hg : Good cs s) : Good cs (State.setRange s m r) := by
  unfold State.setRange
  repeat' with_reducible first
    | assumption | refine State.bumpAt_good ?_ | refine State.wr_good ?_ | refine Good.ite ?_ ?_

theorem State.closeMon_good {s : State} {m : Nat} (hg : Good cs s) : Good cs (State.closeMon s m) := by
  unfold State.closeMon
  repeat' with_reducible first
    | assumption | refine State.wr_good ?_ | refine State.setRange_good ?_ | refine State.setMon_good ?_
    | refine Good.ite ?_ ?_

theorem State.monitorSample_good {s : State} {m : Nat} {k : Nat} {code : Nat} (hg : Good cs s) : Good cs
    (State.monitorSample s m k code) := by
  unfold State.monitorSample
  repeat' with_reducible first
    | assumption | refine State.atTc_good ?_ | refine State.accumulateAll_good ?_ | refine State.setMon_good ?_
    | refine State.closeMon_good ?_ | refine Good.ite ?_ ?_

theorem State.pilotUpdate_good {s : State} {k : Nat} (hg : Good cs s) : Good cs (State.pilotUpdate s k) := by
  unfold State.pilotUpdate
  repeat' with_reducible first
    | assumption | refine State.atTc_good ?_ | refine State.mapLanes_good ?_

/-! Operations of Sys2Proof/Machine/LaneEvents.lean. -/

theorem State.fetchEntry_good {s : State} {e : Nat} {ecc : EccOutcome} (hg : Good cs s) : Good cs (State.fetchEntry s
    e ecc) := by
  unfold State.fetchEntry
  repeat' with_reducible first
    | assumption | refine State.demandWake_good ?_ | refine State.setLane_good ?_

theorem State.deferCmd_good {s : State} {e : Nat} {v : Word} {g : LState} (hg : Good cs s) : Good cs (State.deferCmd s
    e v g).2 := by
  unfold State.deferCmd
  repeat' with_reducible first
    | assumption | refine State.setLane_good ?_ | refine State.defer_good ?_

theorem State.takeCmd_good {s : State} {e : Nat} {v : Word} {g : LState} (hg : Good cs s) : Good cs (State.takeCmd s e
    v g).2 := by
  unfold State.takeCmd
  repeat' with_reducible first
    | assumption | refine State.setWord_good ?_ | refine State.setLane_good ?_

theorem State.cmdOff_good {s : State} {e : Nat} {v : Word} (hg : Good cs s) : Good cs (State.cmdOff s e v).2 := by
  unfold State.cmdOff
  repeat' first
    | (with_reducible first
      | assumption | refine State.deferCmd_good ?_ | refine Good.ite ?_ ?_ | refine Good.foldl ?_ ?_)
    | intro _
    | extract_lets +onlyGivenNames x
    | split

theorem State.cmdPark_good {s : State} {e : Nat} {v : Word} (hg : Good cs s) : Good cs (State.cmdPark s e v).2 := by
  unfold State.cmdPark
  repeat' first
    | (with_reducible first
      | assumption | refine State.deferCmd_good ?_ | refine State.takeCmd_good ?_ | refine Good.ite ?_ ?_
      | refine Good.foldl ?_ ?_)
    | intro _
    | extract_lets +onlyGivenNames x
    | split

theorem State.cmdRun_good {s : State} {e : Nat} {v : Word} {ecc : EccOutcome} (hg : Good cs s) : Good cs (State.cmdRun
    s e v ecc).2 := by
  unfold State.cmdRun
  repeat' first
    | (with_reducible first
      | assumption | refine State.deferCmd_good ?_ | refine State.fetchEntry_good ?_ | refine State.takeCmd_good ?_
      | refine Good.ite ?_ ?_ | refine Good.foldl ?_ ?_)
    | intro _
    | extract_lets +onlyGivenNames x
    | split

theorem State.cmdCoast_good {s : State} {e : Nat} {v : Word} (hg : Good cs s) : Good cs (State.cmdCoast s e v).2 := by
  unfold State.cmdCoast
  repeat' first
    | (with_reducible first
      | assumption | refine State.takeCmd_good ?_ | refine Good.ite ?_ ?_ | refine Good.foldl ?_ ?_)
    | intro _
    | extract_lets +onlyGivenNames x
    | split

theorem State.cmdResume_good {s : State} {e : Nat} {v : Word} (hg : Good cs s) : Good cs (State.cmdResume s e v).2 := by
  unfold State.cmdResume
  repeat' first
    | (with_reducible first
      | assumption | refine State.setWord_good ?_ | refine State.setLane_good ?_ | refine Good.ite ?_ ?_
      | refine Good.foldl ?_ ?_)
    | intro _
    | extract_lets +onlyGivenNames x
    | split

theorem State.cmdClear_good {s : State} {e : Nat} {v : Word} (hg : Good cs s) : Good cs (State.cmdClear s e v).2 := by
  unfold State.cmdClear
  repeat' first
    | (with_reducible first
      | assumption | refine State.takeCmd_good ?_ | refine State.setLane_good ?_ | refine Good.ite ?_ ?_
      | refine Good.foldl ?_ ?_)
    | intro _
    | extract_lets +onlyGivenNames x
    | split

theorem State.wLpCmd_good {s : State} {e : Nat} {v : Word} {ecc : EccOutcome} (hg : Good cs s) : Good cs (State.wLpCmd
    s e v ecc).2 := by
  unfold State.wLpCmd
  repeat' first
    | (with_reducible first
      | assumption | refine State.cmdOff_good ?_ | refine State.cmdPark_good ?_ | refine State.cmdRun_good ?_
      | refine State.cmdCoast_good ?_ | refine State.cmdResume_good ?_ | refine State.cmdClear_good ?_
      | refine Good.ite ?_ ?_ | refine Good.foldl ?_ ?_)
    | intro _
    | extract_lets +onlyGivenNames x
    | split

theorem State.wLpMon_good {s : State} {e : Nat} {v : Word} (hg : Good cs s) : Good cs (State.wLpMon s e v).2 := by
  unfold State.wLpMon
  repeat' first
    | (with_reducible first
      | assumption | refine State.defer_good ?_ | refine Good.ite ?_ ?_ | refine Good.foldl ?_ ?_)
    | intro _
    | extract_lets +onlyGivenNames x
    | split

theorem State.wLpWindow_good {s : State} {v : Word} (hg : Good cs s) : Good cs (State.wLpWindow s v).2 := by
  unfold State.wLpWindow
  repeat' first
    | (with_reducible first
      | assumption | refine State.set_good ?_ | refine Good.ite ?_ ?_ | refine Good.foldl ?_ ?_)
    | intro _
    | extract_lets +onlyGivenNames x
    | split

theorem State.wLpSetpoint_good {s : State} {e : Nat} {v : Word} (hg : Good cs s) : Good cs (State.wLpSetpoint s e v).2
    := by
  unfold State.wLpSetpoint
  repeat' first
    | (with_reducible first
      | assumption | refine State.setWord_good ?_ | refine Good.ite ?_ ?_ | refine Good.foldl ?_ ?_)
    | split

theorem State.wLpEoCode_good {s : State} {e : Nat} {v : Word} (hg : Good cs s) : Good cs (State.wLpEoCode s e v).2 := by
  unfold State.wLpEoCode
  repeat' first
    | (with_reducible first
      | assumption | refine State.setLane_good ?_ | refine Good.ite ?_ ?_ | refine Good.foldl ?_ ?_)
    | split

theorem State.wLpParkCode_good {s : State} {e : Nat} {v : Word} (hg : Good cs s) : Good cs (State.wLpParkCode s e v).2
    := by
  unfold State.wLpParkCode
  repeat' with_reducible first
    | assumption | refine State.setWord_good ?_ | refine State.setLane_good ?_ | refine Good.ite ?_ ?_

theorem State.wLpHtrLimit_good {s : State} {e : Nat} {v : Word} (hg : Good cs s) : Good cs (State.wLpHtrLimit s e v).2
    := by
  unfold State.wLpHtrLimit
  repeat' first
    | (with_reducible first
      | assumption | refine State.setWord_good ?_ | refine Good.ite ?_ ?_ | refine Good.foldl ?_ ?_)
    | split

theorem State.wLpPilot_good {s : State} {e : Nat} {v : Word} (hg : Good cs s) : Good cs (State.wLpPilot s e v).2 := by
  unfold State.wLpPilot
  repeat' first
    | (with_reducible first
      | assumption | refine State.defer_good ?_ | refine Good.ite ?_ ?_ | refine Good.foldl ?_ ?_)
    | split

theorem State.wLpGlobal_good {s : State} {index : Nat} {sub : Nat} {v : Word} (hg : Good cs s) : Good cs
    (State.wLpGlobal s index sub v).2 := by
  unfold State.wLpGlobal
  repeat' first
    | (with_reducible first
      | assumption | refine State.setWord_good ?_ | refine Good.ite ?_ ?_ | refine Good.foldl ?_ ?_)
    | intro _
    | extract_lets +onlyGivenNames x
    | split

theorem State.resumeLane_good {s : State} {e : Nat} (hg : Good cs s) : Good cs (State.resumeLane s e) := by
  unfold State.resumeLane
  repeat' with_reducible first
    | assumption | refine State.moveLane_good ?_ | refine Good.ite ?_ ?_

theorem State.rampIdle_good {s : State} {e : Nat} (hg : Good cs s) : Good cs (State.rampIdle s e) := by
  unfold State.rampIdle
  repeat' with_reducible first
    | assumption | refine State.setLane_good ?_ | refine Good.ite ?_ ?_

theorem State.fixedRange_good {s : State} {m : Nat} (hg : Good cs s) : Good cs (State.fixedRange s m) := by
  unfold State.fixedRange
  repeat' with_reducible first
    | assumption | refine State.setRange_good ?_ | refine Good.ite ?_ ?_

theorem State.heaterMeasure_good {s : State} {e : Nat} {ua : Nat} (hg : Good cs s) : Good cs (State.heaterMeasure s e
    ua) := by
  unfold State.heaterMeasure
  repeat' with_reducible first
    | assumption | refine State.setLane_good ?_ | refine State.raise_good ?_ | refine State.faultLane_good ?_
    | refine Good.ite ?_ ?_

theorem State.eoFault_good {s : State} {e : Nat} (hg : Good cs s) : Good cs (State.eoFault s e) := by
  unfold State.eoFault
  repeat' with_reducible first
    | assumption | refine State.raise_good ?_ | refine State.faultLane_good ?_ | refine Good.ite ?_ ?_

theorem State.learnEnd_good {s : State} {e : Nat} (hg : Good cs s) : Good cs (State.learnEnd s e) := by
  unfold State.learnEnd
  repeat' first
    | (with_reducible first
      | assumption | refine State.setLane_good ?_ | refine Good.ite ?_ ?_ | refine Good.foldl ?_ ?_)
    | split

theorem State.bumpGen_good {s : State} (hg : Good cs s) : Good cs (State.bumpGen s) := by
  unfold State.bumpGen
  repeat' with_reducible first
    | assumption | refine State.set_good ?_

theorem State.learnedWrite_good {s : State} {e : Nat} (hg : Good cs s) : Good cs (State.learnedWrite s e) := by
  unfold State.learnedWrite
  repeat' first
    | (with_reducible first
      | assumption | refine State.writeEntry_good ?_ | refine State.setLane_good ?_ | refine State.bumpGen_good ?_
      | refine State.bump_good ?_ | refine Good.ite ?_ ?_ | refine Good.foldl ?_ ?_)
    | split
    | (with_reducible first
      | refine Good.snd_of (by assumption) ?_ | refine Good.fst_of (by assumption) ?_ | refine Good.thd_of (by assumption) ?_)
    | dsimp -zeta only
    | with_reducible refine Good.of_mk ?_ rfl rfl rfl rfl rfl rfl rfl rfl rfl rfl rfl rfl rfl

theorem State.unlearn_good {s : State} {i : Nat} (hg : Good cs s) : Good cs (State.unlearn s i) := by
  unfold State.unlearn
  repeat' with_reducible first
    | assumption | refine State.setLane_good ?_ | refine Good.ite ?_ ?_

/-! Operations of Sys2Proof/Machine/CommitEvents.lean. -/

theorem State.armGo_good {s : State} {trig force : Bool} (hg : Good cs s) : Good cs (s.armGo trig force).2 := by
  unfold State.armGo
  extract_lets +onlyGivenNames f
  split
  · exact hg
  split
  · exact hg
  split
  · exact hg
  exact State.armWakes_good { (State.set_good hg : Good cs (s.set CM_ARMED_STATE 1)) with tide := hg.tide }

theorem State.armDisarm_good {s : State} (hg : Good cs s) : Good cs (State.armDisarm s).2 := by
  unfold State.armDisarm
  repeat' first
    | (with_reducible first
      | assumption | refine State.startWaiting_good ?_ | refine State.bump_good ?_ | refine State.endShadow_good ?_
      | refine Good.ite ?_ ?_ | refine Good.foldl ?_ ?_)
    | split

theorem State.shadowSync_good {s : State} (hg : Good cs s) : Good cs (State.shadowSync s).2 := by
  unfold State.shadowSync
  repeat' with_reducible first
    | assumption | refine State.setMask_good ?_

theorem State.wCmArm_good {s : State} {v : Word} (hg : Good cs s) : Good cs (State.wCmArm s v).2 := by
  unfold State.wCmArm
  repeat' first
    | (with_reducible first
      | assumption | refine State.armGo_good ?_ | refine State.armDisarm_good ?_ | refine State.shadowSync_good ?_
      | refine Good.ite ?_ ?_ | refine Good.foldl ?_ ?_)
    | split

theorem State.armEcc_good {s : State} {a : Arm} {xs : List LaneEcc} (hg : Good cs s) : Good cs (State.armEcc s a
    xs).1 := by
  unfold State.armEcc
  repeat' first
    | (with_reducible first
      | assumption | refine State.checkedLanes_good ?_ | refine State.countEcc_good ?_ | refine State.raise_good ?_
      | refine Good.ite ?_ ?_ | refine Good.foldl ?_ ?_)
    | intro _

theorem State.shadowArmed_good {s : State} {a : Arm} {xs : List LaneEcc} (hg : Good cs s) : Good cs (s.shadowArmed a xs) := by
  unfold State.shadowArmed
  extract_lets x
  have hx : Good cs x := State.set_good (State.set_good hg)
  clear_value x
  split
  rename_i y b heq
  have hy : Good cs y := Good.fst_of heq (State.armEcc_good hx)
  exact State.startWaiting_good (Good.ite { hy with } hy)

theorem State.ringArmed_good {s : State} {a : Arm} {xs : List LaneEcc} (hg : Good cs s) : Good cs (State.ringArmed s
    a xs) := by
  unfold State.ringArmed
  repeat' first
    | (with_reducible first
      | assumption | refine State.set_good ?_ | refine State.armEcc_good ?_ | refine State.startWaiting_good ?_
      | refine Good.ite ?_ ?_ | refine Good.foldl ?_ ?_)
    | intro _
    | extract_lets +onlyGivenNames x
    | with_reducible refine Good.of_mk ?_ rfl rfl rfl rfl rfl rfl rfl rfl rfl rfl rfl rfl rfl

theorem State.armComplete_good {s : State} {xs : List LaneEcc} (hg : Good cs s) : Good cs (State.armComplete s xs)
    := by
  unfold State.armComplete
  repeat' first
    | (with_reducible first
      | assumption | refine State.shadowArmed_good ?_ | refine State.ringArmed_good ?_ | refine Good.ite ?_ ?_
      | refine Good.foldl ?_ ?_)
    | split

theorem State.ringArmStart_good {s : State} (hg : Good cs s) : Good cs (State.ringArmStart s) := by
  unfold State.ringArmStart
  repeat' first
    | (with_reducible first
      | assumption | refine State.set_good ?_ | refine State.armWakes_good ?_ | refine Good.ite ?_ ?_
      | refine Good.foldl ?_ ?_)
    | split
    | (with_reducible first
      | refine Good.snd_of (by assumption) ?_ | refine Good.fst_of (by assumption) ?_ | refine Good.thd_of (by assumption) ?_)
    | dsimp -zeta only
    | with_reducible refine Good.of_mk ?_ rfl rfl rfl rfl rfl rfl rfl rfl rfl rfl rfl rfl rfl

theorem State.trigEdge_good {s : State} (hg : Good cs s) : Good cs (State.trigEdge s) := by
  unfold State.trigEdge
  repeat' first
    | (with_reducible first
      | assumption | refine State.execCommit_good ?_ | refine State.markBasis_good ?_ | refine State.bump_good ?_
      | refine Good.ite ?_ ?_ | refine Good.foldl ?_ ?_)
    | split
    | (with_reducible first
      | refine Good.snd_of (by assumption) ?_ | refine Good.fst_of (by assumption) ?_ | refine Good.thd_of (by assumption) ?_)
    | dsimp -zeta only
    | with_reducible refine Good.of_mk ?_ rfl rfl rfl rfl rfl rfl rfl rfl rfl rfl rfl rfl rfl

theorem State.wSrPush_good {s : State} {v : Word} (hg : Good cs s) : Good cs (State.wSrPush s v).2 := by
  unfold State.wSrPush
  repeat' first
    | (with_reducible first
      | assumption | refine State.setRing_good ?_ | refine Good.ite ?_ ?_ | refine Good.foldl ?_ ?_)
    | intro _
    | extract_lets +onlyGivenNames x
    | split

theorem State.wSrFlush_good {s : State} {e : Nat} {v : Word} (hg : Good cs s) : Good cs (State.wSrFlush s e v).2 := by
  unfold State.wSrFlush
  repeat' with_reducible first
    | assumption | refine State.setRing_good ?_ | refine Good.ite ?_ ?_

theorem State.wSrFlushAll_good {s : State} {v : Word} (hg : Good cs s) : Good cs (State.wSrFlushAll s v).2 := by
  unfold State.wSrFlushAll
  repeat' first
    | (with_reducible first
      | assumption | refine Good.ite ?_ ?_ | refine Good.foldl ?_ ?_)
    | intro _
    | extract_lets +onlyGivenNames x
    | with_reducible refine Good.of_mk ?_ rfl rfl rfl rfl rfl rfl rfl rfl rfl rfl rfl rfl rfl

theorem State.windowDone_good {s : State} {i : Nat} {ecc : Nat} (hg : Good cs s) : Good cs (State.windowDone s i ecc) :=
    by
  unfold State.windowDone
  repeat' with_reducible first
    | assumption | refine State.set_good ?_ | refine Good.ite ?_ ?_

theorem State.windowRead_good {s : State} {ecc : EccOutcome} (hg : Good cs s) : Good cs (s.windowRead ecc).2 := by
  unfold State.windowRead
  extract_lets +onlyGivenNames i
  split
  rename_i o y heq
  have hy : Good cs y := Good.snd_of heq (State.checked_good hg)
  clear heq
  extract_lets +onlyGivenNames z
  have hz : Good cs z := State.countEcc_good hy
  clear_value z
  split
  · exact State.raise_good (State.windowDone_good (State.each_good hz fun _ _ h => State.setWord_good (State.free_good h)))
  · exact State.windowDone_good (State.setMask_good hz)
  · exact State.windowDone_good (State.setMask_good hz)

theorem State.windowWrite_good {s : State} (hg : Good cs s) : Good cs (State.windowWrite s).2 := by
  unfold State.windowWrite
  repeat' first
    | (with_reducible first
      | assumption | refine State.windowDone_good ?_ | refine State.unlearn_good ?_ | refine State.bumpGen_good ?_
      | refine State.writeEntry_good ?_ | refine Good.ite ?_ ?_ | refine Good.foldl ?_ ?_)
    | split

theorem State.wTtWinCmd_good {s : State} {v : Word} {ecc : EccOutcome} (hg : Good cs s) : Good cs (State.wTtWinCmd s
    v ecc).2 := by
  unfold State.wTtWinCmd
  repeat' first
    | (with_reducible first
      | assumption | refine State.windowWrite_good ?_ | refine State.windowRead_good ?_ | refine Good.ite ?_ ?_
      | refine Good.foldl ?_ ?_)
    | split

theorem State.wTtNeigh_good {s : State} {index : Nat} {e : Nat} {v : Word} (hg : Good cs s) : Good cs (State.wTtNeigh s
    index e v).2 := by
  unfold State.wTtNeigh
  repeat' first
    | (with_reducible first
      | assumption | refine State.defer_good ?_ | refine Good.ite ?_ ?_ | refine Good.foldl ?_ ?_)
    | intro _
    | extract_lets +onlyGivenNames x
    | split

theorem State.wXt_good {s : State} {index : Nat} {sub : Nat} {v : Word} (hg : Good cs s) : Good cs (State.wXt s index
    sub v).2 := by
  unfold State.wXt
  repeat' first
    | (with_reducible first
      | assumption | refine State.defer_good ?_ | refine Good.ite ?_ ?_ | refine Good.foldl ?_ ?_)
    | split

/-! Operations of Sys2Proof/Machine/Evidence.lean. -/

theorem State.turnKey_good {s : State} (hg : Good cs s) : Good cs (State.turnKey s) := by
  unfold State.turnKey
  repeat' first
    | (with_reducible first
      | assumption | refine State.set_good ?_ | refine Good.ite ?_ ?_ | refine Good.foldl ?_ ?_)
    | split
    | (with_reducible first
      | refine Good.snd_of (by assumption) ?_ | refine Good.fst_of (by assumption) ?_ | refine Good.thd_of (by assumption) ?_)
    | dsimp -zeta only
    | with_reducible refine Good.of_mk ?_ rfl rfl rfl rfl rfl rfl rfl rfl rfl rfl rfl rfl rfl

theorem State.sealBlock_good {s : State} (hg : Good cs s) : Good cs s.sealBlock := by
  unfold State.sealBlock
  extract_lets +onlyGivenNames tag recs n ev x
  have hx : Good cs x := by
    refine { hg with sealedLe := ?_, sealedNum := ?_ }
    · have := hg.sealedLe
      simp only [x, List.length_append, List.length_cons, List.length_nil, n]
      omega
    · have h1 := hg.sealedLe
      have h2 := hg.sealedNum
      simp only [x, List.map_append, h2, List.map_cons, List.map_nil, List.length_append, List.length_cons, List.length_nil, n]
      rw [show s.ev.num + 1 - (s.ev.sealed.length + (0 + 1)) = s.ev.num - s.ev.sealed.length by omega,
        show s.ev.sealed.length + (0 + 1) = s.ev.sealed.length + 1 by omega, List.range'_1_concat]
      congr 2
      omega
  clear_value x
  extract_lets +onlyGivenNames y z
  have hz : Good cs z := State.turnKey_good (State.set_good (State.bump_good (State.setMask_good (State.put64_good hx))))
  exact Good.ite hz (State.set_good hz)

theorem State.writeSlot_good {s : State} {r : Rec} (hg : Good cs s) : Good cs (State.writeSlot s r) := by
  unfold State.writeSlot
  repeat' first
    | (with_reducible first
      | assumption | refine State.sealBlock_good ?_ | refine Good.ite ?_ ?_ | refine Good.foldl ?_ ?_)
    | intro _
    | extract_lets +onlyGivenNames x
    | with_reducible refine Good.of_mk ?_ rfl rfl rfl rfl rfl rfl rfl rfl rfl rfl rfl rfl rfl

theorem State.writeEvent_good {s : State} {r : Rec} (hg : Good cs s) : Good cs (State.writeEvent s r) := by
  unfold State.writeEvent
  repeat' with_reducible first
    | assumption | refine State.writeSlot_good ?_ | refine State.bump_good ?_

theorem State.startChain_good {s : State} {reason : Nat} (hg : Good cs s) : Good cs (s.startChain reason) := by
  unfold State.startChain
  extract_lets x y
  have hx : Good cs x := State.set_good (State.set_good hg)
  exact State.writeEvent_good { hx with sealedLe := Nat.le_refl 0, sealedNum := rfl }

theorem State.writeKey_good {s : State} {k : BitVec 256} {id : Nat} {time : Nat} {flags : Nat} (hg : Good cs s) : Good cs
    (State.writeKey s k id time flags) := by
  unfold State.writeKey
  repeat' first
    | (with_reducible first
      | assumption | refine State.writeEvent_good ?_ | refine Good.ite ?_ ?_ | refine Good.foldl ?_ ?_)
    | intro _
    | extract_lets +onlyGivenNames x
    | with_reducible refine Good.of_mk ?_ rfl rfl rfl rfl rfl rfl rfl rfl rfl rfl rfl rfl rfl

theorem State.endGaps_good {s : State} (hg : Good cs s) : Good cs (State.endGaps s) := by
  unfold State.endGaps
  repeat' first
    | (with_reducible first
      | assumption | refine Good.ite ?_ ?_ | refine Good.foldl ?_ ?_)
    | intro _
    | extract_lets +onlyGivenNames x
    | with_reducible refine Good.of_mk ?_ rfl rfl rfl rfl rfl rfl rfl rfl rfl rfl rfl rfl rfl

theorem State.writeGap_good {s : State} {g : Gap} (hg : Good cs s) : Good cs (State.writeGap s g) := by
  unfold State.writeGap
  repeat' first
    | (with_reducible first
      | assumption | refine State.writeEvent_good ?_ | refine Good.ite ?_ ?_ | refine Good.foldl ?_ ?_)
    | intro _
    | extract_lets +onlyGivenNames x
    | with_reducible refine Good.of_mk ?_ rfl rfl rfl rfl rfl rfl rfl rfl rfl rfl rfl rfl rfl

theorem State.writeFill_good {s : State} (hg : Good cs s) : Good cs (State.writeFill s) := by
  unfold State.writeFill
  repeat' with_reducible first
    | assumption | refine State.writeSlot_good ?_ | refine State.bump_good ?_

theorem State.postingDelay_good {s : State} {cross : Option Nat} (hg : Good cs s) : Good cs (State.postingDelay s
    cross) := by
  unfold State.postingDelay
  repeat' first
    | (with_reducible first
      | assumption | refine State.raiseTo_good ?_ | refine State.set_good ?_ | refine Good.ite ?_ ?_
      | refine Good.foldl ?_ ?_)
    | split

theorem State.writeFifo_good {s : State} (hg : Good cs s) : Good cs (State.writeFifo s) := by
  unfold State.writeFifo
  repeat' first
    | (with_reducible first
      | assumption | refine State.writeEvent_good ?_ | refine State.postingDelay_good ?_ | refine Good.ite ?_ ?_
      | refine Good.foldl ?_ ?_)
    | split
    | (with_reducible first
      | refine Good.snd_of (by assumption) ?_ | refine Good.fst_of (by assumption) ?_ | refine Good.thd_of (by assumption) ?_)
    | dsimp -zeta only
    | with_reducible refine Good.of_mk ?_ rfl rfl rfl rfl rfl rfl rfl rfl rfl rfl rfl rfl rfl

theorem State.writerCycle_good {s : State} (hg : Good cs s) : Good cs (State.writerCycle s) := by
  unfold State.writerCycle
  repeat' first
    | (with_reducible first
      | assumption | refine State.startChain_good ?_ | refine State.endGaps_good ?_ | refine State.writeKey_good ?_
      | refine State.writeGap_good ?_ | refine State.writeFill_good ?_ | refine State.writeFifo_good ?_
      | refine Good.ite ?_ ?_ | refine Good.foldl ?_ ?_)
    | split
    | (with_reducible first
      | refine Good.snd_of (by assumption) ?_ | refine Good.fst_of (by assumption) ?_ | refine Good.thd_of (by assumption) ?_)
    | dsimp -zeta only
    | with_reducible refine Good.of_mk ?_ rfl rfl rfl rfl rfl rfl rfl rfl rfl rfl rfl rfl rfl

theorem State.sealTimeout_good {s : State} (hg : Good cs s) : Good cs (State.sealTimeout s) := by
  unfold State.sealTimeout
  repeat' with_reducible first
    | assumption | refine State.writerCycle_good ?_ | refine State.set_good ?_ | refine Good.ite ?_ ?_

theorem State.sealNow_good {s : State} (hg : Good cs s) : Good cs (State.sealNow s) := by
  unfold State.sealNow
  repeat' with_reducible first
    | assumption | refine State.set_good ?_ | refine Good.ite ?_ ?_

theorem State.wEvCtrl_good {s : State} {v : Word} (hg : Good cs s) : Good cs (State.wEvCtrl s v).2 := by
  unfold State.wEvCtrl
  repeat' first
    | (with_reducible first
      | assumption | refine State.set_good ?_ | refine State.sealNow_good ?_ | refine Good.ite ?_ ?_
      | refine Good.foldl ?_ ?_)
    | intro _
    | extract_lets +onlyGivenNames x
    | split

theorem State.commitKey_good {s : State} {id : Nat} (hg : Good cs s) : Good cs (s.commitKey id) := by
  unfold State.commitKey
  extract_lets +onlyGivenNames k x
  have hx : Good cs x := State.bump_good (State.setMask_good hg)
  clear_value x
  have key : ∀ t : State, Good cs t → ∀ ev : EvSt, ev.sealed = x.ev.sealed → ev.num = x.ev.num →
      Good cs ({ t with ev := ev } : State) := by
    intro t ht ev e1 e2
    exact { ht with sealedLe := by rw [e1, e2]; exact hx.sealedLe, sealedNum := by rw [e1, e2]; exact hx.sealedNum }
  refine Good.ite ?_ ?_
  · exact key _ (State.set_good hx) _ rfl rfl
  · exact key _ (State.set_good hx) _ rfl rfl

theorem State.wEvKeyCtrl_good {s : State} {v : Word} (hg : Good cs s) : Good cs (s.wEvKeyCtrl v).2 := by
  unfold State.wEvKeyCtrl
  extract_lets id lock
  have hl : ∀ t, Good cs t → Good cs (lock t) := fun t h => Good.ite (State.set_good h) h
  clear_value lock
  exact Good.iteSnd hg (Good.iteSnd (Good.iteSnd hg (hl _ (State.commitKey_good hg))) (Good.iteSnd hg (hl _ hg)))

theorem State.wEvAck_good {s : State} {v : Word} (hg : Good cs s) : Good cs (s.wEvAck v).2 := by
  have key : ∀ (t : State) (n : Nat), Good cs t → Good cs ({ t with ev := { t.ev with sealed := t.ev.sealed.drop n } } : State) := by
    intro t n ht
    refine { ht with sealedLe := ?_, sealedNum := ?_ }
    · have := ht.sealedLe
      simp only [List.length_drop]
      omega
    · have h1 := ht.sealedLe
      have h2 := ht.sealedNum
      simp only [List.map_drop, h2, List.length_drop, List.drop_range', Nat.mul_one, Nat.one_mul]
      by_cases h3 : n ≤ t.ev.sealed.length
      · rw [show t.ev.num - t.ev.sealed.length + n = t.ev.num - (t.ev.sealed.length - n) by omega]
      · rw [show t.ev.sealed.length - n = 0 by omega]; rfl
  unfold State.wEvAck
  extract_lets +onlyGivenNames n
  split
  · exact hg
  · exact key _ n (State.set_good (State.set_good hg))

theorem State.wEvFifo_good {s : State} {v : Word} (hg : Good cs s) : Good cs (State.wEvFifo s v).2 := by
  unfold State.wEvFifo
  repeat' first
    | (with_reducible first
      | assumption | refine State.set_good ?_ | refine Good.ite ?_ ?_ | refine Good.foldl ?_ ?_)
    | split

theorem State.evEcc_good {s : State} {o : EccOutcome} (hg : Good cs s) : Good cs (State.evEcc s o) := by
  unfold State.evEcc
  repeat' first
    | (with_reducible first
      | assumption | refine State.checked_good ?_ | refine State.bump_good ?_ | refine State.raise_good ?_
      | refine State.set_good ?_ | refine Good.ite ?_ ?_ | refine Good.foldl ?_ ?_)
    | split
    | with_reducible refine Good.snd_of (by assumption) ?_

theorem State.loseFifo_good {s : State} (hg : Good cs s) : Good cs (State.loseFifo s) := by
  unfold State.loseFifo
  repeat' first
    | (with_reducible first
      | assumption | refine State.lose_good ?_ | refine Good.ite ?_ ?_ | refine Good.foldl ?_ ?_)
    | intro _
    | (extract_lets +onlyGivenNames x; refine Good.cut (t := x) ?_ ?_; unfold x; rotate_left; intro _; clear_value x)
    | extract_lets +onlyGivenNames x
    | with_reducible refine Good.of_mk ?_ rfl rfl rfl rfl rfl rfl rfl rfl rfl rfl rfl rfl rfl

theorem State.resetLog_good {s : State} {keepKey : Bool} (hg : Good cs s) : Good cs (s.resetLog keepKey) := by
  have key : ∀ t : State, Good cs t → ∀ ev : EvSt, ev.sealed = [] → Good cs ({ t with ev := ev } : State) := by
    intro t ht ev e
    exact { ht with sealedLe := by rw [e]; exact Nat.zero_le _, sealedNum := by rw [e]; rfl }
  unfold State.resetLog
  extract_lets +onlyGivenNames last
  clear_value last
  refine Good.ite ?_ ?_
  · cases last with
    | none => exact key _ hg _ rfl
    | some x => exact key _ (State.set_good hg) _ rfl
  · exact key _ hg _ rfl

end Sys2Proof.Machine
end

