-- ==== Sys2Proof/Laws/GoodClocks.lean ====
section
/-! SUPPORT. Every operation of these parts of the machine keeps the queue and the invariant: the timing loop, the
clock tree, domains, power, performance and modes. -/

namespace Sys2Proof.Machine

variable {cs : List Instr}

/-! Operations of Sys2Proof/Machine/Timing.lean. -/

theorem State.setDiv_good {s : State} {pre : Nat} {ratio : Nat} (hg : Good cs s) : Good cs (State.setDiv s pre ratio) :=
    by
  unfold State.setDiv
  repeat' with_reducible first
    | assumption | refine State.set_good ?_

theorem State.reportTrack_good {s : State} (hg : Good cs s) : Good cs (State.reportTrack s) := by
  unfold State.reportTrack
  repeat' with_reducible first
    | assumption | refine State.setI_good ?_

theorem State.takeBw_good {s : State} (hg : Good cs s) : Good cs (State.takeBw s) := by
  unfold State.takeBw
  repeat' with_reducible first
    | assumption | refine State.set_good ?_

theorem State.dsOff_good {s : State} (hg : Good cs s) : Good cs (State.dsOff s) := by
  unfold State.dsOff
  repeat' first
    | (with_reducible first
      | assumption | refine State.set_good ?_ | refine Good.ite ?_ ?_ | refine Good.foldl ?_ ?_)
    | intro _
    | (extract_lets +onlyGivenNames x; refine Good.cut (t := x) ?_ ?_; unfold x; rotate_left; intro _; clear_value x)
    | extract_lets +onlyGivenNames x
    | with_reducible refine Good.of_mk ?_ rfl rfl rfl rfl rfl rfl rfl rfl rfl rfl rfl rfl rfl

theorem State.fallback_good {s : State} (hg : Good cs s) : Good cs (State.fallback s) := by
  unfold State.fallback
  repeat' first
    | (with_reducible first
      | assumption | refine State.set_good ?_ | refine State.bump_good ?_ | refine Good.ite ?_ ?_
      | refine Good.foldl ?_ ?_)
    | intro _
    | (extract_lets +onlyGivenNames x; refine Good.cut (t := x) ?_ ?_; unfold x; rotate_left; intro _; clear_value x)
    | extract_lets +onlyGivenNames x
    | with_reducible refine Good.of_mk ?_ rfl rfl rfl rfl rfl rfl rfl rfl rfl rfl rfl rfl rfl

theorem State.dropTrack_good {s : State} (hg : Good cs s) : Good cs (State.dropTrack s) := by
  unfold State.dropTrack
  repeat' with_reducible first
    | assumption | refine State.set_good ?_ | refine State.setDiv_good ?_ | refine Good.ite ?_ ?_

theorem State.clearReady_good {s : State} (hg : Good cs s) : Good cs s.clearReady := by
  unfold State.clearReady
  extract_lets +onlyGivenNames was x
  have hx : Good cs x := State.set_good (State.set_good hg)
  clear_value x
  split
  rename_i late y heq
  have hy : Good cs y := by
    split at heq
    · exact Good.snd_of heq (State.freeBit_good hx)
    · cases heq; exact hx
  clear heq
  repeat' first
    | with_reducible assumption
    | with_reducible refine State.bump_good ?_
    | with_reducible refine State.set_good ?_
    | with_reducible refine State.fallback_good ?_
    | with_reducible refine State.stopPorts_good ?_
    | with_reducible refine State.unsetTime_good ?_
    | with_reducible refine State.dsOff_good ?_
    | with_reducible refine State.dropTrack_good ?_
    | with_reducible refine Good.ite ?_ ?_
    | (extract_lets +onlyGivenNames x; refine Good.cut (t := x) ?_ ?_; unfold x; rotate_left; intro _; clear_value x)
    | extract_lets +onlyGivenNames x
    | with_reducible refine Good.of_mk ?_ rfl rfl rfl rfl rfl rfl rfl rfl rfl rfl rfl rfl rfl

theorem State.surveyHoldover_good {s : State} (hg : Good cs s) : Good cs (State.surveyHoldover s) := by
  unfold State.surveyHoldover
  repeat' first
    | (with_reducible first
      | assumption | refine Good.ite ?_ ?_ | refine Good.foldl ?_ ?_)
    | intro _
    | extract_lets +onlyGivenNames x
    | with_reducible refine Good.of_mk ?_ rfl rfl rfl rfl rfl rfl rfl rfl rfl rfl rfl rfl rfl

theorem State.judgeFerr_good {s : State} (hg : Good cs s) : Good cs (State.judgeFerr s) := by
  unfold State.judgeFerr
  repeat' first
    | (with_reducible first
      | assumption | refine State.raise_good ?_ | refine Good.ite ?_ ?_ | refine Good.foldl ?_ ?_)
    | intro _
    | extract_lets +onlyGivenNames x
    | with_reducible refine Good.of_mk ?_ rfl rfl rfl rfl rfl rfl rfl rfl rfl rfl rfl rfl rfl

theorem State.followFerr_good {s : State} (hg : Good cs s) : Good cs (State.followFerr s) := by
  unfold State.followFerr
  repeat' with_reducible first
    | assumption | refine State.judgeFerr_good ?_ | refine State.set_good ?_ | refine Good.ite ?_ ?_

theorem State.dropCommit_good {s : State} (hg : Good cs s) : Good cs (State.dropCommit s) := by
  unfold State.dropCommit
  repeat' first
    | (with_reducible first
      | assumption | refine State.set_good ?_ | refine Good.ite ?_ ?_ | refine Good.foldl ?_ ?_)
    | intro _
    | (extract_lets +onlyGivenNames x; refine Good.cut (t := x) ?_ ?_; unfold x; rotate_left; intro _; clear_value x)
    | extract_lets +onlyGivenNames x
    | with_reducible refine Good.of_mk ?_ rfl rfl rfl rfl rfl rfl rfl rfl rfl rfl rfl rfl rfl

theorem State.beginEpisode_good {s : State} {byRef : Bool} (hg : Good cs s) : Good cs (State.beginEpisode s byRef)
    := by
  unfold State.beginEpisode
  repeat' first
    | (with_reducible first
      | assumption | refine State.setI_good ?_ | refine State.set_good ?_ | refine Good.ite ?_ ?_
      | refine Good.foldl ?_ ?_)
    | intro _
    | (extract_lets +onlyGivenNames x; refine Good.cut (t := x) ?_ ?_; unfold x; rotate_left; intro _; clear_value x)
    | extract_lets +onlyGivenNames x
    | with_reducible refine Good.of_mk ?_ rfl rfl rfl rfl rfl rfl rfl rfl rfl rfl rfl rfl rfl

theorem State.startCoast_good {s : State} {byRef : Bool} {fine : Nat} (hg : Good cs s) : Good cs (State.startCoast s
    byRef fine) := by
  unfold State.startCoast
  repeat' first
    | (with_reducible first
      | assumption | refine State.setFine_good ?_ | refine State.set_good ?_ | refine State.beginEpisode_good ?_
      | refine State.dropCommit_good ?_ | refine State.holdTime_good ?_ | refine State.setMode_good ?_
      | refine State.surveyHoldover_good ?_ | refine State.followFerr_good ?_ | refine Good.ite ?_ ?_
      | refine Good.foldl ?_ ?_)
    | intro _
    | extract_lets +onlyGivenNames x
    | with_reducible refine Good.of_mk ?_ rfl rfl rfl rfl rfl rfl rfl rfl rfl rfl rfl rfl rfl

theorem State.enterPhase_good {s : State} {n : Nat} (hg : Good cs s) : Good cs (State.enterPhase s n) := by
  unfold State.enterPhase
  repeat' first
    | (with_reducible first
      | assumption | refine State.set_good ?_ | refine State.takeBw_good ?_ | refine Good.ite ?_ ?_
      | refine Good.foldl ?_ ?_)
    | intro _
    | (extract_lets +onlyGivenNames x; refine Good.cut (t := x) ?_ ?_; unfold x; rotate_left; intro _; clear_value x)
    | extract_lets +onlyGivenNames x
    | with_reducible refine Good.of_mk ?_ rfl rfl rfl rfl rfl rfl rfl rfl rfl rfl rfl rfl rfl

theorem State.abandonSearch_good {s : State} (hg : Good cs s) : Good cs (State.abandonSearch s) := by
  unfold State.abandonSearch
  repeat' first
    | (with_reducible first
      | assumption | refine State.bump_good ?_ | refine State.set_good ?_ | refine Good.ite ?_ ?_
      | refine Good.foldl ?_ ?_)
    | intro _
    | (extract_lets +onlyGivenNames x; refine Good.cut (t := x) ?_ ?_; unfold x; rotate_left; intro _; clear_value x)
    | extract_lets +onlyGivenNames x
    | with_reducible refine Good.of_mk ?_ rfl rfl rfl rfl rfl rfl rfl rfl rfl rfl rfl rfl rfl

theorem State.startSearch_good {s : State} (hg : Good cs s) : Good cs (State.startSearch s) := by
  unfold State.startSearch
  repeat' with_reducible first
    | assumption | refine State.enterPhase_good ?_ | refine Good.ite ?_ ?_

theorem State.refLoss_good {s : State} {fine : Nat} (hg : Good cs s) : Good cs (State.refLoss s fine) := by
  unfold State.refLoss
  repeat' with_reducible first
    | assumption | refine State.set_good ?_ | refine State.bump_good ?_ | refine State.abandonSearch_good ?_
    | refine State.dropCommit_good ?_ | refine State.startCoast_good ?_ | refine Good.ite ?_ ?_

theorem State.loseTrim_good {s : State} (hg : Good cs s) : Good cs (State.loseTrim s) := by
  unfold State.loseTrim
  repeat' first
    | (with_reducible first
      | assumption | refine State.set_good ?_ | refine State.followFerr_good ?_ | refine Good.ite ?_ ?_
      | refine Good.foldl ?_ ?_)
    | intro _
    | extract_lets +onlyGivenNames x
    | with_reducible refine Good.of_mk ?_ rfl rfl rfl rfl rfl rfl rfl rfl rfl rfl rfl rfl rfl

theorem State.startBootDomains_good {s : State} (hg : Good cs s) : Good cs (State.startBootDomains s) := by
  unfold State.startBootDomains
  repeat' first
    | (with_reducible first
      | assumption | refine State.eachIn_good ?_ ?_ | refine State.wr_good ?_ | refine Good.ite ?_ ?_
      | refine Good.foldl ?_ ?_)
    | intro _
    | (extract_lets +onlyGivenNames x; refine Good.cut (t := x) ?_ ?_; unfold x; rotate_left; intro _; clear_value x)
    | extract_lets +onlyGivenNames x
    | with_reducible refine Good.of_mk ?_ rfl rfl rfl rfl rfl rfl rfl rfl rfl rfl rfl rfl rfl

theorem State.blockLock_good {s : State} {p : Nat} (hg : Good cs s) : Good cs (State.blockLock s p) := by
  unfold State.blockLock
  repeat' with_reducible first
    | assumption | refine State.wr_good ?_ | refine State.setPair_good ?_ | refine Good.ite ?_ ?_

theorem State.portLock_good {s : State} (hg : Good cs s) : Good cs (State.portLock s) := by
  unfold State.portLock
  repeat' first
    | (with_reducible first
      | assumption | refine State.blockLock_good ?_ | refine State.startBootDomains_good ?_
      | refine State.startSearch_good ?_ | refine Good.ite ?_ ?_ | refine Good.foldl ?_ ?_)
    | intro _
    | extract_lets +onlyGivenNames x
    | with_reducible refine Good.of_mk ?_ rfl rfl rfl rfl rfl rfl rfl rfl rfl rfl rfl rfl rfl

theorem State.declareLock_good {s : State} {x : BandMeas} (hg : Good cs s) : Good cs (State.declareLock s x) := by
  unfold State.declareLock
  repeat' first
    | (with_reducible first
      | assumption | refine State.set_good ?_ | refine State.setFine_good ?_ | refine State.bump_good ?_
      | refine State.setLoop_good ?_ | refine State.each_good ?_ ?_ | refine State.wr_good ?_
      | refine State.eachIn_good ?_ ?_ | refine State.enterPhase_good ?_ | refine Good.ite ?_ ?_
      | refine Good.foldl ?_ ?_)
    | intro _
    | (extract_lets +onlyGivenNames x; refine Good.cut (t := x) ?_ ?_; unfold x; rotate_left; intro _; clear_value x)
    | extract_lets +onlyGivenNames x
    | with_reducible refine Good.of_mk ?_ rfl rfl rfl rfl rfl rfl rfl rfl rfl rfl rfl rfl rfl

theorem State.takeStored_good {s : State} (hg : Good cs s) : Good cs (State.takeStored s) := by
  unfold State.takeStored
  repeat' with_reducible first
    | assumption | refine State.set_good ?_ | refine State.setFine_good ?_

theorem State.phaseEnd_good {s : State} {x : BandMeas} (hg : Good cs s) : Good cs (State.phaseEnd s x) := by
  unfold State.phaseEnd
  repeat' first
    | (with_reducible first
      | assumption | refine State.enterPhase_good ?_ | refine State.takeStored_good ?_ | refine State.set_good ?_
      | refine State.setLoop_good ?_ | refine State.setFine_good ?_ | refine State.declareLock_good ?_
      | refine Good.ite ?_ ?_ | refine Good.foldl ?_ ?_)
    | split
    | (with_reducible first
      | refine Good.snd_of (by assumption) ?_ | refine Good.fst_of (by assumption) ?_ | refine Good.thd_of (by assumption) ?_)
    | dsimp -zeta only
    | with_reducible refine Good.of_mk ?_ rfl rfl rfl rfl rfl rfl rfl rfl rfl rfl rfl rfl rfl

theorem State.searchFail_good {s : State} (hg : Good cs s) : Good cs (State.searchFail s) := by
  unfold State.searchFail
  repeat' first
    | (with_reducible first
      | assumption | refine State.clearReady_good ?_ | refine State.bump_good ?_ | refine State.enterPhase_good ?_
      | refine Good.ite ?_ ?_ | refine Good.foldl ?_ ?_)
    | intro _
    | extract_lets +onlyGivenNames x
    | with_reducible refine Good.of_mk ?_ rfl rfl rfl rfl rfl rfl rfl rfl rfl rfl rfl rfl rfl

theorem State.setReady_good {s : State} (hg : Good cs s) : Good cs (State.setReady s) := by
  unfold State.setReady
  repeat' first
    | (with_reducible first
      | assumption | refine State.set_good ?_ | refine State.holdTime_good ?_ | refine State.setMode_good ?_
      | refine Good.ite ?_ ?_ | refine Good.foldl ?_ ?_)
    | intro _
    | extract_lets +onlyGivenNames x
    | with_reducible refine Good.of_mk ?_ rfl rfl rfl rfl rfl rfl rfl rfl rfl rfl rfl rfl rfl

theorem State.lockLoss_good {s : State} {fine : Nat} (hg : Good cs s) : Good cs (State.lockLoss s fine) := by
  unfold State.lockLoss
  repeat' first
    | (with_reducible first
      | assumption | refine State.startCoast_good ?_ | refine State.bump_good ?_ | refine Good.ite ?_ ?_
      | refine Good.foldl ?_ ?_)
    | intro _
    | (extract_lets +onlyGivenNames x; refine Good.cut (t := x) ?_ ?_; unfold x; rotate_left; intro _; clear_value x)
    | extract_lets +onlyGivenNames x
    | with_reducible refine Good.of_mk ?_ rfl rfl rfl rfl rfl rfl rfl rfl rfl rfl rfl rfl rfl

theorem State.rampStep_good {s : State} (hg : Good cs s) : Good cs (State.rampStep s) := by
  unfold State.rampStep
  repeat' with_reducible first
    | assumption | refine State.reportTrack_good ?_ | refine State.setDiv_good ?_ | refine Good.ite ?_ ?_

theorem State.relockStored_good {s : State} (hg : Good cs s) : Good cs (State.relockStored s) := by
  unfold State.relockStored
  repeat' with_reducible first
    | assumption | refine State.takeBw_good ?_ | refine State.takeStored_good ?_ | refine State.set_good ?_
    | refine State.free_good ?_ | refine State.setI_good ?_ | refine State.setLoop_good ?_
    | refine State.followFerr_good ?_ | refine State.beginEpisode_good ?_

theorem State.applyDiv_good {s : State} (hg : Good cs s) : Good cs (State.applyDiv s) := by
  unfold State.applyDiv
  repeat' first
    | (with_reducible first
      | assumption | refine State.waitPulses_good ?_ | refine State.setDiv_good ?_ | refine State.reportTrack_good ?_
      | refine State.relockStored_good ?_ | refine Good.ite ?_ ?_ | refine Good.foldl ?_ ?_)
    | split
    | (with_reducible first
      | refine Good.snd_of (by assumption) ?_ | refine Good.fst_of (by assumption) ?_ | refine Good.thd_of (by assumption) ?_)
    | dsimp -zeta only
    | with_reducible refine Good.of_mk ?_ rfl rfl rfl rfl rfl rfl rfl rfl rfl rfl rfl rfl rfl

theorem State.bandMove_good {s : State} {up : Bool} (hg : Good cs s) : Good cs (State.bandMove s up) := by
  unfold State.bandMove
  repeat' with_reducible first
    | assumption | refine State.bump_good ?_ | refine State.free_good ?_ | refine State.setFine_good ?_
    | refine State.set_good ?_ | refine Good.ite ?_ ?_

theorem State.recentre_good {s : State} {fine : Nat} (hg : Good cs s) : Good cs (State.recentre s fine) := by
  unfold State.recentre
  repeat' with_reducible first
    | assumption | refine State.applyDiv_good ?_ | refine State.bandMove_good ?_ | refine State.setFine_good ?_
    | refine State.waitPulses_good ?_ | refine Good.ite ?_ ?_

theorem State.qualify_good {s : State} {within : Bool} {offset : Int} (hg : Good cs s) : Good cs (State.qualify s
    within offset) := by
  unfold State.qualify
  repeat' with_reducible first
    | assumption | refine State.setI_good ?_ | refine State.takeBw_good ?_ | refine State.set_good ?_
    | refine State.setLoop_good ?_ | refine State.settlePulses_good ?_ | refine Good.ite ?_ ?_

theorem State.relock_good {s : State} (hg : Good cs s) : Good cs (State.relock s) := by
  unfold State.relock
  repeat' first
    | (with_reducible first
      | assumption | refine State.set_good ?_ | refine State.bump_good ?_ | refine State.resumeTime_good ?_
      | refine Good.ite ?_ ?_ | refine Good.foldl ?_ ?_)
    | intro _
    | extract_lets +onlyGivenNames x
    | with_reducible refine Good.of_mk ?_ rfl rfl rfl rfl rfl rfl rfl rfl rfl rfl rfl rfl rfl

theorem State.trimEnd_good {s : State} {tdc : Int} (hg : Good cs s) : Good cs (State.trimEnd s tdc) := by
  unfold State.trimEnd
  repeat' first
    | (with_reducible first
      | assumption | refine State.setFine_good ?_ | refine State.setI_good ?_ | refine State.set_good ?_
      | refine State.judgeFerr_good ?_ | refine Good.ite ?_ ?_ | refine Good.foldl ?_ ?_)
    | split
    | (with_reducible first
      | refine Good.snd_of (by assumption) ?_ | refine Good.fst_of (by assumption) ?_ | refine Good.thd_of (by assumption) ?_)
    | dsimp -zeta only
    | with_reducible refine Good.of_mk ?_ rfl rfl rfl rfl rfl rfl rfl rfl rfl rfl rfl rfl rfl

theorem State.coastLimit_good {s : State} (hg : Good cs s) : Good cs (State.coastLimit s) := by
  unfold State.coastLimit
  repeat' first
    | (with_reducible first
      | assumption | refine State.raise_good ?_ | refine Good.ite ?_ ?_ | refine Good.foldl ?_ ?_)
    | intro _
    | extract_lets +onlyGivenNames x
    | with_reducible refine Good.of_mk ?_ rfl rfl rfl rfl rfl rfl rfl rfl rfl rfl rfl rfl rfl

theorem State.wTcRef_good {s : State} {v : Word} (hg : Good cs s) : Good cs (State.wTcRef s v).2 := by
  unfold State.wTcRef
  repeat' first
    | (with_reducible first
      | assumption | refine State.abandonSearch_good ?_ | refine State.startSearch_good ?_ | refine State.set_good ?_
      | refine State.loseTrim_good ?_ | refine Good.ite ?_ ?_ | refine Good.foldl ?_ ?_)
    | split

theorem State.changeDivMode_good {s : State} {old : Nat} {new : Nat} (hg : Good cs s) : Good cs (State.changeDivMode s
    old new) := by
  unfold State.changeDivMode
  repeat' with_reducible first
    | assumption | refine State.setWord_good ?_ | refine State.setI_good ?_ | refine Good.ite ?_ ?_

theorem State.wTcControl_good {s : State} {v : Word} (hg : Good cs s) : Good cs (State.wTcControl s v).2 := by
  unfold State.wTcControl
  repeat' first
    | (with_reducible first
      | assumption | refine State.changeDivMode_good ?_ | refine State.setWord_good ?_
      | refine State.followFerr_good ?_ | refine State.set_good ?_ | refine State.takeBw_good ?_
      | refine Good.ite ?_ ?_ | refine Good.foldl ?_ ?_)
    | split

theorem State.wTcDivNext_good {s : State} {sub : Nat} {v : Word} (hg : Good cs s) : Good cs (State.wTcDivNext s sub
    v).2 := by
  unfold State.wTcDivNext
  repeat' first
    | (with_reducible first
      | assumption | refine State.setWord_good ?_ | refine Good.ite ?_ ?_ | refine Good.foldl ?_ ?_)
    | split

theorem State.wTcDivCommit_good {s : State} {v : Word} (hg : Good cs s) : Good cs (State.wTcDivCommit s v).2 := by
  unfold State.wTcDivCommit
  repeat' first
    | (with_reducible first
      | assumption | refine State.set_good ?_ | refine Good.ite ?_ ?_ | refine Good.foldl ?_ ?_)
    | intro _
    | (extract_lets +onlyGivenNames x; refine Good.cut (t := x) ?_ ?_; unfold x; rotate_left; intro _; clear_value x)
    | extract_lets +onlyGivenNames x
    | split
    | (with_reducible first
      | refine Good.snd_of (by assumption) ?_ | refine Good.fst_of (by assumption) ?_ | refine Good.thd_of (by assumption) ?_)
    | dsimp -zeta only
    | with_reducible refine Good.of_mk ?_ rfl rfl rfl rfl rfl rfl rfl rfl rfl rfl rfl rfl rfl

theorem State.wTcTrack_good {s : State} {sub : Nat} {v : Word} (hg : Good cs s) : Good cs (State.wTcTrack s sub v).2
    := by
  unfold State.wTcTrack
  repeat' first
    | (with_reducible first
      | assumption | refine State.setWord_good ?_ | refine Good.ite ?_ ?_ | refine Good.foldl ?_ ?_)
    | split

theorem State.wTcFerrLimit_good {s : State} {v : Word} (hg : Good cs s) : Good cs (State.wTcFerrLimit s v).2 := by
  unfold State.wTcFerrLimit
  repeat' with_reducible first
    | assumption | refine State.judgeFerr_good ?_ | refine State.setWord_good ?_

theorem State.wTcRanges_good {s : State} {index : Nat} {sub : Nat} {v : Word} (hg : Good cs s) : Good cs
    (State.wTcRanges s index sub v).2 := by
  unfold State.wTcRanges
  repeat' first
    | (with_reducible first
      | assumption | refine State.setWord_good ?_ | refine Good.ite ?_ ?_ | refine Good.foldl ?_ ?_)
    | intro _
    | extract_lets +onlyGivenNames x
    | split

/-! Operations of Sys2Proof/Machine/Clocks.lean. -/

theorem State.wCkSwitch_good {s : State} {v : Word} (hg : Good cs s) : Good cs (State.wCkSwitch s v).2 := by
  unfold State.wCkSwitch
  repeat' first
    | (with_reducible first
      | assumption | refine State.bump_good ?_ | refine State.set_good ?_ | refine Good.ite ?_ ?_
      | refine Good.foldl ?_ ?_)
    | split

theorem State.switchDone_good {s : State} (hg : Good cs s) : Good cs (State.switchDone s) := by
  unfold State.switchDone
  repeat' with_reducible first
    | assumption | refine State.bump_good ?_ | refine State.set_good ?_ | refine Good.ite ?_ ?_

theorem State.imageSwitch_good {s : State} (hg : Good cs s) : Good cs (State.imageSwitch s) := by
  unfold State.imageSwitch
  repeat' with_reducible first
    | assumption | refine State.set_good ?_ | refine Good.ite ?_ ?_

theorem State.seeReady_good {s : State} (hg : Good cs s) : Good cs (State.seeReady s) := by
  unfold State.seeReady
  repeat' with_reducible first
    | assumption | refine State.set_good ?_ | refine Good.ite ?_ ?_

theorem State.wCkLinkCfg_good {s : State} {v : Word} (hg : Good cs s) : Good cs (State.wCkLinkCfg s v).2 := by
  unfold State.wCkLinkCfg
  repeat' first
    | (with_reducible first
      | assumption | refine State.setWord_good ?_ | refine Good.ite ?_ ?_ | refine Good.foldl ?_ ?_)
    | split
    | (with_reducible first
      | refine Good.snd_of (by assumption) ?_ | refine Good.fst_of (by assumption) ?_ | refine Good.thd_of (by assumption) ?_)
    | dsimp -zeta only
    | with_reducible refine Good.of_mk ?_ rfl rfl rfl rfl rfl rfl rfl rfl rfl rfl rfl rfl rfl

theorem State.wCkGate_good {s : State} {d : Nat} {port : Nat} {v : Word} (hg : Good cs s) : Good cs (State.wCkGate s d
    port v).2 := by
  unfold State.wCkGate
  repeat' first
    | (with_reducible first
      | assumption | refine State.defer_good ?_ | refine State.setWord_good ?_ | refine State.gateStops_good ?_
      | refine State.setBoth_good ?_ | refine Good.ite ?_ ?_ | refine Good.foldl ?_ ?_)
    | split

theorem State.dsBegin_good {s : State} {code : Nat} (hg : Good cs s) : Good cs (State.dsBegin s code) := by
  unfold State.dsBegin
  repeat' first
    | (with_reducible first
      | assumption | refine State.set_good ?_ | refine Good.ite ?_ ?_ | refine Good.foldl ?_ ?_)
    | intro _
    | (extract_lets +onlyGivenNames x; refine Good.cut (t := x) ?_ ?_; unfold x; rotate_left; intro _; clear_value x)
    | extract_lets +onlyGivenNames x
    | with_reducible refine Good.of_mk ?_ rfl rfl rfl rfl rfl rfl rfl rfl rfl rfl rfl rfl rfl

theorem State.dsPhaseEnd_good {s : State} {coarse : Nat} (hg : Good cs s) : Good cs (State.dsPhaseEnd s coarse) := by
  unfold State.dsPhaseEnd
  repeat' first
    | (with_reducible first
      | assumption | refine State.set_good ?_ | refine State.bump_good ?_ | refine Good.ite ?_ ?_
      | refine Good.foldl ?_ ?_)
    | split
    | (with_reducible first
      | refine Good.snd_of (by assumption) ?_ | refine Good.fst_of (by assumption) ?_ | refine Good.thd_of (by assumption) ?_)
    | dsimp -zeta only
    | with_reducible refine Good.of_mk ?_ rfl rfl rfl rfl rfl rfl rfl rfl rfl rfl rfl rfl rfl

theorem State.startProfile_good {s : State} (hg : Good cs s) : Good cs (State.startProfile s) := by
  unfold State.startProfile
  repeat' first
    | (with_reducible first
      | assumption | refine State.setB_good ?_ | refine Good.ite ?_ ?_ | refine Good.foldl ?_ ?_)
    | intro _
    | (extract_lets +onlyGivenNames x; refine Good.cut (t := x) ?_ ?_; unfold x; rotate_left; intro _; clear_value x)
    | extract_lets +onlyGivenNames x
    | with_reducible refine Good.of_mk ?_ rfl rfl rfl rfl rfl rfl rfl rfl rfl rfl rfl rfl rfl

theorem State.movePdm_good {s : State} (hg : Good cs s) : Good cs (State.movePdm s) := by
  unfold State.movePdm
  repeat' first
    | (with_reducible first
      | assumption | refine State.startProfile_good ?_ | refine State.set_good ?_ | refine Good.ite ?_ ?_
      | refine Good.foldl ?_ ?_)
    | split
    | (with_reducible first
      | refine Good.snd_of (by assumption) ?_ | refine Good.fst_of (by assumption) ?_ | refine Good.thd_of (by assumption) ?_)
    | dsimp -zeta only
    | with_reducible refine Good.of_mk ?_ rfl rfl rfl rfl rfl rfl rfl rfl rfl rfl rfl rfl rfl

theorem State.dsLoss_good {s : State} (hg : Good cs s) : Good cs (State.dsLoss s) := by
  unfold State.dsLoss
  repeat' with_reducible first
    | assumption | refine State.set_good ?_ | refine State.dsBegin_good ?_ | refine State.raise_good ?_
    | refine State.bump_good ?_ | refine Good.ite ?_ ?_

theorem State.wDsControl_good {s : State} {v : Word} (hg : Good cs s) : Good cs (State.wDsControl s v).2 := by
  unfold State.wDsControl
  repeat' first
    | (with_reducible first
      | assumption | refine State.setWord_good ?_ | refine Good.ite ?_ ?_ | refine Good.foldl ?_ ?_)
    | split
    | (with_reducible first
      | refine Good.snd_of (by assumption) ?_ | refine Good.fst_of (by assumption) ?_ | refine Good.thd_of (by assumption) ?_)
    | dsimp -zeta only
    | with_reducible refine Good.of_mk ?_ rfl rfl rfl rfl rfl rfl rfl rfl rfl rfl rfl rfl rfl

theorem State.sscApply_good {s : State} (hg : Good cs s) : Good cs (State.sscApply s) := by
  unfold State.sscApply
  repeat' first
    | (with_reducible first
      | assumption | refine State.set_good ?_ | refine State.startProfile_good ?_ | refine Good.ite ?_ ?_
      | refine Good.foldl ?_ ?_)
    | intro _
    | (extract_lets +onlyGivenNames x; refine Good.cut (t := x) ?_ ?_; unfold x; rotate_left; intro _; clear_value x)
    | extract_lets +onlyGivenNames x
    | with_reducible refine Good.of_mk ?_ rfl rfl rfl rfl rfl rfl rfl rfl rfl rfl rfl rfl rfl

/-! Operations of Sys2Proof/Machine/Domains.lean. -/

theorem State.losePort_good {s : State} {q : Nat} (hg : Good cs s) : Good cs (s.losePort q) := by
  unfold State.losePort
  extract_lets y x
  have hx : Good cs x := { (State.setPort_good hg (Nat.zero_le 4) : Good cs (s.setPort q {})) with }
  clear_value x
  exact State.eachIn_good hx fun _ _ h => State.setPair_good h

theorem State.loseDrive_good {s : State} (hg : Good cs s) : Good cs (State.loseDrive s) := by
  unfold State.loseDrive
  repeat' first
    | (with_reducible first
      | assumption | refine State.dsOff_good ?_ | refine Good.ite ?_ ?_ | refine Good.foldl ?_ ?_)
    | intro _
    | (extract_lets +onlyGivenNames x; refine Good.cut (t := x) ?_ ?_; unfold x; rotate_left; intro _; clear_value x)
    | extract_lets +onlyGivenNames x
    | with_reducible refine Good.of_mk ?_ rfl rfl rfl rfl rfl rfl rfl rfl rfl rfl rfl rfl rfl

theorem State.loseDomain_good {s : State} {d : Nat} (hg : Good cs s) : Good cs (State.loseDomain s d) := by
  unfold State.loseDomain
  repeat' first
    | (with_reducible first
      | assumption | refine State.loseWords_good ?_ | refine State.loseGroup_good ?_ | refine State.loseMons_good ?_
      | refine State.losePorts_good ?_ | refine State.set_good ?_ | refine State.loseDrive_good ?_
      | refine State.losePort_good ?_ | refine Good.ite ?_ ?_ | refine Good.foldl ?_ ?_)
    | intro _
    | extract_lets +onlyGivenNames x
    | with_reducible refine Good.of_mk ?_ rfl rfl rfl rfl rfl rfl rfl rfl rfl rfl rfl rfl rfl

theorem State.wakeDone_good {s : State} {d : Nat} (hg : Good cs s) : Good cs (State.wakeDone s d) := by
  unfold State.wakeDone
  repeat' first
    | (with_reducible first
      | assumption | refine State.enforce_good ?_ | refine State.setDomain_good ?_ | refine State.gateStops_good ?_
      | refine Good.ite ?_ ?_ | refine Good.foldl ?_ ?_)
    | split
    | (with_reducible first
      | refine Good.snd_of (by assumption) ?_ | refine Good.fst_of (by assumption) ?_ | refine Good.thd_of (by assumption) ?_)
    | dsimp -zeta only
    | with_reducible refine Good.of_mk ?_ rfl rfl rfl rfl rfl rfl rfl rfl rfl rfl rfl rfl rfl

/-! Operations of Sys2Proof/Machine/Power.lean. -/

theorem State.queuePower_good {s : State} {r : PowReq} (hg : Good cs s) : Good cs (State.queuePower s r) := by
  unfold State.queuePower
  repeat' first
    | (with_reducible first
      | assumption | refine State.set_good ?_ | refine State.bumpAt_good ?_ | refine Good.ite ?_ ?_
      | refine Good.foldl ?_ ?_)
    | intro _
    | (extract_lets +onlyGivenNames x; refine Good.cut (t := x) ?_ ?_; unfold x; rotate_left; intro _; clear_value x)
    | extract_lets +onlyGivenNames x
    | with_reducible refine Good.of_mk ?_ rfl rfl rfl rfl rfl rfl rfl rfl rfl rfl rfl rfl rfl

theorem State.wPwReq_good {s : State} {port : Nat} {v : Word} (hg : Good cs s) : Good cs (State.wPwReq s port v).2 := by
  unfold State.wPwReq
  repeat' first
    | (with_reducible first
      | assumption | refine State.queuePower_good ?_ | refine Good.ite ?_ ?_ | refine Good.foldl ?_ ?_)
    | intro _
    | extract_lets +onlyGivenNames x
    | split

theorem State.endPower_good {s : State} {result : Nat} (hg : Good cs s) : Good cs (State.endPower s result) := by
  unfold State.endPower
  repeat' first
    | (with_reducible first
      | assumption | refine State.set_good ?_ | refine State.demandWake_good ?_ | refine Good.ite ?_ ?_
      | refine Good.foldl ?_ ?_)
    | intro _
    | extract_lets +onlyGivenNames x
    | with_reducible refine Good.of_mk ?_ rfl rfl rfl rfl rfl rfl rfl rfl rfl rfl rfl rfl rfl

theorem State.recordRefusal_good {s : State} {client : Nat} {dom : Nat} {phase : Nat} {n : Nat} {target : Nat} {dur : Nat} (hg :
    Good cs s) : Good cs (State.recordRefusal s client dom phase n target dur) := by
  unfold State.recordRefusal
  repeat' with_reducible first
    | assumption | refine State.bumpAt_good ?_ | refine State.set_good ?_ | refine State.post_good ?_

theorem State.clearTransit_good {s : State} {doms : List Nat} (hg : Good cs s) : Good cs (State.clearTransit s doms)
    := by
  unfold State.clearTransit
  repeat' first
    | (with_reducible first
      | assumption | refine State.eachIn_good ?_ ?_ | refine State.wr_good ?_ | refine Good.ite ?_ ?_
      | refine Good.foldl ?_ ?_)
    | intro _

theorem State.leaveEntry_good {s : State} (hg : Good cs s) : Good cs (State.leaveEntry s) := by
  unfold State.leaveEntry
  repeat' first
    | (with_reducible first
      | assumption | refine State.set_good ?_ | refine Good.ite ?_ ?_ | refine Good.foldl ?_ ?_)
    | intro _
    | (extract_lets +onlyGivenNames x; refine Good.cut (t := x) ?_ ?_; unfold x; rotate_left; intro _; clear_value x)
    | extract_lets +onlyGivenNames x
    | with_reducible refine Good.of_mk ?_ rfl rfl rfl rfl rfl rfl rfl rfl rfl rfl rfl rfl rfl

theorem State.refuseDormant_good {s : State} {r : PowReq} (hg : Good cs s) : Good cs (State.refuseDormant s r) := by
  unfold State.refuseDormant
  repeat' first
    | (with_reducible first
      | assumption | refine State.leaveEntry_good ?_ | refine Good.ite ?_ ?_ | refine Good.foldl ?_ ?_)
    | intro _
    | extract_lets +onlyGivenNames x
    | with_reducible refine Good.of_mk ?_ rfl rfl rfl rfl rfl rfl rfl rfl rfl rfl rfl rfl rfl

theorem State.dormantDown_good {s : State} {r : PowReq} (hg : Good cs s) : Good cs (State.dormantDown s r) := by
  unfold State.dormantDown
  repeat' first
    | (with_reducible first
      | assumption | refine State.leaveEntry_good ?_ | refine Good.ite ?_ ?_ | refine Good.foldl ?_ ?_)
    | intro _
    | extract_lets +onlyGivenNames x
    | with_reducible refine Good.of_mk ?_ rfl rfl rfl rfl rfl rfl rfl rfl rfl rfl rfl rfl rfl

theorem State.startRun_good {s : State} {r : PowReq} (hg : Good cs s) : Good cs (State.startRun s r) := by
  unfold State.startRun
  repeat' first
    | (with_reducible first
      | assumption | refine State.eachIn_good ?_ ?_ | refine State.wr_good ?_ | refine State.endPower_good ?_
      | refine State.beginWake_good ?_ | refine Good.ite ?_ ?_ | refine Good.foldl ?_ ?_)
    | intro _

theorem State.toEbb_good {s : State} {d : Nat} (hg : Good cs s) : Good cs (State.toEbb s d) := by
  unfold State.toEbb
  repeat' first
    | (with_reducible first
      | assumption | refine State.wr_good ?_ | refine State.beginWake_good ?_ | refine State.setDomain_good ?_
      | refine State.stopPorts_good ?_ | refine Good.ite ?_ ?_ | refine Good.foldl ?_ ?_)
    | intro _
    | extract_lets +onlyGivenNames x
    | with_reducible refine Good.of_mk ?_ rfl rfl rfl rfl rfl rfl rfl rfl rfl rfl rfl rfl rfl

theorem State.startEbb_good {s : State} {r : PowReq} (hg : Good cs s) : Good cs (State.startEbb s r) := by
  unfold State.startEbb
  repeat' first
    | (with_reducible first
      | assumption | refine State.endPower_good ?_ | refine State.recordRefusal_good ?_ | refine State.bumpAt_good ?_
      | refine State.eachIn_good ?_ ?_ | refine State.toEbb_good ?_ | refine Good.ite ?_ ?_ | refine Good.foldl ?_ ?_)
    | intro _
    | extract_lets +onlyGivenNames x
    | split

theorem State.startNeap_good {s : State} {r : PowReq} (hg : Good cs s) : Good cs (State.startNeap s r) := by
  unfold State.startNeap
  repeat' first
    | (with_reducible first
      | assumption | refine State.set_good ?_ | refine State.eachIn_good ?_ ?_ | refine State.wr_good ?_
      | refine Good.ite ?_ ?_ | refine Good.foldl ?_ ?_)
    | intro _
    | (extract_lets +onlyGivenNames x; refine Good.cut (t := x) ?_ ?_; unfold x; rotate_left; intro _; clear_value x)
    | extract_lets +onlyGivenNames x
    | with_reducible refine Good.of_mk ?_ rfl rfl rfl rfl rfl rfl rfl rfl rfl rfl rfl rfl rfl

theorem State.startPower_good {s : State} {r : PowReq} (hg : Good cs s) : Good cs (State.startPower s r) := by
  unfold State.startPower
  repeat' first
    | (with_reducible first
      | assumption | refine State.set_good ?_ | refine State.startRun_good ?_ | refine State.startEbb_good ?_
      | refine State.startNeap_good ?_ | refine Good.ite ?_ ?_ | refine Good.foldl ?_ ?_)
    | intro _
    | (extract_lets +onlyGivenNames x; refine Good.cut (t := x) ?_ ?_; unfold x; rotate_left; intro _; clear_value x)
    | extract_lets +onlyGivenNames x
    | with_reducible refine Good.of_mk ?_ rfl rfl rfl rfl rfl rfl rfl rfl rfl rfl rfl rfl rfl

theorem State.dormantNeap_good {s : State} (hg : Good cs s) : Good cs (State.dormantNeap s) := by
  unfold State.dormantNeap
  repeat' with_reducible first
    | assumption | refine State.sealNow_good ?_ | refine State.startNeap_good ?_ | refine Good.ite ?_ ?_

theorem State.powerStart_good {s : State} (hg : Good cs s) : Good cs (State.powerStart s) := by
  unfold State.powerStart
  repeat' first
    | (with_reducible first
      | assumption | refine State.dormantNeap_good ?_ | refine State.startPower_good ?_ | refine State.set_good ?_
      | refine Good.ite ?_ ?_ | refine Good.foldl ?_ ?_)
    | split
    | (with_reducible first
      | refine Good.snd_of (by assumption) ?_ | refine Good.fst_of (by assumption) ?_ | refine Good.thd_of (by assumption) ?_)
    | dsimp -zeta only
    | with_reducible refine Good.of_mk ?_ rfl rfl rfl rfl rfl rfl rfl rfl rfl rfl rfl rfl rfl

theorem State.voteCheck_good {s : State} (hg : Good cs s) : Good cs (State.voteCheck s) := by
  unfold State.voteCheck
  repeat' first
    | (with_reducible first
      | assumption | refine State.endPower_good ?_ | refine State.refuseDormant_good ?_
      | refine State.recordRefusal_good ?_ | refine State.clearTransit_good ?_ | refine State.eachIn_good ?_ ?_
      | refine State.wr_good ?_ | refine State.set_good ?_ | refine Good.ite ?_ ?_ | refine Good.foldl ?_ ?_)
    | intro _
    | (extract_lets +onlyGivenNames x; refine Good.cut (t := x) ?_ ?_; unfold x; rotate_left; intro _; clear_value x)
    | extract_lets +onlyGivenNames x
    | split
    | (with_reducible first
      | refine Good.snd_of (by assumption) ?_ | refine Good.fst_of (by assumption) ?_ | refine Good.thd_of (by assumption) ?_)
    | dsimp -zeta only
    | with_reducible refine Good.of_mk ?_ rfl rfl rfl rfl rfl rfl rfl rfl rfl rfl rfl rfl rfl

theorem State.rollbackTime_good {s : State} {n : Nat} (hg : Good cs s) : Good cs (State.rollbackTime s n).2 := by
  unfold State.rollbackTime
  repeat' with_reducible first
    | assumption | refine State.free_good ?_

theorem State.rollBack_good {s : State} {r : PowReq} {client : Nat} {dom : Nat} (hg : Good cs s) : Good cs
    (State.rollBack s r client dom) := by
  unfold State.rollBack
  repeat' first
    | (with_reducible first
      | assumption | refine State.rollbackTime_good ?_ | refine State.clearTransit_good ?_
      | refine State.bumpAt_good ?_ | refine State.recordRefusal_good ?_ | refine State.endPower_good ?_
      | refine State.refuseDormant_good ?_ | refine Good.ite ?_ ?_ | refine Good.foldl ?_ ?_)
    | intro _
    | extract_lets +onlyGivenNames x
    | with_reducible refine Good.of_mk ?_ rfl rfl rfl rfl rfl rfl rfl rfl rfl rfl rfl rfl rfl

theorem State.voteRose_good {s : State} (hg : Good cs s) : Good cs (State.voteRose s) := by
  unfold State.voteRose
  repeat' first
    | (with_reducible first
      | assumption | refine State.rollBack_good ?_ | refine Good.ite ?_ ?_ | refine Good.foldl ?_ ?_)
    | split

theorem State.isolateHead_good {s : State} (hg : Good cs s) : Good cs (State.isolateHead s) := by
  unfold State.isolateHead
  repeat' first
    | (with_reducible first
      | assumption | refine State.stopPorts_good ?_ | refine State.set_good ?_ | refine Good.ite ?_ ?_
      | refine Good.foldl ?_ ?_)
    | split
    | (with_reducible first
      | refine Good.snd_of (by assumption) ?_ | refine Good.fst_of (by assumption) ?_ | refine Good.thd_of (by assumption) ?_)
    | dsimp -zeta only
    | with_reducible refine Good.of_mk ?_ rfl rfl rfl rfl rfl rfl rfl rfl rfl rfl rfl rfl rfl

theorem State.intoNeap_good {s : State} {cause : Nat} {d : Nat} (hg : Good cs s) : Good cs (State.intoNeap s cause d) :=
    by
  unfold State.intoNeap
  repeat' with_reducible first
    | assumption | refine State.setDomain_good ?_ | refine State.wr_good ?_ | refine State.loseDomain_good ?_

theorem State.neapDown_good {s : State} (hg : Good cs s) : Good cs (State.neapDown s) := by
  unfold State.neapDown
  repeat' first
    | (with_reducible first
      | assumption | refine State.eachIn_good ?_ ?_ | refine State.intoNeap_good ?_ | refine State.endPower_good ?_
      | refine State.dormantDown_good ?_ | refine State.bumpAt_good ?_ | refine Good.ite ?_ ?_
      | refine Good.foldl ?_ ?_)
    | intro _
    | extract_lets +onlyGivenNames x
    | split

theorem State.wPwHold_good {s : State} {sub : Nat} {v : Word} (hg : Good cs s) : Good cs (State.wPwHold s sub v).2 := by
  unfold State.wPwHold
  repeat' first
    | (with_reducible first
      | assumption | refine State.voteRose_good ?_ | refine State.setWord_good ?_ | refine State.eachIn_good ?_ ?_
      | refine State.demandWake_good ?_ | refine Good.ite ?_ ?_ | refine Good.foldl ?_ ?_)
    | intro _

/-! Operations of Sys2Proof/Machine/Perf.lean. -/

theorem State.setLevels_good {s : State} {mv : Nat} (hg : Good cs s) : Good cs (State.setLevels s mv) := by
  unfold State.setLevels
  repeat' with_reducible first
    | assumption | refine State.set_good ?_

theorem State.startVolt_good {s : State} {lv : Nat} (hg : Good cs s) : Good cs (State.startVolt s lv) := by
  unfold State.startVolt
  repeat' first
    | (with_reducible first
      | assumption | refine State.setLevels_good ?_ | refine Good.ite ?_ ?_ | refine Good.foldl ?_ ?_)
    | intro _
    | extract_lets +onlyGivenNames x
    | with_reducible refine Good.of_mk ?_ rfl rfl rfl rfl rfl rfl rfl rfl rfl rfl rfl rfl rfl

theorem State.startStep_good {s : State} {target : Nat} (hg : Good cs s) : Good cs (State.startStep s target) := by
  unfold State.startStep
  repeat' first
    | (with_reducible first
      | assumption | refine State.set_good ?_ | refine State.setB_good ?_ | refine State.startVolt_good ?_
      | refine Good.ite ?_ ?_ | refine Good.foldl ?_ ?_)
    | intro _
    | extract_lets +onlyGivenNames x
    | with_reducible refine Good.of_mk ?_ rfl rfl rfl rfl rfl rfl rfl rfl rfl rfl rfl rfl rfl

theorem State.tryStart_good {s : State} (hg : Good cs s) : Good cs (State.tryStart s) := by
  unfold State.tryStart
  repeat' first
    | (with_reducible first
      | assumption | refine State.set_good ?_ | refine State.startStep_good ?_ | refine Good.ite ?_ ?_
      | refine Good.foldl ?_ ?_)
    | split
    | (with_reducible first
      | refine Good.snd_of (by assumption) ?_ | refine Good.fst_of (by assumption) ?_ | refine Good.thd_of (by assumption) ?_)
    | dsimp -zeta only
    | with_reducible refine Good.of_mk ?_ rfl rfl rfl rfl rfl rfl rfl rfl rfl rfl rfl rfl rfl

theorem State.pendLevel_good {s : State} {lv : Nat} (hg : Good cs s) : Good cs (State.pendLevel s lv) := by
  unfold State.pendLevel
  repeat' first
    | (with_reducible first
      | assumption | refine State.bumpAt_good ?_ | refine State.set_good ?_ | refine Good.ite ?_ ?_
      | refine Good.foldl ?_ ?_)
    | split
    | (with_reducible first
      | refine Good.snd_of (by assumption) ?_ | refine Good.fst_of (by assumption) ?_ | refine Good.thd_of (by assumption) ?_)
    | dsimp -zeta only
    | with_reducible refine Good.of_mk ?_ rfl rfl rfl rfl rfl rfl rfl rfl rfl rfl rfl rfl rfl

theorem State.queueLevel_good {s : State} {lv : Nat} (hg : Good cs s) : Good cs (State.queueLevel s lv) := by
  unfold State.queueLevel
  repeat' with_reducible first
    | assumption | refine State.set_good ?_ | refine State.pendLevel_good ?_ | refine State.tryStart_good ?_
    | refine Good.ite ?_ ?_

theorem State.refuseLevel_good {s : State} {st : Nat} (hg : Good cs s) : Good cs (State.refuseLevel s st).2 := by
  unfold State.refuseLevel
  repeat' with_reducible first
    | assumption | refine State.bumpAt_good ?_

theorem State.wPlRequest_good {s : State} {v : Word} (hg : Good cs s) : Good cs (State.wPlRequest s v).2 := by
  unfold State.wPlRequest
  repeat' first
    | (with_reducible first
      | assumption | refine State.refuseLevel_good ?_ | refine State.queueLevel_good ?_ | refine Good.ite ?_ ?_
      | refine Good.foldl ?_ ?_)
    | intro _
    | extract_lets +onlyGivenNames x
    | split
    | (with_reducible first
      | refine Good.snd_of (by assumption) ?_ | refine Good.fst_of (by assumption) ?_ | refine Good.thd_of (by assumption) ?_)
    | dsimp -zeta only
    | with_reducible refine Good.of_mk ?_ rfl rfl rfl rfl rfl rfl rfl rfl rfl rfl rfl rfl rfl

theorem State.stepDone_good {s : State} (hg : Good cs s) : Good cs (State.stepDone s) := by
  unfold State.stepDone
  repeat' first
    | (with_reducible first
      | assumption | refine State.set_good ?_ | refine State.bumpAt_good ?_ | refine Good.ite ?_ ?_
      | refine Good.foldl ?_ ?_)
    | intro _
    | extract_lets +onlyGivenNames x
    | with_reducible refine Good.of_mk ?_ rfl rfl rfl rfl rfl rfl rfl rfl rfl rfl rfl rfl rfl

theorem State.perfRecord_good {s : State} {new : Nat} {old : Nat} {event : Nat} {mv : Nat} (hg : Good cs s) : Good cs
    (State.perfRecord s new old event mv) := by
  unfold State.perfRecord
  repeat' with_reducible first
    | assumption | refine State.post_good ?_

theorem State.setFrequency_good {s : State} {lv : Nat} (hg : Good cs s) : Good cs (State.setFrequency s lv) := by
  unfold State.setFrequency
  repeat' with_reducible first
    | assumption | refine State.wr_good ?_ | refine State.set_good ?_

theorem State.changeFrequency_good {s : State} (hg : Good cs s) : Good cs (State.changeFrequency s) := by
  unfold State.changeFrequency
  repeat' first
    | (with_reducible first
      | assumption | refine State.setFrequency_good ?_ | refine State.armsClock_good ?_
      | refine State.setLevels_good ?_ | refine State.perfRecord_good ?_ | refine State.startVolt_good ?_
      | refine State.stepDone_good ?_ | refine Good.ite ?_ ?_ | refine Good.foldl ?_ ?_)
    | split
    | (with_reducible first
      | refine Good.snd_of (by assumption) ?_ | refine Good.fst_of (by assumption) ?_ | refine Good.thd_of (by assumption) ?_)
    | dsimp -zeta only
    | with_reducible refine Good.of_mk ?_ rfl rfl rfl rfl rfl rfl rfl rfl rfl rfl rfl rfl rfl

theorem State.freeBus_good {s : State} (hg : Good cs s) : Good cs (State.freeBus s) := by
  unfold State.freeBus
  repeat' first
    | (with_reducible first
      | assumption | refine Good.ite ?_ ?_ | refine Good.foldl ?_ ?_)
    | intro _
    | extract_lets +onlyGivenNames x
    | with_reducible refine Good.of_mk ?_ rfl rfl rfl rfl rfl rfl rfl rfl rfl rfl rfl rfl rfl

theorem State.stepFail_good {s : State} {result : Nat} {back : Bool} (hg : Good cs s) : Good cs (State.stepFail s
    result back) := by
  unfold State.stepFail
  repeat' first
    | (with_reducible first
      | assumption | refine State.freeBus_good ?_ | refine State.set_good ?_ | refine State.bumpAt_good ?_
      | refine State.perfRecord_good ?_ | refine State.raise_good ?_ | refine Good.ite ?_ ?_
      | refine Good.foldl ?_ ?_)
    | split
    | (with_reducible first
      | refine Good.snd_of (by assumption) ?_ | refine Good.fst_of (by assumption) ?_ | refine Good.thd_of (by assumption) ?_)
    | dsimp -zeta only
    | with_reducible refine Good.of_mk ?_ rfl rfl rfl rfl rfl rfl rfl rfl rfl rfl rfl rfl rfl

theorem State.retry_good {s : State} {result : Nat} (hg : Good cs s) : Good cs (State.retry s result) := by
  unfold State.retry
  repeat' first
    | (with_reducible first
      | assumption | refine State.stepFail_good ?_ | refine State.freeBus_good ?_ | refine Good.ite ?_ ?_
      | refine Good.foldl ?_ ?_)
    | split
    | (with_reducible first
      | refine Good.snd_of (by assumption) ?_ | refine Good.fst_of (by assumption) ?_ | refine Good.thd_of (by assumption) ?_)
    | dsimp -zeta only
    | with_reducible refine Good.of_mk ?_ rfl rfl rfl rfl rfl rfl rfl rfl rfl rfl rfl rfl rfl

theorem State.gotMode_good {s : State} {v : Nat} (hg : Good cs s) : Good cs (State.gotMode s v) := by
  unfold State.gotMode
  repeat' with_reducible first
    | assumption | refine State.set_good ?_ | refine State.startVolt_good ?_ | refine State.retry_good ?_
    | refine Good.ite ?_ ?_

theorem State.gotWrite_good {s : State} {back : Bool} (hg : Good cs s) : Good cs (State.gotWrite s back) := by
  unfold State.gotWrite
  repeat' first
    | (with_reducible first
      | assumption | refine State.freeBus_good ?_ | refine State.set_good ?_ | refine Good.ite ?_ ?_
      | refine Good.foldl ?_ ?_)
    | intro _
    | (extract_lets +onlyGivenNames x; refine Good.cut (t := x) ?_ ?_; unfold x; rotate_left; intro _; clear_value x)
    | extract_lets +onlyGivenNames x
    | with_reducible refine Good.of_mk ?_ rfl rfl rfl rfl rfl rfl rfl rfl rfl rfl rfl rfl rfl

theorem State.confirm_good {s : State} {mv : Nat} (hg : Good cs s) : Good cs (State.confirm s mv) := by
  unfold State.confirm
  repeat' first
    | (with_reducible first
      | assumption | refine State.perfRecord_good ?_ | refine State.setLevels_good ?_ | refine State.set_good ?_
      | refine State.stepDone_good ?_ | refine Good.ite ?_ ?_ | refine Good.foldl ?_ ?_)
    | split
    | (with_reducible first
      | refine Good.snd_of (by assumption) ?_ | refine Good.fst_of (by assumption) ?_ | refine Good.thd_of (by assumption) ?_)
    | dsimp -zeta only
    | with_reducible refine Good.of_mk ?_ rfl rfl rfl rfl rfl rfl rfl rfl rfl rfl rfl rfl rfl

theorem State.gotVout_good {s : State} {target : Nat} {v : Nat} (hg : Good cs s) : Good cs (State.gotVout s target v) :=
    by
  unfold State.gotVout
  repeat' with_reducible first
    | assumption | refine State.set_good ?_ | refine State.confirm_good ?_ | refine State.freeBus_good ?_
    | refine State.stepFail_good ?_ | refine Good.ite ?_ ?_

theorem State.pmbusDone_good {s : State} {x : PmbusResult} (hg : Good cs s) : Good cs (State.pmbusDone s x) := by
  unfold State.pmbusDone
  repeat' first
    | (with_reducible first
      | assumption | refine State.retry_good ?_ | refine State.gotMode_good ?_ | refine State.gotWrite_good ?_
      | refine State.gotVout_good ?_ | refine State.freeBus_good ?_ | refine State.set_good ?_
      | refine Good.ite ?_ ?_ | refine Good.foldl ?_ ?_)
    | split

theorem State.settleEnd_good {s : State} (hg : Good cs s) : Good cs (State.settleEnd s) := by
  unfold State.settleEnd
  repeat' first
    | (with_reducible first
      | assumption | refine Good.ite ?_ ?_ | refine Good.foldl ?_ ?_)
    | intro _
    | extract_lets +onlyGivenNames x
    | with_reducible refine Good.of_mk ?_ rfl rfl rfl rfl rfl rfl rfl rfl rfl rfl rfl rfl rfl

theorem State.wPlVout_good {s : State} {lv : Nat} {v : Word} (hg : Good cs s) : Good cs (State.wPlVout s lv v).2 := by
  unfold State.wPlVout
  repeat' first
    | (with_reducible first
      | assumption | refine State.setWord_good ?_ | refine State.setLevels_good ?_ | refine Good.ite ?_ ?_
      | refine Good.foldl ?_ ?_)
    | intro _
    | (extract_lets +onlyGivenNames x; refine Good.cut (t := x) ?_ ?_; unfold x; rotate_left; intro _; clear_value x)
    | extract_lets +onlyGivenNames x
    | split

theorem State.wPlPmbus_good {s : State} {sub : Nat} {v : Word} (hg : Good cs s) : Good cs (State.wPlPmbus s sub v).2
    := by
  unfold State.wPlPmbus
  repeat' first
    | (with_reducible first
      | assumption | refine State.setWord_good ?_ | refine Good.ite ?_ ?_ | refine Good.foldl ?_ ?_)
    | intro _
    | extract_lets +onlyGivenNames x
    | split

/-! Operations of Sys2Proof/Machine/Modes.lean. -/

theorem State.reportChunks_good {s : State} (hg : Good cs s) : Good cs (State.reportChunks s) := by
  unfold State.reportChunks
  repeat' with_reducible first
    | assumption | refine State.set_good ?_

theorem State.firmwareRecord_good {s : State} {fwIf : Nat} {svn : Nat} {event : Nat} {result : Nat} (hg : Good cs s) : Good
    cs (State.firmwareRecord s fwIf svn event result) := by
  unfold State.firmwareRecord
  repeat' with_reducible first
    | assumption | refine State.post_good ?_

theorem State.checkFailed_good {s : State} {fwIf : Nat} {svn : Nat} {result : Nat} {st : Nat} (hg : Good cs s) : Good cs
    (State.checkFailed s fwIf svn result st) := by
  unfold State.checkFailed
  repeat' with_reducible first
    | assumption | refine State.bump_good ?_ | refine State.set_good ?_ | refine State.firmwareRecord_good ?_

theorem State.headerFields_good {s : State} (hg : Good cs s) : Good cs (State.headerFields s).2.2 := by
  unfold State.headerFields
  repeat' first
    | (with_reducible first
      | assumption | refine State.free_good ?_ | refine Good.ite ?_ ?_ | refine Good.foldl ?_ ?_)
    | split

theorem State.checkDone_good {s : State} (hg : Good cs s) : Good cs (State.checkDone s) := by
  unfold State.checkDone
  repeat' first
    | (with_reducible first
      | assumption | refine State.headerFields_good ?_ | refine State.free_good ?_ | refine State.checkFailed_good ?_
      | refine State.set_good ?_ | refine State.firmwareRecord_good ?_ | refine Good.ite ?_ ?_
      | refine Good.foldl ?_ ?_)
    | split
    | (with_reducible first
      | refine Good.snd_of (by assumption) ?_ | refine Good.fst_of (by assumption) ?_ | refine Good.thd_of (by assumption) ?_)
    | dsimp -zeta only
    | with_reducible refine Good.of_mk ?_ rfl rfl rfl rfl rfl rfl rfl rfl rfl rfl rfl rfl rfl

theorem State.dropChunks_good {s : State} {length : Nat} (hg : Good cs s) : Good cs (State.dropChunks s length) := by
  unfold State.dropChunks
  repeat' first
    | (with_reducible first
      | assumption | refine State.set_good ?_ | refine Good.ite ?_ ?_ | refine Good.foldl ?_ ?_)
    | intro _
    | extract_lets +onlyGivenNames x
    | with_reducible refine Good.of_mk ?_ rfl rfl rfl rfl rfl rfl rfl rfl rfl rfl rfl rfl rfl

theorem State.bootBegin_good {s : State} {session : Nat} (hg : Good cs s) : Good cs (State.bootBegin s session) := by
  unfold State.bootBegin
  repeat' with_reducible first
    | assumption | refine State.set_good ?_ | refine State.dropChunks_good ?_

theorem State.bootEnd_good {s : State} (hg : Good cs s) : Good cs (State.bootEnd s) := by
  unfold State.bootEnd
  repeat' with_reducible first
    | assumption | refine State.set_good ?_

theorem State.bootRun_good {s : State} (hg : Good cs s) : Good cs (State.bootRun s) := by
  unfold State.bootRun
  repeat' with_reducible first
    | assumption | refine State.setWord_good ?_ | refine State.set_good ?_ | refine State.firmwareRecord_good ?_

theorem State.bootAbort_good {s : State} (hg : Good cs s) : Good cs (State.bootAbort s) := by
  unfold State.bootAbort
  repeat' with_reducible first
    | assumption | refine State.set_good ?_ | refine State.dropChunks_good ?_

theorem State.wBtCtrl_good {s : State} {v : Word} (hg : Good cs s) : Good cs (State.wBtCtrl s v).2 := by
  unfold State.wBtCtrl
  repeat' first
    | (with_reducible first
      | assumption | refine State.bootBegin_good ?_ | refine State.bootEnd_good ?_ | refine State.bootRun_good ?_
      | refine State.bootAbort_good ?_ | refine Good.ite ?_ ?_ | refine Good.foldl ?_ ?_)
    | intro _
    | extract_lets +onlyGivenNames x
    | split

theorem State.storeChunk_good {s : State} {k : Nat} {c : BitVec 2048} (hg : Good cs s) : Good cs (State.storeChunk s k
    c) := by
  unfold State.storeChunk
  repeat' first
    | (with_reducible first
      | assumption | refine Good.ite ?_ ?_ | refine Good.foldl ?_ ?_)
    | intro _
    | extract_lets +onlyGivenNames x
    | with_reducible refine Good.of_mk ?_ rfl rfl rfl rfl rfl rfl rfl rfl rfl rfl rfl rfl rfl

theorem State.image_good {s : State} {f : ImgFrame} (hg : Good cs s) : Good cs (State.image s f).2 := by
  unfold State.image
  repeat' first
    | (with_reducible first
      | assumption | refine State.reportChunks_good ?_ | refine State.storeChunk_good ?_ | refine Good.ite ?_ ?_
      | refine Good.foldl ?_ ?_)
    | intro _
    | extract_lets +onlyGivenNames x
    | split

theorem State.domainStart_good {s : State} (hg : Good cs s) : Good cs (State.domainStart s) := by
  unfold State.domainStart
  repeat' first
    | (with_reducible first
      | assumption | refine State.eachIn_good ?_ ?_ | refine State.wr_good ?_ | refine State.set_good ?_
      | refine Good.ite ?_ ?_ | refine Good.foldl ?_ ?_)
    | intro _
    | extract_lets +onlyGivenNames x
    | with_reducible refine Good.of_mk ?_ rfl rfl rfl rfl rfl rfl rfl rfl rfl rfl rfl rfl rfl

theorem State.refuseMode_good {s : State} {st : Nat} (hg : Good cs s) : Good cs (State.refuseMode s st).2 := by
  unfold State.refuseMode
  repeat' with_reducible first
    | assumption | refine State.bump_good ?_

theorem State.askMode_good {s : State} {req : Nat} {next : Option (Nat × Nat × Nat)} (hg : Good cs s) : Good cs
    (State.askMode s req next).2 := by
  unfold State.askMode
  repeat' first
    | (with_reducible first
      | assumption | refine State.bump_good ?_ | refine State.set_good ?_ | refine Good.ite ?_ ?_
      | refine Good.foldl ?_ ?_)
    | intro _
    | (extract_lets +onlyGivenNames x; refine Good.cut (t := x) ?_ ?_; unfold x; rotate_left; intro _; clear_value x)
    | extract_lets +onlyGivenNames x
    | with_reducible refine Good.of_mk ?_ rfl rfl rfl rfl rfl rfl rfl rfl rfl rfl rfl rfl rfl

theorem State.wMdRequest_good {s : State} {v : Word} (hg : Good cs s) : Good cs (State.wMdRequest s v).2 := by
  unfold State.wMdRequest
  repeat' first
    | (with_reducible first
      | assumption | refine State.refuseMode_good ?_ | refine State.askMode_good ?_ | refine Good.ite ?_ ?_
      | refine Good.foldl ?_ ?_)
    | intro _
    | extract_lets +onlyGivenNames x
    | split

theorem State.beginDormant_good {s : State} (hg : Good cs s) : Good cs (State.beginDormant s) := by
  unfold State.beginDormant
  repeat' first
    | (with_reducible first
      | assumption | refine State.setMode_good ?_ | refine State.set_good ?_ | refine State.endRing_good ?_
      | refine State.missShadow_good ?_ | refine State.bumpAt_good ?_ | refine State.sealNow_good ?_
      | refine Good.ite ?_ ?_ | refine Good.foldl ?_ ?_)
    | intro _
    | (extract_lets +onlyGivenNames x; refine Good.cut (t := x) ?_ ?_; unfold x; rotate_left; intro _; clear_value x)
    | extract_lets +onlyGivenNames x
    | with_reducible refine Good.of_mk ?_ rfl rfl rfl rfl rfl rfl rfl rfl rfl rfl rfl rfl rfl

theorem State.modeChange_good {s : State} (hg : Good cs s) : Good cs (State.modeChange s) := by
  unfold State.modeChange
  repeat' first
    | (with_reducible first
      | assumption | refine State.setMode_good ?_ | refine State.bump_good ?_ | refine State.beginDormant_good ?_
      | refine State.leaveEntry_good ?_ | refine Good.ite ?_ ?_ | refine Good.foldl ?_ ?_)
    | split
    | (with_reducible first
      | refine Good.snd_of (by assumption) ?_ | refine Good.fst_of (by assumption) ?_ | refine Good.thd_of (by assumption) ?_)
    | dsimp -zeta only
    | with_reducible refine Good.of_mk ?_ rfl rfl rfl rfl rfl rfl rfl rfl rfl rfl rfl rfl rfl

theorem State.beginExit_good {s : State} (hg : Good cs s) : Good cs (State.beginExit s) := by
  unfold State.beginExit
  repeat' first
    | (with_reducible first
      | assumption | refine State.startSearch_good ?_ | refine State.set_good ?_ | refine State.eachIn_good ?_ ?_
      | refine State.beginWake_good ?_ | refine Good.ite ?_ ?_ | refine Good.foldl ?_ ?_)
    | intro _
    | extract_lets +onlyGivenNames x
    | with_reducible refine Good.of_mk ?_ rfl rfl rfl rfl rfl rfl rfl rfl rfl rfl rfl rfl rfl

theorem State.clockStop_good {s : State} (hg : Good cs s) : Good cs (State.clockStop s) := by
  unfold State.clockStop
  repeat' first
    | (with_reducible first
      | assumption | refine State.set_good ?_ | refine State.each_good ?_ ?_ | refine State.wr_good ?_
      | refine State.clearReady_good ?_ | refine State.beginExit_good ?_ | refine Good.ite ?_ ?_
      | refine Good.foldl ?_ ?_)
    | intro _
    | extract_lets +onlyGivenNames x
    | with_reducible refine Good.of_mk ?_ rfl rfl rfl rfl rfl rfl rfl rfl rfl rfl rfl rfl rfl

end Sys2Proof.Machine
end

