-- ==== Sys2Proof/Laws/GoodSafety.lean ====
section
/-! SUPPORT. Every operation of these parts of the machine keeps the queue and the invariant: the safe state, supply,
resets, calibration, the ring and the survey. -/

namespace Sys2Proof.Machine

variable {cs : List Instr}

/-! Operations of Sys2Proof/Machine/SafeState.lean. -/

theorem State.collectorSamples_good {s : State} (hg : Good cs s) : Good cs (State.collectorSamples s) := by
  unfold State.collectorSamples
  repeat' first
    | (with_reducible first
      | assumption | refine State.raiseLevels_good ?_ | refine State.endCause_good ?_ | refine Good.ite ?_ ?_
      | refine Good.foldl ?_ ?_)
    | intro _
    | (extract_lets +onlyGivenNames x; refine Good.cut (t := x) ?_ ?_; unfold x; rotate_left; intro _; clear_value x)
    | extract_lets +onlyGivenNames x
    | with_reducible refine Good.of_mk ?_ rfl rfl rfl rfl rfl rfl rfl rfl rfl rfl rfl rfl rfl

theorem State.faultReport_good {s : State} {rs : List Report} (hg : Good cs s) : Good cs (State.faultReport s rs) :=
    by
  unfold State.faultReport
  repeat' first
    | (with_reducible first
      | assumption | refine State.checked_good ?_ | refine State.setSourceBit_good ?_ | refine State.report_good ?_
      | refine Good.ite ?_ ?_ | refine Good.foldl ?_ ?_)
    | intro _

theorem State.causeEnd_good {s : State} {src : Nat} (hg : Good cs s) : Good cs (State.causeEnd s src) := by
  unfold State.causeEnd
  repeat' first
    | (with_reducible first
      | assumption | refine State.set_good ?_ | refine State.each_good ?_ ?_ | refine State.wr_good ?_
      | refine State.endCause_good ?_ | refine Good.ite ?_ ?_ | refine Good.foldl ?_ ?_)
    | intro _
    | (extract_lets +onlyGivenNames x; refine Good.cut (t := x) ?_ ?_; unfold x; rotate_left; intro _; clear_value x)
    | extract_lets +onlyGivenNames x
    | with_reducible refine Good.of_mk ?_ rfl rfl rfl rfl rfl rfl rfl rfl rfl rfl rfl rfl rfl

theorem State.containLane_good {s : State} {src : Nat} {act : Nat} {unit : Nat} {e : Nat} (hg : Good cs s) : Good cs
    (State.containLane s src act unit e) := by
  unfold State.containLane
  repeat' with_reducible first
    | assumption | refine State.coastLane_good ?_ | refine State.parkLane_good ?_ | refine Good.ite ?_ ?_

theorem State.applyContainment_good {s : State} (hg : Good cs s) : Good cs (State.applyContainment s) := by
  unfold State.applyContainment
  repeat' first
    | (with_reducible first
      | assumption | refine State.eachLane_good ?_ ?_ | refine State.containLane_good ?_ | refine Good.ite ?_ ?_
      | refine Good.foldl ?_ ?_)
    | intro _
    | extract_lets +onlyGivenNames x
    | with_reducible refine Good.of_mk ?_ rfl rfl rfl rfl rfl rfl rfl rfl rfl rfl rfl rfl rfl

theorem State.passFault_good {s : State} (hg : Good cs s) : Good cs (State.passFault s) := by
  unfold State.passFault
  repeat' first
    | (with_reducible first
      | assumption | refine State.postRec_good ?_ | refine Good.ite ?_ ?_ | refine Good.foldl ?_ ?_)
    | split
    | (with_reducible first
      | refine Good.snd_of (by assumption) ?_ | refine Good.fst_of (by assumption) ?_ | refine Good.thd_of (by assumption) ?_)
    | dsimp -zeta only
    | with_reducible refine Good.of_mk ?_ rfl rfl rfl rfl rfl rfl rfl rfl rfl rfl rfl rfl rfl

theorem State.safeIn_good {s : State} (hg : Good cs s) : Good cs (State.safeIn s) := by
  unfold State.safeIn
  repeat' first
    | (with_reducible first
      | assumption | refine State.set_good ?_ | refine State.assertFlt_good ?_ | refine State.darken_good ?_
      | refine State.collectorSamples_good ?_ | refine State.passTo_good ?_ | refine Good.ite ?_ ?_
      | refine Good.foldl ?_ ?_)
    | intro _
    | extract_lets +onlyGivenNames x
    | with_reducible refine Good.of_mk ?_ rfl rfl rfl rfl rfl rfl rfl rfl rfl rfl rfl rfl rfl

theorem State.gateMismatch_good {s : State} {p : Nat} (hg : Good cs s) : Good cs (State.gateMismatch s p) := by
  unfold State.gateMismatch
  repeat' with_reducible first
    | assumption | refine State.assertFlt_good ?_ | refine State.wr_good ?_ | refine State.raiseLevel_good ?_
    | refine Good.ite ?_ ?_

theorem State.emptyFirst_good {s : State} (hg : Good cs s) : Good cs (State.emptyFirst s) := by
  unfold State.emptyFirst
  repeat' first
    | (with_reducible first
      | assumption | refine State.each_good ?_ ?_ | refine State.setWord_good ?_ | refine Good.ite ?_ ?_
      | refine Good.foldl ?_ ?_)
    | intro _

theorem State.wFcClear_good {s : State} {v : Word} (hg : Good cs s) : Good cs (State.wFcClear s v).2 := by
  unfold State.wFcClear
  repeat' first
    | (with_reducible first
      | assumption | refine State.clearSource_good ?_ | refine State.emptyFirst_good ?_
      | refine State.settleStatus_good ?_ | refine Good.ite ?_ ?_ | refine Good.foldl ?_ ?_)
    | intro _
    | (extract_lets +onlyGivenNames x; refine Good.cut (t := x) ?_ ?_; unfold x; rotate_left; intro _; clear_value x)
    | extract_lets +onlyGivenNames x
    | split

theorem State.wFcCfg_good {s : State} {src : Nat} {v : Word} (hg : Good cs s) : Good cs (State.wFcCfg s src v).2 := by
  unfold State.wFcCfg
  repeat' first
    | (with_reducible first
      | assumption | refine State.setWord_good ?_ | refine Good.ite ?_ ?_ | refine Good.foldl ?_ ?_)
    | split

theorem State.wFcFifo_good {s : State} {v : Word} (hg : Good cs s) : Good cs (State.wFcFifo s v).2 := by
  unfold State.wFcFifo
  repeat' first
    | (with_reducible first
      | assumption | refine State.set_good ?_ | refine Good.ite ?_ ?_ | refine Good.foldl ?_ ?_)
    | split

theorem State.clearSevere_good {s : State} (hg : Good cs s) : Good cs (State.clearSevere s) := by
  unfold State.clearSevere
  repeat' first
    | (with_reducible first
      | assumption | refine State.settleStatus_good ?_ | refine State.clearSource_good ?_ | refine Good.ite ?_ ?_
      | refine Good.foldl ?_ ?_)
    | intro _

theorem State.recallEntry_good {s : State} (hg : Good cs s) : Good cs (State.recallEntry s) := by
  unfold State.recallEntry
  repeat' first
    | (with_reducible first
      | assumption | refine State.voteRose_good ?_ | refine State.leaveEntry_good ?_ | refine Good.ite ?_ ?_
      | refine Good.foldl ?_ ?_)
    | split
    | (with_reducible first
      | refine Good.snd_of (by assumption) ?_ | refine Good.fst_of (by assumption) ?_ | refine Good.thd_of (by assumption) ?_)
    | dsimp -zeta only
    | with_reducible refine Good.of_mk ?_ rfl rfl rfl rfl rfl rfl rfl rfl rfl rfl rfl rfl rfl

theorem State.endSafe_good {s : State} (hg : Good cs s) : Good cs (State.endSafe s) := by
  unfold State.endSafe
  repeat' first
    | (with_reducible first
      | assumption | refine State.set_good ?_ | refine State.each_good ?_ ?_ | refine State.setWord_good ?_
      | refine State.post_good ?_ | refine State.beginExit_good ?_ | refine State.recallEntry_good ?_
      | refine State.setMode_good ?_ | refine State.eachIn_good ?_ ?_ | refine State.beginWake_good ?_
      | refine Good.ite ?_ ?_ | refine Good.foldl ?_ ?_)
    | intro _
    | extract_lets +onlyGivenNames x
    | with_reducible refine Good.of_mk ?_ rfl rfl rfl rfl rfl rfl rfl rfl rfl rfl rfl rfl rfl

theorem State.wSfRelease_good {s : State} {v : Word} (hg : Good cs s) : Good cs (State.wSfRelease s v).2 := by
  unfold State.wSfRelease
  repeat' first
    | (with_reducible first
      | assumption | refine State.bumpAt_good ?_ | refine State.clearSevere_good ?_ | refine State.endSafe_good ?_
      | refine Good.ite ?_ ?_ | refine Good.foldl ?_ ?_)
    | split
    | (with_reducible first
      | refine Good.snd_of (by assumption) ?_ | refine Good.fst_of (by assumption) ?_ | refine Good.thd_of (by assumption) ?_)
    | dsimp -zeta only
    | with_reducible refine Good.of_mk ?_ rfl rfl rfl rfl rfl rfl rfl rfl rfl rfl rfl rfl rfl

theorem State.releaseEffect_good {s : State} (hg : Good cs s) : Good cs (State.releaseEffect s) := by
  unfold State.releaseEffect
  repeat' first
    | (with_reducible first
      | assumption | refine State.endSafe_good ?_ | refine Good.ite ?_ ?_ | refine Good.foldl ?_ ?_)
    | split

theorem State.wTiInject_good {s : State} {v : Word} (hg : Good cs s) : Good cs (State.wTiInject s v).2 := by
  unfold State.wTiInject
  repeat' first
    | (with_reducible first
      | assumption | refine State.set_good ?_ | refine State.bump_good ?_ | refine State.post_good ?_
      | refine Good.ite ?_ ?_ | refine Good.foldl ?_ ?_)
    | intro _
    | (extract_lets +onlyGivenNames x; refine Good.cut (t := x) ?_ ?_; unfold x; rotate_left; intro _; clear_value x)
    | extract_lets +onlyGivenNames x
    | split
    | (with_reducible first
      | refine Good.snd_of (by assumption) ?_ | refine Good.fst_of (by assumption) ?_ | refine Good.thd_of (by assumption) ?_)
    | dsimp -zeta only
    | with_reducible refine Good.of_mk ?_ rfl rfl rfl rfl rfl rfl rfl rfl rfl rfl rfl rfl rfl

theorem State.wGtCfg_good {s : State} {p : Nat} {v : Word} (hg : Good cs s) : Good cs (State.wGtCfg s p v).2 := by
  unfold State.wGtCfg
  repeat' first
    | (with_reducible first
      | assumption | refine State.setWord_good ?_ | refine Good.ite ?_ ?_ | refine Good.foldl ?_ ?_)
    | split

/-! Operations of Sys2Proof/Machine/Supply.lean. -/

theorem State.setRail_good {s : State} {r : Nat} {x : RailSt} (hg : Good cs s) : Good cs (State.setRail s r x) := by
  unfold State.setRail
  repeat' first
    | (with_reducible first
      | assumption | refine Good.ite ?_ ?_ | refine Good.foldl ?_ ?_)
    | intro _
    | extract_lets +onlyGivenNames x
    | with_reducible refine Good.of_mk ?_ rfl rfl rfl rfl rfl rfl rfl rfl rfl rfl rfl rfl rfl

theorem State.setLow_good {s : State} {r : Nat} {b : Bool} (hg : Good cs s) : Good cs (State.setLow s r b) := by
  unfold State.setLow
  repeat' with_reducible first
    | assumption | refine State.setB_good ?_ | refine Good.ite ?_ ?_

theorem State.warningCross_good {s : State} {r : Nat} {lowest : Nat} (hg : Good cs s) : Good cs (State.warningCross s r
    lowest) := by
  unfold State.warningCross
  repeat' with_reducible first
    | assumption | refine State.setRail_good ?_ | refine State.setLow_good ?_ | refine Good.ite ?_ ?_

theorem State.setMarginal_good {s : State} (hg : Good cs s) : Good cs (State.setMarginal s) := by
  unfold State.setMarginal
  repeat' with_reducible first
    | assumption | refine State.mapLanes_good ?_ | refine State.set_good ?_ | refine State.cancelStep_good ?_
    | refine State.abandonCal_good ?_

theorem State.dipQualify_good {s : State} {r : Nat} {lowest : Nat} (hg : Good cs s) : Good cs (State.dipQualify s r
    lowest) := by
  unfold State.dipQualify
  repeat' first
    | (with_reducible first
      | assumption | refine State.passTo_good ?_ | refine State.setRail_good ?_ | refine State.setMarginal_good ?_
      | refine State.bumpAt_good ?_ | refine State.raiseLevel_good ?_ | refine Good.ite ?_ ?_
      | refine Good.foldl ?_ ?_)
    | intro _
    | extract_lets +onlyGivenNames x
    | with_reducible refine Good.of_mk ?_ rfl rfl rfl rfl rfl rfl rfl rfl rfl rfl rfl rfl rfl

theorem State.supplyRecover_good {s : State} {r : Nat} {lowest : Nat} (hg : Good cs s) : Good cs (State.supplyRecover s
    r lowest) := by
  unfold State.supplyRecover
  repeat' first
    | (with_reducible first
      | assumption | refine State.endCause_good ?_ | refine State.setRail_good ?_ | refine State.setLow_good ?_
      | refine State.post_good ?_ | refine State.setWord_good ?_ | refine State.bumpAt_good ?_
      | refine Good.ite ?_ ?_ | refine Good.foldl ?_ ?_)
    | intro _
    | (extract_lets +onlyGivenNames x; refine Good.cut (t := x) ?_ ?_; unfold x; rotate_left; intro _; clear_value x)
    | extract_lets +onlyGivenNames x
    | with_reducible refine Good.of_mk ?_ rfl rfl rfl rfl rfl rfl rfl rfl rfl rfl rfl rfl rfl

theorem State.marginalClear_good {s : State} (hg : Good cs s) : Good cs (State.marginalClear s) := by
  unfold State.marginalClear
  repeat' first
    | (with_reducible first
      | assumption | refine State.set_good ?_ | refine Good.ite ?_ ?_ | refine Good.foldl ?_ ?_)
    | intro _
    | (extract_lets +onlyGivenNames x; refine Good.cut (t := x) ?_ ?_; unfold x; rotate_left; intro _; clear_value x)
    | extract_lets +onlyGivenNames x
    | with_reducible refine Good.of_mk ?_ rfl rfl rfl rfl rfl rfl rfl rfl rfl rfl rfl rfl rfl

theorem State.resetLevel_good {s : State} {r : Nat} (hg : Good cs s) : Good cs (State.resetLevel s r) := by
  unfold State.resetLevel
  repeat' first
    | (with_reducible first
      | assumption | refine State.warningCross_good ?_ | refine State.bumpAt_good ?_
      | refine State.raiseLevel_good ?_ | refine Good.ite ?_ ?_ | refine Good.foldl ?_ ?_)
    | intro _
    | extract_lets +onlyGivenNames x
    | with_reducible refine Good.of_mk ?_ rfl rfl rfl rfl rfl rfl rfl rfl rfl rfl rfl rfl rfl

theorem State.storeTemp_good {s : State} {k : Nat} {v : Int} (hg : Good cs s) : Good cs (State.storeTemp s k v) := by
  unfold State.storeTemp
  repeat' with_reducible first
    | assumption | refine State.wrI_good ?_ | refine State.setI_good ?_ | refine State.set_good ?_
    | refine Good.ite ?_ ?_

theorem State.convert_good {s : State} {xs : List (Nat × Int)} (hg : Good cs s) : Good cs (State.convert s xs) := by
  unfold State.convert
  repeat' first
    | (with_reducible first
      | assumption | refine State.storeTemp_good ?_ | refine State.endCause_good ?_
      | refine State.raiseLevels_good ?_ | refine State.followFerr_good ?_ | refine Good.ite ?_ ?_
      | refine Good.foldl ?_ ?_)
    | intro _
    | extract_lets +onlyGivenNames x
    | with_reducible refine Good.of_mk ?_ rfl rfl rfl rfl rfl rfl rfl rfl rfl rfl rfl rfl rfl

theorem State.wThLimits_good {s : State} {v : Word} (hg : Good cs s) : Good cs (State.wThLimits s v).2 := by
  unfold State.wThLimits
  repeat' first
    | (with_reducible first
      | assumption | refine State.setWord_good ?_ | refine Good.ite ?_ ?_ | refine Good.foldl ?_ ?_)
    | intro _
    | extract_lets +onlyGivenNames x
    | split

theorem State.wThMax_good {s : State} {index : Nat} {v : Word} (hg : Good cs s) : Good cs (State.wThMax s index v).2
    := by
  unfold State.wThMax
  repeat' first
    | (with_reducible first
      | assumption | refine State.setWord_good ?_ | refine Good.ite ?_ ?_ | refine Good.foldl ?_ ?_)
    | split

theorem State.pmbusAlert_good {s : State} {status : Nat} (hg : Good cs s) : Good cs (State.pmbusAlert s status) := by
  unfold State.pmbusAlert
  repeat' first
    | (with_reducible first
      | assumption | refine State.raiseLevel_good ?_ | refine State.set_good ?_ | refine Good.ite ?_ ?_
      | refine Good.foldl ?_ ?_)
    | intro _
    | extract_lets +onlyGivenNames x
    | with_reducible refine Good.of_mk ?_ rfl rfl rfl rfl rfl rfl rfl rfl rfl rfl rfl rfl rfl

/-! Operations of Sys2Proof/Machine/Resets.lean. -/

theorem State.showPins_good {s : State} {alert : Bool} (hg : Good cs s) : Good cs (State.showPins s alert) := by
  unfold State.showPins
  repeat' with_reducible first
    | assumption | refine State.setB_good ?_

theorem State.deviceLoss_good {s : State} {kind : Nat} (hg : Good cs s) : Good cs (s.deviceLoss kind) := by
  unfold State.deviceLoss
  extract_lets +onlyGivenNames alert x1 x2 x3 x4
  have h1 : Good cs x1 := Good.foldl hg fun _ _ h => State.enforce_good h
  have h2 : Good cs x2 := State.each_good h1 fun _ _ h => State.enforce_good h
  have h3 : Good cs x3 := State.resetLog_good h2
  have h4 : Good cs x4 := State.loseWords_good h3
  clear_value x4
  refine State.showPins_good (State.darken_good ?_)
  refine { h4 with lanes := rfl, mons := rfl, pds := Table.wf_mapVals _ h4.pds, tiles := rfl, tide := rfl, pairs := ?_,
                   reqsA := Nat.zero_le 4, reqsB := Nat.zero_le 4 }
  show List.length (if kind = kindCold then State.blank.pairs else x4.pairs.map PairSt.inReset) = 4
  split
  · rfl
  · rw [List.length_map]; exact h4.pairs

theorem State.assertReset_good {s : State} {kind : Nat} (hg : Good cs s) : Good cs (s.assertReset kind) := by
  have key : ∀ t : State, Good cs t → ∀ r : ResetSt, Good cs ({ t with rst := r } : State) := fun t ht r => { ht with }
  unfold State.assertReset
  extract_lets +onlyGivenNames r x
  have hx : Good cs x := Good.ite (key _ hg _) hg
  clear_value x
  exact key _ (State.deviceLoss_good hx) _

theorem State.loseLatch_good {s : State} (hg : Good cs s) : Good cs (State.loseLatch s) := by
  unfold State.loseLatch
  repeat' with_reducible first
    | assumption | refine State.loseWords_good ?_ | refine Good.ite ?_ ?_

theorem State.coldReset_good {s : State} (hg : Good cs s) : Good cs (State.coldReset s) := by
  unfold State.coldReset
  repeat' first
    | (with_reducible first
      | assumption | refine State.freeBit_good ?_ | refine State.assertReset_good ?_ | refine State.loseLatch_good ?_
      | refine Good.ite ?_ ?_ | refine Good.foldl ?_ ?_)
    | intro _
    | extract_lets +onlyGivenNames x
    | with_reducible refine Good.of_mk ?_ rfl rfl rfl rfl rfl rfl rfl rfl rfl rfl rfl rfl rfl

theorem State.pinReset_good {s : State} (hg : Good cs s) : Good cs (State.pinReset s) := by
  unfold State.pinReset
  repeat' with_reducible first
    | assumption | refine State.bump_good ?_ | refine State.assertReset_good ?_

theorem State.brownReset_good {s : State} (hg : Good cs s) : Good cs (State.brownReset s) := by
  unfold State.brownReset
  repeat' first
    | (with_reducible first
      | assumption | refine State.passTo_good ?_ | refine State.assertReset_good ?_ | refine Good.ite ?_ ?_
      | refine Good.foldl ?_ ?_)
    | split
    | (with_reducible first
      | refine Good.snd_of (by assumption) ?_ | refine Good.fst_of (by assumption) ?_ | refine Good.thd_of (by assumption) ?_)
    | dsimp -zeta only
    | with_reducible refine Good.of_mk ?_ rfl rfl rfl rfl rfl rfl rfl rfl rfl rfl rfl rfl rfl

theorem State.ringReset_good {s : State} (hg : Good cs s) : Good cs (State.ringReset s) := by
  unfold State.ringReset
  repeat' first
    | (with_reducible first
      | assumption | refine State.bump_good ?_ | refine State.assertReset_good ?_ | refine State.passTo_good ?_
      | refine Good.ite ?_ ?_ | refine Good.foldl ?_ ?_)
    | split

theorem State.samplePol_good {s : State} {level : Nat} (hg : Good cs s) : Good cs (State.samplePol s level) := by
  unfold State.samplePol
  repeat' first
    | (with_reducible first
      | assumption | refine State.set_good ?_ | refine Good.ite ?_ ?_ | refine Good.foldl ?_ ?_)
    | intro _
    | extract_lets +onlyGivenNames x
    | with_reducible refine Good.of_mk ?_ rfl rfl rfl rfl rfl rfl rfl rfl rfl rfl rfl rfl rfl

theorem State.sampleStraps_good {s : State} {x : Straps} (hg : Good cs s) : Good cs (State.sampleStraps s x) := by
  unfold State.sampleStraps
  repeat' with_reducible first
    | assumption | refine State.set_good ?_ | refine State.samplePol_good ?_ | refine State.setB_good ?_

theorem State.strapDivider_good {s : State} {kind : Nat} (hg : Good cs s) : Good cs (State.strapDivider s kind) := by
  unfold State.strapDivider
  repeat' with_reducible first
    | assumption | refine State.setDiv_good ?_ | refine State.set_good ?_ | refine Good.ite ?_ ?_

theorem State.resetCause_good {s : State} {kind : Nat} (hg : Good cs s) : Good cs (State.resetCause s kind) := by
  unfold State.resetCause
  repeat' with_reducible first
    | assumption | refine State.set_good ?_

theorem State.enterBoot_good {s : State} (hg : Good cs s) : Good cs (State.enterBoot s) := by
  unfold State.enterBoot
  repeat' with_reducible first
    | assumption | refine State.set_good ?_ | refine State.post_good ?_ | refine State.bump_good ?_

theorem State.release_good {s : State} {x : Straps} (hg : Good cs s) : Good cs (State.release s x) := by
  unfold State.release
  repeat' first
    | (with_reducible first
      | assumption | refine State.sampleStraps_good ?_ | refine State.set_good ?_ | refine State.strapDivider_good ?_
      | refine State.each_good ?_ ?_ | refine State.setWord_good ?_ | refine State.resetCause_good ?_
      | refine State.setLevels_good ?_ | refine State.enterBoot_good ?_ | refine State.reportNow_good ?_
      | refine State.collectorSamples_good ?_ | refine Good.ite ?_ ?_ | refine Good.foldl ?_ ?_)
    | intro _
    | extract_lets +onlyGivenNames x
    | with_reducible refine Good.of_mk ?_ rfl rfl rfl rfl rfl rfl rfl rfl rfl rfl rfl rfl rfl

theorem State.vgateCross_good {s : State} {up : Bool} (hg : Good cs s) : Good cs (State.vgateCross s up) := by
  unfold State.vgateCross
  repeat' first
    | (with_reducible first
      | assumption | refine State.samplePol_good ?_ | refine State.loseLatch_good ?_ | refine Good.ite ?_ ?_
      | refine Good.foldl ?_ ?_)
    | intro _
    | extract_lets +onlyGivenNames x
    | with_reducible refine Good.of_mk ?_ rfl rfl rfl rfl rfl rfl rfl rfl rfl rfl rfl rfl rfl

theorem State.wPwDomainReset_good {s : State} {port : Nat} {v : Word} (hg : Good cs s) : Good cs (State.wPwDomainReset
    s port v).2 := by
  unfold State.wPwDomainReset
  repeat' first
    | (with_reducible first
      | assumption | refine State.set_good ?_ | refine State.demandWake_good ?_ | refine Good.ite ?_ ?_
      | refine Good.foldl ?_ ?_)
    | intro _
    | (extract_lets +onlyGivenNames x; refine Good.cut (t := x) ?_ ?_; unfold x; rotate_left; intro _; clear_value x)
    | extract_lets +onlyGivenNames x
    | split
    | (with_reducible first
      | refine Good.snd_of (by assumption) ?_ | refine Good.fst_of (by assumption) ?_ | refine Good.thd_of (by assumption) ?_)
    | dsimp -zeta only
    | with_reducible refine Good.of_mk ?_ rfl rfl rfl rfl rfl rfl rfl rfl rfl rfl rfl rfl rfl

theorem State.domResetStart_good {s : State} (hg : Good cs s) : Good cs (State.domResetStart s) := by
  unfold State.domResetStart
  repeat' first
    | (with_reducible first
      | assumption | refine State.stopPorts_good ?_ | refine Good.ite ?_ ?_ | refine Good.foldl ?_ ?_)
    | split
    | (with_reducible first
      | refine Good.snd_of (by assumption) ?_ | refine Good.fst_of (by assumption) ?_ | refine Good.thd_of (by assumption) ?_)
    | dsimp -zeta only
    | with_reducible refine Good.of_mk ?_ rfl rfl rfl rfl rfl rfl rfl rfl rfl rfl rfl rfl rfl

theorem State.resetExtra_good {s : State} {d : Nat} (hg : Good cs s) : Good cs (State.resetExtra s d) := by
  unfold State.resetExtra
  repeat' first
    | (with_reducible first
      | assumption | refine State.loseFifo_good ?_ | refine Good.ite ?_ ?_ | refine Good.foldl ?_ ?_)
    | intro _
    | extract_lets +onlyGivenNames x
    | with_reducible refine Good.of_mk ?_ rfl rfl rfl rfl rfl rfl rfl rfl rfl rfl rfl rfl rfl

theorem State.domResetRelease_good {s : State} (hg : Good cs s) : Good cs (State.domResetRelease s) := by
  unfold State.domResetRelease
  repeat' first
    | (with_reducible first
      | assumption | refine State.loseDomain_good ?_ | refine State.resetExtra_good ?_ | refine Good.ite ?_ ?_
      | refine Good.foldl ?_ ?_)
    | split
    | (with_reducible first
      | refine Good.snd_of (by assumption) ?_ | refine Good.fst_of (by assumption) ?_ | refine Good.thd_of (by assumption) ?_)
    | dsimp -zeta only
    | with_reducible refine Good.of_mk ?_ rfl rfl rfl rfl rfl rfl rfl rfl rfl rfl rfl rfl rfl

theorem State.peerDrop_good {s : State} {d : Nat} (hg : Good cs s) : Good cs (State.peerDrop s d) := by
  unfold State.peerDrop
  repeat' first
    | (with_reducible first
      | assumption | refine State.bumpAt_good ?_ | refine Good.ite ?_ ?_ | refine Good.foldl ?_ ?_)
    | split
    | (with_reducible first
      | refine Good.snd_of (by assumption) ?_ | refine Good.fst_of (by assumption) ?_ | refine Good.thd_of (by assumption) ?_)
    | dsimp -zeta only
    | with_reducible refine Good.of_mk ?_ rfl rfl rfl rfl rfl rfl rfl rfl rfl rfl rfl rfl rfl

theorem State.handshakeDone_good {s : State} {d : Nat} (hg : Good cs s) : Good cs (State.handshakeDone s d) := by
  unfold State.handshakeDone
  repeat' first
    | (with_reducible first
      | assumption | refine State.set_good ?_ | refine State.bumpAt_good ?_ | refine Good.ite ?_ ?_
      | refine Good.foldl ?_ ?_)
    | split
    | (with_reducible first
      | refine Good.snd_of (by assumption) ?_ | refine Good.fst_of (by assumption) ?_ | refine Good.thd_of (by assumption) ?_)
    | dsimp -zeta only
    | with_reducible refine Good.of_mk ?_ rfl rfl rfl rfl rfl rfl rfl rfl rfl rfl rfl rfl rfl

/-! Operations of Sys2Proof/Machine/Calibration.lean. -/

theorem State.queueUnit_good {s : State} {u : Nat} (hg : Good cs s) : Good cs (State.queueUnit s u) := by
  unfold State.queueUnit
  repeat' first
    | (with_reducible first
      | assumption | refine Good.ite ?_ ?_ | refine Good.foldl ?_ ?_)
    | intro _
    | extract_lets +onlyGivenNames x
    | with_reducible refine Good.of_mk ?_ rfl rfl rfl rfl rfl rfl rfl rfl rfl rfl rfl rfl rfl

theorem State.calCheck_good {s : State} (hg : Good cs s) : Good cs (State.calCheck s) := by
  unfold State.calCheck
  repeat' first
    | (with_reducible first
      | assumption | refine State.queueUnit_good ?_ | refine Good.ite ?_ ?_ | refine Good.foldl ?_ ?_)
    | intro _

theorem State.wSvCalReq_good {s : State} {v : Word} (hg : Good cs s) : Good cs (State.wSvCalReq s v).2 := by
  unfold State.wSvCalReq
  repeat' first
    | (with_reducible first
      | assumption | refine State.queueUnit_good ?_ | refine Good.ite ?_ ?_ | refine Good.foldl ?_ ?_)
    | intro _
    | extract_lets +onlyGivenNames x
    | split

theorem State.beginRun_good {s : State} {u : Nat} {survey : Bool} (hg : Good cs s) : Good cs (State.beginRun s u
    survey) := by
  unfold State.beginRun
  repeat' first
    | (with_reducible first
      | assumption | refine State.setMon_good ?_ | refine State.wr_good ?_ | refine Good.ite ?_ ?_
      | refine Good.foldl ?_ ?_)
    | intro _
    | (extract_lets +onlyGivenNames x; refine Good.cut (t := x) ?_ ?_; unfold x; rotate_left; intro _; clear_value x)
    | extract_lets +onlyGivenNames x
    | with_reducible refine Good.of_mk ?_ rfl rfl rfl rfl rfl rfl rfl rfl rfl rfl rfl rfl rfl

theorem State.calStart_good {s : State} {u : Nat} (hg : Good cs s) : Good cs (State.calStart s u) := by
  unfold State.calStart
  repeat' with_reducible first
    | assumption | refine State.voteRose_good ?_ | refine State.beginRun_good ?_ | refine State.demandWake_good ?_
    | refine Good.ite ?_ ?_

theorem State.applyRun_good {s : State} {u : Nat} {xs : List Int} (hg : Good cs s) : Good cs (State.applyRun s u xs) := by
  unfold State.applyRun
  repeat' first
    | (with_reducible first
      | assumption | refine State.each_good ?_ ?_ | refine State.setBoth_good ?_ | refine Good.ite ?_ ?_
      | refine Good.foldl ?_ ?_)
    | intro _

theorem State.calEnd_good {s : State} {u : Nat} {xs : List Int} (hg : Good cs s) : Good cs (State.calEnd s u xs) := by
  unfold State.calEnd
  repeat' first
    | (with_reducible first
      | assumption | refine State.applyRun_good ?_ | refine State.bumpAt_good ?_ | refine State.wr_good ?_
      | refine State.setBoth_good ?_ | refine State.postRec_good ?_ | refine Good.ite ?_ ?_ | refine Good.foldl ?_ ?_)
    | split
    | (with_reducible first
      | refine Good.snd_of (by assumption) ?_ | refine Good.fst_of (by assumption) ?_ | refine Good.thd_of (by assumption) ?_)
    | dsimp -zeta only
    | with_reducible refine Good.of_mk ?_ rfl rfl rfl rfl rfl rfl rfl rfl rfl rfl rfl rfl rfl

theorem State.wCorrection_good {s : State} {index : Nat} {sub : Nat} {v : Word} (hg : Good cs s) : Good cs
    (State.wCorrection s index sub v).2 := by
  unfold State.wCorrection
  repeat' first
    | (with_reducible first
      | assumption | refine State.defer_good ?_ | refine Good.ite ?_ ?_ | refine Good.foldl ?_ ?_)
    | split

/-! Operations of Sys2Proof/Machine/Ring.lean. -/

theorem State.flCount_good {s : State} {F : Machine.Field} {p : Nat} (hg : Good cs s) : Good cs (State.flCount s F p)
    := by
  unfold State.flCount
  repeat' with_reducible first
    | assumption | refine State.bumpAt_good ?_ | refine Good.ite ?_ ?_

theorem State.linkRecord_good {s : State} {p : Nat} {event : Nat} {version : Nat} {us : Nat} (hg : Good cs s) : Good cs
    (State.linkRecord s p event version us) := by
  unfold State.linkRecord
  repeat' with_reducible first
    | assumption | refine State.post_good ?_ | refine Good.ite ?_ ?_

theorem State.addLoad_good {s : State} {p : Nat} {up : Nat} {n : Nat} (hg : Good cs s) : Good cs (State.addLoad s p up n)
    := by
  unfold State.addLoad
  repeat' with_reducible first
    | assumption | refine State.setPair_good ?_ | refine Good.ite ?_ ?_

theorem State.cut_good {s : State} {p : Nat} {f : RxFrame} (hg : Good cs s) : Good cs (State.cut s p f).2 := by
  unfold State.cut
  repeat' first
    | (with_reducible first
      | assumption | refine State.flCount_good ?_ | refine Good.ite ?_ ?_ | refine Good.foldl ?_ ?_)
    | split

theorem State.occupy_good {s : State} {p : Nat} {up : Nat} {n : Nat} (hg : Good cs s) : Good cs (State.occupy s p up n) :=
    by
  unfold State.occupy
  repeat' with_reducible first
    | assumption | refine State.addLoad_good ?_ | refine State.setPair_good ?_

theorem State.sendItem_good {s : State} {p : Nat} {up : Nat} {a3 : RxItem} (hg : Good cs s) : Good cs (State.sendItem s
    p up a3) := by
  unfold State.sendItem
  repeat' first
    | (with_reducible first
      | assumption | refine State.cut_good ?_ | refine State.occupy_good ?_ | refine State.setPair_good ?_
      | refine Good.ite ?_ ?_ | refine Good.foldl ?_ ?_)
    | split

theorem State.drainTo_good {s : State} {p up : Nat} {l : List RxItem} (hg : Good cs s) : Good cs (s.drainTo p up l) := by
  induction l generalizing s with
  | nil => exact State.setPair_good hg
  | cons x xs ih =>
    unfold State.drainTo
    exact Good.ite (ih (State.sendItem_good hg)) (State.setPair_good hg)

theorem State.drain_good {s : State} {p : Nat} {up : Nat} (hg : Good cs s) : Good cs (State.drain s p up) := by
  unfold State.drain
  repeat' with_reducible first
    | assumption | refine State.drainTo_good ?_

theorem State.noteOccupancy_good {s : State} {p : Nat} {n : Nat} (hg : Good cs s) : Good cs (State.noteOccupancy s p n)
    := by
  unfold State.noteOccupancy
  repeat' with_reducible first
    | assumption | refine State.wr_good ?_ | refine Good.ite ?_ ?_

theorem State.emit_good {s : State} {p : Nat} {up : Nat} {x : RxItem} (hg : Good cs s) : Good cs (State.emit s p up x)
    := by
  unfold State.emit
  repeat' with_reducible first
    | assumption | refine State.drain_good ?_ | refine State.sendItem_good ?_ | refine State.noteOccupancy_good ?_
    | refine State.setPair_good ?_ | refine Good.ite ?_ ?_

theorem State.arrival_good {s : State} {p : Nat} {n : Nat} (hg : Good cs s) : Good cs (State.arrival s p n).2 := by
  unfold State.arrival
  repeat' with_reducible first
    | assumption | refine State.setPair_good ?_

theorem State.pass_good {s : State} {p : Nat} {x : RxItem} (hg : Good cs s) : Good cs (State.pass s p x) := by
  unfold State.pass
  repeat' first
    | (with_reducible first
      | assumption | refine State.arrival_good ?_ | refine State.emit_good ?_ | refine Good.ite ?_ ?_
      | refine Good.foldl ?_ ?_)
    | split
    | with_reducible refine Good.snd_of (by assumption) ?_

theorem State.passFrame_good {s : State} {p : Nat} {bad : Bool} {f : RxFrame} (hg : Good cs s) : Good cs
    (State.passFrame s p bad f) := by
  unfold State.passFrame
  repeat' with_reducible first
    | assumption | refine State.flCount_good ?_ | refine State.pass_good ?_ | refine Good.ite ?_ ?_

theorem State.passControl_good {s : State} {p : Nat} {ty : Nat} {payload : BitVec 56} (hg : Good cs s) : Good cs
    (State.passControl s p ty payload) := by
  unfold State.passControl
  repeat' with_reducible first
    | assumption | refine State.pass_good ?_ | refine State.flCount_good ?_ | refine Good.ite ?_ ?_

theorem State.forwardFrame_good {s : State} {p : Nat} {n : Nat} {f : RxFrame} (hg : Good cs s) : Good cs
    (State.forwardFrame s p n f) := by
  unfold State.forwardFrame
  repeat' with_reducible first
    | assumption | refine State.flCount_good ?_ | refine State.passFrame_good ?_ | refine Good.ite ?_ ?_

theorem State.countSync_good {s : State} {p : Nat} {n : Nat} (hg : Good cs s) : Good cs (State.countSync s p n) := by
  unfold State.countSync
  repeat' with_reducible first
    | assumption | refine State.bumpBy_good ?_ | refine Good.ite ?_ ?_

theorem State.forwardItem_good {s : State} {p : Nat} {a2 : RxItem} (hg : Good cs s) : Good cs (State.forwardItem s p
    a2) := by
  unfold State.forwardItem
  repeat' first
    | (with_reducible first
      | assumption | refine State.passControl_good ?_ | refine State.countSync_good ?_
      | refine State.forwardFrame_good ?_ | refine Good.ite ?_ ?_ | refine Good.foldl ?_ ?_)
    | split

theorem State.forward_good {s : State} {p : Nat} {x : RxItem} (hg : Good cs s) : Good cs (State.forward s p x) := by
  unfold State.forward
  repeat' with_reducible first
    | assumption | refine State.pass_good ?_ | refine State.forwardItem_good ?_ | refine Good.ite ?_ ?_

theorem State.queueOwn_good {s : State} {p : Nat} {f : RxFrame} (hg : Good cs s) : Good cs (State.queueOwn s p f) := by
  unfold State.queueOwn
  repeat' first
    | (with_reducible first
      | assumption | refine State.setPair_good ?_ | refine Good.ite ?_ ?_ | refine Good.foldl ?_ ?_)
    | split

theorem State.sendHead_good {s : State} {p : Nat} {up : Nat} (hg : Good cs s) : Good cs (State.sendHead s p up) := by
  unfold State.sendHead
  repeat' first
    | (with_reducible first
      | assumption | refine State.sendItem_good ?_ | refine State.setPair_good ?_ | refine Good.ite ?_ ?_
      | refine Good.foldl ?_ ?_)
    | split

theorem State.sendOwn_good {s : State} {p : Nat} {up : Nat} (hg : Good cs s) : Good cs (State.sendOwn s p up) := by
  unfold State.sendOwn
  repeat' first
    | (with_reducible first
      | assumption | refine State.cut_good ?_ | refine State.occupy_good ?_ | refine State.setPair_good ?_
      | refine Good.ite ?_ ?_ | refine Good.foldl ?_ ?_)
    | split

theorem State.transmit_good {s : State} {p : Nat} (hg : Good cs s) : Good cs (State.transmit s p) := by
  unfold State.transmit
  repeat' with_reducible first
    | assumption | refine State.sendHead_good ?_ | refine State.sendOwn_good ?_ | refine Good.ite ?_ ?_

theorem State.signal_good {s : State} {p : Nat} {cdr : Bool} (hg : Good cs s) : Good cs (State.signal s p cdr) := by
  unfold State.signal
  repeat' with_reducible first
    | assumption | refine State.wr_good ?_ | refine State.collectorSamples_good ?_ | refine Good.ite ?_ ?_

theorem State.sinceLost_good {s : State} {p : Nat} (hg : Good cs s) : Good cs (State.sinceLost s p).2 := by
  unfold State.sinceLost
  repeat' first
    | (with_reducible first
      | assumption | refine State.free_good ?_ | refine Good.ite ?_ ?_ | refine Good.foldl ?_ ?_)
    | split

theorem State.measureLatency_good {s : State} {port : Nat} (hg : Good cs s) : Good cs (State.measureLatency s port) :=
    by
  unfold State.measureLatency
  repeat' with_reducible first
    | assumption | refine State.free_good ?_ | refine State.setWord_good ?_ | refine Good.ite ?_ ?_

theorem State.linkUp_good {s : State} {p : Nat} {v : Nat} (hg : Good cs s) : Good cs (State.linkUp s p v) := by
  unfold State.linkUp
  repeat' with_reducible first
    | assumption | refine State.wr_good ?_ | refine State.setPair_good ?_ | refine State.measureLatency_good ?_
    | refine State.sinceLost_good ?_ | refine State.linkRecord_good ?_

theorem State.bothAgreed_good {s : State} {p : Nat} (hg : Good cs s) : Good cs (State.bothAgreed s p) := by
  unfold State.bothAgreed
  repeat' with_reducible first
    | assumption | refine State.linkUp_good ?_ | refine Good.ite ?_ ?_

theorem State.hello_good {s : State} {p : Nat} {h : Hello} (hg : Good cs s) : Good cs (State.hello s p h) := by
  unfold State.hello
  repeat' with_reducible first
    | assumption | refine State.wr_good ?_ | refine State.setPair_good ?_ | refine State.linkRecord_good ?_
    | refine State.bothAgreed_good ?_ | refine Good.ite ?_ ?_

theorem State.sendHello_good {s : State} {p : Nat} (hg : Good cs s) : Good cs (State.sendHello s p) := by
  unfold State.sendHello
  repeat' with_reducible first
    | assumption | refine State.setPair_good ?_ | refine State.bothAgreed_good ?_ | refine Good.ite ?_ ?_

theorem State.declareLoss_good {s : State} {p : Nat} (hg : Good cs s) : Good cs (State.declareLoss s p) := by
  unfold State.declareLoss
  repeat' with_reducible first
    | assumption | refine State.linkRecord_good ?_ | refine State.flCount_good ?_ | refine State.setWord_good ?_
    | refine State.wr_good ?_ | refine State.setPair_good ?_

theorem State.lossTiming_good {s : State} {p : Nat} {fine : Nat} (hg : Good cs s) : Good cs (State.lossTiming s p fine)
    := by
  unfold State.lossTiming
  repeat' with_reducible first
    | assumption | refine State.refLoss_good ?_ | refine State.loseTrim_good ?_ | refine Good.ite ?_ ?_

theorem State.linkLoss_good {s : State} {p : Nat} {fine : Nat} (hg : Good cs s) : Good cs (State.linkLoss s p fine) := by
  unfold State.linkLoss
  repeat' with_reducible first
    | assumption | refine State.declareLoss_good ?_ | refine State.lossTiming_good ?_ | refine Good.ite ?_ ?_

theorem State.sendBreak_good {s : State} {p : Nat} {event : Nat} (hg : Good cs s) : Good cs (State.sendBreak s p event)
    := by
  unfold State.sendBreak
  repeat' with_reducible first
    | assumption | refine State.setPair_good ?_ | refine Good.ite ?_ ?_

theorem State.moveStream_good {s : State} {p : Nat} (hg : Good cs s) : Good cs (State.moveStream s p) := by
  unfold State.moveStream
  repeat' with_reducible first
    | assumption | refine State.setPair_good ?_

theorem State.loopEngage_good {s : State} {p : Nat} (hg : Good cs s) : Good cs (State.loopEngage s p) := by
  unfold State.loopEngage
  repeat' with_reducible first
    | assumption | refine State.bumpAt_good ?_ | refine State.wr_good ?_ | refine State.moveStream_good ?_
    | refine State.linkRecord_good ?_ | refine State.sendBreak_good ?_ | refine Good.ite ?_ ?_

theorem State.loopRelease_good {s : State} {p : Nat} (hg : Good cs s) : Good cs (State.loopRelease s p) := by
  unfold State.loopRelease
  repeat' with_reducible first
    | assumption | refine State.sendBreak_good ?_ | refine State.linkRecord_good ?_ | refine State.wr_good ?_
    | refine Good.ite ?_ ?_

theorem State.wake_good {s : State} (hg : Good cs s) : Good cs (State.wake s) := by
  unfold State.wake
  repeat' first
    | (with_reducible first
      | assumption | refine State.bump_good ?_ | refine State.beginExit_good ?_ | refine Good.ite ?_ ?_
      | refine Good.foldl ?_ ?_)
    | intro _
    | extract_lets +onlyGivenNames x
    | with_reducible refine Good.of_mk ?_ rfl rfl rfl rfl rfl rfl rfl rfl rfl rfl rfl rfl rfl

theorem State.wakeReceive_good {s : State} {p : Nat} {dest : Nat} (hg : Good cs s) : Good cs (State.wakeReceive s p
    dest) := by
  unfold State.wakeReceive
  repeat' with_reducible first
    | assumption | refine State.pass_good ?_ | refine State.wake_good ?_ | refine Good.ite ?_ ?_

theorem State.ringResetReceive_good {s : State} {p : Nat} {dest : Nat} {epoch : Nat} (hg : Good cs s) : Good cs
    (State.ringResetReceive s p dest epoch) := by
  unfold State.ringResetReceive
  repeat' first
    | (with_reducible first
      | assumption | refine State.pass_good ?_ | refine State.bump_good ?_ | refine Good.ite ?_ ?_
      | refine Good.foldl ?_ ?_)
    | intro _
    | extract_lets +onlyGivenNames x
    | with_reducible refine Good.of_mk ?_ rfl rfl rfl rfl rfl rfl rfl rfl rfl rfl rfl rfl rfl

/-! Operations of Sys2Proof/Machine/Survey.lean. -/

theorem State.startStage_good {s : State} (hg : Good cs s) : Good cs (State.startStage s) := by
  unfold State.startStage
  repeat' first
    | (with_reducible first
      | assumption | refine Good.ite ?_ ?_ | refine Good.foldl ?_ ?_)
    | intro _
    | extract_lets +onlyGivenNames x
    | with_reducible refine Good.of_mk ?_ rfl rfl rfl rfl rfl rfl rfl rfl rfl rfl rfl rfl rfl

theorem State.surveyGo_good {s : State} {clear : Bool} {abort : Bool} (hg : Good cs s) : Good cs (State.surveyGo s
    clear abort).2 := by
  unfold State.surveyGo
  repeat' first
    | (with_reducible first
      | assumption | refine State.set_good ?_ | refine Good.ite ?_ ?_ | refine Good.foldl ?_ ?_)
    | intro _
    | (extract_lets +onlyGivenNames x; refine Good.cut (t := x) ?_ ?_; unfold x; rotate_left; intro _; clear_value x)
    | extract_lets +onlyGivenNames x
    | split
    | (with_reducible first
      | refine Good.snd_of (by assumption) ?_ | refine Good.fst_of (by assumption) ?_ | refine Good.thd_of (by assumption) ?_)
    | dsimp -zeta only
    | with_reducible refine Good.of_mk ?_ rfl rfl rfl rfl rfl rfl rfl rfl rfl rfl rfl rfl rfl

theorem State.surveyAbort_good {s : State} (hg : Good cs s) : Good cs (State.surveyAbort s).2 := by
  unfold State.surveyAbort
  repeat' first
    | (with_reducible first
      | assumption | refine Good.ite ?_ ?_ | refine Good.foldl ?_ ?_)
    | split
    | (with_reducible first
      | refine Good.snd_of (by assumption) ?_ | refine Good.fst_of (by assumption) ?_ | refine Good.thd_of (by assumption) ?_)
    | dsimp -zeta only
    | with_reducible refine Good.of_mk ?_ rfl rfl rfl rfl rfl rfl rfl rfl rfl rfl rfl rfl rfl

theorem State.wSvStart_good {s : State} {v : Word} (hg : Good cs s) : Good cs (State.wSvStart s v).2 := by
  unfold State.wSvStart
  repeat' first
    | (with_reducible first
      | assumption | refine State.surveyGo_good ?_ | refine State.surveyAbort_good ?_ | refine Good.ite ?_ ?_
      | refine Good.foldl ?_ ?_)
    | intro _
    | extract_lets +onlyGivenNames x
    | split

theorem State.clearEntries_good {s : State} {e : Nat} (hg : Good cs s) : Good cs (State.clearEntries s e) := by
  unfold State.clearEntries
  repeat' first
    | (with_reducible first
      | assumption | refine State.each_good ?_ ?_ | refine State.bumpGen_good ?_ | refine State.setEntry_good ?_
      | refine Good.ite ?_ ?_ | refine Good.foldl ?_ ?_)
    | intro _

theorem State.reform_good {s : State} {e : Nat} (hg : Good cs s) : Good cs (State.reform s e) := by
  unfold State.reform
  repeat' with_reducible first
    | assumption | refine State.setLane_good ?_ | refine Good.ite ?_ ?_

theorem State.surveyEntry_good {s : State} (hg : Good cs s) : Good cs (State.surveyEntry s) := by
  unfold State.surveyEntry
  repeat' first
    | (with_reducible first
      | assumption | refine State.darken_good ?_ | refine State.setMode_good ?_ | refine State.endRing_good ?_
      | refine State.missShadow_good ?_ | refine State.clearEntries_good ?_ | refine State.wr_good ?_
      | refine State.eachIn_good ?_ ?_ | refine State.setWord_good ?_ | refine State.set_good ?_
      | refine State.eachLane_good ?_ ?_ | refine State.toStage_good ?_ | refine State.reform_good ?_
      | refine State.demandWake_good ?_ | refine Good.ite ?_ ?_ | refine Good.foldl ?_ ?_)
    | intro _
    | (extract_lets +onlyGivenNames x; refine Good.cut (t := x) ?_ ?_; unfold x; rotate_left; intro _; clear_value x)
    | extract_lets +onlyGivenNames x
    | split
    | (with_reducible first
      | refine Good.snd_of (by assumption) ?_ | refine Good.fst_of (by assumption) ?_ | refine Good.thd_of (by assumption) ?_)
    | dsimp -zeta only
    | with_reducible refine Good.of_mk ?_ rfl rfl rfl rfl rfl rfl rfl rfl rfl rfl rfl rfl rfl

theorem State.surveyHop_good {s : State} {e : Nat} {c : Nat} {en : BitVec 128} (hg : Good cs s) : Good cs
    (State.surveyHop s e c en) := by
  unfold State.surveyHop
  repeat' first
    | (with_reducible first
      | assumption | refine State.takeTerms_good ?_ | refine State.setContext_good ?_ | refine State.reform_good ?_
      | refine State.setLane_good ?_ | refine State.moveLane_good ?_ | refine Good.ite ?_ ?_
      | refine Good.foldl ?_ ?_)
    | split

theorem State.surveyPark_good {s : State} {e : Nat} {code : Nat} (hg : Good cs s) : Good cs (State.surveyPark s e code)
    := by
  unfold State.surveyPark
  repeat' with_reducible first
    | assumption | refine State.parkLane_good ?_ | refine State.setLane_good ?_ | refine Good.ite ?_ ?_

theorem State.surveyEo_good {s : State} {e : Nat} (hg : Good cs s) : Good cs (State.surveyEo s e) := by
  unfold State.surveyEo
  repeat' with_reducible first
    | assumption | refine State.setLane_good ?_ | refine Good.ite ?_ ?_

theorem State.surveyEcc_good {s : State} {xs : List LaneEcc} {ctx : Nat → Nat} (hg : Good cs s) : Good cs
    (State.surveyEcc s xs ctx).2 := by
  unfold State.surveyEcc
  repeat' first
    | (with_reducible first
      | assumption | refine State.checkedLanes_good ?_ | refine State.countEcc_good ?_ | refine State.raise_good ?_
      | refine Good.ite ?_ ?_ | refine Good.foldl ?_ ?_)
    | intro _

theorem State.beginSweep_good {s : State} {e : Nat} (hg : Good cs s) : Good cs (State.beginSweep s e) := by
  unfold State.beginSweep
  repeat' first
    | (with_reducible first
      | assumption | refine State.moveLane_good ?_ | refine State.setLane_good ?_ | refine State.reform_good ?_
      | refine Good.ite ?_ ?_ | refine Good.foldl ?_ ?_)
    | intro _
    | extract_lets +onlyGivenNames x
    | with_reducible refine Good.of_mk ?_ rfl rfl rfl rfl rfl rfl rfl rfl rfl rfl rfl rfl rfl

theorem State.passElement_good {xs : List LaneEcc} {s : State} {e : Nat} (hg : Good cs s) :
    Good cs (State.passElement xs s e) := by
  unfold State.passElement
  extract_lets +onlyGivenNames st c sv x
  have hx : Good cs x := Good.ite hg { hg with }
  clear_value x
  refine Good.ite hx ?_
  extract_lets +onlyGivenNames y
  have hy : Good cs y := State.surveyEo_good hx
  clear_value y
  split
  · exact State.surveyHop_good hy
  · exact { (State.beginSweep_good hy : Good cs (y.beginSweep e)) with }

theorem State.passStart_good {s : State} {eccs : List LaneEcc} (hg : Good cs s) : Good cs (State.passStart s eccs)
    := by
  unfold State.passStart
  repeat' first
    | (with_reducible first
      | assumption | refine State.toStage_good ?_ | refine State.startStage_good ?_ | refine State.surveyEcc_good ?_
      | refine State.passElement_good ?_ | refine Good.ite ?_ ?_ | refine Good.foldl ?_ ?_)
    | intro _
    | extract_lets +onlyGivenNames x
    | with_reducible refine Good.of_mk ?_ rfl rfl rfl rfl rfl rfl rfl rfl rfl rfl rfl rfl rfl

theorem State.sweepResult_good {s : State} {e : Int} {q : Int} {d : Nat} (hg : Good cs s) : Good cs (State.sweepResult s e
    q d).2.2 := by
  unfold State.sweepResult
  repeat' first
    | (with_reducible first
      | assumption | refine State.free_good ?_ | refine Good.ite ?_ ?_ | refine Good.foldl ?_ ?_)
    | split
    | with_reducible refine Good.snd_of (by assumption) ?_

theorem State.closeSweep_good {s : State} {el : Nat} {xs : List (Nat × Int × Int)} (hg : Good cs s) : Good cs
    (State.closeSweep s el xs) := by
  unfold State.closeSweep
  repeat' with_reducible first
    | assumption | refine State.sweepResult_good ?_ | refine State.wr_good ?_ | refine State.setLane_good ?_
    | refine State.reform_good ?_ | refine Good.ite ?_ ?_

theorem State.sweepMeasure_good {s : State} {e : Nat} (hg : Good cs s) : Good cs (State.sweepMeasure s e).2 := by
  unfold State.sweepMeasure
  repeat' first
    | (with_reducible first
      | assumption | refine State.free_good ?_ | refine Good.ite ?_ ?_ | refine Good.foldl ?_ ?_)
    | intro _
    | extract_lets +onlyGivenNames x
    | split

theorem State.sweepStep_good {s : State} {e : Nat} (hg : Good cs s) : Good cs (State.sweepStep s e) := by
  unfold State.sweepStep
  repeat' first
    | (with_reducible first
      | assumption | refine State.sweepMeasure_good ?_ | refine State.closeSweep_good ?_
      | refine State.reform_good ?_ | refine State.setLane_good ?_ | refine Good.ite ?_ ?_ | refine Good.foldl ?_ ?_)
    | intro _
    | extract_lets +onlyGivenNames x
    | split
    | (with_reducible first
      | refine Good.snd_of (by assumption) ?_ | refine Good.fst_of (by assumption) ?_ | refine Good.thd_of (by assumption) ?_)
    | dsimp -zeta only
    | with_reducible refine Good.of_mk ?_ rfl rfl rfl rfl rfl rfl rfl rfl rfl rfl rfl rfl rfl

theorem State.sweepStepEnd_good {s : State} (hg : Good cs s) : Good cs (State.sweepStepEnd s) := by
  unfold State.sweepStepEnd
  repeat' first
    | (with_reducible first
      | assumption | refine State.sweepStep_good ?_ | refine Good.ite ?_ ?_ | refine Good.foldl ?_ ?_)
    | intro _

theorem State.captureElement_good {s : State} {e : Nat} (hg : Good cs s) : Good cs (State.captureElement s e) := by
  unfold State.captureElement
  repeat' first
    | (with_reducible first
      | assumption | refine State.bumpGen_good ?_ | refine State.setEntry_good ?_ | refine State.wr_good ?_
      | refine State.bump_good ?_ | refine Good.ite ?_ ?_ | refine Good.foldl ?_ ?_)
    | intro _
    | (extract_lets +onlyGivenNames x; refine Good.cut (t := x) ?_ ?_; unfold x; rotate_left; intro _; clear_value x)
    | extract_lets +onlyGivenNames x
    | with_reducible refine Good.of_mk ?_ rfl rfl rfl rfl rfl rfl rfl rfl rfl rfl rfl rfl rfl

theorem State.beginGroup_good {s : State} (hg : Good cs s) : Good cs (State.beginGroup s) := by
  unfold State.beginGroup
  repeat' first
    | (with_reducible first
      | assumption | refine State.surveyPark_good ?_ | refine State.startStage_good ?_ | refine Good.ite ?_ ?_
      | refine Good.foldl ?_ ?_)
    | intro _
    | (extract_lets +onlyGivenNames x; refine Good.cut (t := x) ?_ ?_; unfold x; rotate_left; intro _; clear_value x)
    | extract_lets +onlyGivenNames x
    | with_reducible refine Good.of_mk ?_ rfl rfl rfl rfl rfl rfl rfl rfl rfl rfl rfl rfl rfl

theorem State.beginProbe_good {s : State} (hg : Good cs s) : Good cs (State.beginProbe s) := by
  unfold State.beginProbe
  repeat' first
    | (with_reducible first
      | assumption | refine State.startStage_good ?_ | refine Good.ite ?_ ?_ | refine Good.foldl ?_ ?_)
    | intro _
    | (extract_lets +onlyGivenNames x; refine Good.cut (t := x) ?_ ?_; unfold x; rotate_left; intro _; clear_value x)
    | extract_lets +onlyGivenNames x
    | with_reducible refine Good.of_mk ?_ rfl rfl rfl rfl rfl rfl rfl rfl rfl rfl rfl rfl rfl

theorem State.beginBaseline_good {s : State} {eccs : List LaneEcc} (hg : Good cs s) : Good cs (State.beginBaseline s
    eccs) := by
  unfold State.beginBaseline
  repeat' first
    | (with_reducible first
      | assumption | refine State.surveyEcc_good ?_ | refine State.surveyEo_good ?_ | refine State.surveyHop_good ?_
      | refine State.surveyPark_good ?_ | refine State.startStage_good ?_ | refine Good.ite ?_ ?_
      | refine Good.foldl ?_ ?_)
    | intro _
    | (extract_lets +onlyGivenNames x; refine Good.cut (t := x) ?_ ?_; unfold x; rotate_left; intro _; clear_value x)
    | extract_lets +onlyGivenNames x
    | with_reducible refine Good.of_mk ?_ rfl rfl rfl rfl rfl rfl rfl rfl rfl rfl rfl rfl rfl

theorem State.beginCal_good {s : State} (hg : Good cs s) : Good cs (State.beginCal s) := by
  unfold State.beginCal
  repeat' first
    | (with_reducible first
      | assumption | refine State.startStage_good ?_ | refine State.beginRun_good ?_ | refine Good.ite ?_ ?_
      | refine Good.foldl ?_ ?_)
    | intro _
    | extract_lets +onlyGivenNames x
    | with_reducible refine Good.of_mk ?_ rfl rfl rfl rfl rfl rfl rfl rfl rfl rfl rfl rfl rfl

theorem State.beginStage_good {s : State} {eccs : List LaneEcc} (hg : Good cs s) : Good cs (State.beginStage s eccs)
    := by
  unfold State.beginStage
  repeat' first
    | (with_reducible first
      | assumption | refine State.beginCal_good ?_ | refine State.beginBaseline_good ?_
      | refine State.beginGroup_good ?_ | refine State.beginProbe_good ?_ | refine Good.ite ?_ ?_
      | refine Good.foldl ?_ ?_)
    | split

theorem State.surveyCapture_good {s : State} {eccs : List LaneEcc} (hg : Good cs s) : Good cs (State.surveyCapture s
    eccs) := by
  unfold State.surveyCapture
  repeat' first
    | (with_reducible first
      | assumption | refine State.captureElement_good ?_ | refine State.beginStage_good ?_
      | refine State.toStage_good ?_ | refine Good.ite ?_ ?_ | refine Good.foldl ?_ ?_)
    | intro _

theorem State.writeBase_good {s : State} {e : Nat} (hg : Good cs s) : Good cs (State.writeBase s e) := by
  unfold State.writeBase
  repeat' with_reducible first
    | assumption | refine State.setBoth_good ?_ | refine Good.ite ?_ ?_

theorem State.writeSelfRef_good {t : Nat} {s : State} (hg : Good cs s) : Good cs (State.writeSelfRef t s) := by
  unfold State.writeSelfRef
  repeat' with_reducible first
    | assumption | refine State.setBoth_good ?_

theorem State.baselineEnd_good {s : State} (hg : Good cs s) : Good cs (State.baselineEnd s) := by
  unfold State.baselineEnd
  repeat' first
    | (with_reducible first
      | assumption | refine State.writeBase_good ?_ | refine State.each_good ?_ ?_
      | refine State.writeSelfRef_good ?_ | refine State.bumpBy_good ?_ | refine State.set_good ?_
      | refine State.beginStage_good ?_ | refine State.toStage_good ?_ | refine Good.ite ?_ ?_
      | refine Good.foldl ?_ ?_)
    | intro _
    | extract_lets +onlyGivenNames x
    | with_reducible refine Good.of_mk ?_ rfl rfl rfl rfl rfl rfl rfl rfl rfl rfl rfl rfl rfl

theorem State.writeCoef_good {s : State} {v : Nat} {j : Nat} {a : Nat} (hg : Good cs s) : Good cs (State.writeCoef s v j
    a) := by
  unfold State.writeCoef
  repeat' first
    | (with_reducible first
      | assumption | refine State.bump_good ?_ | refine State.free_good ?_ | refine State.setBoth_good ?_
      | refine Good.ite ?_ ?_ | refine Good.foldl ?_ ?_)
    | split

theorem State.writeCoefs_good {s : State} (hg : Good cs s) : Good cs (State.writeCoefs s) := by
  unfold State.writeCoefs
  repeat' first
    | (with_reducible first
      | assumption | refine State.writeCoef_good ?_ | refine Good.ite ?_ ?_ | refine Good.foldl ?_ ?_)
    | intro _

theorem State.dwellEnd_good {s : State} {eccs : List LaneEcc} (hg : Good cs s) : Good cs (State.dwellEnd s eccs) := by
  unfold State.dwellEnd
  repeat' first
    | (with_reducible first
      | assumption | refine State.surveyPark_good ?_ | refine State.startStage_good ?_
      | refine State.surveyEcc_good ?_ | refine State.surveyHop_good ?_ | refine State.writeCoefs_good ?_
      | refine State.beginStage_good ?_ | refine State.toStage_good ?_ | refine Good.ite ?_ ?_
      | refine Good.foldl ?_ ?_)
    | intro _
    | (extract_lets +onlyGivenNames x; refine Good.cut (t := x) ?_ ?_; unfold x; rotate_left; intro _; clear_value x)
    | extract_lets +onlyGivenNames x
    | with_reducible refine Good.of_mk ?_ rfl rfl rfl rfl rfl rfl rfl rfl rfl rfl rfl rfl rfl

theorem State.writeSelfCoef_good {s : State} {t : Nat} (hg : Good cs s) : Good cs (State.writeSelfCoef s t) := by
  unfold State.writeSelfCoef
  repeat' with_reducible first
    | assumption | refine State.bump_good ?_ | refine State.setBoth_good ?_ | refine Good.ite ?_ ?_

theorem State.probeEnd_good {s : State} (hg : Good cs s) : Good cs (State.probeEnd s) := by
  unfold State.probeEnd
  repeat' first
    | (with_reducible first
      | assumption | refine State.startStage_good ?_ | refine State.bumpBy_good ?_
      | refine State.writeSelfCoef_good ?_ | refine State.toStage_good ?_ | refine State.beginStage_good ?_
      | refine Good.ite ?_ ?_ | refine Good.foldl ?_ ?_)
    | intro _
    | (extract_lets +onlyGivenNames x; refine Good.cut (t := x) ?_ ?_; unfold x; rotate_left; intro _; clear_value x)
    | extract_lets +onlyGivenNames x
    | with_reducible refine Good.of_mk ?_ rfl rfl rfl rfl rfl rfl rfl rfl rfl rfl rfl rfl rfl

theorem State.restoreElement_good {xs : List LaneEcc} {before : Nat → Bool} {s : State} {e : Nat} (hg : Good cs s) :
    Good cs (State.restoreElement xs before s e) := by
  unfold State.restoreElement
  repeat' with_reducible first
    | assumption | refine State.setContext_good ?_ | refine State.eoEdge_good ?_ | refine State.takeTerms_good ?_
    | refine State.parkLane_good ?_ | refine State.surveyHop_good ?_ | refine Good.ite ?_ ?_

theorem State.restoreStart_good {s : State} {eccs : List LaneEcc} (hg : Good cs s) : Good cs (State.restoreStart s
    eccs) := by
  unfold State.restoreStart
  repeat' first
    | (with_reducible first
      | assumption | refine State.startStage_good ?_ | refine State.toStage_good ?_ | refine State.surveyEcc_good ?_
      | refine State.restoreElement_good ?_ | refine Good.ite ?_ ?_ | refine Good.foldl ?_ ?_)
    | intro _
    | extract_lets +onlyGivenNames x
    | with_reducible refine Good.of_mk ?_ rfl rfl rfl rfl rfl rfl rfl rfl rfl rfl rfl rfl rfl

theorem State.restoreEnd_good {s : State} (hg : Good cs s) : Good cs (State.restoreEnd s) := by
  unfold State.restoreEnd
  repeat' first
    | (with_reducible first
      | assumption | refine State.set_good ?_ | refine State.moveGates_good ?_ | refine State.post_good ?_
      | refine Good.ite ?_ ?_ | refine Good.foldl ?_ ?_)
    | intro _
    | (extract_lets +onlyGivenNames x; refine Good.cut (t := x) ?_ ?_; unfold x; rotate_left; intro _; clear_value x)
    | extract_lets +onlyGivenNames x
    | with_reducible refine Good.of_mk ?_ rfl rfl rfl rfl rfl rfl rfl rfl rfl rfl rfl rfl rfl

theorem State.surveyRestore_good {s : State} {eccs : List LaneEcc} (hg : Good cs s) : Good cs (State.surveyRestore s
    eccs) := by
  unfold State.surveyRestore
  repeat' first
    | (with_reducible first
      | assumption | refine State.restoreStart_good ?_ | refine State.restoreEnd_good ?_ | refine Good.ite ?_ ?_
      | refine Good.foldl ?_ ?_)
    | split

theorem State.surveyResume_good {s : State} {eccs : List LaneEcc} (hg : Good cs s) : Good cs (State.surveyResume s
    eccs) := by
  unfold State.surveyResume
  repeat' first
    | (with_reducible first
      | assumption | refine State.set_good ?_ | refine State.beginStage_good ?_ | refine Good.ite ?_ ?_
      | refine Good.foldl ?_ ?_)
    | intro _
    | extract_lets +onlyGivenNames x
    | with_reducible refine Good.of_mk ?_ rfl rfl rfl rfl rfl rfl rfl rfl rfl rfl rfl rfl rfl

theorem State.boundaryAbort_good {s : State} (hg : Good cs s) : Good cs (State.boundaryAbort s) := by
  unfold State.boundaryAbort
  repeat' with_reducible first
    | assumption | refine State.abandonCal_good ?_ | refine State.toStage_good ?_ | refine Good.ite ?_ ?_

theorem State.windowBoundary_good {s : State} {eccs : List LaneEcc} (hg : Good cs s) : Good cs (State.windowBoundary
    s eccs) := by
  unfold State.windowBoundary
  repeat' first
    | (with_reducible first
      | assumption | refine State.eachLane_good ?_ ?_ | refine State.rampIdle_good ?_
      | refine State.resumeLane_good ?_ | refine State.fixedRange_good ?_ | refine State.beginStage_good ?_
      | refine State.boundaryAbort_good ?_ | refine Good.ite ?_ ?_ | refine Good.foldl ?_ ?_)
    | intro _
    | extract_lets +onlyGivenNames x
    | with_reducible refine Good.of_mk ?_ rfl rfl rfl rfl rfl rfl rfl rfl rfl rfl rfl rfl rfl

end Sys2Proof.Machine
end

