-- ==== Sys2Proof/Laws/GoodDictionary.lean ====
section
/-! SUPPORT. Every operation of these parts of the machine keeps the queue and the invariant: the objects' rules and
the dictionary service. -/

namespace Sys2Proof.Machine

variable {cs : List Instr}

/-! Operations of Sys2Proof/Machine/Writes.lean. -/

theorem State.store_good {s : State} {index : Nat} {sub : Nat} {v : Word} (hg : Good cs s) : Good cs (State.store s
    index sub v) := by
  unfold State.store
  repeat' first
    | (with_reducible first
      | assumption | refine State.setWord_good ?_ | refine Good.ite ?_ ?_ | refine Good.foldl ?_ ?_)
    | split

theorem State.storeIf_good {s : State} {ok : Bool} {index : Nat} {sub : Nat} {v : Word} (hg : Good cs s) : Good cs
    (State.storeIf s ok index sub v).2 := by
  unfold State.storeIf
  repeat' first
    | (with_reducible first
      | assumption | refine State.store_good ?_ | refine Good.ite ?_ ?_ | refine Good.foldl ?_ ?_)
    | split

theorem State.clearMark_good {s : State} {index : Nat} {sub : Nat} {v : Word} (hg : Good cs s) : Good cs
    (State.clearMark s index sub v).2 := by
  unfold State.clearMark
  repeat' first
    | (with_reducible first
      | assumption | refine State.setWord_good ?_ | refine Good.ite ?_ ?_ | refine Good.foldl ?_ ?_)
    | split

theorem State.wStepAuth_good {s : State} {v : Word} (hg : Good cs s) : Good cs (State.wStepAuth s v).2 := by
  unfold State.wStepAuth
  repeat' first
    | (with_reducible first
      | assumption | refine State.authorise_good ?_ | refine State.withdrawStep_good ?_ | refine Good.ite ?_ ?_
      | refine Good.foldl ?_ ?_)
    | split

theorem State.takeSection_good {s : State} {port : Nat} {k : Nat} (hg : Good cs s) : Good cs (State.takeSection s port
    k) := by
  unfold State.takeSection
  repeat' with_reducible first
    | assumption | refine State.wr_good ?_ | refine Good.ite ?_ ?_

theorem State.wAcquire_good {s : State} {port : Nat} {v : Word} (hg : Good cs s) : Good cs (State.wAcquire s port v).2
    := by
  unfold State.wAcquire
  repeat' first
    | (with_reducible first
      | assumption | refine State.eachIn_good ?_ ?_ | refine State.takeSection_good ?_ | refine Good.ite ?_ ?_
      | refine Good.foldl ?_ ?_)
    | intro _
    | extract_lets +onlyGivenNames x
    | split

theorem State.wRelease_good {s : State} {port : Nat} {v : Word} (hg : Good cs s) : Good cs (State.wRelease s port v).2
    := by
  unfold State.wRelease
  repeat' first
    | (with_reducible first
      | assumption | refine State.eachIn_good ?_ ?_ | refine State.wr_good ?_ | refine Good.ite ?_ ?_
      | refine Good.foldl ?_ ?_)
    | intro _

theorem State.wArbKey_good {s : State} {k : Nat} {v : Word} (hg : Good cs s) : Good cs (State.wArbKey s k v).2 := by
  unfold State.wArbKey
  repeat' first
    | (with_reducible first
      | assumption | refine State.setWord_good ?_ | refine State.set_good ?_ | refine Good.ite ?_ ?_
      | refine Good.foldl ?_ ?_)
    | intro _
    | (extract_lets +onlyGivenNames x; refine Good.cut (t := x) ?_ ?_; unfold x; rotate_left; intro _; clear_value x)
    | extract_lets +onlyGivenNames x
    | with_reducible refine Good.of_mk ?_ rfl rfl rfl rfl rfl rfl rfl rfl rfl rfl rfl rfl rfl

theorem State.ruleDevice_good {s : State} {port index sub : Nat} {v : Word} (hg : Good cs s) :
    Good cs (s.ruleDevice port index sub v).2 := by
  have ite : ∀ {c : Prop} [Decidable c] {x y : Nat × State}, Good cs x.2 → Good cs y.2 → Good cs (if c then x else y).2 := by
    intro c _ x y hx hy; split <;> assumption
  unfold State.ruleDevice
  exact ite (State.clearMark_good hg) <|
    ite (State.wAcquire_good hg) <|
    ite (State.wRelease_good hg) <|
    ite (State.wArbKey_good hg) <|
    ite (State.wBtCtrl_good hg) <|
    ite (State.wMdRequest_good hg) <|
    ite (State.wPwReq_good hg) <|
    ite (State.wPwHold_good hg) <|
    ite (State.wPwDomainReset_good hg) <|
    ite (State.wPlRequest_good hg) <|
    ite (State.wPlVout_good hg) <|
    ite (State.wPlPmbus_good hg) <|
    ite (State.wFcCfg_good hg) <|
    ite (State.wFcClear_good hg) <|
    ite (State.wFcFifo_good hg) <|
    ite (State.wSfRelease_good hg) <|
    ite (State.wThLimits_good hg) <|
    ite (State.wThMax_good hg) <|
    ite (State.wTiInject_good hg) <|
    State.storeIf_good hg

theorem State.ruleTime_good {s : State} {port index sub : Nat} {v : Word} (hg : Good cs s) :
    Good cs (s.ruleTime port index sub v).2 := by
  unfold State.ruleTime
  exact Good.iteSnd (State.wTcControl_good hg) <|
    Good.iteSnd (State.wTcRef_good hg) <|
    Good.iteSnd (State.wTcDivNext_good hg) <|
    Good.iteSnd (State.wTcDivCommit_good hg) <|
    Good.iteSnd (State.wTcTrack_good hg) <|
    Good.iteSnd (State.wTcFerrLimit_good hg) <|
    Good.iteSnd (State.wTcRanges_good hg) <|
    Good.iteSnd (State.wDsControl_good hg) <|
    Good.iteSnd (State.wCkSwitch_good hg) <|
    Good.iteSnd (State.wCkLinkCfg_good hg) <|
    Good.iteSnd (State.wCkGate_good hg) <|
    Good.iteSnd (State.wStepAuth_good hg) <|
    Good.iteSnd (State.clearMark_good hg) <|
    Good.iteSnd (State.wEvCtrl_good hg) <|
    Good.iteSnd (State.wEvKeyCtrl_good hg) <|
    Good.iteSnd (State.wEvAck_good hg) <|
    Good.iteSnd (State.wEvFifo_good hg) <|
    State.storeIf_good hg

theorem State.ruleLane_good {s : State} {ecc : EccOutcome} {index sub : Nat} {v : Word} (hg : Good cs s) :
    Good cs (s.ruleLane ecc index sub v).2 := by
  unfold State.ruleLane
  exact Good.iteSnd (State.wLpWindow_good hg) <|
    Good.iteSnd (State.wLpGlobal_good hg) <|
    Good.iteSnd (State.wLpCmd_good hg) <|
    Good.iteSnd (State.wLpMon_good hg) <|
    Good.iteSnd (State.wLpPilot_good hg) <|
    Good.iteSnd (State.wLpHtrLimit_good hg) <|
    Good.iteSnd (State.wLpParkCode_good hg) <|
    Good.iteSnd (State.wLpEoCode_good hg) <|
    Good.iteSnd (State.wLpSetpoint_good hg) <|
    Good.iteSnd (Good.iteSnd (State.wPdCfg_good hg) hg) <|
    Good.iteSnd (State.wGtCfg_good hg) <|
    Good.iteSnd (State.defer_good hg) <|
    State.storeIf_good hg

theorem State.ruleCommit_good {s : State} {ecc : EccOutcome} {index : Nat} {sub : Nat} {v : Word} (hg : Good cs s) :
    Good cs (State.ruleCommit s ecc index sub v).2 := by
  unfold State.ruleCommit
  repeat' first
    | (with_reducible first
      | assumption | refine State.wTtWinCmd_good ?_ | refine State.wTtNeigh_good ?_ | refine State.wSrPush_good ?_
      | refine State.wSrFlush_good ?_ | refine State.wSrFlushAll_good ?_ | refine State.wCmArm_good ?_
      | refine State.wXt_good ?_ | refine State.wSvStart_good ?_ | refine State.wCorrection_good ?_
      | refine State.wSvCalReq_good ?_ | refine State.storeIf_good ?_ | refine Good.ite ?_ ?_
      | refine Good.foldl ?_ ?_)
    | split

theorem State.ruleTile_good {s : State} {index : Nat} {sub : Nat} {v : Word} (hg : Good cs s) : Good cs (State.ruleTile
    s index sub v).2 := by
  unfold State.ruleTile
  repeat' first
    | (with_reducible first
      | assumption | refine State.wXt_good ?_ | refine State.wThMax_good ?_ | refine State.store_good ?_
      | refine Good.ite ?_ ?_ | refine Good.foldl ?_ ?_)
    | split

theorem State.objectRule_good {s : State} {ecc : EccOutcome} {port index sub : Nat} {v : Word} (hg : Good cs s) :
    Good cs (s.objectRule ecc port index sub v).2 := by
  unfold State.objectRule
  split
  · exact State.ruleDevice_good hg
  split
  · exact State.ruleTime_good hg
  split
  · exact State.ruleLane_good hg
  split
  · exact State.ruleCommit_good hg
  · exact State.ruleTile_good hg

/-! Operations of Sys2Proof/Machine/Dictionary.lean. -/

theorem State.countRefused_good {s : State} {st : Nat} {index : Nat} {sub : Nat} {v : Word} (hg : Good cs s) : Good cs
    (State.countRefused s st index sub v) := by
  unfold State.countRefused
  repeat' with_reducible first
    | assumption | refine State.bump_good ?_ | refine State.bumpAt_good ?_ | refine Good.ite ?_ ?_

theorem State.applyWrite_good {s : State} {ecc : EccOutcome} {port : Nat} {index : Nat} {sub : Nat} {v : Word} (hg : Good
    cs s) : Good cs (State.applyWrite s ecc port index sub v).2 := by
  unfold State.applyWrite
  repeat' first
    | (with_reducible first
      | assumption | refine State.objectRule_good ?_ | refine State.countRefused_good ?_
      | refine State.voteRose_good ?_ | refine Good.ite ?_ ?_ | refine Good.foldl ?_ ?_)
    | split
    | with_reducible refine Good.snd_of (by assumption) ?_

theorem State.writeWord_good {s : State} {ecc : EccOutcome} {port : Nat} {index : Nat} {sub : Nat} {value : Word} {mask :
    Word} (hg : Good cs s) : Good cs (State.writeWord s ecc port index sub value mask).2 := by
  unfold State.writeWord
  repeat' first
    | (with_reducible first
      | assumption | refine State.countRefused_good ?_ | refine State.applyWrite_good ?_ | refine Good.ite ?_ ?_
      | refine Good.foldl ?_ ?_)
    | split

theorem State.latchHigh_good {s : State} {port index sub : Nat} (hg : Good cs s) : Good cs (s.latchHigh port index sub) :=
  State.setPort_good hg (State.port_reqs hg)

theorem State.readValue_good {s : State} {port index sub : Nat} {ecc : EccOutcome} {raw : Word} (hg : Good cs s) :
    Good cs (s.readValue port index sub ecc raw).2 := by
  unfold State.readValue
  split
  · split
    · exact State.setPort_good hg (State.port_reqs hg)
    · exact hg
  split
  · exact State.seeReady_good hg
  split
  · exact State.evEcc_good hg
  split
  · exact State.latchHigh_good hg
  · exact hg

theorem State.readWord_good {s : State} {port index sub : Nat} {ecc : EccOutcome} {raw : Word} (hg : Good cs s) :
    Good cs (s.readWord port index sub ecc raw).2.2 := by
  unfold State.readWord
  split
  · exact hg
  split
  · exact hg
  · exact State.readValue_good hg

theorem State.stall_good {s : State} {index : Nat} {sub : Nat} {d : Nat} (hg : Good cs s) : Good cs (State.stall s index
    sub d) := by
  unfold State.stall
  repeat' first
    | (with_reducible first
      | assumption | refine State.bump_good ?_ | refine State.demandWake_good ?_ | refine Good.ite ?_ ?_
      | refine Good.foldl ?_ ?_)
    | split

theorem State.takeRequest_good {s : State} {q : Rq} (hg : Good cs s) : Good cs (s.takeRequest q) := by
  unfold State.takeRequest
  extract_lets x y
  have hy : Good cs y := State.setPort_good hg ((State.dropFirst_length).trans (State.port_reqs hg))
  exact { hy with }

theorem State.countService_good {s : State} {port : Nat} {st : Nat} (hg : Good cs s) : Good cs (State.countService s
    port st) := by
  unfold State.countService
  repeat' with_reducible first
    | assumption | refine State.bumpAt_good ?_ | refine Good.ite ?_ ?_

theorem State.recordBroadcast_good {s : State} {q : Rq} {ftype : Nat} {st : Nat} (hg : Good cs s) : Good cs
    (State.recordBroadcast s q ftype st) := by
  unfold State.recordBroadcast
  repeat' with_reducible first
    | assumption | refine State.setWord_good ?_

theorem State.finish_good {s : State} {q : Rq} {ftype : Nat} {st : Nat} {blocks : State → List (BitVec 64)} (hg : Good
    cs s) : Good cs (State.finish s q ftype st blocks) := by
  unfold State.finish
  repeat' with_reducible first
    | assumption | refine State.countService_good ?_ | refine State.takeRequest_good ?_
    | refine State.recordBroadcast_good ?_ | refine State.queueOwn_good ?_ | refine Good.ite ?_ ?_

theorem State.answerWord_good {s : State} {q : Rq} {ftype : Nat} {index : Nat} {sub : Nat} {st : Nat} {v : Word} (hg : Good
    cs s) : Good cs (State.answerWord s q ftype index sub st v) := by
  unfold State.answerWord
  repeat' with_reducible first
    | assumption | refine State.finish_good ?_

theorem State.answerWrite_good {s : State} {q : Rq} {index : Nat} {sub : Nat} {st : Nat} (hg : Good cs s) : Good cs
    (State.answerWrite s q index sub st) := by
  unfold State.answerWrite
  repeat' first
    | (with_reducible first
      | assumption | refine State.answerWord_good ?_ | refine Good.ite ?_ ?_ | refine Good.foldl ?_ ?_)
    | intro _
    | extract_lets +onlyGivenNames x
    | with_reducible refine Good.of_mk ?_ rfl rfl rfl rfl rfl rfl rfl rfl rfl rfl rfl rfl rfl

theorem State.answerRun_good {s : State} {q : Rq} {index : Nat} {sub : Nat} {st : Nat} {vs : List Word} (hg : Good cs s) :
    Good cs (State.answerRun s q index sub st vs) := by
  unfold State.answerRun
  repeat' with_reducible first
    | assumption | refine State.finish_good ?_

theorem State.answerBulk_good {s : State} {q : Rq} {st : Nat} {b : Bulk} (hg : Good cs s) : Good cs (State.answerBulk
    s q st b) := by
  unfold State.answerBulk
  repeat' with_reducible first
    | assumption | refine State.finish_good ?_

theorem State.endBulk_good {s : State} {q : Rq} {b : Bulk} (hg : Good cs s) : Good cs (State.endBulk s q b) := by
  unfold State.endBulk
  repeat' first
    | (with_reducible first
      | assumption | refine State.answerBulk_good ?_ | refine Good.ite ?_ ?_ | refine Good.foldl ?_ ?_)
    | intro _
    | extract_lets +onlyGivenNames x
    | with_reducible refine Good.of_mk ?_ rfl rfl rfl rfl rfl rfl rfl rfl rfl rfl rfl rfl rfl

theorem State.bulkWord_good {s : State} {port : Nat} {stop : Bool} {b : Bulk} {x : BulkStep} (hg : Good cs s) : Good
    cs (State.bulkWord s port stop b x).2 := by
  unfold State.bulkWord
  repeat' with_reducible first
    | assumption | refine State.writeWord_good ?_

theorem State.runSteps_good {s : State} {port : Nat} {stop : Bool} {b : Bulk} {l : List BulkStep} (hg : Good cs s) :
    Good cs (s.runSteps port stop b l).2.2 := by
  induction l generalizing s b with
  | nil => exact hg
  | cons x xs ih =>
    unfold State.runSteps
    split
    · exact ih hg
    split
    · exact State.stall_good hg
    split
    rename_i heq
    exact ih (Good.snd_of heq (State.bulkWord_good hg))

theorem State.readRun_good {s : State} {port index sub : Nat} {got : List Word} {l : List (EccOutcome × Word)}
    (hg : Good cs s) : Good cs (s.readRun port index sub got l).2.2.2 := by
  induction l generalizing s got with
  | nil => exact hg
  | cons x xs ih =>
    obtain ⟨ecc, raw⟩ := x
    unfold State.readRun
    split
    · exact State.stall_good hg
    split
    rename_i st v t heq
    have ht : Good cs t := Good.thd_of heq (State.readWord_good hg)
    split
    · exact ht
    · exact ih ht

theorem State.imageStatus_good {s : State} {q : Rq} {f : ImgFrame} (hg : Good cs s) : Good cs (State.imageStatus s q
    f).2 := by
  unfold State.imageStatus
  repeat' first
    | (with_reducible first
      | assumption | refine State.image_good ?_ | refine Good.ite ?_ ?_ | refine Good.foldl ?_ ?_)
    | split

theorem State.imageFrame_good {s : State} {q : Rq} {f : ImgFrame} (hg : Good cs s) : Good cs (State.imageFrame s q
    f) := by
  unfold State.imageFrame
  repeat' with_reducible first
    | assumption | refine State.imageStatus_good ?_ | refine State.takeRequest_good ?_ | refine State.bump_good ?_
    | refine State.recordBroadcast_good ?_ | refine Good.ite ?_ ?_

theorem State.answerFormat_good {s : State} {q : Rq} {ftype : Nat} {index : Nat} {sub : Nat} (hg : Good cs s) : Good cs
    (State.answerFormat s q ftype index sub) := by
  unfold State.answerFormat
  repeat' with_reducible first
    | assumption | refine State.answerRun_good ?_ | refine State.answerBulk_good ?_
    | refine State.answerWrite_good ?_ | refine State.answerWord_good ?_ | refine Good.ite ?_ ?_

theorem State.serve_good {s : State} {v : Service} (hg : Good cs s) : Good cs (s.serve v).2 := by
  unfold State.serve
  split
  · exact State.answerFormat_good hg
  · exact State.imageFrame_good hg
  · split
    · exact State.stall_good hg
    · split
      rename_i heq
      exact State.answerWord_good (Good.thd_of heq (State.readWord_good hg))
  · split
    · exact State.stall_good hg
    · split
      rename_i heq
      exact State.answerWrite_good (Good.snd_of heq (State.writeWord_good hg))
  · split
    · rename_i heq
      exact State.answerRun_good (Good.fth_of heq (State.readRun_good hg))
    · rename_i heq
      exact Good.fth_of heq (State.readRun_good hg)
  · split
    · rename_i heq
      exact State.endBulk_good (Good.thd_of heq (State.runSteps_good hg))
    · rename_i heq
      exact Good.thd_of heq (State.runSteps_good hg)

theorem State.putBack_good {s : State} {v : Service} (hg : Good cs s) : Good cs (State.putBack s v) := by
  unfold State.putBack
  repeat' first
    | (with_reducible first
      | assumption | refine Good.ite ?_ ?_ | refine Good.foldl ?_ ?_)
    | intro _
    | extract_lets +onlyGivenNames x
    | with_reducible refine Good.of_mk ?_ rfl rfl rfl rfl rfl rfl rfl rfl rfl rfl rfl rfl rfl

theorem State.perform_good {s : State} {v : Service} (hg : Good cs s) : Good cs (State.perform s v) := by
  unfold State.perform
  repeat' first
    | (with_reducible first
      | assumption | refine State.serve_good ?_ | refine State.putBack_good ?_ | refine Good.ite ?_ ?_
      | refine Good.foldl ?_ ?_)
    | split
    | with_reducible refine Good.snd_of (by assumption) ?_

theorem State.turns_good {n : Nat} {s : State} (hg : Good cs s) : Good cs (State.turns n s) := by
  induction n generalizing s with
  | zero => exact hg
  | succ n ih =>
    unfold State.turns
    split
    · exact hg
    · exact ih (State.perform_good { hg with })

theorem State.goOn_good {s : State} (hg : Good cs s) : Good cs s.goOn := by
  unfold State.goOn
  exact Good.ite hg (State.turns_good hg)

theorem State.submit_good {s : State} {v : Service} (hg : Good cs s) : Good cs (State.submit s v) := by
  unfold State.submit
  repeat' first
    | (with_reducible first
      | assumption | refine State.perform_good ?_ | refine State.goOn_good ?_ | refine Good.ite ?_ ?_
      | refine Good.foldl ?_ ?_)
    | intro _
    | extract_lets +onlyGivenNames x
    | with_reducible refine Good.of_mk ?_ rfl rfl rfl rfl rfl rfl rfl rfl rfl rfl rfl rfl rfl

theorem State.readRequest_good {s : State} {q : Rq} {index sub : Nat} {ecc : EccOutcome} {raw : Word} (hg : Good cs s) :
    Good cs (s.readRequest q index sub ecc raw) := by
  unfold State.readRequest
  exact Good.ite hg (State.submit_good hg)

theorem State.writeRequest_good {s : State} {ecc : EccOutcome} {index sub : Nat} {w : Wr} (hg : Good cs s) :
    Good cs (s.writeRequest ecc index sub w) := by
  unfold State.writeRequest
  exact Good.ite hg (State.submit_good hg)

theorem State.bulkRead_good {s : State} {q : Rq} {index sub count : Nat} {eccs : List (EccOutcome × Word)} (hg : Good cs s) :
    Good cs (s.bulkRead q index sub count eccs) := by
  unfold State.bulkRead
  exact Good.ite hg (State.submit_good hg)

theorem State.bulkWrite_good {s : State} {q : Rq} {stop : Bool} {items : List BulkItem} (hg : Good cs s) :
    Good cs (s.bulkWrite q stop items) := by
  unfold State.bulkWrite
  exact Good.ite hg (State.submit_good hg)

theorem State.receive_good {s : State} {q : Nat} {f : RxFrame} (hg : Good cs s) : Good cs (s.receive q f) := by
  unfold State.receive
  extract_lets +onlyGivenNames port x
  refine Good.ite hg (Good.ite (State.bumpAt_good hg) (Good.ite hg (Good.ite (State.bumpAt_good hg) ?_)))
  split
  · exact State.bumpAt_good hg
  · rename_i h
    refine State.setPort_good hg ?_
    simp only [List.length_append, List.length_cons, List.length_nil]
    omega

theorem State.tokenArrives_good {s : State} {p : Nat} {dest : Nat} {epoch : Nat} {tag : BitVec 64} {whole : Bool} (hg :
    Good cs s) : Good cs (State.tokenArrives s p dest epoch tag whole) := by
  unfold State.tokenArrives
  repeat' first
    | (with_reducible first
      | assumption | refine State.forward_good ?_ | refine State.pass_good ?_ | refine Good.ite ?_ ?_
      | refine Good.foldl ?_ ?_)
    | intro _
    | extract_lets +onlyGivenNames x
    | with_reducible refine Good.of_mk ?_ rfl rfl rfl rfl rfl rfl rfl rfl rfl rfl rfl rfl rfl

theorem State.acceptToken_good {s : State} {t : Token} (hg : Good cs s) : Good cs (State.acceptToken s t) := by
  unfold State.acceptToken
  repeat' first
    | (with_reducible first
      | assumption | refine State.set_good ?_ | refine State.each_good ?_ ?_ | refine State.wr_good ?_
      | refine State.post_good ?_ | refine Good.ite ?_ ?_ | refine Good.foldl ?_ ?_)
    | intro _

theorem State.applyToken_good {s : State} {t : Token} (hg : Good cs s) : Good cs (State.applyToken s t) := by
  unfold State.applyToken
  repeat' with_reducible first
    | assumption | refine State.bumpAt_good ?_ | refine State.set_good ?_ | refine State.acceptToken_good ?_
    | refine Good.ite ?_ ?_

theorem State.tokenOutcome_good {s : State} (hg : Good cs s) : Good cs (State.tokenOutcome s) := by
  unfold State.tokenOutcome
  repeat' first
    | (with_reducible first
      | assumption | refine State.goOn_good ?_ | refine State.applyToken_good ?_ | refine Good.ite ?_ ?_
      | refine Good.foldl ?_ ?_)
    | split
    | (with_reducible first
      | refine Good.snd_of (by assumption) ?_ | refine Good.fst_of (by assumption) ?_ | refine Good.thd_of (by assumption) ?_)
    | dsimp -zeta only
    | with_reducible refine Good.of_mk ?_ rfl rfl rfl rfl rfl rfl rfl rfl rfl rfl rfl rfl rfl

/-! Operations of Sys2Proof/Machine/Commands.lean. -/

theorem State.answerSwitch_good {s : State} {r : Option SwitchReply} (hg : Good cs s) : Good cs (State.answerSwitch
    s r) := by
  unfold State.answerSwitch
  repeat' first
    | (with_reducible first
      | assumption | refine State.answerWrite_good ?_ | refine State.answerBulk_good ?_ | refine Good.ite ?_ ?_
      | refine Good.foldl ?_ ?_)
    | split

theorem State.switchEnd_good {s : State} (hg : Good cs s) : Good cs (State.switchEnd s) := by
  unfold State.switchEnd
  repeat' first
    | (with_reducible first
      | assumption | refine State.answerSwitch_good ?_ | refine State.switchDone_good ?_ | refine Good.ite ?_ ?_
      | refine Good.foldl ?_ ?_)
    | split
    | (with_reducible first
      | refine Good.snd_of (by assumption) ?_ | refine Good.fst_of (by assumption) ?_ | refine Good.thd_of (by assumption) ?_)
    | dsimp -zeta only
    | with_reducible refine Good.of_mk ?_ rfl rfl rfl rfl rfl rfl rfl rfl rfl rfl rfl rfl rfl

end Sys2Proof.Machine
end

