-- ==== Sys2Proof/Laws/Rules.lean ====
section
/-! SUPPORT. Which rule of a chapter a write to each object runs: the dispatcher evaluated once per index. -/

namespace Sys2Proof.Machine

variable (s : State) (ecc : EccOutcome) (port sub : Nat) (v : Word)

theorem State.objectRule_1151 : s.objectRule ecc port 0x1151 sub v = s.clearMark 0x1151 sub v := by
  simp [State.objectRule, State.ruleDevice]

theorem State.objectRule_1301 : s.objectRule ecc port 0x1301 sub v = s.wAcquire port v := by
  simp [State.objectRule, State.ruleDevice]

theorem State.objectRule_1302 : s.objectRule ecc port 0x1302 sub v = s.wRelease port v := by
  simp [State.objectRule, State.ruleDevice]

theorem State.objectRule_1341 : s.objectRule ecc port 0x1341 sub v = s.wArbKey sub v := by
  simp [State.objectRule, State.ruleDevice]

theorem State.objectRule_1401 : s.objectRule ecc port 0x1401 0 v = s.wBtCtrl v := by
  simp [State.objectRule, State.ruleDevice]

theorem State.objectRule_1801 : s.objectRule ecc port 0x1801 sub v = s.wMdRequest v := by
  simp [State.objectRule, State.ruleDevice]

theorem State.objectRule_6001 : s.objectRule ecc port 0x6001 2 v = s.wPwReq port v := by
  simp [State.objectRule, State.ruleDevice]

theorem State.objectRule_6003 : s.objectRule ecc port 0x6003 sub v = s.wPwHold sub v := by
  simp [State.objectRule, State.ruleDevice]

theorem State.objectRule_6012 : s.objectRule ecc port 0x6012 sub v = s.wPwDomainReset port v := by
  simp [State.objectRule, State.ruleDevice]

theorem State.objectRule_6101 : s.objectRule ecc port 0x6101 sub v = s.wPlRequest v := by
  simp [State.objectRule, State.ruleDevice]

theorem State.objectRule_6102 : s.objectRule ecc port 0x6102 sub v = s.wPlVout sub v := by
  simp [State.objectRule, State.ruleDevice]

theorem State.objectRule_6103 : s.objectRule ecc port 0x6103 sub v = s.wPlPmbus sub v := by
  simp [State.objectRule, State.ruleDevice]

theorem State.objectRule_7002 : s.objectRule ecc port 0x7002 sub v = s.wFcCfg sub v := by
  simp [State.objectRule, State.ruleDevice]

theorem State.objectRule_7005 : s.objectRule ecc port 0x7005 sub v = s.wFcClear v := by
  simp [State.objectRule, State.ruleDevice]

theorem State.objectRule_7006 : s.objectRule ecc port 0x7006 sub v = s.wFcFifo v := by
  simp [State.objectRule, State.ruleDevice]

theorem State.objectRule_7101 : s.objectRule ecc port 0x7101 sub v = s.wSfRelease v := by
  simp [State.objectRule, State.ruleDevice]

theorem State.objectRule_7801 : s.objectRule ecc port 0x7801 sub v = s.wThLimits v := by
  simp [State.objectRule, State.ruleDevice]

theorem State.objectRule_7802 : s.objectRule ecc port 0x7802 sub v = s.wThMax 0x7802 v := by
  simp [State.objectRule, State.ruleDevice]

theorem State.objectRule_7C00 : s.objectRule ecc port 0x7C00 sub v = s.wTiInject v := by
  simp [State.objectRule, State.ruleDevice]

theorem State.objectRule_2001 : s.objectRule ecc port 0x2001 sub v = s.wTcControl v := by
  simp [State.objectRule, State.ruleTime]

theorem State.objectRule_2002 : s.objectRule ecc port 0x2002 sub v = s.wTcRef v := by
  simp [State.objectRule, State.ruleTime]

theorem State.objectRule_2004 : s.objectRule ecc port 0x2004 sub v = s.wTcDivNext sub v := by
  simp [State.objectRule, State.ruleTime]

theorem State.objectRule_2005 : s.objectRule ecc port 0x2005 sub v = s.wTcDivCommit v := by
  simp [State.objectRule, State.ruleTime]

theorem State.objectRule_2006 : s.objectRule ecc port 0x2006 sub v = s.wTcTrack sub v := by
  simp [State.objectRule, State.ruleTime]

theorem State.objectRule_2011 : s.objectRule ecc port 0x2011 sub v = s.wTcFerrLimit v := by
  simp [State.objectRule, State.ruleTime]

theorem State.objectRule_2013 : s.objectRule ecc port 0x2013 sub v = s.wTcRanges 0x2013 sub v := by
  simp [State.objectRule, State.ruleTime]

theorem State.objectRule_2014 : s.objectRule ecc port 0x2014 sub v = s.wTcRanges 0x2014 sub v := by
  simp [State.objectRule, State.ruleTime]

theorem State.objectRule_2101 : s.objectRule ecc port 0x2101 sub v = s.wDsControl v := by
  simp [State.objectRule, State.ruleTime]

theorem State.objectRule_2201 : s.objectRule ecc port 0x2201 sub v = s.wCkSwitch v := by
  simp [State.objectRule, State.ruleTime]

theorem State.objectRule_2202 : s.objectRule ecc port 0x2202 sub v = s.wCkLinkCfg v := by
  simp [State.objectRule, State.ruleTime]

theorem State.objectRule_2210 : s.objectRule ecc port 0x2210 sub v = s.wCkGate sub port v := by
  simp [State.objectRule, State.ruleTime]

theorem State.objectRule_2411 : s.objectRule ecc port 0x2411 0 v = s.wStepAuth v := by
  simp [State.objectRule, State.ruleTime]

theorem State.objectRule_2502 : s.objectRule ecc port 0x2502 sub v = s.clearMark 0x2502 sub v := by
  simp [State.objectRule, State.ruleTime]

theorem State.objectRule_2601 : s.objectRule ecc port 0x2601 sub v = s.wEvCtrl v := by
  simp [State.objectRule, State.ruleTime]

theorem State.objectRule_2603 : s.objectRule ecc port 0x2603 sub v = s.wEvKeyCtrl v := by
  simp [State.objectRule, State.ruleTime]

theorem State.objectRule_2606 : s.objectRule ecc port 0x2606 sub v = s.wEvAck v := by
  simp [State.objectRule, State.ruleTime]

theorem State.objectRule_260B : s.objectRule ecc port 0x260B sub v = s.wEvFifo v := by
  simp [State.objectRule, State.ruleTime]

theorem State.objectRule_3000 : s.objectRule ecc port 0x3000 sub v = s.wLpWindow v := by
  simp [State.objectRule, State.ruleLane]

theorem State.objectRule_3001 : s.objectRule ecc port 0x3001 sub v = s.wLpGlobal 0x3001 sub v := by
  simp [State.objectRule, State.ruleLane]

theorem State.objectRule_3002 : s.objectRule ecc port 0x3002 sub v = s.wLpGlobal 0x3002 sub v := by
  simp [State.objectRule, State.ruleLane]

theorem State.objectRule_4000 : s.objectRule ecc port 0x4000 sub v = s.wLpCmd sub v ecc := by
  simp [State.objectRule, State.ruleLane]

theorem State.objectRule_4003 : s.objectRule ecc port 0x4003 sub v = s.wLpMon sub v := by
  simp [State.objectRule, State.ruleLane]

theorem State.objectRule_4006 : s.objectRule ecc port 0x4006 sub v = s.wLpPilot sub v := by
  simp [State.objectRule, State.ruleLane]

theorem State.objectRule_4007 : s.objectRule ecc port 0x4007 sub v = s.wLpHtrLimit sub v := by
  simp [State.objectRule, State.ruleLane]

theorem State.objectRule_4008 : s.objectRule ecc port 0x4008 sub v = s.wLpParkCode sub v := by
  simp [State.objectRule, State.ruleLane]

theorem State.objectRule_4009 : s.objectRule ecc port 0x4009 sub v = s.wLpEoCode sub v := by
  simp [State.objectRule, State.ruleLane]

theorem State.objectRule_400A : s.objectRule ecc port 0x400A sub v = s.wLpSetpoint sub v := by
  simp [State.objectRule, State.ruleLane]

theorem State.objectRule_4C00 : s.objectRule ecc port 0x4C00 sub v =
    if s.limitsOk 0x4C00 sub v then (stOk, s.wPdCfg sub v) else (stRange, s) := by
  simp [State.objectRule, State.ruleLane]

theorem State.objectRule_4C40 : s.objectRule ecc port 0x4C40 sub v = s.wGtCfg sub v := by
  simp [State.objectRule, State.ruleLane]

theorem State.objectRule_4004 : s.objectRule ecc port 0x4004 sub v = (stDeferred, s.defer 0x4004 sub v) := by
  simp [State.objectRule, State.ruleLane, deferredObject]

theorem State.objectRule_4005 : s.objectRule ecc port 0x4005 sub v = (stDeferred, s.defer 0x4005 sub v) := by
  simp [State.objectRule, State.ruleLane, deferredObject]

theorem State.objectRule_5002 : s.objectRule ecc port 0x5002 sub v = s.wTtWinCmd v ecc := by
  simp [State.objectRule, State.ruleCommit]

theorem State.objectRule_5010 : s.objectRule ecc port 0x5010 sub v = s.wTtNeigh 0x5010 sub v := by
  simp [State.objectRule, State.ruleCommit]

theorem State.objectRule_5011 : s.objectRule ecc port 0x5011 sub v = s.wTtNeigh 0x5011 sub v := by
  simp [State.objectRule, State.ruleCommit]

theorem State.objectRule_5101 : s.objectRule ecc port 0x5101 sub v = s.wSrPush v := by
  simp [State.objectRule, State.ruleCommit]

theorem State.objectRule_5105 : s.objectRule ecc port 0x5105 sub v = s.wSrFlush sub v := by
  simp [State.objectRule, State.ruleCommit]

theorem State.objectRule_5106 : s.objectRule ecc port 0x5106 sub v = s.wSrFlushAll v := by
  simp [State.objectRule, State.ruleCommit]

theorem State.objectRule_5201 : s.objectRule ecc port 0x5201 sub v = s.wCmArm v := by
  simp [State.objectRule, State.ruleCommit]

theorem State.objectRule_5800 : s.objectRule ecc port 0x5800 sub v = s.wSvStart v := by
  simp [State.objectRule, State.ruleCommit]

theorem State.objectRule_5823 : s.objectRule ecc port 0x5823 sub v = s.wCorrection 0x5823 sub v := by
  simp [State.objectRule, State.ruleCommit]

theorem State.objectRule_5830 : s.objectRule ecc port 0x5830 sub v = s.wCorrection 0x5830 sub v := by
  simp [State.objectRule, State.ruleCommit]

theorem State.objectRule_5831 : s.objectRule ecc port 0x5831 sub v = s.wCorrection 0x5831 sub v := by
  simp [State.objectRule, State.ruleCommit]

theorem State.objectRule_5824 : s.objectRule ecc port 0x5824 sub v = s.wSvCalReq v := by
  simp [State.objectRule, State.ruleCommit]

/-- Aggressor lists and coefficients (R128, R129). -/
theorem State.objectRule_aggressor {j : Nat} (h : j < 17) :
    s.objectRule ecc port (0x5400 + j) sub v = s.wXt (0x5400 + j) sub v := by
  have h1 : ¬ (0x5400 + j < 0x2000 ∨ 0x6000 ≤ 0x5400 + j ∧ 0x5400 + j < 0xA000) := by omega
  have h2 : ¬ (0x5400 + j < 0x3000) := by omega
  have h3 : ¬ (0x5400 + j < 0x5000) := by omega
  have h4 : 0x5400 + j < 0x6000 := by omega
  simp only [State.objectRule, h1, h2, h3, h4, if_true, if_false, State.ruleCommit]
  rw [if_neg (by omega), if_neg (by omega), if_neg (by omega), if_neg (by omega), if_neg (by omega), if_neg (by omega),
    if_pos (by omega)]

end Sys2Proof.Machine
end

