-- ==== Sys2Proof/WellFormed.lean ====
section
/-! DEFINITION. The operand ranges of the commands: a number that names an element, a port, a lane pair, a domain,
a monitor input, a rail or a calibration unit is one of those that exist, and a subindex fits 16 bits. The step runs
any command; the ranges are what the manual's own indices can name. -/

namespace Sys2Proof

/-- A request arrives at port 0 or 1, with an address byte and a tag of 16 bits (R211, R215). -/
def Rq.wf (q : Rq) : Bool := decide (q.port < 2 ∧ q.src < 256 ∧ q.tag < 65536)

/-- A write request. -/
def Wr.wf (w : Wr) : Bool := w.q.wf

/-- An element of the device (R13). -/
def elemWf (e : Nat) : Bool := decide (e < 4096)

/-- A port (R13). -/
def portWf (p : Nat) : Bool := decide (p < 256)

/-- A lane pair: U or D of port A or B (R202). -/
def pairWf (p : Nat) : Bool := decide (p < 4)

/-- A switched domain (Table 12-1). -/
def domWf (d : Nat) : Bool := decide (d < 0x21)

/-- A subentry's index and subindex (R233). -/
def subWf (index sub : Nat) : Bool := decide (index < 65536 ∧ sub < 65536)

/-- An IMAGE frame's chunks: one to four (R274). -/
def ImgFrame.wf (f : ImgFrame) : Bool := decide (1 ≤ f.chunks.length ∧ f.chunks.length ≤ 4)

/-- The operands of a command name what exists. -/
def Instr.wellFormed : Instr → Bool
  | .monitorSample m k code => decide (m < 1024 ∧ k < 5 ∧ code < 16384)
  | .pilotUpdate k => decide (k < 5)
  | .portSelWrite w | .loopBandwidthWrite w | .divModeWrite w | .divCommit w | .trackTargetWrite w
  | .sourceSwitch w | .linkCfgWrite w | .sscWrite w | .windowLengthWrite w | .schedulePush w
  | .scheduleFlushAll w | .calRequest w | .sealNow w | .keyCommit w | .keyLock w | .evidenceAck w
  | .seAcquire w | .seRelease w | .bootBegin w | .bootEnd w | .bootRun w | .bootAbort w
  | .modeRequestService w | .modeRequestDormant w | .powerRequest w | .perfLevelRequest w
  | .domainResetRequest w | .faultClearSource w | .faultClearAll w | .firstFaultClear w | .safeRelease w
  | .faultInject w => w.wf
  | .clockEnableWrite d w => domWf d && w.wf
  | .monitorAssign e w | .setpointWrite e w | .eoCodeWrite e w | .scheduleFlush e w
  | .neighbourWrite _ e w => elemWf e && w.wf
  | .aggressorWrite j e w => decide (j < 16) && elemWf e && w.wf
  | .pdConfigWrite p w => portWf p && w.wf
  | .arbKeyWrite k w => decide (k < 8) && w.wf
  | .calCorrectionWrite index sub w | .objectWrite index sub w => subWf index sub && w.wf
  | .ckStatusRead q | .armGo q _ _ | .armDisarm q | .shadowSync q | .ttWindowRead q _ | .ttWindowWrite q
  | .surveyGo q _ | .surveyAbort q | .timeReadLatch q | .stepAuthorise q _ | .stepCancel q _
  | .bulkWriteRequest q _ _ => q.wf
  | .cmdOff q e | .cmdPark q e | .cmdRun q e _ | .cmdCoast q e | .cmdResume q e | .cmdClear q e => q.wf && elemWf e
  | .word64ReadLatch q index sub | .readRequest q index sub | .evidenceRead q index sub _ _ => q.wf && subWf index sub
  | .bulkReadRequest q index sub run => q.wf && subWf index sub && decide (run.count < 65536)
  | .imageFrame q f => q.wf && f.wf
  | .heaterCurrentMeasure e _ | .eoComplianceFault e | .learnIntervalEnd e | .learnedWrite e => elemWf e
  | .calRunStart u => decide (u < 384)
  | .calRunEnd u results => decide (u < 384 ∧ results.length = 32)
  | .lightCrossing p _ _ _ | .lightLevel p | .gateReadbackMismatch p => portWf p
  | .lightRecordEnqueue quadrant => decide (quadrant < 4)
  | .linkSignalDetect x => pairWf x.pair
  | .requestReceive pair _ | .frameForward pair _ | .ownFrameTransmit pair
  | .linkBlockLock pair | .helloSend pair | .helloReceive pair _ | .linkLoss pair _ | .loopEngage pair
  | .loopRelease pair => pairWf pair
  | .wakeReceive pair _ | .ringResetReceive pair _ _ => pairWf pair
  | .arbToken pair _ _ _ => pairWf pair
  | .domainWake d _ | .domainWakeDone d | .crossingPeerDrop d | .crossingHandshakeDone d => domWf d
  | .supplyRecover x => decide (x.rail < 2)
  | .trimWindowEnd tdc => decide (-256 < tdc ∧ tdc < 256)
  | .supplyWarningCross rail _ | .supplyDipQualify rail _ | .supplyResetLevel rail =>
    decide (rail < 2)
  | .frameTick _ | .slackWindow _ | .loopWindowBoundary | .timingPortBlockLock | .bandSearchPhaseEnd _
  | .searchFailTimeout | .referenceLoss _ | .lockLoss _ | .clkReadySet | .recentre _ | .referenceQualified _ _
  | .relockLock | .relockTimeout | .coastLimitExceeded | .phaseStep | .trackRampStep
  | .divCommitApply | .sourceSwitchDone | .imageSourceSwitch | .dsStart | .dsPhaseEnd _ | .dsStartTimeout
  | .pdmSourceMove | .dsLockLoss | .sscChangeApply | .armingComplete _ | .ringCommitArmStart | .trigInEdge
  | .surveyEntry | .surveyPassStart _ | .sweepStepEnd | .surveyCapture | .crosstalkBaselineEnd
  | .aggressorDwellEnd | .selfProbeDwellEnd | .surveyRestore _ | .surveyResume | .calTemperatureCheck
  | .frameMarkReceive _ | .dreqSend _ | .dreqReceive _ _ _ | .drespReceive _ | .drespTimeout | .timeSet _
  | .timeStep _ | .evidenceRecordWrite | .sealTimeout | .chainRestart | .tokenOutcome | .imageCheckDone
  | .modeChange | .dormantClockStop | .powerRequestStart | .neapVoteCheck | .neapIsolate | .neapPowerDown
  | .perfStepStart | .perfFrequencyChange | .pmbusTransactionDone _ | .voutSettleEnd | .domainResetStart
  | .domainResetRelease | .faultReport _ | .reactionWindowClose | .containmentApply | .faultRecordEnqueue
  | .safeInLow | .fltReadbackMismatch | .safeReleaseEffect | .supplyMarginalClear | .brownoutResetAssert
  | .temperatureConversion _ | .pmbusAlert _ | .coldReset | .pinReset _ | .ringResetAssert | .resetRelease _
  | .vgateCrossing _ | .faultCauseEnd _ | .domainStart => true

end Sys2Proof
end

