-- ==== Sys2Proof/Tests/Slice0.lean ====
section
/-! SUPPORT. Tests: ill-formed operands are refused, published values of the checks that frames and images carry, and for
every clause of every obligation a state and operands that meet its hypotheses. -/

namespace Sys2Proof.Tests

open Machine

set_option Elab.async false
set_option synthInstance.maxSize 100000
set_option synthInstance.maxHeartbeats 200000

/-! The states of the tests. -/

/-- A request of port A. -/
def rq : Rq := { port := 0, fromD := false, bcast := false, src := 2, tag := 7, formed := true }

/-- A write of a value under the full mask. -/
def wr (v : Nat) : Wr := { q := rq, value := BitVec.ofNat 32 v, mask := BitVec.allOnes 32 }

/-- A device whose port A holds every section and whose endpoints serve. -/
def up : State :=
  let s := State.each 16 (fun k s => s.wr SE_SECTION_OWNER_OWNER k 1) State.reset
  { s with boot := { s.boot with served := true } }

/-- The same device in SERVICE: every domain in RUN, the image running, the loop locked, the frame counter running. -/
def dev : State :=
  let s := State.each 0x21 (fun d s => s.wr PW_DOMAIN_STATE d 1) up
  let s := ((s.set BT_STATUS_STATE 5).set BT_STATUS_DOMAINS_UP 1).set MD_MODE_MODE modeService
  let s := (((s.set TC_STATUS_CLK_READY 1).set TC_STATUS_LOCK 1).set TC_STATUS_STATE 4).set CK_STATUS_SRC 1
  let s := (s.set CK_STATUS_READY_SEEN 1).set TB_STATUS_STATE 2
  { s with frame := { s.frame with running := true, frame := 1000, ticks := 10, up := 40000, tc := 5 } }

/-- The state at another frame number. -/
def atFrame (n : Nat) (s : State) : State := { s with frame := { s.frame with frame := n } }

/-- The state with another count of ticks. -/
def atTick (n : Nat) (s : State) : State := { s with frame := { s.frame with ticks := n } }

/-- `dev` with its four lane pairs UP. -/
def ringUp : State := State.each 4 (fun k s => s.wr FL_STATUS_STATE k 4) dev

/-- `dev` with a band search in some phase. -/
def search (n : Nat) : State :=
  { (dev.set TC_STATUS_STATE 2).set TC_STATUS_LOCK 0 with timing := { dev.timing with phase := n } }

/-- `dev` with a survey in some stage. -/
def survey (n : Nat) (x : SurveySt) : State :=
  { (dev.set SV_STATUS_STATE n).set MD_MODE_MODE modeSurvey with survey := x }

/-- `dev` with lane 5 in some state. -/
def lane5 (st : LState) : State := dev.setLane 5 { dev.lane 5 with st := st }

/-- A frame with its CRC. -/
def sealFrame (f : RxFrame) : RxFrame := { f with crc := crc32 (frameBytes f) }

/-- A good READ_REQ frame to an address. -/
def request (dest ftype : Nat) : RxFrame :=
  sealFrame { dest := dest, src := 2, ftype := ftype, tag := 7, len := 1, hops := 3, blocks := [5], valid := 8, crc := 0, stomped := false, truncated := false }

/-- A frame of the device's own. -/
def ownFrame : RxFrame := dev.ownFrame 2 2 7 [5]

/-- A HELLO that agrees on L1.1. -/
def hello : Hello :=
  { offers10 := true, offers11 := true, addr := 3, portB := true, pairD := true, repeater := false, agreed := true, version := 0x11 }

/-- An arming. -/
def armed (trig : Bool) : Arm :=
  { bits := dev.shadowBits, target := 1003, trig := trig, force := false, ovr := [], due := [], neigh := dev.force, tide := [],
    bad := [], startUp := 40000, clk := 400, clkUp := 40000, waits := false, groups := 0 }

/-- A Neap request for one domain. -/
def neap (due : Nat) : PowReq := { doms := [0x10], target := 3, due := due, dormant := false }

/-- A domain that leaves NEAP. -/
def waking : Waking := { dom := 0x10, fromState := 3, target := 1, client := 0xFE, cause := 0, up := 0 }

/-- A domain reset of HKT. -/
def domReset (phase drops : Nat) : DomReset := { dom := 0x1F, due := 10, phase := phase, drops := drops }

/-- A frame mark captured, and the DREQ that answered it. -/
def mark : Mark := { frame := 5000, t1 := 100, t2 := 900, atFrame := 1000, tick := 10 }

/-- See `mark`. -/
def dreq (tick : Nat) : Dreq := { seq := 3, mark := mark, t3 := 2000, sentTick := tick }

/-- A frame mark on arrival. -/
def markMeas (port : Nat) (unset : Bool) : MarkMeas := { port := port, frame := 5000, t1 := 100, t2 := 900, unset := unset, coast := true }

/-- A DRESP. -/
def dresp : Dresp := { seq := 3, frame16 := 5000, t4 := 3000, unset := false, coast := false }

/-- A record, and one in the FIFO. -/
def event : Rec := { time := 9, code := 0x33, source := 5, flags := 0, payload := 6 }

/-- See `event`. -/
def queued : FifoRec := { r := event, enterUp := 30000, crossUp := none }

/-- A loss episode that has ended. -/
def lost : Gap := { source := 5, count := 2, time := 3, flags := 0, firstUp := 3, lastUp := 4 }

/-- A light capture. -/
def capture : Capture :=
  { time := 5, crossUp := 39000, readyUp := 39000, code := 0x10, flags := 0, edges := 1, thr := 3, merges := 0, level := true, bin := 2 }

/-- `dev` with port 7's detector enabled. -/
def lit : State :=
  let s := dev.wr PD_CFG_EN 7 1
  s.setPd 7 { s.pd 7 with cfg := s.word 0x4C00 7 }

/-- A reaction window. -/
def window : Window :=
  { r := { time := 3, flags := 0, source := 13, unit := 5, sev := 1, escalated := 0, contain := 0, wire := false, injected := false,
           first := true, merged := 0, same := 0 },
    boundUp := 42000, closeUp := 39900, waitTick := none }

/-- A report of a source for the device. -/
def report (src : Nat) : Report := { src := src, unit := 0xFFFF, wire := false }

/-- A token for the device, and `dev` with a key, under which the token is good. -/
def keyed : State := State.each 8 (fun k s => s.setWord 0x1341 k (BitVec.ofNat 32 (k + 1))) (dev.set SE_EPOCH_KEY_SET 1)

/-- See `keyed`. -/
def token (tag : Nat) : Token := { port := 0, dest := dev.address, epoch := 5, tag := BitVec.ofNat 64 tag, ahead := [] }

/-- `dev` in BOOT, downloading an image of 1,024 bytes. -/
def loading (state : Nat) (chunks : List (Nat × BitVec 2048)) : State :=
  let s := ((dev.set MD_MODE_MODE modeBoot).set BT_STATUS_STATE state).set BT_STATUS_SESSION 5
  { s with boot := { s.boot with length := 1024, chunks := chunks } }

/-- `dev` with VTIME below its warning level. -/
def low (dip : Bool) : State := { dev with supply := { dev.supply with vtime := { dev.supply.vtime with low := true, dip := dip } } }

/-- `dev` with sealed blocks. -/
def blocks (n : Nat) : State := { dev with ev := { dev.ev with sealed := (List.range n).map fun k => { num := k, recs := [] }, num := n } }

/-! Operands, and published values. -/

/-- Each check of WellFormed refuses an ill-formed operand: a port, a sender or a tag that does not exist, an element, a
port, a lane pair, a domain, a subentry, a number of chunks, and the commands' own numbers. -/
theorem test_wf_refuses :
    (Instr.ckStatusRead { rq with port := 2 }).wellFormed = false ∧
    (Instr.ckStatusRead { rq with src := 256 }).wellFormed = false ∧
    (Instr.portSelWrite { wr 0 with q := { rq with tag := 65536 } }).wellFormed = false ∧
    (Instr.cmdOff rq 4096).wellFormed = false ∧ (Instr.setpointWrite 4096 (wr 0)).wellFormed = false ∧
    (Instr.pdConfigWrite 256 (wr 0)).wellFormed = false ∧ (Instr.helloSend 4).wellFormed = false ∧
    (Instr.domainWake 0x21 0).wellFormed = false ∧ (Instr.clockEnableWrite 0x21 (wr 0)).wellFormed = false ∧
    (Instr.readRequest rq 65536 0).wellFormed = false ∧ (Instr.objectWrite 0x2000 65536 (wr 0)).wellFormed = false ∧
    (Instr.bulkReadRequest rq 0x2000 0 ⟨65536, []⟩).wellFormed = false ∧
    (Instr.imageFrame rq { offset := 0, session := 0, chunks := [] }).wellFormed = false ∧
    (Instr.imageFrame rq { offset := 0, session := 0, chunks := [0, 0, 0, 0, 0] }).wellFormed = false ∧
    (Instr.monitorSample 1024 0 0).wellFormed = false ∧ (Instr.monitorSample 0 5 0).wellFormed = false ∧
    (Instr.monitorSample 0 0 16384).wellFormed = false ∧ (Instr.pilotUpdate 5).wellFormed = false ∧
    (Instr.aggressorWrite 16 0 (wr 0)).wellFormed = false ∧ (Instr.arbKeyWrite 8 (wr 0)).wellFormed = false ∧
    (Instr.calRunStart 384).wellFormed = false ∧ (Instr.calRunEnd 0 (List.replicate 31 0)).wellFormed = false ∧
    (Instr.lightRecordEnqueue 4).wellFormed = false ∧ (Instr.supplyRecover ⟨2, 0⟩).wellFormed = false := by
  decide

/-- The ranges' last values are well formed. -/
theorem test_wf_accepts :
    (Instr.monitorSample 1023 4 16383).wellFormed = true ∧ (Instr.cmdOff rq 4095).wellFormed = true ∧
    (Instr.pdConfigWrite 255 (wr 0)).wellFormed = true ∧ (Instr.helloSend 3).wellFormed = true ∧
    (Instr.domainWake 0x20 0).wellFormed = true ∧ (Instr.calRunStart 383).wellFormed = true := by
  decide

/-- The table gives no command a word (no row has bits). -/
theorem test_no_word (nbits w : Nat) : decodeTableWord nbits w = none := rfl

/-- The frame CRC is the CRC-32 of the IEEE 802.3 generator: its published check value over the digits 1 to 9 (R211). -/
theorem test_crc32 : crc32 [0x31, 0x32, 0x33, 0x34, 0x35, 0x36, 0x37, 0x38, 0x39] = 0xCBF43926 := by decide +kernel

/-- SHA-256 of the three letters abc, first bytes: the published example (R272). -/
theorem test_sha256 : (sha256 [0x61, 0x62, 0x63]).take 8 = [0xBA, 0x78, 0x16, 0xBF, 0x8F, 0x01, 0xCF, 0xEA] := by
  decide +kernel

/-- A tick begins the next frame (R21). -/
theorem test_frame_number : (match exec (.frameTick {}) dev with | .next t => t.frame.frame | _ => 0) = 1001 := by
  decide +kernel

/-! Witnesses of the obligations' hypotheses. -/

/-- A bounded statement, as the kernel decides it. -/
theorem below16 {P : Nat → Prop} (h : ∀ k ∈ List.range 16, P k) : ∀ k < 16, P k := fun k hk => h k (List.mem_range.2 hk)

/-- Every clause of `Obligations.StepRunsTheFrontCommand` has a state and operands that meet its hypotheses. -/
theorem test_witness_StepRunsTheFrontCommand :
    (∃ (s : State) (c : Instr) (cs : List Instr), s.pending = c :: cs) ∧
    (∃ (s : State), s.pending = []) := by
  refine (fun h => ⟨⟨{ dev with pending := [.coldReset, .frameTick {}] }, Instr.coldReset, [Instr.frameTick {}], h.1⟩,
    ⟨dev, h.2⟩⟩)
    (?_ : _ ∧ _)
  decide +kernel

/-- Every clause of `Obligations.TimingLoopWrites` has a state and operands that meet its hypotheses. -/
theorem test_witness_TimingLoopWrites :
    (∃ (s : State) (w : Wr), Safety.wf s = true ∧ Safety.admits s w 0x2002 0 = true ∧ s.coasting = true) ∧
    (∃ (s : State) (w : Wr), Safety.wf s = true ∧ Safety.admits s w 0x2002 0 = true ∧ s.modeNow = modeBoot ∧ s.on
      TC_STATUS_LOCK = false ∧ (s.tc = 1 ∨ s.searching = true)) ∧
    (∃ (s : State) (w : Wr), Safety.wf s = true ∧ Safety.admits s w 0x2002 0 = true ∧ s.coasting = false ∧ s.modeNow
      ≠ modeBoot) ∧
    (∃ (s : State) (w : Wr), Safety.wf s = true ∧ Safety.admits s w 0x2001 0 = true ∧ (Safety.valueOf s w 0x2001
      0).bits 3 0 ≤ 6 ∧ (Safety.valueOf s w 0x2001 0).bits 5 5 = s.get TC_CONTROL_DIV_MODE) ∧
    (∃ (s : State) (w : Wr), Safety.wf s = true ∧ Safety.admits s w 0x2001 0 = true ∧ 6 < (Safety.valueOf s w 0x2001
      0).bits 3 0) ∧
    (∃ (s : State) (w : Wr), Safety.wf s = true ∧ Safety.admits s w 0x2001 0 = true ∧ (Safety.valueOf s w 0x2001
      0).bits 3 0 ≤ 6 ∧ s.get TC_CONTROL_DIV_MODE = 1 ∧ (Safety.valueOf s w 0x2001 0).bits 5 5 = 0) ∧
    (∃ (s : State) (w : Wr), Safety.wf s = true ∧ Safety.admits s w 0x2001 0 = true ∧ (Safety.valueOf s w 0x2001
      0).bits 3 0 ≤ 6 ∧ s.get TC_CONTROL_DIV_MODE = 0 ∧ (Safety.valueOf s w 0x2001 0).bits 5 5 = 1) ∧
    (∃ (s : State) (w : Wr), Safety.wf s = true ∧ Safety.admits s w 0x2005 0 = true ∧ (Safety.valueOf s w 0x2005
      0).bits 0 0 = 1 ∧ s.coasting = false ∧ s.divOk = true) ∧
    (∃ (s : State) (w : Wr), Safety.wf s = true ∧ Safety.admits s w 0x2005 0 = true ∧ (Safety.valueOf s w 0x2005
      0).bits 0 0 = 1 ∧ s.divOk = false) ∧
    (∃ (s : State) (w : Wr), Safety.wf s = true ∧ Safety.admits s w 0x2005 0 = true ∧ (Safety.valueOf s w 0x2005
      0).bits 0 0 = 1 ∧ s.coasting = true ∧ s.divOk = true) ∧
    (∃ (s : State) (w : Wr), Safety.wf s = true ∧ Safety.admits s w 0x2006 0 = true ∧ (signedOf 32 (Safety.valueOf s
      w 0x2006 0).toNat).natAbs ≤ 51200000) ∧
    (∃ (s : State) (w : Wr), Safety.wf s = true ∧ Safety.admits s w 0x2006 0 = true ∧ 51200000 < (signedOf 32
      (Safety.valueOf s w 0x2006 0).toNat).natAbs) := by
  refine (fun h0 h1 => ⟨⟨dev.set TC_STATUS_STATE 5, wr 0x10, h0.1⟩,
    ⟨((dev.set MD_MODE_MODE modeBoot).set TC_STATUS_LOCK 0).set TC_STATUS_STATE 1, wr 0x10, h0.2.1⟩,
    ⟨dev, wr 0x10, h0.2.2.1⟩,
    ⟨dev, wr 0x23, h0.2.2.2.1⟩,
    ⟨dev, wr 7, h0.2.2.2.2.1⟩,
    ⟨dev, wr 0x10, h0.2.2.2.2.2.1⟩,
    ⟨dev.set TC_CONTROL_DIV_MODE 0, wr 0x23, h0.2.2.2.2.2.2.1⟩,
    ⟨dev, wr 7, h0.2.2.2.2.2.2.2.1⟩,
    ⟨(dev.set TC_CONTROL_DIV_MODE 0).set TC_DIV_NEXT_NINT 100, wr 7, h0.2.2.2.2.2.2.2.2⟩,
    ⟨dev.set TC_STATUS_STATE 5, wr 7, h1.1⟩,
    ⟨dev, wr 0x10, h1.2.1⟩,
    ⟨dev, wr 51200001, h1.2.2⟩⟩)
    (?_ : _ ∧ _ ∧ _ ∧ _ ∧ _ ∧ _ ∧ _ ∧ _ ∧ _) (?_ : _ ∧ _ ∧ _) <;> decide +kernel

/-- Every clause of `Obligations.BandSearch` has a state and operands that meet its hypotheses. -/
theorem test_witness_BandSearch :
    (∃ (s : State), Safety.wf s = true ∧ s.rst.held = [] ∧ 2 ≤ s.rd FL_STATUS_STATE (2 * s.timingPort) ∧ s.tc = 1) ∧
    (∃ (s : State), Safety.wf s = true ∧ s.searching = true ∧ s.timing.phase = 1 ∧ s.refPresent = true ∧
      s.timing.fromStored = false) ∧
    (∃ (s : State), Safety.wf s = true ∧ s.searching = true ∧ s.timing.phase = 1 ∧ s.refPresent = true ∧
      s.timing.fromStored = true) ∧
    (∃ (s : State), Safety.wf s = true ∧ s.searching = true ∧ s.timing.phase = 2) ∧
    (∃ (s : State), Safety.wf s = true ∧ s.searching = true ∧ s.timing.phase = 3) ∧
    (∃ (s : State), Safety.wf s = true ∧ s.searching = true ∧ s.timing.phase = 4) ∧
    (∃ (s : State), Safety.wf s = true ∧ s.searching = true ∧ s.timing.phase = 5) ∧
    (∃ (s : State), Safety.wf s = true ∧ s.searching = true ∧ s.timing.phase = 6) ∧
    (∃ (s : State), Safety.wf s = true ∧ s.timing.phase = 7) ∧
    (∃ (s : State), Safety.wf s = true ∧ s.timing.phase = 6) ∧
    (∃ (s : State), Safety.wf s = true ∧ s.frame.running = true ∧ s.rst.held = [] ∧ s.on TC_STATUS_CLK_READY = false
      ∧ s.on TC_STATUS_LOCK = true ∧ s.coasting = false ∧ s.boot.waking = false) ∧
    (∃ (s : State), Safety.wf s = true ∧ s.frame.running = true ∧ s.rst.held = [] ∧ s.on TC_STATUS_CLK_READY = false
      ∧ (s.on TC_STATUS_LOCK = true ∨ s.coasting = true)) := by
  refine (fun h0 h1 => ⟨⟨((dev.set TC_STATUS_STATE 1).wr FL_STATUS_STATE (2 * dev.timingPort) 2), h0.1⟩,
    ⟨(search 1).wr FL_STATUS_STATE (2 * dev.timingPort) 4, h0.2.1⟩,
    ⟨(fun s : State => { s with timing := { s.timing with fromStored := true } }) ((search 1).wr FL_STATUS_STATE (2 *
      dev.timingPort) 4), h0.2.2.1⟩,
    ⟨search 2, h0.2.2.2.1⟩,
    ⟨search 3, h0.2.2.2.2.1⟩,
    ⟨search 4, h0.2.2.2.2.2.1⟩,
    ⟨search 5, h0.2.2.2.2.2.2.1⟩,
    ⟨search 6, h0.2.2.2.2.2.2.2.1⟩,
    ⟨{ (dev.set TC_STATUS_STATE 3) with timing := { dev.timing with phase := 7 } }, h0.2.2.2.2.2.2.2.2⟩,
    ⟨search 6, h1.1⟩,
    ⟨dev.set TC_STATUS_CLK_READY 0, h1.2.1⟩,
    ⟨dev.set TC_STATUS_CLK_READY 0, h1.2.2⟩⟩)
    (?_ : _ ∧ _ ∧ _ ∧ _ ∧ _ ∧ _ ∧ _ ∧ _ ∧ _) (?_ : _ ∧ _ ∧ _) <;> decide +kernel

/-- Every clause of `Obligations.CoastAndRelock` has a state and operands that meet its hypotheses. -/
theorem test_witness_CoastAndRelock :
    (∃ (s : State), Safety.wf s = true ∧ s.timing.phase ≠ 1 ∧ s.tc = 6) ∧
    (∃ (s : State), Safety.wf s = true ∧ s.timing.phase ≠ 1 ∧ s.tc = 5 ∧ s.refPresent = true) ∧
    (∃ (s : State), Safety.wf s = true ∧ s.timing.phase ≠ 1 ∧ 2 ≤ s.tc ∧ s.coasting = false ∧ s.searching = false) ∧
    (∃ (s : State), Safety.wf s = true ∧ s.timing.phase ≠ 1 ∧ s.searching = true) ∧
    (∃ (s : State), Safety.wf s = true ∧ (s.tc ≤ 1 ∨ s.timing.phase = 1)) ∧
    (∃ (s : State), Safety.wf s = true ∧ s.on TC_STATUS_LOCK = true ∧ s.unlockMasked = false) ∧
    (∃ (s : State), Safety.wf s = true ∧ s.on TC_STATUS_LOCK = true ∧ s.unlockMasked = true) ∧
    (∃ (s : State), Safety.wf s = true ∧ s.on TC_STATUS_LOCK = false ∧ s.tc = 5 ∧ s.timing.byRef = true ∧ 5 *
      (s.frame.up - s.timing.coastUp) < s.refFifths) ∧
    (∃ (s : State), Safety.wf s = true) ∧
    (∃ (s : State), Safety.wf s = true ∧ s.tc = 5 ∧ s.refPresent = true) ∧
    (∃ (s : State) (offset : Int), Safety.wf s = true ∧ s.tc = 5 ∧ s.refPresent = true ∧ -2 ^ 31 ≤ offset ∧ offset <
      2 ^ 31) ∧
    (∃ (s : State), Safety.wf s = true ∧ s.tc = 6) ∧
    (∃ (s : State) (tdc : Int) (err : Int), Safety.wf s = true ∧ s.tc = 5 ∧ s.on TC_CONTROL_TRIM_EN = true ∧
      s.blockLocked (2 * (1 - s.timingPort)) = true ∧ s.trimError tdc = some err) ∧
    (∃ (s : State) (tdc : Int), Safety.wf s = true ∧ s.trimError tdc = none) ∧
    (∃ (s : State), Safety.wf s = true ∧ s.coasting = true ∧ 0 < s.get TC_COAST_LIMIT_LIMIT ∧ 1000 * s.get
      TC_COAST_LIMIT_LIMIT < s.coastTime ∧ s.timing.coastRaised = false) ∧
    (∃ (s : State), Safety.wf s = true ∧ s.coastTime ≤ 1000 * s.get TC_COAST_LIMIT_LIMIT) := by
  refine (fun h0 h1 => ⟨⟨dev.set TC_STATUS_STATE 6, h0.1⟩,
    ⟨(dev.set TC_STATUS_STATE 5).wr FL_STATUS_STATE (2 * dev.timingPort) 4, h0.2.1⟩,
    ⟨{ dev with pending := [.coldReset, .frameTick {}] }, h0.2.2.1⟩,
    ⟨search 2, h0.2.2.2.1⟩,
    ⟨((dev.set TC_STATUS_STATE 1).wr FL_STATUS_STATE (2 * dev.timingPort) 2), h0.2.2.2.2.1⟩,
    ⟨{ dev with pending := [.coldReset, .frameTick {}] }, h0.2.2.2.2.2.1⟩,
    ⟨dev.setLoop { dev.timing.loop with edge := some 39990 }, h0.2.2.2.2.2.2.1⟩,
    ⟨{ (dev.set TC_STATUS_LOCK 0).set TC_STATUS_STATE 5 with timing := { dev.timing with byRef := true, coastUp := 40000 } },
      h0.2.2.2.2.2.2.2.1⟩,
    ⟨{ dev with pending := [.coldReset, .frameTick {}] }, h0.2.2.2.2.2.2.2.2⟩,
    ⟨(dev.set TC_STATUS_STATE 5).wr FL_STATUS_STATE (2 * dev.timingPort) 4, h1.1⟩,
    ⟨(dev.set TC_STATUS_STATE 5).wr FL_STATUS_STATE (2 * dev.timingPort) 4, (3 : Int), h1.2.1⟩,
    ⟨dev.set TC_STATUS_STATE 6, h1.2.2.1⟩,
    ⟨{ (((dev.set TC_STATUS_STATE 5).set TC_CONTROL_TRIM_EN 1).wr FL_STATUS_STATE (2 * (1 - dev.timingPort)) 4) with timing := { dev.timing with trimFirst := some (0, 0), trimLast := some (256000001, 256000000) } },
      (0 : Int), (1000 : Int), h1.2.2.2.1⟩,
    ⟨{ dev with pending := [.coldReset, .frameTick {}] }, (3 : Int), h1.2.2.2.2.1⟩,
    ⟨{ ((dev.set TC_STATUS_STATE 5).set TC_COAST_LIMIT_LIMIT 1) with frame := { dev.frame with up := 900000000 } },
      h1.2.2.2.2.2.1⟩,
    ⟨{ dev with pending := [.coldReset, .frameTick {}] }, h1.2.2.2.2.2.2⟩⟩)
    (?_ : _ ∧ _ ∧ _ ∧ _ ∧ _ ∧ _ ∧ _ ∧ _ ∧ _) (?_ : _ ∧ _ ∧ _ ∧ _ ∧ _ ∧ _ ∧ _) <;> decide +kernel

/-- Every clause of `Obligations.DividerSteps` has a state and operands that meet its hypotheses. -/
theorem test_witness_DividerSteps :
    (∃ (s : State) (f : Nat), Safety.wf s = true ∧ f < 65536 ∧ s.on TC_STATUS_LOCK = true ∧ s.timing.commit = none ∧
      centred f = false ∧ 40959 < f ∧ s.get TC_DCO_MEDIUM < 63) ∧
    (∃ (s : State) (f : Nat), Safety.wf s = true ∧ f < 65536 ∧ s.on TC_STATUS_LOCK = true ∧ s.timing.commit = none ∧
      centred f = false ∧ f < 24576 ∧ 0 < s.get TC_DCO_MEDIUM) ∧
    (∃ (s : State) (f : Nat), Safety.wf s = true ∧ f < 65536 ∧ s.on TC_STATUS_LOCK = true ∧ s.timing.commit = none ∧
      centred f = false ∧ 40959 < f ∧ s.get TC_DCO_MEDIUM = 63 ∧ s.get TC_DCO_COARSE < 255) ∧
    (∃ (s : State) (f : Nat), Safety.wf s = true ∧ f < 65536 ∧ s.on TC_STATUS_LOCK = true ∧ s.timing.commit = none ∧
      centred f = false ∧ f < 24576 ∧ s.get TC_DCO_MEDIUM = 0 ∧ 0 < s.get TC_DCO_COARSE) ∧
    (∃ (s : State) (f : Nat), Safety.wf s = true ∧ f < 65536 ∧ s.on TC_STATUS_LOCK = true ∧ s.timing.commit = none ∧
      centred f = false) ∧
    (∃ (s : State) (f : Nat), Safety.wf s = true ∧ f < 65536 ∧ s.on TC_STATUS_LOCK = true ∧ s.timing.commit.isSome =
      true ∧ centred f = false ∧ s.applyDiv.on TC_STATUS_LOCK = true) ∧
    (∃ (s : State) (f : Nat), Safety.wf s = true ∧ f < 65536 ∧ (s.on TC_STATUS_LOCK = false ∨ centred f = true)) ∧
    (∃ (s : State) (f : Nat), Safety.wf s = true ∧ f < 65536 ∧ s.on TC_CONTROL_DIV_MODE = true ∧ s.on TC_STATUS_LOCK
      = true ∧ s.offsetLsb < lsbOf s.prescale (s.getI TC_TRACK_TARGET)) ∧
    (∃ (s : State) (f : Nat), Safety.wf s = true ∧ f < 65536 ∧ s.on TC_CONTROL_DIV_MODE = true ∧ s.on TC_STATUS_LOCK
      = true ∧ lsbOf s.prescale (s.getI TC_TRACK_TARGET) < s.offsetLsb) ∧
    (∃ (s : State) (f : Nat), Safety.wf s = true ∧ f < 65536 ∧ s.offsetLsb = lsbOf s.prescale (s.getI
      TC_TRACK_TARGET)) ∧
    (∃ (s : State) (f : Nat) (pre : Nat) (r : Option Nat), Safety.wf s = true ∧ f < 65536 ∧ s.timing.commit = some
      (pre, r) ∧ pre < 3 ∧ (r.getD (s.trackRatio pre)) < 128 * 16777215) ∧
    (∃ (s : State) (f : Nat), Safety.wf s = true ∧ f < 65536 ∧ s.timing.commit = none) ∧
    (∃ (s : State) (f : Nat), Safety.wf s = true ∧ f < 65536 ∧ s.mayStep = true ∧ s.getI TC_PHASE_PENDING_PENDING ≠
      0) ∧
    (∃ (s : State) (f : Nat), Safety.wf s = true ∧ f < 65536 ∧ s.mayStep = false) := by
  refine (fun h0 h1 => ⟨⟨dev, 50000, h0.1⟩,
    ⟨(dev.set TC_DCO_MEDIUM 5).set TC_DCO_FINE 40000, 7, h0.2.1⟩,
    ⟨(dev.set TC_DCO_MEDIUM 63).set TC_DCO_COARSE 5, 50000, h0.2.2.1⟩,
    ⟨(dev.set TC_DCO_MEDIUM 0).set TC_DCO_COARSE 5, 7, h0.2.2.2.1⟩,
    ⟨dev, 50000, h0.2.2.2.2.1⟩,
    ⟨{ dev with timing := { dev.timing with commit := some (0, some (nominalRatio 0 + 1000)) } }, 50000,
      h0.2.2.2.2.2.1⟩,
    ⟨search 2, 50000, h0.2.2.2.2.2.2.1⟩,
    ⟨(dev.set TC_CONTROL_DIV_MODE 1).setI TC_TRACK_TARGET 5000, 50000, h0.2.2.2.2.2.2.2.1⟩,
    ⟨(dev.set TC_CONTROL_DIV_MODE 1).setI TC_TRACK_TARGET (-5000), 50000, h0.2.2.2.2.2.2.2.2⟩,
    ⟨dev, 50000, h1.1⟩,
    ⟨{ dev with timing := { dev.timing with commit := some (0, some (nominalRatio 0 + 1000)) } }, 50000, 0,
      ({ dev with timing := { dev.timing with commit := some (0, some (nominalRatio 0 + 1000)) } }.timing.commit.elim
      none Prod.snd), h1.2.1⟩,
    ⟨dev, 50000, h1.2.2.1⟩,
    ⟨dev.setI TC_PHASE_PENDING_PENDING (-3), 50000, h1.2.2.2.1⟩,
    ⟨search 2, 50000, h1.2.2.2.2⟩⟩)
    (?_ : _ ∧ _ ∧ _ ∧ _ ∧ _ ∧ _ ∧ _ ∧ _ ∧ _) (?_ : _ ∧ _ ∧ _ ∧ _ ∧ _) <;> decide +kernel

/-- Every clause of `Obligations.ClockTree` has a state and operands that meet its hypotheses. -/
theorem test_witness_ClockTree :
    (∃ (s : State) (w : Wr), Safety.wf s = true ∧ Safety.admits s w 0x2201 0 = true ∧ (Safety.valueOf s w 0x2201
      0).bits 0 0 = 1 ∧ s.on CK_STATUS_SWITCH_BUSY = false ∧ s.on CK_STATUS_SRC = false ∧ s.on CK_STATUS_READY_SEEN =
      true ∧ s.on TC_STATUS_CLK_READY = true) ∧
    (∃ (s : State) (w : Wr), Safety.wf s = true ∧ Safety.admits s w 0x2201 0 = true ∧ (Safety.valueOf s w 0x2201
      0).bits 0 0 = 1 ∧ s.on CK_STATUS_SWITCH_BUSY = false ∧ s.on CK_STATUS_SRC = true) ∧
    (∃ (s : State) (w : Wr), Safety.wf s = true ∧ Safety.admits s w 0x2201 0 = true ∧ (Safety.valueOf s w 0x2201
      0).bits 0 0 = 1 ∧ (s.on CK_STATUS_SWITCH_BUSY = true ∨ (s.on CK_STATUS_SRC = false ∧ (s.on CK_STATUS_READY_SEEN
      = false ∨ s.on TC_STATUS_CLK_READY = false)))) ∧
    (∃ (s : State) (w : Wr), Safety.wf s = true ∧ Safety.admits s w 0x2202 0 = true ∧ (Safety.valueOf s w 0x2202
      0).bits 2 0 ≠ 0 ∧ (s.on CK_STATUS_SRC = true ∨ s.on CK_STATUS_SWITCH_BUSY = true)) ∧
    (∃ (s : State) (w : Wr), Safety.wf s = true ∧ Safety.admits s w 0x2202 0 = true ∧ (Safety.valueOf s w 0x2202
      0).bits 2 0 ≠ 0 ∧ s.on CK_STATUS_SRC = false ∧ s.on CK_STATUS_SWITCH_BUSY = false) ∧
    (∃ (s : State) (w : Wr), Safety.wf s = true ∧ Safety.admits s w 0x2202 0 = true ∧ (Safety.valueOf s w 0x2202
      0).bits 2 0 = 0) ∧
    (∃ (s : State) (w : Wr) (d : Nat), Safety.wf s = true ∧ Safety.admits s w 0x2210 d = true ∧ (Safety.valueOf s w
      0x2210 d).bits 0 0 = 0 ∧ s.mayStopClock d w.q.port = false) ∧
    (∃ (s : State) (w : Wr) (d : Nat), Safety.wf s = true ∧ Safety.admits s w 0x2210 d = true ∧ ((Safety.valueOf s w
      0x2210 d).bits 0 0 = 1 ∨ s.mayStopClock d w.q.port = true) ∧ usesEclk d = true) ∧
    (∃ (s : State) (w : Wr) (d : Nat), Safety.wf s = true ∧ Safety.admits s w 0x2210 d = true ∧ ((Safety.valueOf s w
      0x2210 d).bits 0 0 = 1 ∨ s.mayStopClock d w.q.port = true) ∧ usesEclk d = false ∧ s.wakingDom d = true) ∧
    (∃ (s : State) (w : Wr) (d : Nat), Safety.wf s = true ∧ Safety.admits s w 0x2210 d = true ∧ ((Safety.valueOf s w
      0x2210 d).bits 0 0 = 1 ∨ s.mayStopClock d w.q.port = true) ∧ usesEclk d = false ∧ s.wakingDom d = false) ∧
    (∃ (s : State) (w : Wr), Safety.wf s = true ∧ Safety.admits s w 0x2101 0 = true ∧ (Safety.valueOf s w 0x2101
      0).bits 9 8 ≠ 3 ∧ (Safety.valueOf s w 0x2101 0).bits 5 0 ≤ 50) ∧
    (∃ (s : State) (w : Wr), Safety.wf s = true ∧ Safety.admits s w 0x2101 0 = true ∧ ((Safety.valueOf s w 0x2101
      0).bits 9 8 = 3 ∨ 50 < (Safety.valueOf s w 0x2101 0).bits 5 0)) ∧
    (∃ (s : State), Safety.wf s = true ∧ s.get BT_STATUS_STATE = 5 ∧ s.running 0x1C = true ∧ s.on TC_STATUS_CLK_READY
      = true ∧ s.on CK_STATUS_SRC = false ∧ s.on CK_STATUS_SWITCH_BUSY = false) ∧
    (∃ (s : State), Safety.wf s = true ∧ s.on CK_STATUS_SRC = true) ∧
    (∃ (s : State), Safety.wf s = true ∧ s.on CK_STATUS_SWITCH_BUSY = true ∧ s.clocks.owed = none) ∧
    (∃ (s : State) (q : Rq), Safety.wf s = true ∧ s.on CK_STATUS_SWITCH_BUSY = false ∧ s.clocks.owed = some
      { q := q, bulk := none }) := by
  refine (fun h0 h1 => ⟨⟨ringUp.set CK_STATUS_SRC 0, wr 1, h0.1⟩,
    ⟨dev, wr 1, h0.2.1⟩,
    ⟨dev.set CK_STATUS_SWITCH_BUSY 1, wr 1, h0.2.2.1⟩,
    ⟨dev, wr 1, h0.2.2.2.1⟩,
    ⟨ringUp.set CK_STATUS_SRC 0, wr 1, h0.2.2.2.2.1⟩,
    ⟨dev, wr 0, h0.2.2.2.2.2.1⟩,
    ⟨dev, wr 0, 0x1D, h0.2.2.2.2.2.2.1⟩,
    ⟨dev, wr 1, 5, h0.2.2.2.2.2.2.2.1⟩,
    ⟨{ dev with pow := { dev.pow with wakes := [waking] } }, wr 1, 0x10, h0.2.2.2.2.2.2.2.2⟩,
    ⟨dev, wr 1, 0x10, h1.1⟩,
    ⟨dev, wr 1, h1.2.1⟩,
    ⟨dev, wr 0x300, h1.2.2.1⟩,
    ⟨(dev.set CK_STATUS_SRC 0), h1.2.2.2.1⟩,
    ⟨dev, h1.2.2.2.2.1⟩,
    ⟨dev.set CK_STATUS_SWITCH_BUSY 1, h1.2.2.2.2.2.1⟩,
    ⟨{ dev with clocks := { dev.clocks with owed := some { q := rq, bulk := none } } }, rq, h1.2.2.2.2.2.2⟩⟩)
    (?_ : _ ∧ _ ∧ _ ∧ _ ∧ _ ∧ _ ∧ _ ∧ _ ∧ _) (?_ : _ ∧ _ ∧ _ ∧ _ ∧ _ ∧ _ ∧ _) <;> decide +kernel

/-- Every clause of `Obligations.DriveSynthesiser` has a state and operands that meet its hypotheses. -/
theorem test_witness_DriveSynthesiser :
    (∃ (s : State), Safety.wf s = true ∧ s.clocked 0x1B = true ∧ s.on TC_STATUS_CLK_READY = true ∧ s.get
      DS_STATUS_STATE = 0) ∧
    (∃ (s : State), Safety.wf s = true ∧ s.clocks.dsPhase = 1) ∧
    (∃ (s : State), Safety.wf s = true ∧ s.clocks.dsPhase = 2) ∧
    (∃ (s : State), Safety.wf s = true ∧ s.clocks.dsPhase = 3) ∧
    (∃ (s : State), Safety.wf s = true ∧ s.clocks.dsPhase = 4) ∧
    (∃ (s : State) (t : Nat), Safety.wf s = true ∧ s.clocks.pdmTick = some t ∧ t ≤ s.frame.ticks) ∧
    (∃ (s : State) (t : Nat), Safety.wf s = true ∧ s.clocks.pdmTick = some t ∧ s.frame.ticks < t) ∧
    (∃ (s : State), Safety.wf s = true ∧ s.on DS_STATUS_LOCK = true ∧ s.on DS_STATUS_READY = false) ∧
    (∃ (s : State), Safety.wf s = true ∧ s.on DS_STATUS_LOCK = true ∧ s.on DS_STATUS_READY = true) ∧
    (∃ (s : State), Safety.wf s = true ∧ s.clocks.ssc = true ∧ s.on DS_STATUS_READY = true ∧ s.sscNow = 0) ∧
    (∃ (s : State), Safety.wf s = true ∧ s.sscNow ≠ 0) := by
  refine (fun h0 h1 => ⟨⟨dev, h0.1⟩,
    ⟨{ dev with clocks := { dev.clocks with dsPhase := 1 } }, h0.2.1⟩,
    ⟨{ dev with clocks := { dev.clocks with dsPhase := 2 } }, h0.2.2.1⟩,
    ⟨{ dev with clocks := { dev.clocks with dsPhase := 3 } }, h0.2.2.2.1⟩,
    ⟨{ dev with clocks := { dev.clocks with dsPhase := 4 } }, h0.2.2.2.2.1⟩,
    ⟨{ dev with clocks := { dev.clocks with pdmTick := some 10 } }, 10, h0.2.2.2.2.2.1⟩,
    ⟨{ dev with clocks := { dev.clocks with pdmTick := some 11 } }, 11, h0.2.2.2.2.2.2.1⟩,
    ⟨dev.set DS_STATUS_LOCK 1, h0.2.2.2.2.2.2.2.1⟩,
    ⟨(dev.set DS_STATUS_LOCK 1).set DS_STATUS_READY 1, h0.2.2.2.2.2.2.2.2⟩,
    ⟨{ (dev.set DS_STATUS_READY 1).set DS_CONTROL_SSC_MODE 1 with clocks := { dev.clocks with ssc := true } }, h1.1⟩,
    ⟨((((dev.set DS_STATUS_SSC_ACTIVE 1).set DS_STATUS_READY 1).set DS_STATUS_LOCK 1).set DS_STATUS_SSC_MODE 1).set
      DS_STATUS_SSC_DEPTH 50, h1.2⟩⟩)
    (?_ : _ ∧ _ ∧ _ ∧ _ ∧ _ ∧ _ ∧ _ ∧ _ ∧ _) (?_ : _ ∧ _) <;> decide +kernel

/-- Every clause of `Obligations.FrameTickBeginsTheFrame` has a state and operands that meet its hypotheses. -/
theorem test_witness_FrameTickBeginsTheFrame :
    (∃ (s : State), s.frame.running = true) ∧
    (∃ (s : State), s.frame.running = false) ∧
    (∃ (s : State), s.time.setDelta = none ∧ s.time.step = none) ∧
    (∃ (s : State) (d : Int), s.frame.running = true ∧ s.time.setDelta = some d) ∧
    (∃ (s : State) (n : Int), s.frame.running = true ∧ s.time.setDelta = none ∧ s.time.step = some (s.frame.frame +
      1, n)) ∧
    (∃ (s : State), s.frame.running = true ∧ s.frame.slack = false) ∧
    (∃ (s : State), s.frame.slack = true) := by
  refine (fun h => ⟨⟨{ dev with pending := [.coldReset, .frameTick {}] }, h.1⟩,
    ⟨(up.set BT_LENGTH_BYTES 1024), h.2.1⟩,
    ⟨{ dev with pending := [.coldReset, .frameTick {}] }, h.2.2.1⟩,
    ⟨{ dev with time := { dev.time with setDelta := some 3000000 } }, (3000000 : Int), h.2.2.2.1⟩,
    ⟨{ dev with time := { dev.time with step := some (1001, -20) } }, (-20 : Int), h.2.2.2.2.1⟩,
    ⟨{ dev with pending := [.coldReset, .frameTick {}] }, h.2.2.2.2.2.1⟩,
    ⟨(fun s : State => { s with frame := { s.frame with slack := true } }) (((dev.set SV_LEARN_LEARN_EN 1).setContext
      5 (some 2)).setLane 5 { dev.lane 5 with st := .track, learned := some 70000 }), h.2.2.2.2.2.2⟩⟩)
    (?_ : _ ∧ _ ∧ _ ∧ _ ∧ _ ∧ _ ∧ _)
  decide +kernel

/-- Every clause of `Obligations.MonitorAndPilot` has a state and operands that meet its hypotheses. -/
theorem test_witness_MonitorAndPilot :
    (∃ (s : State) (m : Nat) (k : Nat), Safety.wf s = true ∧ m < 1024 ∧ k < 5 ∧ s.frame.running = true ∧ s.monStopped
      (m / 256) = false ∧ s.frame.tc ≤ 75 * (m % 8) + 600 * k ∧ k < 4) ∧
    (∃ (s : State) (m : Nat), Safety.wf s = true ∧ m < 1024 ∧ 4 < 5 ∧ s.frame.running = true ∧ s.monStopped (m / 256)
      = false ∧ s.frame.tc ≤ 75 * (m % 8) + 600 * 4 ∧ s.frame.frame % s.window = s.window - 1) ∧
    (∃ (s : State) (k : Nat), Safety.wf s = true ∧ k < 5 ∧ s.frame.running = true ∧ s.frame.tc ≤ 600 * k) ∧
    (∃ (s : State), Safety.wf s = true ∧ s.onBoundary = true ∧ s.frame.bound = false) ∧
    (∃ (s : State), Safety.wf s = true ∧ s.frame.bound = true) := by
  refine (fun h => ⟨⟨{ dev with pending := [.coldReset, .frameTick {}] }, 5, 3, h.1⟩,
    ⟨atFrame 1023 dev, 5, h.2.1⟩,
    ⟨{ dev with pending := [.coldReset, .frameTick {}] }, 4, h.2.2.1⟩,
    ⟨{ dev with pending := [.coldReset, .frameTick {}] }, h.2.2.2.1⟩,
    ⟨{ dev with frame := { dev.frame with bound := true } }, h.2.2.2.2⟩⟩)
    (?_ : _ ∧ _ ∧ _ ∧ _ ∧ _)
  decide +kernel

/-- Every clause of `Obligations.LaneCommands` has a state and operands that meet its hypotheses. -/
theorem test_witness_LaneCommands :
    (∃ (s : State) (q : Rq) (e : Nat), Safety.wf s = true ∧ s.surveying = false ∧ (s.lane e).act = none ∧
      Safety.admits s (cmdWrite q 0) 0x4000 e = true ∧ (s.lane e).st ≠ .off) ∧
    (∃ (s : State) (q : Rq) (e : Nat), Safety.wf s = true ∧ s.surveying = false ∧ (s.lane e).act = none ∧
      Safety.admits s (cmdWrite q 1) 0x4000 e = true ∧ (s.htrUsed e = true ∨ s.eoUsed e = true) ∧ (s.lane e).st ≠
      .park ∧ (s.lane e).st ≠ .fault ∧ (s.lane e).st = .off ∧ s.laneFits e = true) ∧
    (∃ (s : State) (q : Rq) (e : Nat), Safety.wf s = true ∧ s.surveying = false ∧ (s.lane e).act = none ∧
      Safety.admits s (cmdWrite q 1) 0x4000 e = true ∧ (s.htrUsed e = true ∨ s.eoUsed e = true) ∧ (s.lane e).st ≠
      .park ∧ (s.lane e).st ≠ .fault ∧ (s.lane e).st ≠ .off) ∧
    (∃ (s : State) (q : Rq) (e : Nat), Safety.wf s = true ∧ s.surveying = false ∧ (s.lane e).act = none ∧
      Safety.admits s (cmdWrite q 2) 0x4000 e = true ∧ s.htrUsed e = true ∧ s.rd LP_MON_ASSIGNED e = 1 ∧ (s.lane
      e).st = .park) ∧
    (∃ (s : State) (q : Rq) (e : Nat), Safety.wf s = true ∧ s.surveying = false ∧ (s.lane e).act = none ∧
      Safety.admits s (cmdWrite q 2) 0x4000 e = true ∧ s.htrUsed e = true ∧ s.rd LP_MON_ASSIGNED e = 1 ∧ (s.lane
      e).st = .off ∧ s.laneFits e = true) ∧
    (∃ (s : State) (q : Rq) (e : Nat), Safety.wf s = true ∧ s.surveying = false ∧ (s.lane e).act = none ∧
      Safety.admits s (cmdWrite q 3) 0x4000 e = true ∧ (s.htrUsed e = true ∨ s.eoUsed e = true) ∧ (s.lane
      e).st.listens = true) ∧
    (∃ (s : State) (q : Rq) (e : Nat), Safety.wf s = true ∧ s.surveying = false ∧ (s.lane e).act = none ∧
      Safety.admits s (cmdWrite q 4) 0x4000 e = true ∧ (s.htrUsed e = true ∨ s.eoUsed e = true) ∧ (s.lane e).st =
      .coast ∧ (s.lane e).hostCoast = true) ∧
    (∃ (s : State) (q : Rq) (e : Nat), Safety.wf s = true ∧ s.surveying = false ∧ (s.lane e).act = none ∧
      Safety.admits s (cmdWrite q 5) 0x4000 e = true ∧ (s.htrUsed e = true ∨ s.eoUsed e = true) ∧ (s.lane e).st =
      .fault ∧ (s.lane e).openPersists = false) ∧
    (∃ (s : State) (q : Rq) (e : Nat), Safety.wf s = true ∧ Safety.admits s (cmdWrite q 0) 0x4000 e = true ∧ (s.lane
      e).st = .off) ∧
    (∃ (s : State) (q : Rq) (e : Nat), Safety.wf s = true ∧ Safety.admits s (cmdWrite q 0) 0x4000 e = true ∧ (s.lane
      e).act = none ∧ (s.lane e).st ≠ .off ∧ s.surveying = true) ∧
    (∃ (s : State) (q : Rq) (e : Nat), Safety.wf s = true ∧ Safety.admits s (cmdWrite q 1) 0x4000 e = true ∧
      s.htrUsed e = false ∧ s.eoUsed e = false) ∧
    (∃ (s : State) (q : Rq) (e : Nat), Safety.wf s = true ∧ Safety.admits s (cmdWrite q 1) 0x4000 e = true ∧
      (s.htrUsed e = true ∨ s.eoUsed e = true) ∧ ((s.lane e).act ≠ none ∨ (s.lane e).st = .park ∨ (s.lane e).st =
      .fault)) ∧
    (∃ (s : State) (q : Rq) (e : Nat), Safety.wf s = true ∧ Safety.admits s (cmdWrite q 1) 0x4000 e = true ∧
      (s.htrUsed e = true ∨ s.eoUsed e = true) ∧ (s.lane e).act = none ∧ (s.lane e).st = .off ∧ s.surveying = false ∧
      s.laneFits e = false) ∧
    (∃ (s : State) (q : Rq) (e : Nat), Safety.wf s = true ∧ Safety.admits s (cmdWrite q 2) 0x4000 e = true ∧
      s.htrUsed e = false) ∧
    (∃ (s : State) (q : Rq) (e : Nat), Safety.wf s = true ∧ Safety.admits s (cmdWrite q 2) 0x4000 e = true ∧
      s.htrUsed e = true ∧ (s.lane e).act = none ∧ (s.lane e).st = .park ∧ s.surveying = false ∧ s.rd LP_MON_ASSIGNED
      e = 0) ∧
    (∃ (s : State) (q : Rq) (e : Nat), Safety.wf s = true ∧ Safety.admits s (cmdWrite q 3) 0x4000 e = true ∧
      (s.htrUsed e = true ∨ s.eoUsed e = true) ∧ (s.lane e).st.listens = false) ∧
    (∃ (s : State) (q : Rq) (e : Nat), Safety.wf s = true ∧ Safety.admits s (cmdWrite q 4) 0x4000 e = true ∧
      (s.htrUsed e = true ∨ s.eoUsed e = true) ∧ (s.lane e).hostCoast = false) ∧
    (∃ (s : State) (q : Rq) (e : Nat), Safety.wf s = true ∧ Safety.admits s (cmdWrite q 5) 0x4000 e = true ∧
      (s.htrUsed e = true ∨ s.eoUsed e = true) ∧ ((s.lane e).st ≠ .fault ∨ (s.lane e).openPersists = true)) := by
  refine (fun h0 h1 => ⟨⟨lane5 .track, rq, 5, h0.1⟩,
    ⟨dev, rq, 127, h0.2.1⟩,
    ⟨lane5 .track, rq, 5, h0.2.2.1⟩,
    ⟨(dev.wr LP_MON_ASSIGNED 5 1).setLane 5 { dev.lane 5 with st := .park }, rq, 5, h0.2.2.2.1⟩,
    ⟨dev.wr LP_MON_ASSIGNED 5 1, rq, 5, h0.2.2.2.2.1⟩,
    ⟨lane5 .track, rq, 5, h0.2.2.2.2.2.1⟩,
    ⟨dev.setLane 5 { dev.lane 5 with st := .coast, hostCoast := true }, rq, 5, h0.2.2.2.2.2.2.1⟩,
    ⟨dev.setLane 5 { dev.lane 5 with st := .fault, htrShort := true }, rq, 5, h0.2.2.2.2.2.2.2.1⟩,
    ⟨dev, rq, 127, h0.2.2.2.2.2.2.2.2⟩,
    ⟨(lane5 .track).set MD_MODE_MODE modeSurvey, rq, 5, h1.1⟩,
    ⟨dev.set ID_STRAPS_PROF 2, rq, 127, h1.2.1⟩,
    ⟨(dev.wr LP_MON_ASSIGNED 5 1).setLane 5 { dev.lane 5 with st := .park }, rq, 5, h1.2.2.1⟩,
    ⟨(List.range 63).foldl (fun s k => s.setLane (64 + k) { s.lane k with st := .track }) (dev.set PL_STATUS_LEVEL
      2), rq, 127, h1.2.2.2.1⟩,
    ⟨dev.set ID_STRAPS_PROF 2, rq, 127, h1.2.2.2.2.1⟩,
    ⟨lane5 .park, rq, 5, h1.2.2.2.2.2.1⟩,
    ⟨dev, rq, 127, h1.2.2.2.2.2.2.1⟩,
    ⟨dev, rq, 127, h1.2.2.2.2.2.2.2.1⟩,
    ⟨dev, rq, 127, h1.2.2.2.2.2.2.2.2⟩⟩)
    (?_ : _ ∧ _ ∧ _ ∧ _ ∧ _ ∧ _ ∧ _ ∧ _ ∧ _) (?_ : _ ∧ _ ∧ _ ∧ _ ∧ _ ∧ _ ∧ _ ∧ _ ∧ _) <;> decide +kernel

/-- Every clause of `Obligations.LaneWrites` has a state and operands that meet its hypotheses. -/
theorem test_witness_LaneWrites :
    (∃ (s : State) (w : Wr) (e : Nat), Safety.wf s = true ∧ Safety.admits s w 0x4003 e = true ∧ ((s.lane e).st = .off
      ∨ (s.lane e).st = .park) ∧ s.surveying = false ∧ (Safety.valueOf s w 0x4003 e).bits 25 16 / 256 = quadOf e ∧ (∀
      o ∈ s.activeLanes, o ≠ e → s.rd LP_MON_ASSIGNED o = 1 → s.rd LP_MON_MON o = (Safety.valueOf s w 0x4003 e).bits
      25 16 → s.rd LP_MON_SLOT o ≠ (Safety.valueOf s w 0x4003 e).bits 3 0) ∧ (∀ n ∈ s.windows, slotUsable
      ((Safety.valueOf s w 0x4003 e).bits 3 0) n = true)) ∧
    (∃ (s : State) (w : Wr) (e : Nat), Safety.wf s = true ∧ Safety.admits s w 0x4003 e = true ∧ ((s.lane e).st = .off
      ∨ (s.lane e).st = .park) ∧ s.surveying = false ∧ (Safety.valueOf s w 0x4003 e).bits 25 16 / 256 ≠ quadOf e) ∧
    (∃ (s : State) (w : Wr) (e : Nat), Safety.wf s = true ∧ Safety.admits s w 0x4003 e = true ∧ ((s.lane e).st = .off
      ∨ (s.lane e).st = .park) ∧ s.surveying = false ∧ (Safety.valueOf s w 0x4003 e).bits 25 16 / 256 = quadOf e ∧ (∃
      o ∈ s.activeLanes, o ≠ e ∧ s.rd LP_MON_ASSIGNED o = 1 ∧ s.rd LP_MON_MON o = (Safety.valueOf s w 0x4003 e).bits
      25 16 ∧ s.rd LP_MON_SLOT o = (Safety.valueOf s w 0x4003 e).bits 3 0)) ∧
    (∃ (s : State) (w : Wr), Safety.wf s = true ∧ Safety.admits s w 0x3000 0 = true ∧ s.surveying = false ∧
      (Safety.valueOf s w 0x3000 0).bits 1 0 = s.get LP_WINDOW_W) ∧
    (∃ (s : State) (w : Wr), Safety.wf s = true ∧ Safety.admits s w 0x3000 0 = true ∧ s.surveying = false ∧
      (Safety.valueOf s w 0x3000 0).bits 1 0 ≠ s.get LP_WINDOW_W ∧ (s.on LP_WINDOW_PENDING = false ∨ (Safety.valueOf
      s w 0x3000 0).bits 1 0 ≠ s.get LP_WINDOW_W_PENDING) ∧ s.allFit [4 * 2 ^ (Safety.valueOf s w 0x3000 0).bits 1 0]
      s.levels = true ∧ (∀ o ∈ s.activeLanes, s.rd LP_MON_ASSIGNED o = 1 → slotUsable (s.rd LP_MON_SLOT o) (4 * 2 ^
      (Safety.valueOf s w 0x3000 0).bits 1 0) = true)) ∧
    (∃ (s : State) (w : Wr) (e : Nat), Safety.wf s = true ∧ Safety.admits s w 0x400A e = true ∧ (s.lane e).st ≠
      .fault ∧ (Safety.valueOf s w 0x400A e).bits 23 0 ≠ 0x800000) ∧
    (∃ (s : State) (w : Wr) (e : Nat), Safety.wf s = true ∧ Safety.admits s w 0x400A e = true ∧ (s.lane e).st ≠
      .fault ∧ (Safety.valueOf s w 0x400A e).bits 23 0 = 0x800000) ∧
    (∃ (s : State) (w : Wr) (e : Nat), Safety.wf s = true ∧ Safety.admits s w 0x4009 e = true ∧ s.eoUsed e = true) ∧
    (∃ (s : State) (w : Wr) (e : Nat), Safety.wf s = true ∧ Safety.admits s w 0x4009 e = true ∧ s.eoUsed e = false) ∧
    (∃ (s : State) (w : Wr) (e : Nat), Safety.wf s = true ∧ Safety.admits s w 0x4C00 e = true ∧ s.limitsOk 0x4C00 e
      (Safety.valueOf s w 0x4C00 e) = true) ∧
    (∃ (s : State) (w : Wr) (e : Nat), Safety.wf s = true ∧ Safety.admits s w 0x4C00 e = true ∧ s.limitsOk 0x4C00 e
      (Safety.valueOf s w 0x4C00 e) = false) := by
  refine (fun h0 h1 => ⟨⟨dev, wr 0x80000000, 5, h0.1⟩,
    ⟨dev, wr 0x81000000, 5, h0.2.1⟩,
    ⟨(dev.setLane 6 { dev.lane 6 with st := .track }).wr LP_MON_ASSIGNED 6 1, wr 0x80000000, 5, h0.2.2.1⟩,
    ⟨dev, wr (dev.get LP_WINDOW_W), h0.2.2.2.1⟩,
    ⟨dev, wr 0x80000000, h0.2.2.2.2.1⟩,
    ⟨dev, wr 0x80000000, 5, h0.2.2.2.2.2.1⟩,
    ⟨dev, wr 0x800000, 5, h0.2.2.2.2.2.2.1⟩,
    ⟨dev, wr 0x80000000, 5, h0.2.2.2.2.2.2.2.1⟩,
    ⟨dev.set ID_STRAPS_PROF 2, wr 0x80000000, 5, h0.2.2.2.2.2.2.2.2⟩,
    ⟨dev, wr 0x8002190F, 5, h1.1⟩,
    ⟨dev, wr 0x80000000, 5, h1.2⟩⟩)
    (?_ : _ ∧ _ ∧ _ ∧ _ ∧ _ ∧ _ ∧ _ ∧ _ ∧ _) (?_ : _ ∧ _) <;> decide +kernel

/-- Every clause of `Obligations.LaneFaults` has a state and operands that meet its hypotheses. -/
theorem test_witness_LaneFaults :
    (∃ (s : State) (e : Nat) (ua : Nat), Safety.wf s = true ∧ e < 4096 ∧ (s.lane e).st ≠ .off ∧ (s.lane e).h ≠ 0 ∧
      s.htrUsed e = true ∧ 1500 ≤ ua ∧ ua ≤ 30000) ∧
    (∃ (s : State) (e : Nat) (ua : Nat), Safety.wf s = true ∧ e < 4096 ∧ (s.lane e).st ≠ .off ∧ (s.lane e).h ≠ 0 ∧
      s.htrUsed e = true ∧ (s.lane e).htrOpen = false ∧ ua < 1500) ∧
    (∃ (s : State) (e : Nat) (ua : Nat), Safety.wf s = true ∧ e < 4096 ∧ (s.lane e).st ≠ .off ∧ (s.lane e).h ≠ 0 ∧
      s.htrUsed e = true ∧ 30000 < ua) ∧
    (∃ (s : State) (e : Nat), Safety.wf s = true ∧ e < 4096 ∧ ((s.lane e).st = .off ∨ (s.lane e).h = 0 ∨ s.htrUsed e
      = false)) ∧
    (∃ (s : State) (e : Nat), Safety.wf s = true ∧ e < 4096 ∧ (s.lane e).st ≠ .off ∧ (s.lane e).st ≠ .fault ∧
      s.eoUsed e = true ∧ (s.lane e).kicking s.frame.up = false) ∧
    (∃ (s : State) (e : Nat), Safety.wf s = true ∧ e < 4096 ∧ (s.lane e).kicking s.frame.up = true) := by
  refine (fun h => ⟨⟨dev.setLane 5 { dev.lane 5 with st := .track, h := 1000 }, 5, 1500, h.1⟩,
    ⟨dev.setLane 5 { dev.lane 5 with st := .track, h := 1000 }, 5, 1499, h.2.1⟩,
    ⟨dev.setLane 5 { dev.lane 5 with st := .track, h := 1000 }, 5, 30001, h.2.2.1⟩,
    ⟨dev, 5, h.2.2.2.1⟩,
    ⟨lane5 .track, 5, h.2.2.2.2.1⟩,
    ⟨dev.setLane 5 { dev.lane 5 with st := .track, kick := some (3, 50000) }, 5, h.2.2.2.2.2⟩⟩)
    (?_ : _ ∧ _ ∧ _ ∧ _ ∧ _ ∧ _)
  decide +kernel

/-- Every clause of `Obligations.Learning` has a state and operands that meet its hypotheses. -/
theorem test_witness_Learning :
    (∃ (s : State) (e : Nat) (c : Nat), Safety.wf s = true ∧ e < 4096 ∧ s.context e = some c ∧ s.mayLearn = true ∧
      (s.lane e).st = .track ∧ s.get SV_LEARN_WINDOWS ≤ (s.lane e).learnWins ∧ 0 < (s.lane e).learnWins) ∧
    (∃ (s : State) (e : Nat) (c : Nat) (n : Int), Safety.wf s = true ∧ e < 4096 ∧ s.context e = some c ∧ s.mayLearn =
      true ∧ (s.lane e).learned = some (c, n) ∧ s.frame.slack = true) ∧
    (∃ (s : State) (e : Nat) (c : Nat), Safety.wf s = true ∧ e < 4096 ∧ s.context e = some c ∧ (s.mayLearn = false ∨
      (s.lane e).st ≠ .track)) ∧
    (∃ (s : State) (e : Nat) (c : Nat), Safety.wf s = true ∧ e < 4096 ∧ s.context e = some c ∧ (s.mayLearn = false ∨
      s.frame.slack = false ∨ (s.lane e).learned = none)) := by
  refine (fun h => ⟨⟨((dev.set SV_LEARN_LEARN_EN 1).setContext 5 (some 2)).setLane 5
      { dev.lane 5 with st := .track, learnWins := 4096, learnSum := 40000000, learned := some 70000 }, 5, 2, h.1⟩,
    ⟨(fun s : State => { s with frame := { s.frame with slack := true } }) ((((dev.set SV_LEARN_LEARN_EN
      1).setContext 5 (some 2))).setLane 5 { dev.lane 5 with st := .track, learned := some (2, 70000) }), 5, 2,
      (70000 : Int), h.2.1⟩,
    ⟨dev.setContext 5 (some 2), 5, 2, h.2.2.1⟩,
    ⟨((dev.set SV_LEARN_LEARN_EN 1).setContext 5 (some 2)).setLane 5
      { dev.lane 5 with st := .track, learnWins := 4096, learnSum := 40000000, learned := some 70000 }, 5, 2,
      h.2.2.2⟩⟩)
    (?_ : _ ∧ _ ∧ _ ∧ _)
  decide +kernel

/-- Every clause of `Obligations.Commits` has a state and operands that meet its hypotheses. -/
theorem test_witness_Commits :
    (∃ (s : State) (q : Rq) (trig : Bool) (force : Bool), Safety.wf s = true ∧ Safety.admits s (cmdWrite q (1 + 2 *
      trig.toNat + 8 * force.toNat)) 0x5201 0 = true ∧ (Safety.valueOf s (cmdWrite q (1 + 2 * trig.toNat + 8 *
      force.toNat)) 0x5201 0).bits 0 0 = 1 ∧ (Safety.valueOf s (cmdWrite q (1 + 2 * trig.toNat + 8 * force.toNat))
      0x5201 0).bits 2 2 = 0 ∧ (Safety.valueOf s (cmdWrite q (1 + 2 * trig.toNat + 8 * force.toNat)) 0x5201 0).bits 4
      4 = 0 ∧ (Safety.valueOf s (cmdWrite q (1 + 2 * trig.toNat + 8 * force.toNat)) 0x5201 0).bits 1 1 = trig.toNat ∧
      (Safety.valueOf s (cmdWrite q (1 + 2 * trig.toNat + 8 * force.toNat)) 0x5201 0).bits 3 3 = force.toNat ∧
      (s.modeNow = modeService ∨ s.modeNow = modeHoldover) ∧ s.get CM_ARMED_STATE = 0 ∧ (trig = true ∨ s.frame.frame
      + 3 ≤ s.get64 0x5203 0)) ∧
    (∃ (s : State) (q : Rq) (force : Bool), Safety.wf s = true ∧ Safety.admits s (cmdWrite q (1 + 2 * false.toNat + 8
      * force.toNat)) 0x5201 0 = true ∧ (Safety.valueOf s (cmdWrite q (1 + 2 * false.toNat + 8 * force.toNat)) 0x5201
      0).bits 0 0 = 1 ∧ (Safety.valueOf s (cmdWrite q (1 + 2 * false.toNat + 8 * force.toNat)) 0x5201 0).bits 2 2 = 0
      ∧ (Safety.valueOf s (cmdWrite q (1 + 2 * false.toNat + 8 * force.toNat)) 0x5201 0).bits 4 4 = 0 ∧
      (Safety.valueOf s (cmdWrite q (1 + 2 * false.toNat + 8 * force.toNat)) 0x5201 0).bits 1 1 = false.toNat ∧
      (Safety.valueOf s (cmdWrite q (1 + 2 * false.toNat + 8 * force.toNat)) 0x5201 0).bits 3 3 = force.toNat ∧
      (s.modeNow = modeService ∨ s.modeNow = modeHoldover) ∧ s.get CM_ARMED_STATE = 0 ∧ s.get64 0x5203 0 <
      s.frame.frame + 3) ∧
    (∃ (s : State) (q : Rq) (trig : Bool) (force : Bool), Safety.wf s = true ∧ Safety.admits s (cmdWrite q (1 + 2 *
      trig.toNat + 8 * force.toNat)) 0x5201 0 = true ∧ (Safety.valueOf s (cmdWrite q (1 + 2 * trig.toNat + 8 *
      force.toNat)) 0x5201 0).bits 0 0 = 1 ∧ (Safety.valueOf s (cmdWrite q (1 + 2 * trig.toNat + 8 * force.toNat))
      0x5201 0).bits 2 2 = 0 ∧ (Safety.valueOf s (cmdWrite q (1 + 2 * trig.toNat + 8 * force.toNat)) 0x5201 0).bits 4
      4 = 0 ∧ (Safety.valueOf s (cmdWrite q (1 + 2 * trig.toNat + 8 * force.toNat)) 0x5201 0).bits 1 1 = trig.toNat ∧
      (Safety.valueOf s (cmdWrite q (1 + 2 * trig.toNat + 8 * force.toNat)) 0x5201 0).bits 3 3 = force.toNat ∧
      (s.modeNow = modeService ∨ s.modeNow = modeHoldover) ∧ s.get CM_ARMED_STATE ≠ 0) ∧
    (∃ (s : State) (q : Rq) (trig : Bool) (force : Bool), Safety.wf s = true ∧ Safety.admits s (cmdWrite q (1 + 2 *
      trig.toNat + 8 * force.toNat)) 0x5201 0 = true ∧ (Safety.valueOf s (cmdWrite q (1 + 2 * trig.toNat + 8 *
      force.toNat)) 0x5201 0).bits 0 0 = 1 ∧ (Safety.valueOf s (cmdWrite q (1 + 2 * trig.toNat + 8 * force.toNat))
      0x5201 0).bits 2 2 = 0 ∧ (Safety.valueOf s (cmdWrite q (1 + 2 * trig.toNat + 8 * force.toNat)) 0x5201 0).bits 4
      4 = 0 ∧ (Safety.valueOf s (cmdWrite q (1 + 2 * trig.toNat + 8 * force.toNat)) 0x5201 0).bits 1 1 = trig.toNat ∧
      (Safety.valueOf s (cmdWrite q (1 + 2 * trig.toNat + 8 * force.toNat)) 0x5201 0).bits 3 3 = force.toNat ∧
      s.modeNow ≠ modeService ∧ s.modeNow ≠ modeHoldover) ∧
    (∃ (s : State) (q : Rq), Safety.wf s = true ∧ Safety.admits s (cmdWrite q 4) 0x5201 0 = true ∧ (Safety.valueOf s
      (cmdWrite q 4) 0x5201 0).bits 0 0 = 0 ∧ (Safety.valueOf s (cmdWrite q 4) 0x5201 0).bits 2 2 = 1 ∧
      (Safety.valueOf s (cmdWrite q 4) 0x5201 0).bits 4 4 = 0 ∧ s.get CM_ARMED_STATE ≠ 0) ∧
    (∃ (s : State) (q : Rq), Safety.wf s = true ∧ Safety.admits s (cmdWrite q 4) 0x5201 0 = true ∧ (Safety.valueOf s
      (cmdWrite q 4) 0x5201 0).bits 0 0 = 0 ∧ (Safety.valueOf s (cmdWrite q 4) 0x5201 0).bits 2 2 = 1 ∧
      (Safety.valueOf s (cmdWrite q 4) 0x5201 0).bits 4 4 = 0 ∧ s.get CM_ARMED_STATE = 0) ∧
    (∃ (s : State) (q : Rq), Safety.wf s = true ∧ Safety.admits s (cmdWrite q 16) 0x5201 0 = true ∧ (Safety.valueOf s
      (cmdWrite q 16) 0x5201 0).bits 0 0 = 0 ∧ (Safety.valueOf s (cmdWrite q 16) 0x5201 0).bits 2 2 = 0 ∧
      (Safety.valueOf s (cmdWrite q 16) 0x5201 0).bits 4 4 = 1) ∧
    (∃ (s : State) (a : Arm), Safety.wf s = true ∧ s.shadowArming = some a ∧ s.armReady a = true) ∧
    (∃ (s : State) (a : Arm), Safety.wf s = true ∧ s.shadowArming = some a ∧ s.armReady a = true ∧ (s.commit.ring =
      none ∨ s.ringArming.isSome = true)) ∧
    (∃ (s : State) (a : Arm), Safety.wf s = true ∧ s.shadowArming = none ∧ s.ringArming = some a ∧ s.armReady a =
      true) ∧
    (∃ (s : State), Safety.wf s = true ∧ s.shadowArming = none ∧ s.ringArming = none) ∧
    (∃ (s : State) (f : Nat), Safety.wf s = true ∧ s.commit.ring = none ∧ s.ringNext = some f ∧ (s.modeNow =
      modeService ∨ s.modeNow = modeHoldover) ∧ f ≤ s.frame.frame + 3 ∧ s.frame.frame < f) ∧
    (∃ (s : State), Safety.wf s = true ∧ s.ringNext = none) ∧
    (∃ (s : State) (a : Arm), Safety.wf s = true ∧ s.frame.running = true ∧ s.commit.shadow = some a ∧ a.trig = true
      ∧ s.get CM_ARMED_STATE = 3 ∧ s.on CM_TRIG_IN_EN = true) ∧
    (∃ (s : State), Safety.wf s = true ∧ s.frame.running = true ∧ (s.commit.shadow.map Arm.trig ≠ some true ∨ s.get
      CM_ARMED_STATE ≠ 3 ∨ s.on CM_TRIG_IN_EN = false)) := by
  refine (fun h0 h1 => ⟨⟨dev, rq, true, false, h0.1⟩,
    ⟨dev, rq, false, h0.2.1⟩,
    ⟨dev.set CM_ARMED_STATE 1, rq, true, false, h0.2.2.1⟩,
    ⟨(lane5 .track).set MD_MODE_MODE modeSurvey, rq, true, false, h0.2.2.2.1⟩,
    ⟨dev.set CM_ARMED_STATE 1, rq, h0.2.2.2.2.1⟩,
    ⟨dev, rq, h0.2.2.2.2.2.1⟩,
    ⟨dev, rq, h0.2.2.2.2.2.2.1⟩,
    ⟨{ dev.set CM_ARMED_STATE 1 with commit := { dev.commit with shadow := some (armed true) } }, (armed true),
      h0.2.2.2.2.2.2.2.1⟩,
    ⟨{ dev.set CM_ARMED_STATE 1 with commit := { dev.commit with shadow := some (armed true) } }, (armed true),
      h0.2.2.2.2.2.2.2.2⟩,
    ⟨{ dev.set SR_STATUS_STATE 1 with commit := { dev.commit with ring := some (armed false) } }, armed false, h1.1⟩,
    ⟨dev, h1.2.1⟩,
    ⟨dev.setRing 5 [⟨1003, true, none⟩], 1003, h1.2.2.1⟩,
    ⟨dev, h1.2.2.2.1⟩,
    ⟨{ (dev.set CM_ARMED_STATE 3).set CM_TRIG_IN_EN 1 with commit := { dev.commit with shadow := some (armed true) } },
      (armed true), h1.2.2.2.2.1⟩,
    ⟨dev, h1.2.2.2.2.2⟩⟩)
    (?_ : _ ∧ _ ∧ _ ∧ _ ∧ _ ∧ _ ∧ _ ∧ _ ∧ _) (?_ : _ ∧ _ ∧ _ ∧ _ ∧ _ ∧ _) <;> decide +kernel

/-- Every clause of `Obligations.SchedulesAndTables` has a state and operands that meet its hypotheses. -/
theorem test_witness_SchedulesAndTables :
    (∃ (s : State) (w : Wr), Safety.admits s w 0x5101 0 = true ∧ s.frame.frame + 4 ≤ s.get64 0x5100 0 ∧ (((s.ringOf
      ((Safety.valueOf s w 0x5101 0).bits 27 16)).getLast?.map RingEntry.frame).getD 0) < s.get64 0x5100 0 ∧
      ((Safety.valueOf s w 0x5101 0).bits 8 8 = 1 → (Safety.valueOf s w 0x5101 0).bits 4 4 = (Safety.valueOf s w
      0x5101 0).bits 9 9) ∧ (s.ringOf ((Safety.valueOf s w 0x5101 0).bits 27 16)).length < 8) ∧
    (∃ (s : State) (w : Wr), Safety.admits s w 0x5101 0 = true ∧ s.frame.frame + 4 ≤ s.get64 0x5100 0 ∧ (((s.ringOf
      ((Safety.valueOf s w 0x5101 0).bits 27 16)).getLast?.map RingEntry.frame).getD 0) < s.get64 0x5100 0 ∧
      ((Safety.valueOf s w 0x5101 0).bits 8 8 = 1 → (Safety.valueOf s w 0x5101 0).bits 4 4 = (Safety.valueOf s w
      0x5101 0).bits 9 9) ∧ 8 ≤ (s.ringOf ((Safety.valueOf s w 0x5101 0).bits 27 16)).length) ∧
    (∃ (s : State) (w : Wr), Safety.admits s w 0x5101 0 = true ∧ (s.get64 0x5100 0 < s.frame.frame + 4 ∨ (s.ringOf
      ((Safety.valueOf s w 0x5101 0).bits 27 16) ≠ [] ∧ s.get64 0x5100 0 ≤ (((s.ringOf ((Safety.valueOf s w 0x5101
      0).bits 27 16)).getLast?.map RingEntry.frame).getD 0)) ∨ ((Safety.valueOf s w 0x5101 0).bits 8 8 = 1 ∧
      (Safety.valueOf s w 0x5101 0).bits 4 4 ≠ (Safety.valueOf s w 0x5101 0).bits 9 9))) ∧
    (∃ (s : State) (w : Wr) (e : Nat), Safety.admits s w 0x5105 e = true ∧ (Safety.valueOf s w 0x5105 e).bits 0 0 =
      1) ∧
    (∃ (s : State) (w : Wr), Safety.admits s w 0x5106 0 = true ∧ (Safety.valueOf s w 0x5106 0).bits 0 0 = 1) ∧
    (∃ (s : State) (q : Rq), Safety.wf s = true ∧ Safety.admits s (cmdWrite q 1) 0x5002 0 = true ∧ (Safety.valueOf s
      (cmdWrite q 1) 0x5002 0).bits 1 1 = 0 ∧ (Safety.valueOf s (cmdWrite q 1) 0x5002 0).bits 0 0 = 1 ∧ s.on
      TI_STATUS_PENDING = false) ∧
    (∃ (s : State) (q : Rq), Safety.wf s = true ∧ Safety.admits s (cmdWrite q 2) 0x5002 0 = true ∧ (Safety.valueOf s
      (cmdWrite q 2) 0x5002 0).bits 1 1 = 1 ∧ (Safety.valueOf s (cmdWrite q 2) 0x5002 0).bits 0 0 = 0 ∧ s.on
      SM_STATUS_MARGINAL = false ∧ s.modeNow ≠ modeSurvey ∧ entrySource s.windowEntry ≤ 3) ∧
    (∃ (s : State) (q : Rq) (st : Nat), Safety.wf s = true ∧ Safety.admits s (cmdWrite q 2) 0x5002 0 = true ∧
      (Safety.valueOf s (cmdWrite q 2) 0x5002 0).bits 1 1 = 1 ∧ (Safety.valueOf s (cmdWrite q 2) 0x5002 0).bits 0 0 =
      0 ∧ ((s.on SM_STATUS_MARGINAL = true ∧ st = stState) ∨ (s.on SM_STATUS_MARGINAL = false ∧ s.modeNow =
      modeSurvey ∧ st = stMode) ∨ (s.on SM_STATUS_MARGINAL = false ∧ s.modeNow ≠ modeSurvey ∧ 3 < entrySource
      s.windowEntry ∧ st = stRange))) ∧
    (∃ (s : State) (w : Wr) (hi : Bool) (e : Nat), Safety.wf s = true ∧ Safety.admits s w (if hi then 0x5011 else
      0x5010) e = true ∧ s.surveying = false ∧ (neighbours (Safety.valueOf s w (if hi then 0x5011 else 0x5010)
      e)).contains e = false ∧ (neighbours (Safety.valueOf s w (if hi then 0x5011 else 0x5010) e) ++ neighbours
      (s.word (if (if hi then 0x5011 else 0x5010) = 0x5010 then 0x5011 else 0x5010) e)).Nodup) ∧
    (∃ (s : State) (w : Wr) (hi : Bool) (e : Nat), Safety.wf s = true ∧ Safety.admits s w (if hi then 0x5011 else
      0x5010) e = true ∧ s.surveying = false ∧ (neighbours (Safety.valueOf s w (if hi then 0x5011 else 0x5010)
      e)).contains e = true) ∧
    (∃ (s : State) (w : Wr) (j : Nat) (e : Nat), Safety.wf s = true ∧ j < 12 ∧ Safety.admits s w (0x5400 + j) e =
      true ∧ s.surveying = false ∧ ((Safety.valueOf s w (0x5400 + j) e).bits 12 12 = 0 ∨ (Safety.valueOf s w (0x5400
      + j) e).bits 27 16 ≠ e)) ∧
    (∃ (s : State) (w : Wr) (j : Nat) (e : Nat), Safety.wf s = true ∧ j < 12 ∧ Safety.admits s w (0x5400 + j) e =
      true ∧ s.surveying = false ∧ (Safety.valueOf s w (0x5400 + j) e).bits 12 12 = 1 ∧ (Safety.valueOf s w (0x5400 +
      j) e).bits 27 16 = e) := by
  refine (fun h0 h1 => ⟨⟨dev.put64 0x5100 0 1004, wr (5 * 65536 + 0x210), h0.1⟩,
    ⟨(dev.setRing 5 ((List.range 8).map fun k => ⟨1010 + k, true, none⟩)).put64 0x5100 0 2000, wr (5 * 65536 +
      0x210), h0.2.1⟩,
    ⟨dev, wr (5 * 65536 + 0x210), h0.2.2.1⟩,
    ⟨dev, wr 1, 5, h0.2.2.2.1⟩,
    ⟨dev, wr 1, h0.2.2.2.2.1⟩,
    ⟨dev, rq, h0.2.2.2.2.2.1⟩,
    ⟨dev, rq, h0.2.2.2.2.2.2.1⟩,
    ⟨{ dev.set SM_STATUS_MARGINAL 1 with perf := { dev.perf with pend := some 2 } }, rq, stState, h0.2.2.2.2.2.2.2.1⟩,
    ⟨dev, wr (5 * 65536 + 0x210), true, 5, h0.2.2.2.2.2.2.2.2⟩,
    ⟨dev, wr 0x8005, false, 5, h1.1⟩,
    ⟨dev, wr (5 * 65536 + 0x210), 5, 5, h1.2.1⟩,
    ⟨dev, wr 0x00051000, 11, 5, h1.2.2⟩⟩)
    (?_ : _ ∧ _ ∧ _ ∧ _ ∧ _ ∧ _ ∧ _ ∧ _ ∧ _) (?_ : _ ∧ _ ∧ _) <;> decide +kernel

/-- Every clause of `Obligations.Survey` has a state and operands that meet its hypotheses. -/
theorem test_witness_Survey :
    (∃ (s : State) (q : Rq) (clear : Bool), Safety.wf s = true ∧ Safety.admits s (cmdWrite q (1 + 4 * clear.toNat))
      0x5800 0 = true ∧ (Safety.valueOf s (cmdWrite q (1 + 4 * clear.toNat)) 0x5800 0).bits 0 0 = 1 ∧ (Safety.valueOf
      s (cmdWrite q (1 + 4 * clear.toNat)) 0x5800 0).bits 1 1 = 0 ∧ (Safety.valueOf s (cmdWrite q (1 + 4 *
      clear.toNat)) 0x5800 0).bits 2 2 = clear.toNat ∧ s.modeNow = modeService ∧ s.on SM_STATUS_MARGINAL = false ∧
      s.stage = 0 ∧ s.survey.entry = none ∧ s.get PW_STATUS_PHASE = 0 ∧ (∀ e ∈ s.surveyed, s.coloured e = true)) ∧
    (∃ (s : State) (q : Rq) (clear : Bool) (e : Nat), Safety.wf s = true ∧ Safety.admits s (cmdWrite q (1 + 4 *
      clear.toNat)) 0x5800 0 = true ∧ (Safety.valueOf s (cmdWrite q (1 + 4 * clear.toNat)) 0x5800 0).bits 0 0 = 1 ∧
      (Safety.valueOf s (cmdWrite q (1 + 4 * clear.toNat)) 0x5800 0).bits 1 1 = 0 ∧ (Safety.valueOf s (cmdWrite q (1
      + 4 * clear.toNat)) 0x5800 0).bits 2 2 = clear.toNat ∧ s.modeNow = modeService ∧ s.on SM_STATUS_MARGINAL =
      false ∧ s.stage = 0 ∧ s.survey.entry = none ∧ s.get PW_STATUS_PHASE = 0 ∧ s.surveyed.find? (fun e =>
      !s.coloured e) = some e) ∧
    (∃ (s : State) (q : Rq) (clear : Bool), Safety.wf s = true ∧ Safety.admits s (cmdWrite q (1 + 4 * clear.toNat))
      0x5800 0 = true ∧ (Safety.valueOf s (cmdWrite q (1 + 4 * clear.toNat)) 0x5800 0).bits 0 0 = 1 ∧ (Safety.valueOf
      s (cmdWrite q (1 + 4 * clear.toNat)) 0x5800 0).bits 1 1 = 0 ∧ (Safety.valueOf s (cmdWrite q (1 + 4 *
      clear.toNat)) 0x5800 0).bits 2 2 = clear.toNat ∧ s.modeNow = modeService ∧ (s.on SM_STATUS_MARGINAL = true ∨
      s.stage ≠ 0 ∨ s.survey.entry ≠ none ∨ s.get PW_STATUS_PHASE ≠ 0)) ∧
    (∃ (s : State) (q : Rq) (clear : Bool), Safety.wf s = true ∧ Safety.admits s (cmdWrite q (1 + 4 * clear.toNat))
      0x5800 0 = true ∧ (Safety.valueOf s (cmdWrite q (1 + 4 * clear.toNat)) 0x5800 0).bits 0 0 = 1 ∧ (Safety.valueOf
      s (cmdWrite q (1 + 4 * clear.toNat)) 0x5800 0).bits 1 1 = 0 ∧ (Safety.valueOf s (cmdWrite q (1 + 4 *
      clear.toNat)) 0x5800 0).bits 2 2 = clear.toNat ∧ s.modeNow ≠ modeService) ∧
    (∃ (s : State) (q : Rq), Safety.wf s = true ∧ Safety.admits s (cmdWrite q 2) 0x5800 0 = true ∧ (Safety.valueOf s
      (cmdWrite q 2) 0x5800 0).bits 0 0 = 0 ∧ (Safety.valueOf s (cmdWrite q 2) 0x5800 0).bits 1 1 = 1 ∧ (s.stage ≠ 0
      ∨ s.survey.entry ≠ none) ∧ s.stage ≠ 6 ∧ s.survey.abort = false) ∧
    (∃ (s : State) (q : Rq), Safety.wf s = true ∧ Safety.admits s (cmdWrite q 2) 0x5800 0 = true ∧ (Safety.valueOf s
      (cmdWrite q 2) 0x5800 0).bits 0 0 = 0 ∧ (Safety.valueOf s (cmdWrite q 2) 0x5800 0).bits 1 1 = 1 ∧ (s.stage ≠ 0
      ∨ s.survey.entry ≠ none) ∧ s.stage ≠ 6 ∧ s.survey.abort = true) ∧
    (∃ (s : State) (q : Rq), Safety.wf s = true ∧ Safety.admits s (cmdWrite q 2) 0x5800 0 = true ∧ (Safety.valueOf s
      (cmdWrite q 2) 0x5800 0).bits 0 0 = 0 ∧ (Safety.valueOf s (cmdWrite q 2) 0x5800 0).bits 1 1 = 1 ∧ (s.stage = 6
      ∨ (s.stage = 0 ∧ s.survey.entry = none))) ∧
    (∃ (s : State) (t : Nat), Safety.wf s = true ∧ s.survey.entry = some t ∧ t ≤ s.frame.ticks ∧ s.modeNow =
      modeService ∧ s.stage = 0) ∧
    (∃ (s : State), Safety.wf s = true ∧ (s.survey.entry = none ∨ s.modeNow ≠ modeService)) ∧
    (∃ (s : State), Safety.wf s = true ∧ s.passDue = true) ∧
    (∃ (s : State), Safety.wf s = true ∧ s.passDue = false) ∧
    (∃ (s : State), Safety.wf s = true ∧ s.stage = 2 ∧ s.survey.wait = false ∧ s.on SV_STATUS_SUSPENDED = false) ∧
    (∃ (s : State), Safety.wf s = true ∧ s.stageOver 2 = true ∧ s.get SV_STATUS_STEP < 31) ∧
    (∃ (s : State), Safety.wf s = true ∧ s.stageOver 2 = true ∧ s.get SV_STATUS_STEP = 31) ∧
    (∃ (s : State), Safety.wf s = true ∧ s.stageOver 3 = true) ∧
    (∃ (s : State), Safety.wf s = true ∧ s.stageOver 4 = true ∧ s.survey.dwell = 0) ∧
    (∃ (s : State), Safety.wf s = true ∧ s.stageOver 4 = true ∧ s.survey.dwell = 1) ∧
    (∃ (s : State), Safety.wf s = true ∧ s.stageOver 4 = true ∧ 1 < s.survey.dwell ∧ s.get SV_STATUS_STEP < 127) ∧
    (∃ (s : State), Safety.wf s = true ∧ s.stageOver 5 = true ∧ s.survey.dwell = 0) ∧
    (∃ (s : State), Safety.wf s = true ∧ s.stageOver 5 = true ∧ s.survey.dwell ≠ 0) ∧
    (∃ (s : State), Safety.wf s = true ∧ s.stage = 6 ∧ s.on SV_STATUS_SUSPENDED = false ∧ s.survey.restore = none ∧
      s.surveyReady = true ∧ s.onBoundary = true) ∧
    (∃ (s : State) (t : Nat), Safety.wf s = true ∧ s.stage = 6 ∧ s.on SV_STATUS_SUSPENDED = false ∧ s.survey.restore
      = some t ∧ t + s.window ≤ s.frame.ticks) ∧
    (∃ (s : State) (t : Nat), Safety.wf s = true ∧ s.stage = 6 ∧ s.on SV_STATUS_SUSPENDED = false ∧ s.survey.restore
      = some t ∧ t + s.window ≤ s.frame.ticks ∧ s.modeNow = modeSurvey) ∧
    (∃ (s : State), Safety.wf s = true ∧ s.on SV_STATUS_SUSPENDED = true ∧ s.on SM_STATUS_MARGINAL = false ∧
      s.onBoundary = true) ∧
    (∃ (s : State), Safety.wf s = true ∧ (s.on SV_STATUS_SUSPENDED = false ∨ s.on SM_STATUS_MARGINAL = true)) := by
  refine (fun h0 h1 h2 => ⟨⟨{ dev with pending := [.coldReset, .frameTick {}] }, rq, false, h0.1⟩,
    ⟨((dev.setLane 5 { dev.lane 5 with st := .track }).setBoth LP_MON_ASSIGNED.index 5 (BitVec.ofNat 32
      0x80000000)).setBoth 0x5010 5 (BitVec.ofNat 32 0x8006), rq, false, 5, h0.2.1⟩,
    ⟨{ dev with survey := { dev.survey with entry := some 10 } }, rq, false, h0.2.2.1⟩,
    ⟨(dev.set TC_STATUS_STATE 6).set MD_MODE_MODE modeHoldover, rq, false, h0.2.2.2.1⟩,
    ⟨survey 2 {  }, rq, h0.2.2.2.2.1⟩,
    ⟨survey 2 { abort := true, result := 3, entry := some 10 }, rq, h0.2.2.2.2.2.1⟩,
    ⟨{ dev with pending := [.coldReset, .frameTick {}] }, rq, h0.2.2.2.2.2.2.1⟩,
    ⟨{ dev with survey := { dev.survey with entry := some 10 } }, 10, h0.2.2.2.2.2.2.2.1⟩,
    ⟨{ dev with pending := [.coldReset, .frameTick {}] }, h0.2.2.2.2.2.2.2.2⟩,
    ⟨atFrame 1024 (survey 2 { wait := true }), h1.1⟩,
    ⟨{ dev with pending := [.coldReset, .frameTick {}] }, h1.2.1⟩,
    ⟨survey 2 {  }, h1.2.2.1⟩,
    ⟨atTick 100000 (survey 2 {  }), h1.2.2.2.1⟩,
    ⟨atTick 10000000 ((survey 2 { dwell := 0 }).set SV_STATUS_STEP 31), h1.2.2.2.2.1⟩,
    ⟨atTick 10000000 (survey 3 {  }), h1.2.2.2.2.2.1⟩,
    ⟨atTick 10000000 (survey 4 {  }), h1.2.2.2.2.2.2.1⟩,
    ⟨atTick 10000000 ((survey 4 { dwell := 1 }).set SV_STATUS_STEP 0), h1.2.2.2.2.2.2.2.1⟩,
    ⟨atTick 10000000 ((survey 4 { dwell := 2 }).set SV_STATUS_STEP 0), h1.2.2.2.2.2.2.2.2⟩,
    ⟨atTick 10000000 (survey 5 {  }), h2.1⟩,
    ⟨atTick 10000000 ((survey 5 { dwell := 1 }).set SV_STATUS_STEP 0), h2.2.1⟩,
    ⟨survey 6 {  }, h2.2.2.1⟩,
    ⟨atTick 1000 (survey 6 { restore := some 10 }), 10, h2.2.2.2.1⟩,
    ⟨atTick 1000 (survey 6 { restore := some 10 }), 10, h2.2.2.2.2.1⟩,
    ⟨atFrame 1024 ((survey 2 {  }).set SV_STATUS_SUSPENDED 1), h2.2.2.2.2.2.1⟩,
    ⟨{ dev with pending := [.coldReset, .frameTick {}] }, h2.2.2.2.2.2.2⟩⟩)
    (?_ : _ ∧ _ ∧ _ ∧ _ ∧ _ ∧ _ ∧ _ ∧ _ ∧ _) (?_ : _ ∧ _ ∧ _ ∧ _ ∧ _ ∧ _ ∧ _ ∧ _ ∧ _) (?_ : _ ∧ _ ∧ _ ∧ _ ∧ _ ∧ _ ∧ _) <;> decide +kernel

/-- Every clause of `Obligations.CalibrationRuns` has a state and operands that meet its hypotheses. -/
theorem test_witness_CalibrationRuns :
    (∃ (s : State), Safety.wf s = true ∧ s.frame.running = true ∧ s.get SV_TEMP_DELTA_DELTA ≠ 0) ∧
    (∃ (s : State), Safety.wf s = true ∧ (s.frame.running = false ∨ s.get SV_TEMP_DELTA_DELTA = 0)) ∧
    (∃ (s : State) (w : Wr), Safety.wf s = true ∧ Safety.admits s w 0x5824 0 = true ∧ (Safety.valueOf s w 0x5824
      0).bits 15 15 = 0 ∧ (Safety.valueOf s w 0x5824 0).bits 8 0 ≤ 383 ∧ s.cal.queue.contains ((Safety.valueOf s w
      0x5824 0).bits 8 0) = false ∧ s.unitRuns ((Safety.valueOf s w 0x5824 0).bits 8 0) = false) ∧
    (∃ (s : State) (w : Wr), Safety.wf s = true ∧ Safety.admits s w 0x5824 0 = true ∧ (Safety.valueOf s w 0x5824
      0).bits 15 15 = 0 ∧ (Safety.valueOf s w 0x5824 0).bits 8 0 ≤ 383 ∧ (s.cal.queue.contains ((Safety.valueOf s w
      0x5824 0).bits 8 0) = true ∨ s.unitRuns ((Safety.valueOf s w 0x5824 0).bits 8 0) = true)) ∧
    (∃ (s : State) (w : Wr), Safety.wf s = true ∧ Safety.admits s w 0x5824 0 = true ∧ (Safety.valueOf s w 0x5824
      0).bits 15 15 = 1) ∧
    (∃ (s : State) (w : Wr), Safety.wf s = true ∧ Safety.admits s w 0x5824 0 = true ∧ (Safety.valueOf s w 0x5824
      0).bits 15 15 = 0 ∧ 383 < (Safety.valueOf s w 0x5824 0).bits 8 0) ∧
    (∃ (s : State) (u : Nat), Safety.wf s = true ∧ s.mayRun u = true ∧ s.clocked (unitDomain u) = true) ∧
    (∃ (s : State) (u : Nat), Safety.wf s = true ∧ s.mayRun u = true ∧ s.clocked (unitDomain u) = false) ∧
    (∃ (s : State) (u : Nat), Safety.wf s = true ∧ s.mayRun u = false) ∧
    (∃ (s : State) (u : Nat) (r : CalRun), Safety.wf s = true ∧ s.cal.runs.find? (fun r => r.unit = u) = some r ∧
      r.start + runLength u - 1 ≤ s.frame.ticks) ∧
    (∃ (s : State) (u : Nat) (r : CalRun), Safety.wf s = true ∧ s.cal.runs.find? (fun r => r.unit = u) = some r ∧
      s.frame.ticks < r.start + runLength u - 1) ∧
    (∃ (s : State) (w : Wr) (index : Nat) (sub : Nat), Safety.wf s = true ∧ (index = 0x5823 ∨ index = 0x5830 ∨ index
      = 0x5831) ∧ Safety.admits s w index sub = true ∧ s.unitRuns (correctionUnit index sub) = false) ∧
    (∃ (s : State) (w : Wr) (index : Nat) (sub : Nat), Safety.wf s = true ∧ (index = 0x5823 ∨ index = 0x5830 ∨ index
      = 0x5831) ∧ Safety.admits s w index sub = true ∧ s.unitRuns (correctionUnit index sub) = true) := by
  refine (fun h0 h1 => ⟨⟨dev, h0.1⟩,
    ⟨(up.set BT_LENGTH_BYTES 1024), h0.2.1⟩,
    ⟨dev, wr 130, h0.2.2.1⟩,
    ⟨{ dev with cal := { dev.cal with queue := [130] } }, wr 130, h0.2.2.2.1⟩,
    ⟨dev, wr 0x8000, h0.2.2.2.2.1⟩,
    ⟨dev, wr 384, h0.2.2.2.2.2.1⟩,
    ⟨{ dev with cal := { dev.cal with queue := [130] } }, 130, h0.2.2.2.2.2.2.1⟩,
    ⟨({ dev with cal := { dev.cal with queue := [130] } }).wr PW_DOMAIN_STATE 0x14 3, 130, h0.2.2.2.2.2.2.2.1⟩,
    ⟨dev, 130, h0.2.2.2.2.2.2.2.2⟩,
    ⟨{ { dev with cal := { dev.cal with runs := [{ unit := 130, start := 10, temp := 40, survey := false }] } } with frame := { dev.frame with ticks := 100000 } },
      130, ({ unit := 130, start := 10, temp := 40, survey := false } : CalRun), h1.1⟩,
    ⟨{ dev with cal := { dev.cal with runs := [{ unit := 130, start := 10, temp := 40, survey := false }] } }, 130,
      ({ unit := 130, start := 10, temp := 40, survey := false } : CalRun), h1.2.1⟩,
    ⟨dev, wr 0, 0x5823, 130, h1.2.2.1⟩,
    ⟨{ { dev with cal := { dev.cal with runs := [{ unit := 130, start := 10, temp := 40, survey := false }] } } with frame := { dev.frame with ticks := 100000 } },
      wr 0, 0x5823, 130, h1.2.2.2⟩⟩)
    (?_ : _ ∧ _ ∧ _ ∧ _ ∧ _ ∧ _ ∧ _ ∧ _ ∧ _) (?_ : _ ∧ _ ∧ _ ∧ _) <;> decide +kernel

/-- Every clause of `Obligations.TimeOverTheRing` has a state and operands that meet its hypotheses. -/
theorem test_witness_TimeOverTheRing :
    (∃ (s : State) (q : Rq) (id : Nat), Safety.wf s = true ∧ Safety.admits s (cmdWrite q (1 + 256 * (id % 256)))
      0x2411 0 = true ∧ (Safety.valueOf s (cmdWrite q (1 + 256 * (id % 256))) 0x2411 0).bits 0 0 = 1 ∧
      (Safety.valueOf s (cmdWrite q (1 + 256 * (id % 256))) 0x2411 0).bits 1 1 = 0 ∧ (Safety.valueOf s (cmdWrite q (1
      + 256 * (id % 256))) 0x2411 0).bits 15 8 = id % 256 ∧ s.modeNow = modeService ∧ s.on TB_JUMP_PENDING_VALID =
      true ∧ s.on SM_STATUS_MARGINAL = false ∧ s.time.step = none ∧ id % 256 = s.get TB_JUMP_PENDING_JUMP_ID ∧
      s.frame.frame + 3 ≤ s.stepWords.1 ∧ (s.time.delta - s.stepWords.2 * 1000000).natAbs ≤ 600000) ∧
    (∃ (s : State) (q : Rq) (id : Nat), Safety.wf s = true ∧ Safety.admits s (cmdWrite q (1 + 256 * (id % 256)))
      0x2411 0 = true ∧ (Safety.valueOf s (cmdWrite q (1 + 256 * (id % 256))) 0x2411 0).bits 0 0 = 1 ∧
      (Safety.valueOf s (cmdWrite q (1 + 256 * (id % 256))) 0x2411 0).bits 1 1 = 0 ∧ (Safety.valueOf s (cmdWrite q (1
      + 256 * (id % 256))) 0x2411 0).bits 15 8 = id % 256 ∧ s.modeNow = modeService ∧ s.on TB_JUMP_PENDING_VALID =
      true ∧ s.on SM_STATUS_MARGINAL = false ∧ s.time.step = none ∧ (id % 256 ≠ s.get TB_JUMP_PENDING_JUMP_ID ∨
      s.stepWords.1 < s.frame.frame + 3 ∨ 600000 < (s.time.delta - s.stepWords.2 * 1000000).natAbs)) ∧
    (∃ (s : State) (q : Rq) (id : Nat), Safety.wf s = true ∧ Safety.admits s (cmdWrite q (1 + 256 * (id % 256)))
      0x2411 0 = true ∧ (Safety.valueOf s (cmdWrite q (1 + 256 * (id % 256))) 0x2411 0).bits 0 0 = 1 ∧
      (Safety.valueOf s (cmdWrite q (1 + 256 * (id % 256))) 0x2411 0).bits 1 1 = 0 ∧ (Safety.valueOf s (cmdWrite q (1
      + 256 * (id % 256))) 0x2411 0).bits 15 8 = id % 256 ∧ s.modeNow = modeService ∧ (s.on TB_JUMP_PENDING_VALID =
      false ∨ s.on SM_STATUS_MARGINAL = true ∨ s.time.step ≠ none)) ∧
    (∃ (s : State) (q : Rq) (id : Nat), Safety.wf s = true ∧ Safety.admits s (cmdWrite q (1 + 256 * (id % 256)))
      0x2411 0 = true ∧ (Safety.valueOf s (cmdWrite q (1 + 256 * (id % 256))) 0x2411 0).bits 0 0 = 1 ∧
      (Safety.valueOf s (cmdWrite q (1 + 256 * (id % 256))) 0x2411 0).bits 1 1 = 0 ∧ (Safety.valueOf s (cmdWrite q (1
      + 256 * (id % 256))) 0x2411 0).bits 15 8 = id % 256 ∧ s.modeNow ≠ modeService) ∧
    (∃ (s : State) (q : Rq) (id : Nat), Safety.wf s = true ∧ Safety.admits s (cmdWrite q (2 + 256 * (id % 256)))
      0x2411 0 = true ∧ (Safety.valueOf s (cmdWrite q (2 + 256 * (id % 256))) 0x2411 0).bits 0 0 = 0 ∧
      (Safety.valueOf s (cmdWrite q (2 + 256 * (id % 256))) 0x2411 0).bits 1 1 = 1) ∧
    (∃ (s : State) (x : MarkMeas), Safety.wf s = true ∧ s.acting = true ∧ s.on TC_STATUS_CLK_READY = true ∧ x.port %
      2 = s.timingPort) ∧
    (∃ (s : State) (x : MarkMeas), Safety.wf s = true ∧ s.acting = true ∧ s.on TC_STATUS_CLK_READY = true ∧ x.port %
      2 ≠ s.timingPort ∧ s.tc = 5 ∧ s.on TC_CONTROL_TRIM_EN = true) ∧
    (∃ (s : State) (x : MarkMeas), Safety.wf s = true ∧ s.acting = true ∧ s.on TC_STATUS_CLK_READY = true ∧ x.port %
      2 ≠ s.timingPort ∧ (s.tc ≠ 5 ∨ s.on TC_CONTROL_TRIM_EN = false)) ∧
    (∃ (s : State), Safety.wf s = true ∧ (s.acting = false ∨ s.on TC_STATUS_CLK_READY = false)) ∧
    (∃ (s : State) (m : Mark), Safety.wf s = true ∧ s.time.mark = some m ∧ s.acting = true ∧ s.time.due = true ∧
      m.tick = s.frame.ticks) ∧
    (∃ (s : State), Safety.wf s = true ∧ (s.time.mark = none ∨ s.time.due = false)) ∧
    (∃ (s : State), Safety.wf s = true ∧ s.acting = true ∧ s.on TC_STATUS_CLK_READY = true) ∧
    (∃ (s : State) (d : Dreq) (y : Dresp), Safety.wf s = true ∧ s.time.dreqs.find? (fun d => d.seq = y.seq % 256) =
      some d ∧ (s.time.delays.length < 16 ∨ (16 * (exchangeOf ((d.mark.frame * 96000 + d.mark.t1 : Nat) : Int)
      ((d.mark.atFrame * 96000 + d.mark.t2 : Nat) : Int) ((d.mark.atFrame * 96000 + d.t3 : Nat) : Int) ((serverFrame
      d.mark.frame y.frame16 * 96000 + y.t4 : Nat) : Int) (s.rdI TB_ASYM_ASYM s.timingPort)).1 -
      s.time.delays.sum).natAbs ≤ 16 * 96 * s.get TB_XCHG_OUTLIER)) ∧
    (∃ (s : State) (d : Dreq) (y : Dresp), Safety.wf s = true ∧ s.time.dreqs.find? (fun d => d.seq = y.seq % 256) =
      some d ∧ 16 ≤ s.time.delays.length ∧ 16 * 96 * s.get TB_XCHG_OUTLIER < (16 * (exchangeOf ((d.mark.frame * 96000
      + d.mark.t1 : Nat) : Int) ((d.mark.atFrame * 96000 + d.mark.t2 : Nat) : Int) ((d.mark.atFrame * 96000 + d.t3 :
      Nat) : Int) ((serverFrame d.mark.frame y.frame16 * 96000 + y.t4 : Nat) : Int) (s.rdI TB_ASYM_ASYM
      s.timingPort)).1 - s.time.delays.sum).natAbs) ∧
    (∃ (s : State) (d : Dreq) (y : Dresp), Safety.wf s = true ∧ s.time.dreqs.find? (fun d => d.seq = y.seq % 256) =
      none) ∧
    (∃ (s : State) (d : Dreq) (ds : List Dreq), Safety.wf s = true ∧ s.time.dreqs = d :: ds ∧ d.sentTick + 2 ≤
      s.frame.ticks) ∧
    (∃ (s : State) (d : Dreq) (ds : List Dreq), Safety.wf s = true ∧ s.time.dreqs = d :: ds ∧ s.frame.ticks <
      d.sentTick + 2) ∧
    (∃ (s : State), Safety.wf s = true ∧ s.time.dreqs = []) := by
  refine (fun h0 h1 => ⟨⟨(fun s : State =>
      { (((s.set TB_JUMP_PENDING_VALID 1).set TB_JUMP_PENDING_JUMP_ID 7).put64 0x2411 2 1003).setI TB_STEP_AUTH_FRAMES (-2) with time := { s.time with delta := -2000000 } })
      dev, rq, 7, h0.1⟩,
    ⟨(fun s : State =>
      { (((s.set TB_JUMP_PENDING_VALID 1).set TB_JUMP_PENDING_JUMP_ID 7).put64 0x2411 2 1003).setI TB_STEP_AUTH_FRAMES (-2) with time := { s.time with delta := -2000000 } })
      dev, rq, 3, h0.2.1⟩,
    ⟨dev, rq, 3, h0.2.2.1⟩,
    ⟨(dev.set TC_STATUS_STATE 6).set MD_MODE_MODE modeHoldover, rq, 3, h0.2.2.2.1⟩,
    ⟨dev, rq, 3, h0.2.2.2.2.1⟩,
    ⟨dev, markMeas 0 false, h0.2.2.2.2.2.1⟩,
    ⟨dev.set TC_STATUS_STATE 5, markMeas 1 false, h0.2.2.2.2.2.2.1⟩,
    ⟨dev, markMeas 1 false, h0.2.2.2.2.2.2.2.1⟩,
    ⟨dev.set TC_STATUS_CLK_READY 0, h0.2.2.2.2.2.2.2.2⟩,
    ⟨{ dev with time := { dev.time with mark := some mark, due := true } }, mark, h1.1⟩,
    ⟨dev, h1.2.1⟩,
    ⟨dev, h1.2.2.1⟩,
    ⟨{ dev with time := { dev.time with dreqs := [dreq 8] } }, dreq 8, dresp, h1.2.2.2.1⟩,
    ⟨{ dev with time := { dev.time with dreqs := [dreq 8], delays := List.replicate 16 5 } }, dreq 8, dresp,
      h1.2.2.2.2.1⟩,
    ⟨dev, dreq 5, dresp, h1.2.2.2.2.2.1⟩,
    ⟨{ dev with time := { dev.time with dreqs := [dreq 8], delays := List.replicate 16 5 } }, dreq 8, ([] : List
      Dreq), h1.2.2.2.2.2.2.1⟩,
    ⟨{ dev with time := { dev.time with dreqs := [dreq 9] } }, dreq 9, ([] : List Dreq), h1.2.2.2.2.2.2.2.1⟩,
    ⟨dev, h1.2.2.2.2.2.2.2.2⟩⟩)
    (?_ : _ ∧ _ ∧ _ ∧ _ ∧ _ ∧ _ ∧ _ ∧ _ ∧ _) (?_ : _ ∧ _ ∧ _ ∧ _ ∧ _ ∧ _ ∧ _ ∧ _ ∧ _) <;> decide +kernel

/-- Every clause of `Obligations.LightAtThePorts` has a state and operands that meet its hypotheses. -/
theorem test_witness_LightAtThePorts :
    (∃ (s : State) (p : Nat) (ua : Nat) (lasts : Nat) (lit : Bool), Safety.wf s = true ∧ p < 256 ∧ s.pdActive p =
      true ∧ s.rd PD_STATUS_LEVEL p = lit.toNat ∧ (if lit then ua ≤ 2 * (s.pd p).field PD_CFG_TH_OFF else 2 * (s.pd
      p).field PD_CFG_TH_ON ≤ ua) ∧ (s.pd p).field PD_CFG_DWELL ≤ lasts) ∧
    (∃ (s : State) (p : Nat) (ua : Nat) (lasts : Nat) (lit : Bool), Safety.wf s = true ∧ p < 256 ∧ s.pdActive p =
      true ∧ s.rd PD_STATUS_LEVEL p = lit.toNat ∧ (if lit then ua ≤ 2 * (s.pd p).field PD_CFG_TH_OFF else 2 * (s.pd
      p).field PD_CFG_TH_ON ≤ ua) ∧ lasts < (s.pd p).field PD_CFG_DWELL) ∧
    (∃ (s : State) (p : Nat), Safety.wf s = true ∧ p < 256 ∧ s.pdActive p = false) ∧
    (∃ (s : State) (p : Nat), Safety.wf s = true ∧ p < 256 ∧ s.pdActive p = true ∧ (s.pd p).started = false ∧ (s.pd
      p).wait = none) ∧
    (∃ (s : State) (p : Nat), Safety.wf s = true ∧ p < 256 ∧ (s.pd p).started = true) ∧
    (∃ (s : State) (p : Nat) (quad : Nat) (c : Capture), Safety.wf s = true ∧ p < 256 ∧ quad < 4 ∧ s.nextLight quad =
      some p ∧ (s.pd p).wait = some c ∧ (s.ev.tookUp ≠ s.frame.up ∨ s.ev.took.testBit quad = false)) ∧
    (∃ (s : State) (p : Nat) (quad : Nat) (c : Capture), Safety.wf s = true ∧ p < 256 ∧ quad < 4 ∧ s.nextLight quad =
      some p ∧ (s.pd p).wait = some c ∧ s.ev.tookUp = s.frame.up ∧ s.ev.took.testBit quad = true) := by
  refine (fun h => ⟨⟨dev, 7, 100000, 100000, false, h.1⟩,
    ⟨dev, 7, 100000, 0, false, h.2.1⟩,
    ⟨dev.set TC_STATUS_CLK_READY 0, 7, h.2.2.1⟩,
    ⟨dev, 7, h.2.2.2.1⟩,
    ⟨lit.setPd 7 { (lit.pd 7) with started := true }, 7, h.2.2.2.2.1⟩,
    ⟨dev.setPd 7 { (dev.pd 7) with wait := some capture }, 7, 0, capture, h.2.2.2.2.2.1⟩,
    ⟨(fun s : State => { s with ev := { s.ev with tookUp := s.frame.up, took := 1 } }) (lit.setPd 7
      { (lit.pd 7) with wait := some capture }), 7, 0, capture, h.2.2.2.2.2.2⟩⟩)
    (?_ : _ ∧ _ ∧ _ ∧ _ ∧ _ ∧ _ ∧ _)
  decide +kernel

/-- Every clause of `Obligations.EvidenceWriter` has a state and operands that meet its hypotheses. -/
theorem test_witness_EvidenceWriter :
    (∃ (s : State) (n : Nat), s.writerRuns = true ∧ s.ev.start = some n) ∧
    (∃ (s : State), s.writerRuns = true ∧ s.ev.start = some 2) ∧
    (∃ (s : State), s.writerRuns = true ∧ s.ev.start ≠ some 2) ∧
    (∃ (s : State), s.writerRuns = true ∧ s.ev.start = none ∧ (s.on EV_STATUS_HOLDING = true ∨ s.on EV_STATUS_CHAIN =
      false)) ∧
    (∃ (s : State) (k : BitVec 256) (id : Nat) (time : Nat) (flags : Nat), s.writerRuns = true ∧ s.ev.start = none ∧
      s.on EV_STATUS_CHAIN = true ∧ s.on EV_STATUS_HOLDING = false ∧ s.ev.keyQueue = some (k, id, time, flags)) ∧
    (∃ (s : State) (g : Gap), s.writerRuns = true ∧ s.ev.start = none ∧ s.on EV_STATUS_CHAIN = true ∧ s.on
      EV_STATUS_HOLDING = false ∧ s.ev.keyQueue = none ∧ s.endGaps.endedGap = some g) ∧
    (∃ (s : State), s.writerRuns = true ∧ s.ev.start = none ∧ s.on EV_STATUS_CHAIN = true ∧ s.on EV_STATUS_HOLDING =
      false ∧ s.ev.keyQueue = none ∧ s.endGaps.endedGap = none ∧ s.on EV_STATUS_FILLING = true) ∧
    (∃ (s : State) (x : FifoRec) (xs : List FifoRec), s.writerRuns = true ∧ s.ev.start = none ∧ s.on EV_STATUS_CHAIN
      = true ∧ s.on EV_STATUS_HOLDING = false ∧ s.ev.keyQueue = none ∧ s.endGaps.endedGap = none ∧ s.on
      EV_STATUS_FILLING = false ∧ s.ev.fifo = x :: xs) ∧
    (∃ (s : State), s.writerRuns = true ∧ s.ev.start = none ∧ s.on EV_STATUS_CHAIN = true ∧ s.on EV_STATUS_HOLDING =
      false ∧ s.ev.keyQueue = none ∧ s.endGaps.endedGap = none ∧ s.on EV_STATUS_FILLING = false ∧ s.ev.fifo = []) ∧
    (∃ (s : State), s.writerRuns = true ∧ s.sealDue = true ∧ s.ev.start = none ∧ s.on EV_STATUS_HOLDING = false ∧
      s.ev.keyQueue = none ∧ s.endGaps.endedGap = none ∧ s.ev.fifo = []) ∧
    (∃ (s : State), s.writerRuns = true ∧ s.sealDue = true ∧ s.writerCycle.sealDue = false) ∧
    (∃ (s : State), s.writerRuns = true ∧ s.sealDue = false) := by
  refine (fun h0 h1 => ⟨⟨{ dev with ev := { dev.ev with start := some 1 } }, 1, h0.1⟩,
    ⟨{ dev with ev := { dev.ev with start := some 2 } }, h0.2.1⟩,
    ⟨dev, h0.2.2.1⟩,
    ⟨dev, h0.2.2.2.1⟩,
    ⟨{ dev.set EV_STATUS_CHAIN 1 with ev := { dev.ev with keyQueue := some (0, 4, 5, 0) } }, (0 : BitVec 256), 4, 5,
      0, h0.2.2.2.2.1⟩,
    ⟨{ dev.set EV_STATUS_CHAIN 1 with ev := { dev.ev with gaps := [lost] } }, { lost with ended := true },
      h0.2.2.2.2.2.1⟩,
    ⟨{ ((dev.set EV_STATUS_CHAIN 1).set EV_STATUS_FILLING 1) with ev := { dev.ev with gaps := [] } },
      h0.2.2.2.2.2.2.1⟩,
    ⟨{ dev.set EV_STATUS_CHAIN 1 with ev := { dev.ev with gaps := [], fifo := [queued] } }, queued, [],
      h0.2.2.2.2.2.2.2.1⟩,
    ⟨(fun s : State => { s with ev := { s.ev with gaps := [], fifo := [], openRecs := [], openUp := 0 } }) ((dev.set
      EV_STATUS_CHAIN 1).set EV_CTRL_SEAL_TIMEOUT 1), h0.2.2.2.2.2.2.2.2⟩,
    ⟨(fun s : State => { s with ev := { s.ev with gaps := [], fifo := [], openRecs := [0], openUp := 0 } }) ((dev.set
      EV_STATUS_CHAIN 1).set EV_CTRL_SEAL_TIMEOUT 1), h1.1⟩,
    ⟨(fun s : State =>
      { s with ev := { s.ev with gaps := [], fifo := [queued], openRecs := List.replicate 61 0, openUp := 0 } })
      ((dev.set EV_STATUS_CHAIN 1).set EV_CTRL_SEAL_TIMEOUT 1), h1.2.1⟩,
    ⟨dev, h1.2.2⟩⟩)
    (?_ : _ ∧ _ ∧ _ ∧ _ ∧ _ ∧ _ ∧ _ ∧ _ ∧ _) (?_ : _ ∧ _ ∧ _) <;> decide +kernel

/-- Every clause of `Obligations.EvidenceSlots` has a state and operands that meet its hypotheses. -/
theorem test_witness_EvidenceSlots :
    (∃ (s : State), s.ev.openRecs.length < 61) ∧
    (∃ (s : State), s.ev.openRecs.length = 61) := by
  refine (fun h => ⟨⟨dev, h.1⟩,
    ⟨{ dev with ev := { dev.ev with openRecs := List.replicate 61 0 } }, h.2⟩⟩)
    (?_ : _ ∧ _)
  decide +kernel

/-- Every clause of `Obligations.EvidenceWrites` has a state and operands that meet its hypotheses. -/
theorem test_witness_EvidenceWrites :
    (∃ (s : State) (w : Wr), Safety.wf s = true ∧ Safety.admits s w 0x2601 0 = true ∧ (Safety.valueOf s w 0x2601
      0).bits 31 31 = 1 ∧ ((Safety.valueOf s w 0x2601 0).bits 19 0 = 0 ∨ 10 ≤ (Safety.valueOf s w 0x2601 0).bits 19
      0) ∧ (Safety.valueOf s w 0x2601 0).bits 19 0 ≤ 1000000 ∧ s.on EV_STATUS_CHAIN = true ∧ s.ev.openRecs ≠ []) ∧
    (∃ (s : State) (w : Wr), Safety.wf s = true ∧ Safety.admits s w 0x2601 0 = true ∧ (Safety.valueOf s w 0x2601
      0).bits 31 31 = 1 ∧ ((Safety.valueOf s w 0x2601 0).bits 19 0 = 0 ∨ 10 ≤ (Safety.valueOf s w 0x2601 0).bits 19
      0) ∧ (Safety.valueOf s w 0x2601 0).bits 19 0 ≤ 1000000 ∧ (s.on EV_STATUS_CHAIN = false ∨ s.ev.openRecs = [])) ∧
    (∃ (s : State) (w : Wr), Safety.wf s = true ∧ Safety.admits s w 0x2603 0 = true ∧ s.on EV_KEY_CTRL_LOCK = false ∧
      (Safety.valueOf s w 0x2603 0).bits 31 31 = 1 ∧ s.on EV_STATUS_KEY_PENDING = false ∧ (Safety.valueOf s w 0x2603
      0).bits 30 30 = 0) ∧
    (∃ (s : State) (w : Wr), Safety.wf s = true ∧ Safety.admits s w 0x2603 0 = true ∧ s.on EV_KEY_CTRL_LOCK = false ∧
      (Safety.valueOf s w 0x2603 0).bits 31 31 = 1 ∧ s.on EV_STATUS_KEY_PENDING = false ∧ (Safety.valueOf s w 0x2603
      0).bits 30 30 = 1) ∧
    (∃ (s : State) (w : Wr), Safety.wf s = true ∧ Safety.admits s w 0x2603 0 = true ∧ s.on EV_KEY_CTRL_LOCK = false ∧
      (Safety.valueOf s w 0x2603 0).bits 31 31 = 1 ∧ s.on EV_STATUS_KEY_PENDING = true) ∧
    (∃ (s : State) (w : Wr), Safety.wf s = true ∧ Safety.admits s w 0x2603 0 = true ∧ s.on EV_KEY_CTRL_LOCK = true ∧
      (Safety.valueOf s w 0x2603 0).bits 30 30 = 1 ∧ (Safety.valueOf s w 0x2603 0).bits 31 31 = 1) ∧
    (∃ (s : State) (w : Wr), Safety.wf s = true ∧ Safety.admits s w 0x2603 0 = true ∧ s.on EV_KEY_CTRL_LOCK = true ∧
      (Safety.valueOf s w 0x2603 0).bits 30 30 = 0) ∧
    (∃ (s : State) (w : Wr), Safety.wf s = true ∧ Safety.admits s w 0x2603 0 = true ∧ (Safety.valueOf s w 0x2603
      0).bits 31 31 = 0 ∧ (Safety.valueOf s w 0x2603 0).bits 30 30 = 1 ∧ (Safety.valueOf s w 0x2603 0).bits 15 0 =
      s.get EV_KEY_CTRL_KEY_ID) ∧
    (∃ (s : State) (w : Wr), Safety.wf s = true ∧ Safety.admits s w 0x2603 0 = true ∧ (Safety.valueOf s w 0x2603
      0).bits 31 31 = 0 ∧ (Safety.valueOf s w 0x2603 0).bits 30 30 = 1 ∧ (Safety.valueOf s w 0x2603 0).bits 15 0 ≠
      s.get EV_KEY_CTRL_KEY_ID) := by
  refine (fun h => ⟨⟨{ (dev.set EV_STATUS_CHAIN 1).set EV_CTRL_SEAL_TIMEOUT 1 with ev := { dev.ev with openRecs := [0], openUp := 0 } },
      wr 0x80000000, h.1⟩,
    ⟨dev, wr 0x80000000, h.2.1⟩,
    ⟨dev, wr 0x80000007, h.2.2.1⟩,
    ⟨dev, wr 0xC0000007, h.2.2.2.1⟩,
    ⟨(dev.set EV_STATUS_KEY_PENDING 1), wr 0xC0000007, h.2.2.2.2.1⟩,
    ⟨dev.set EV_KEY_CTRL_LOCK 1, wr 0xC0000007, h.2.2.2.2.2.1⟩,
    ⟨dev.set EV_KEY_CTRL_LOCK 1, wr 0x80000007, h.2.2.2.2.2.2.1⟩,
    ⟨dev, wr (2 ^ 30 + dev.get EV_KEY_CTRL_KEY_ID), h.2.2.2.2.2.2.2.1⟩,
    ⟨dev, wr 0x40000007, h.2.2.2.2.2.2.2.2⟩⟩)
    (?_ : _ ∧ _ ∧ _ ∧ _ ∧ _ ∧ _ ∧ _ ∧ _ ∧ _)
  decide +kernel

/-- Every clause of `Obligations.RequestBuffers` has a state and operands that meet its hypotheses. -/
theorem test_witness_RequestBuffers :
    (∃ (s : State) (p : Nat) (f : RxFrame), p < 4 ∧ s.pairUp p = true ∧ s.takesIn (portOf p) = true ∧ s.takes f =
      true ∧ frameGood f = true ∧ f.stomped = false ∧ requestType f.ftype = true ∧ (s.port (portOf p)).reqs.length <
      4) ∧
    (∃ (s : State) (p : Nat) (f : RxFrame), p < 4 ∧ s.pairUp p = true ∧ s.takesIn (portOf p) = true ∧ s.takes f =
      true ∧ frameGood f = true ∧ f.stomped = false ∧ requestType f.ftype = true ∧ 4 ≤ (s.port (portOf
      p)).reqs.length) ∧
    (∃ (s : State) (p : Nat) (f : RxFrame), p < 4 ∧ s.pairUp p = true ∧ s.takesIn (portOf p) = true ∧ s.takes f =
      true ∧ frameGood f = true ∧ f.stomped = false ∧ requestType f.ftype = false) ∧
    (∃ (s : State) (p : Nat) (f : RxFrame), p < 4 ∧ s.pairUp p = true ∧ s.takesIn (portOf p) = true ∧ s.takes f =
      true ∧ frameGood f = false) ∧
    (∃ (s : State) (p : Nat) (f : RxFrame), p < 4 ∧ s.pairUp p = true ∧ s.takesIn (portOf p) = true ∧ s.takes f =
      true ∧ frameGood f = true ∧ f.stomped = true) ∧
    (∃ (s : State) (p : Nat) (f : RxFrame), p < 4 ∧ (s.pairUp p = false ∨ s.takesIn (portOf p) = false ∨ s.takes f =
      false)) := by
  refine (fun h => ⟨⟨(dev.set TC_STATUS_STATE 5).wr FL_STATUS_STATE (2 * dev.timingPort) 4, 0, request dev.address 1, h.1⟩,
    ⟨(ringUp).setPort 0
      { (dev.port 0) with reqs := List.replicate 4 { fromD := false, frame := request dev.address 1 } }, 0, request
      dev.address 1, h.2.1⟩,
    ⟨(dev.set TC_STATUS_STATE 5).wr FL_STATUS_STATE (2 * dev.timingPort) 4, 0, request dev.address 2, h.2.2.1⟩,
    ⟨(dev.set TC_STATUS_STATE 5).wr FL_STATUS_STATE (2 * dev.timingPort) 4, 0,
      { (request dev.address 1) with crc := (request dev.address 1).crc + 1 }, h.2.2.2.1⟩,
    ⟨(dev.set TC_STATUS_STATE 5).wr FL_STATUS_STATE (2 * dev.timingPort) 4, 0,
      { (request dev.address 1) with stomped := true }, h.2.2.2.2.1⟩,
    ⟨dev, 0, request dev.address 1, h.2.2.2.2.2⟩⟩)
    (?_ : _ ∧ _ ∧ _ ∧ _ ∧ _ ∧ _)
  decide +kernel

/-- Every clause of `Obligations.ReadRequests` has a state and operands that meet its hypotheses. -/
theorem test_witness_ReadRequests :
    (∃ (s : State) (q : Rq) (index : Nat) (sub : Nat), s.servesNow q = true ∧ q.bcast = false ∧ s.formedNow q = true
      ∧ s.waitsFor index sub = none ∧ s.unknown index sub = none ∧ s.peerReset index sub = false) ∧
    (∃ (s : State) (q : Rq) (index : Nat) (sub : Nat) (st : Nat), s.servesNow q = true ∧ q.bcast = false ∧
      s.formedNow q = true ∧ s.waitsFor index sub = none ∧ s.unknown index sub = some st) ∧
    (∃ (s : State) (q : Rq) (index : Nat) (sub : Nat), s.servesNow q = true ∧ q.bcast = false ∧ s.formedNow q = true
      ∧ s.waitsFor index sub = none ∧ s.unknown index sub = none ∧ s.peerReset index sub = true) ∧
    (∃ (s : State) (q : Rq) (index : Nat) (sub : Nat) (d : Nat), s.servesNow q = true ∧ q.bcast = false ∧ s.formedNow
      q = true ∧ s.waitsFor index sub = some d) ∧
    (∃ (s : State) (q : Rq), s.servesNow q = true ∧ q.bcast = false ∧ s.formedNow q = true ∧ s.on TC_STATUS_CLK_READY
      = true) ∧
    (∃ (s : State) (q : Rq), s.servesNow q = true ∧ q.bcast = false ∧ s.formedNow q = true ∧ s.on TC_STATUS_CLK_READY
      = false) ∧
    (∃ (s : State) (q : Rq) (sub : Nat), s.servesNow q = true ∧ q.bcast = false ∧ s.formedNow q = true ∧ s.waitsFor
      0x2609 sub = none ∧ s.unknown 0x2609 sub = none ∧ s.peerReset 0x2609 sub = false ∧ sub / 8 <
      s.ev.openRecs.length) ∧
    (∃ (s : State) (q : Rq) (index : Nat) (sub : Nat) (count : Nat) (eccs : List (EccOutcome × Word)) (st : Nat) (got
      : List Word) (t : State), s.servesNow q = true ∧ q.bcast = false ∧ s.formedNow q = true ∧ 1 ≤ count ∧ count ≤
      s.bulkMost q ∧ s.readRun q.port index sub [] (eccRun count eccs) = (st, got, [], t)) ∧
    (∃ (s : State) (q : Rq) (index : Nat) (sub : Nat) (count : Nat) (eccs : List (EccOutcome × Word)) (st : Nat) (got
      : List Word) (x : EccOutcome × Word) (xs : List (EccOutcome × Word)) (t : State), s.servesNow q = true ∧
      q.bcast = false ∧ s.formedNow q = true ∧ 1 ≤ count ∧ count ≤ s.bulkMost q ∧ s.readRun q.port index sub []
      (eccRun count eccs) = (st, got, x :: xs, t)) ∧
    (∃ (s : State) (q : Rq) (count : Nat), s.servesNow q = true ∧ q.bcast = false ∧ s.formedNow q = true ∧ (count = 0
      ∨ s.bulkMost q < count)) ∧
    (∃ (s : State) (q : Rq), s.servesNow q = true ∧ q.bcast = false ∧ s.formedNow q = false) := by
  refine (fun h0 h1 => ⟨⟨{ dev with pending := [.coldReset, .frameTick {}] }, rq, 0x2608, 5, h0.1⟩,
    ⟨{ dev with pending := [.coldReset, .frameTick {}] }, rq, 0x0001, 0, stNoObject, h0.2.1⟩,
    ⟨{ dev with rst := { dev.rst with dom := some (domReset 1 0) } }, rq, 0x5801, 1, h0.2.2.1⟩,
    ⟨(dev.wr PW_DOMAIN_STATE 0x1A 3), rq, 0x2600, 0, 0x1A, h0.2.2.2.1⟩,
    ⟨{ dev with pending := [.coldReset, .frameTick {}] }, rq, h0.2.2.2.2.1⟩,
    ⟨dev.set TC_STATUS_CLK_READY 0, rq, h0.2.2.2.2.2.1⟩,
    ⟨{ (dev.set EV_STATUS_CHAIN 1).set EV_CTRL_SEAL_TIMEOUT 1 with ev := { dev.ev with openRecs := [0], openUp := 0 } },
      rq, 5, h0.2.2.2.2.2.2.1⟩,
    ⟨{ dev with pending := [.coldReset, .frameTick {}] }, rq, 0x2608, 5, 3, [],
      ({ dev with pending := [.coldReset, .frameTick {}] }.readRun rq.port 0x2608 5 [] (eccRun 3 [])).1,
      ({ dev with pending := [.coldReset, .frameTick {}] }.readRun rq.port 0x2608 5 [] (eccRun 3 [])).2.1,
      ({ dev with pending := [.coldReset, .frameTick {}] }.readRun rq.port 0x2608 5 [] (eccRun 3 [])).2.2.2,
      h0.2.2.2.2.2.2.2.1⟩,
    ⟨(dev.wr PW_DOMAIN_STATE 0x1A 3), rq, 0x2608, 5, 3, [], ((dev.wr PW_DOMAIN_STATE 0x1A 3).readRun rq.port 0x2608 5
      [] (eccRun 3 [])).1, ((dev.wr PW_DOMAIN_STATE 0x1A 3).readRun rq.port 0x2608 5 [] (eccRun 3 [])).2.1, (((dev.wr
      PW_DOMAIN_STATE 0x1A 3).readRun rq.port 0x2608 5 [] (eccRun 3 [])).2.2.1).headD ((.clean, 5) : EccOutcome ×
      Word), (((dev.wr PW_DOMAIN_STATE 0x1A 3).readRun rq.port 0x2608 5 [] (eccRun 3 [])).2.2.1).tail, ((dev.wr
      PW_DOMAIN_STATE 0x1A 3).readRun rq.port 0x2608 5 [] (eccRun 3 [])).2.2.2, h0.2.2.2.2.2.2.2.2⟩,
    ⟨{ dev with pending := [.coldReset, .frameTick {}] }, rq, 0, h1.1⟩,
    ⟨{ dev with pending := [.coldReset, .frameTick {}] }, { rq with formed := false }, h1.2⟩⟩)
    (?_ : _ ∧ _ ∧ _ ∧ _ ∧ _ ∧ _ ∧ _ ∧ _ ∧ _) (?_ : _ ∧ _) <;> decide +kernel

/-- Every clause of `Obligations.LatchedReads` has a state and operands that meet its hypotheses. -/
theorem test_witness_LatchedReads :
    ∃ (s : State) (q : Rq) (index : Nat) (sub : Nat), q.port < 2 ∧ s.servesNow q = true ∧ q.bcast = false ∧
      s.formedNow q = true ∧ s.waitsFor index sub = none ∧ s.unknown index sub = none ∧ s.peerReset index sub = false
      ∧ lowOf64 index sub = true :=
  ⟨dev, rq, 0x2402, 0, by decide +kernel⟩

/-- Every clause of `Obligations.TimeNowLatch` has a state and operands that meet its hypotheses. -/
theorem test_witness_TimeNowLatch :
    (∃ (s : State) (q : Rq), q.port < 2 ∧ s.servesNow q = true ∧ q.bcast = false ∧ s.formedNow q = true) ∧
    (∃ (s : State) (q : Rq) (k : Nat), q.port < 2 ∧ s.servesNow q = true ∧ q.bcast = false ∧ s.formedNow q = true ∧ 1
      ≤ k ∧ k < 4) ∧
    (∃ (s : State) (q : Rq), q.port < 2 ∧ s.servesNow q = true ∧ q.bcast = false ∧ s.formedNow q = true ∧ s.frame.tc
      = 0) := by
  refine (fun h => ⟨⟨dev, rq, h.1⟩,
    ⟨dev, rq, 3, h.2.1⟩,
    ⟨{ dev with frame := { dev.frame with tc := 0 } }, rq, h.2.2⟩⟩)
    (?_ : _ ∧ _ ∧ _)
  decide +kernel

/-- Every clause of `Obligations.BulkAndObjectWrites` has a state and operands that meet its hypotheses. -/
theorem test_witness_BulkAndObjectWrites :
    (∃ (s : State) (q : Rq) (stop : Bool) (items : List BulkItem) (b : Bulk) (t : State), s.servesNow q = true ∧
      s.formedNow q = true ∧ bulkOk items = true ∧ s.runSteps q.port stop {} (bulkSteps items) = (b, [], t)) ∧
    (∃ (s : State) (q : Rq) (stop : Bool) (items : List BulkItem) (b : Bulk) (x : BulkStep) (xs : List BulkStep) (t :
      State), s.servesNow q = true ∧ s.formedNow q = true ∧ bulkOk items = true ∧ s.runSteps q.port stop {}
      (bulkSteps items) = (b, x :: xs, t)) ∧
    (∃ (s : State) (q : Rq) (items : List BulkItem), s.servesNow q = true ∧ (s.formedNow q = false ∨ bulkOk items =
      false)) ∧
    (∃ (s : State) (q : Rq) (b : Bulk) (x : BulkStep), s.servesNow q = true ∧ b.passes x = false ∧ s.writeWaits
      x.index x.sub x.value = none) ∧
    (∃ (s : State) (q : Rq) (b : Bulk), s.servesNow q = true ∧ b.stop = true) ∧
    (∃ (s : State) (w : Wr) (index : Nat) (sub : Nat) (st : Nat) (t : State), Safety.admits s w index sub = true ∧
      s.objectRule .clean w.q.port index sub (Safety.valueOf s w index sub) = (st, t) ∧ refuses st = false) ∧
    (∃ (s : State) (w : Wr) (index : Nat) (sub : Nat) (st : Nat) (t : State), Safety.admits s w index sub = true ∧
      s.objectRule .clean w.q.port index sub (Safety.valueOf s w index sub) = (st, t) ∧ refuses st = true) ∧
    (∃ (s : State) (w : Wr) (index : Nat) (sub : Nat), s.servesNow w.q = true ∧ s.formedNow w.q = true ∧ s.writeWaits
      index sub (w.value &&& w.mask) = none ∧ s.precheck w.q.port index sub w.mask = none ∧ (objRow index sub).isSome
      = true ∧ w.mask = 0) ∧
    (∃ (s : State) (w : Wr) (index : Nat) (sub : Nat) (st : Nat), s.servesNow w.q = true ∧ s.formedNow w.q = true ∧
      s.writeWaits index sub (w.value &&& w.mask) = none ∧ s.precheck w.q.port index sub w.mask = some st) ∧
    (∃ (s : State) (w : Wr), s.servesNow w.q = true ∧ s.formedNow w.q = false) := by
  refine (fun h0 h1 => ⟨⟨dev, rq, true, [.run 0x2004 1 [7]], (dev.runSteps rq.port true {} (bulkSteps [.run 0x2004 1 [7]])).1,
      (dev.runSteps rq.port true {} (bulkSteps [.run 0x2004 1 [7]])).2.2, h0.1⟩,
    ⟨(dev.wr PW_DOMAIN_STATE 0x00 3), rq, false, [.run 0x2004 1 [7], .run 0x4100 1 [5]], ((dev.wr PW_DOMAIN_STATE
      0x00 3).runSteps rq.port false {} (bulkSteps [.run 0x2004 1 [7], .run 0x4100 1 [5]])).1, (((dev.wr
      PW_DOMAIN_STATE 0x00 3).runSteps rq.port false {} (bulkSteps [.run 0x2004 1 [7], .run 0x4100 1
      [5]])).2.1).headD ({ kind := .word, index := 0x2002, sub := 0, item := 0, pos := 0, value := 5 } : BulkStep),
      (((dev.wr PW_DOMAIN_STATE 0x00 3).runSteps rq.port false {} (bulkSteps [.run 0x2004 1 [7], .run 0x4100 1
      [5]])).2.1).tail, ((dev.wr PW_DOMAIN_STATE 0x00 3).runSteps rq.port false {} (bulkSteps [.run 0x2004 1 [7],
      .run 0x4100 1 [5]])).2.2, h0.2.1⟩,
    ⟨dev, rq, ([] : List BulkItem), h0.2.2.1⟩,
    ⟨dev, rq, {}, { kind := .word, index := 0x2002, sub := 0, item := 0, pos := 0, value := 5 }, h0.2.2.2.1⟩,
    ⟨dev, rq, ({ stop := true } : Bulk), h0.2.2.2.2.1⟩,
    ⟨dev, wr 5, 0x2004, 1, (dev.objectRule .clean (wr 5).q.port 0x2004 1 (Safety.valueOf dev (wr 5) 0x2004 1)).1,
      (dev.objectRule .clean (wr 5).q.port 0x2004 1 (Safety.valueOf dev (wr 5) 0x2004 1)).2, h0.2.2.2.2.2.1⟩,
    ⟨dev, wr 0xFFFFFF, 0x2004, 1, (dev.objectRule .clean (wr 0xFFFFFF).q.port 0x2004 1 (Safety.valueOf dev (wr
      0xFFFFFF) 0x2004 1)).1, (dev.objectRule .clean (wr 0xFFFFFF).q.port 0x2004 1 (Safety.valueOf dev (wr 0xFFFFFF)
      0x2004 1)).2, h0.2.2.2.2.2.2.1⟩,
    ⟨dev, { wr 5 with mask := 0 }, 0x2004, 1, h0.2.2.2.2.2.2.2.1⟩,
    ⟨dev, wr 5, 0x2000, 0, stAccess, h0.2.2.2.2.2.2.2.2⟩,
    ⟨(ringUp).setPort 0
      { (dev.port 0) with reqs := List.replicate 4 { fromD := false, frame := request dev.address 1 } }, wr 1, h1⟩⟩)
    (?_ : _ ∧ _ ∧ _ ∧ _ ∧ _ ∧ _ ∧ _ ∧ _ ∧ _) ?_ <;> decide +kernel

/-- Every clause of `Obligations.TokensAndSections` has a state and operands that meet its hypotheses. -/
theorem test_witness_TokensAndSections :
    (∃ (s : State) (p : Nat), Safety.wf s = true ∧ s.pairUp p = true) ∧
    (∃ (s : State) (p : Nat), Safety.wf s = true ∧ s.pairUp p = true ∧ s.acting = true ∧ s.address < 256) ∧
    (∃ (s : State) (p : Nat) (dest : Nat), Safety.wf s = true ∧ s.pairUp p = true ∧ s.toUs dest = false) ∧
    (∃ (s : State) (p : Nat), Safety.wf s = true ∧ s.pairUp p = false) ∧
    (∃ (s : State) (k : Token) (ks : List Token), Safety.wf s = true ∧ s.tokens = k :: ks ∧ s.svc.held = none ∧
      k.port < 2) ∧
    (∃ (s : State), Safety.wf s = true ∧ (s.tokens = [] ∨ s.svc.held ≠ none)) ∧
    (∃ (s : State), Safety.wf s = true ∧ s.on SE_EPOCH_KEY_SET = false) ∧
    (∃ (s : State) (k : Token), Safety.wf s = true ∧ s.judgeToken k = 0) ∧
    (∃ (s : State) (w : Wr) (k : Nat), w.q.port < 2 ∧ k < 16 ∧ Safety.wf s = true ∧ Safety.admits s w 0x1302 0 =
      true) ∧
    (∃ (s : State) (w : Wr) (k : Nat), w.q.port < 2 ∧ k < 16 ∧ Safety.wf s = true ∧ Safety.admits s w 0x1341 (k % 8)
      = true ∧ s.arbMask ||| 2 ^ (k % 8) = 255) ∧
    (∃ (s : State) (w : Wr) (k : Nat), w.q.port < 2 ∧ k < 16 ∧ Safety.wf s = true ∧ Safety.admits s w 0x1341 (k % 8)
      = true ∧ s.arbMask ||| 2 ^ (k % 8) ≠ 255) ∧
    (∃ (s : State) (w : Wr) (k : Nat), w.q.port < 2 ∧ k < 16 ∧ Safety.wf s = true ∧ s.servesNow w.q = true ∧
      s.formedNow w.q = true ∧ s.waitsFor 0x1341 (k % 8) = none ∧ s.available 0x1341 (k % 8) = true ∧ w.mask =
      BitVec.allOnes 32 ∧ s.get SE_EPOCH_EPOCH ≠ 0 ∧ s.get SE_EPOCH_ACTIVE = w.q.port + 1) := by
  refine (fun h0 h1 => ⟨⟨(dev.set TC_STATUS_STATE 5).wr FL_STATUS_STATE (2 * dev.timingPort) 4, 0, h0.1⟩,
    ⟨(dev.set TC_STATUS_STATE 5).wr FL_STATUS_STATE (2 * dev.timingPort) 4, 0, h0.2.1⟩,
    ⟨(dev.set TC_STATUS_STATE 5).wr FL_STATUS_STATE (2 * dev.timingPort) 4, 0, 77, h0.2.2.1⟩,
    ⟨{ dev with pending := [.coldReset, .frameTick {}] }, 0, h0.2.2.2.1⟩,
    ⟨{ keyed with tokens := [token (keyed.expectedTag (token 0))] }, token (keyed.expectedTag (token 0)), ([] : List
      Token), h0.2.2.2.2.1⟩,
    ⟨{ dev with pending := [.coldReset, .frameTick {}] }, h0.2.2.2.2.2.1⟩,
    ⟨{ dev with pending := [.coldReset, .frameTick {}] }, h0.2.2.2.2.2.2.1⟩,
    ⟨{ keyed with tokens := [token (keyed.expectedTag (token 0))] }, token (keyed.expectedTag (token 0)),
      h0.2.2.2.2.2.2.2.1⟩,
    ⟨{ dev with pending := [.coldReset, .frameTick {}] }, wr 1, 5, h0.2.2.2.2.2.2.2.2⟩,
    ⟨{ dev with arbMask := 0xF7 }, wr 5, 11, h1.1⟩,
    ⟨{ dev with pending := [.coldReset, .frameTick {}] }, wr 1, 5, h1.2.1⟩,
    ⟨(dev.set SE_EPOCH_EPOCH 4).set SE_EPOCH_ACTIVE 1, wr 1, 5, h1.2.2⟩⟩)
    (?_ : _ ∧ _ ∧ _ ∧ _ ∧ _ ∧ _ ∧ _ ∧ _ ∧ _) (?_ : _ ∧ _ ∧ _) <;> decide +kernel

/-- Every clause of `Obligations.SectionsAcquired` has a state and operands that meet its hypotheses. -/
theorem test_witness_SectionsAcquired :
    (∃ (s : State) (w : Wr), w.q.port < 2 ∧ Safety.admits s w 0x1301 0 = true ∧ Safety.wf s = true ∧ (∀ k < 16,
      (Safety.valueOf s w 0x1301 0).toNat.testBit k = true → s.rd SE_SECTION_OWNER_OWNER k = 0 ∨ s.rd
      SE_SECTION_OWNER_OWNER k = w.q.port + 1)) ∧
    (∃ (s : State) (w : Wr), w.q.port < 2 ∧ Safety.admits s w 0x1301 0 = true ∧ (∀ k < 16, (Safety.valueOf s w 0x1301
      0).toNat.testBit k = true → s.rd SE_SECTION_OWNER_OWNER k = w.q.port + 1)) ∧
    (∃ (s : State) (w : Wr) (k : Nat), w.q.port < 2 ∧ k < 16 ∧ Safety.admits s w 0x1301 0 = true ∧ (Safety.valueOf s
      w 0x1301 0).toNat.testBit k = true ∧ s.rd SE_SECTION_OWNER_OWNER k ≠ 0 ∧ s.rd SE_SECTION_OWNER_OWNER k ≠
      w.q.port + 1) ∧
    (∃ (s : State) (w : Wr), w.q.port < 2 ∧ s.servesNow w.q = true ∧ s.formedNow w.q = true ∧ s.waitsFor 0x1301 0 =
      none ∧ s.available 0x1301 0 = true ∧ w.mask = BitVec.allOnes 32 ∧ s.get SE_EPOCH_EPOCH ≠ 0 ∧ s.get
      SE_EPOCH_ACTIVE ≠ w.q.port + 1) :=
  ⟨⟨dev, wr 0x8005, ⟨by decide +kernel, by decide +kernel, by decide +kernel, below16 (by decide +kernel)⟩⟩,
   ⟨dev, wr 0x8005, ⟨by decide +kernel, by decide +kernel, below16 (by decide +kernel)⟩⟩,
   ⟨dev.wr SE_SECTION_OWNER_OWNER 2 2, wr 0x8005, 2, by decide +kernel⟩,
   ⟨(dev.set SE_EPOCH_EPOCH 4).set SE_EPOCH_ACTIVE 2, wr 0x8005, by decide +kernel⟩⟩

/-- Every clause of `Obligations.DownloadCommands` has a state and operands that meet its hypotheses. -/
theorem test_witness_DownloadCommands :
    (∃ (s : State) (w : Wr), Safety.admits s w 0x1401 0 = true ∧ s.modeNow = modeBoot ∧ (Safety.valueOf s w 0x1401
      0).bits 2 0 = 1 ∧ bootAllowed 1 (s.get BT_STATUS_STATE) = true ∧ 768 ≤ s.get BT_LENGTH_BYTES ∧ s.get
      BT_LENGTH_BYTES ≤ 786944) ∧
    (∃ (s : State) (w : Wr), Safety.admits s w 0x1401 0 = true ∧ s.modeNow = modeBoot ∧ (Safety.valueOf s w 0x1401
      0).bits 2 0 = 1 ∧ bootAllowed 1 (s.get BT_STATUS_STATE) = true ∧ (s.get BT_LENGTH_BYTES < 768 ∨ 786944 < s.get
      BT_LENGTH_BYTES)) ∧
    (∃ (s : State) (w : Wr), Safety.admits s w 0x1401 0 = true ∧ s.modeNow = modeBoot ∧ (Safety.valueOf s w 0x1401
      0).bits 2 0 = 2 ∧ s.get BT_STATUS_STATE = 1) ∧
    (∃ (s : State) (w : Wr), Safety.admits s w 0x1401 0 = true ∧ s.modeNow = modeBoot ∧ (Safety.valueOf s w 0x1401
      0).bits 2 0 = 3 ∧ s.get BT_STATUS_STATE = 3) ∧
    (∃ (s : State) (w : Wr), Safety.admits s w 0x1401 0 = true ∧ s.modeNow = modeBoot ∧ (Safety.valueOf s w 0x1401
      0).bits 2 0 = 4 ∧ bootAllowed 4 (s.get BT_STATUS_STATE) = true) ∧
    (∃ (s : State) (w : Wr), Safety.admits s w 0x1401 0 = true ∧ (Safety.valueOf s w 0x1401 0).bits 2 0 = 2 ∧ s.get
      BT_STATUS_STATE ≠ 1) ∧
    (∃ (s : State) (w : Wr), Safety.admits s w 0x1401 0 = true ∧ (Safety.valueOf s w 0x1401 0).bits 2 0 = 3 ∧ s.get
      BT_STATUS_STATE ≠ 3) ∧
    (∃ (s : State) (w : Wr), Safety.admits s w 0x1401 0 = true ∧ (Safety.valueOf s w 0x1401 0).bits 2 0 = 3 ∧ s.get
      BT_STATUS_STATE = 3 ∧ s.modeNow ≠ modeBoot) := by
  refine (fun h => ⟨⟨(loading 0 []).set BT_LENGTH_BYTES 768, wr 0x50001, h.1⟩,
    ⟨loading 1 [], wr 0x50001, h.2.1⟩,
    ⟨loading 1 [], wr 2, h.2.2.1⟩,
    ⟨(loading 3 []).set BT_LENGTH_BYTES 768, wr 3, h.2.2.2.1⟩,
    ⟨loading 1 [], wr 4, h.2.2.2.2.1⟩,
    ⟨dev, wr 2, h.2.2.2.2.2.1⟩,
    ⟨dev, wr 3, h.2.2.2.2.2.2.1⟩,
    ⟨dev.set BT_STATUS_STATE 3, wr 3, h.2.2.2.2.2.2.2⟩⟩)
    (?_ : _ ∧ _ ∧ _ ∧ _ ∧ _ ∧ _ ∧ _ ∧ _)
  decide +kernel

/-- Every clause of `Obligations.ImageAndDomains` has a state and operands that meet its hypotheses. -/
theorem test_witness_ImageAndDomains :
    (∃ (s : State) (q : Rq) (f : ImgFrame), Safety.wf s = true ∧ s.servesNow q = true ∧ s.formedNow q = true ∧
      q.bcast = false ∧ s.notActive q.port = false ∧ s.holdsGuard q.port 0x1400 = true ∧ s.get BT_STATUS_STATE = 1 ∧
      f.session = s.get BT_STATUS_SESSION ∧ f.offset % 256 = 0 ∧ f.offset / 256 + f.chunks.length ≤ s.chunkCount) ∧
    (∃ (s : State) (q : Rq) (f : ImgFrame), Safety.wf s = true ∧ s.servesNow q = true ∧ s.formedNow q = true ∧
      q.bcast = false ∧ s.notActive q.port = false ∧ s.holdsGuard q.port 0x1400 = true ∧ (s.get BT_STATUS_STATE ≠ 1 ∨
      f.session ≠ s.get BT_STATUS_SESSION ∨ f.offset % 256 ≠ 0 ∨ s.chunkCount < f.offset / 256 + f.chunks.length)) ∧
    (∃ (s : State), Safety.wf s = true ∧ s.running 0x1C = true ∧ s.get BT_STATUS_STATE = 2 ∧ s.firstMissing = none) ∧
    (∃ (s : State), Safety.wf s = true ∧ s.running 0x1C = true ∧ s.get BT_STATUS_STATE = 2 ∧ s.firstMissing.isSome =
      true) ∧
    (∃ (s : State), Safety.wf s = true ∧ s.get BT_STATUS_STATE ≠ 2) ∧
    (∃ (s : State), Safety.wf s = true ∧ s.get BT_STATUS_STATE = 5 ∧ s.running 0x1C = true ∧ s.on CK_STATUS_SRC =
      true) ∧
    (∃ (s : State), Safety.wf s = true ∧ (s.get BT_STATUS_STATE ≠ 5 ∨ s.on CK_STATUS_SRC = false)) := by
  refine (fun h => ⟨⟨loading 1 [], rq, { offset := 256, session := 5, chunks := [7, 8] }, h.1⟩,
    ⟨dev, rq, { offset := 256, session := 5, chunks := [7, 8] }, h.2.1⟩,
    ⟨loading 2 [(0, 1), (1, 2), (2, 3), (3, 4)], h.2.2.1⟩,
    ⟨loading 2 [(0, 1), (1, 2), (3, 4)], h.2.2.2.1⟩,
    ⟨dev, h.2.2.2.2.1⟩,
    ⟨dev, h.2.2.2.2.2.1⟩,
    ⟨(dev.set CK_STATUS_SRC 0), h.2.2.2.2.2.2⟩⟩)
    (?_ : _ ∧ _ ∧ _ ∧ _ ∧ _ ∧ _ ∧ _)
  decide +kernel

/-- Every clause of `Obligations.Modes` has a state and operands that meet its hypotheses. -/
theorem test_witness_Modes :
    (∃ (s : State) (w : Wr), Safety.admits s w 0x1801 0 = true ∧ s.on MD_MODE_ENTERING = false ∧ ((Safety.valueOf s w
      0x1801 0).bits 3 0) = 2 ∧ s.modeNow = modeBoot ∧ s.serviceOk = true) ∧
    (∃ (s : State) (w : Wr), Safety.admits s w 0x1801 0 = true ∧ s.on MD_MODE_ENTERING = false ∧ ((Safety.valueOf s w
      0x1801 0).bits 3 0) = 2 ∧ s.modeNow = modeService) ∧
    (∃ (s : State) (w : Wr), Safety.admits s w 0x1801 0 = true ∧ s.on MD_MODE_ENTERING = false ∧ ((Safety.valueOf s w
      0x1801 0).bits 3 0) = 2 ∧ s.modeNow = modeBoot ∧ s.serviceOk = false) ∧
    (∃ (s : State) (w : Wr), Safety.admits s w 0x1801 0 = true ∧ s.on MD_MODE_ENTERING = false ∧ ((Safety.valueOf s w
      0x1801 0).bits 3 0) = 2 ∧ s.modeNow ≠ modeBoot ∧ s.modeNow ≠ modeService) ∧
    (∃ (s : State) (w : Wr), Safety.admits s w 0x1801 0 = true ∧ s.on MD_MODE_ENTERING = false ∧ ((Safety.valueOf s w
      0x1801 0).bits 3 0) = 4 ∧ s.modeNow = modeService ∧ s.dormantOk = true) ∧
    (∃ (s : State) (w : Wr), Safety.admits s w 0x1801 0 = true ∧ s.on MD_MODE_ENTERING = false ∧ ((Safety.valueOf s w
      0x1801 0).bits 3 0) = 4 ∧ s.modeNow = modeService ∧ s.dormantOk = false) ∧
    (∃ (s : State) (w : Wr), Safety.admits s w 0x1801 0 = true ∧ s.on MD_MODE_ENTERING = false ∧ ((Safety.valueOf s w
      0x1801 0).bits 3 0) = 4 ∧ s.modeNow ≠ modeService) ∧
    (∃ (s : State) (w : Wr), Safety.admits s w 0x1801 0 = true ∧ s.on MD_MODE_ENTERING = true) ∧
    (∃ (s : State) (m : Nat) (due : Nat), Safety.wf s = true ∧ due ≤ s.frame.ticks ∧ s.mode.next = some (m, 1, due) ∧
      s.modeNow = modeBoot ∧ s.serviceOk = true) ∧
    (∃ (s : State) (m : Nat) (due : Nat), Safety.wf s = true ∧ due ≤ s.frame.ticks ∧ s.mode.next = some (m, 1, due) ∧
      (s.modeNow ≠ modeBoot ∨ s.serviceOk = false)) ∧
    (∃ (s : State) (m : Nat) (due : Nat), Safety.wf s = true ∧ due ≤ s.frame.ticks ∧ s.mode.next = some (m, 6, due) ∧
      s.modeNow = modeService ∧ s.dormantOk = true) ∧
    (∃ (s : State) (m : Nat) (due : Nat), Safety.wf s = true ∧ due ≤ s.frame.ticks ∧ s.mode.next = some (m, 6, due) ∧
      (s.modeNow ≠ modeService ∨ s.dormantOk = false)) ∧
    (∃ (s : State) (m : Nat) (due : Nat), Safety.wf s = true ∧ due ≤ s.frame.ticks ∧ s.mode.next = some (m, 5, due) ∧
      s.modeNow = modeHoldover ∧ s.on TC_STATUS_LOCK = true) ∧
    (∃ (s : State) (m : Nat) (due : Nat), Safety.wf s = true ∧ due ≤ s.frame.ticks ∧ s.mode.next = some (m, 3, due) ∧
      s.modeNow = modeSurvey) ∧
    (∃ (s : State) (m : Nat) (due : Nat), Safety.wf s = true ∧ due ≤ s.frame.ticks ∧ s.mode.next = some (m, 10, due)
      ∧ s.modeNow = modeDormant) ∧
    (∃ (s : State) (m : Nat) (due : Nat), Safety.wf s = true ∧ (s.mode.next = none ∨ (s.mode.next = some (m, 5, due)
      ∧ s.frame.ticks < due))) ∧
    (∃ (s : State), Safety.wf s = true ∧ s.modeNow = modeDormant ∧ s.on MD_MODE_ENTERING = true ∧ s.mode.entry = 2 ∧
      s.mode.wake = false) ∧
    (∃ (s : State), Safety.wf s = true ∧ s.modeNow = modeDormant ∧ s.on MD_MODE_ENTERING = true ∧ s.mode.entry = 2 ∧
      s.mode.wake = true) ∧
    (∃ (s : State), Safety.wf s = true ∧ (s.modeNow ≠ modeDormant ∨ s.mode.entry ≠ 2)) := by
  refine (fun h0 h1 h2 => ⟨⟨dev.set MD_MODE_MODE modeBoot, wr 2, h0.1⟩,
    ⟨dev, wr 2, h0.2.1⟩,
    ⟨loading 1 [], wr 2, h0.2.2.1⟩,
    ⟨(dev.set TC_STATUS_STATE 6).set MD_MODE_MODE modeHoldover, wr 2, h0.2.2.2.1⟩,
    ⟨dev, wr 4, h0.2.2.2.2.1⟩,
    ⟨lane5 .track, wr 4, h0.2.2.2.2.2.1⟩,
    ⟨(dev.set TC_STATUS_STATE 6).set MD_MODE_MODE modeHoldover, wr 4, h0.2.2.2.2.2.2.1⟩,
    ⟨dev.set MD_MODE_ENTERING 1, wr 2, h0.2.2.2.2.2.2.2.1⟩,
    ⟨{ dev.set MD_MODE_MODE modeBoot with mode := { dev.mode with next := some (modeService, 1, 10) } }, modeService,
      10, h0.2.2.2.2.2.2.2.2⟩,
    ⟨{ (dev.set MD_MODE_MODE modeBoot).set CK_STATUS_SRC 0 with mode := { dev.mode with next := some (modeService, 1, 10) } },
      modeService, 10, h1.1⟩,
    ⟨{ dev with mode := { dev.mode with next := some (modeDormant, 6, 10) } }, modeDormant, 10, h1.2.1⟩,
    ⟨{ dev.set MD_MODE_MODE modeBoot with mode := { dev.mode with next := some (modeDormant, 6, 10) } }, modeDormant,
      10, h1.2.2.1⟩,
    ⟨{ dev.set MD_MODE_MODE modeHoldover with mode := { dev.mode with next := some (modeService, 5, 10) } },
      modeService, 10, h1.2.2.2.1⟩,
    ⟨{ dev.set MD_MODE_MODE modeSurvey with mode := { dev.mode with next := some (modeService, 3, 10) } },
      modeService, 10, h1.2.2.2.2.1⟩,
    ⟨{ dev.set MD_MODE_MODE modeDormant with mode := { dev.mode with next := some (modeService, 10, 10) } },
      modeService, 10, h1.2.2.2.2.2.1⟩,
    ⟨dev, 5, 5, h1.2.2.2.2.2.2.1⟩,
    ⟨{ ((dev.set MD_MODE_MODE modeDormant).set MD_MODE_ENTERING 1).set CK_STATUS_SRC 0 with mode := { dev.mode with entry := 2, wake := false } },
      h1.2.2.2.2.2.2.2.1⟩,
    ⟨{ (dev.set MD_MODE_MODE modeDormant).set MD_MODE_ENTERING 1 with mode := { dev.mode with entry := 2, wake := true } },
      h1.2.2.2.2.2.2.2.2⟩,
    ⟨dev, h2⟩⟩)
    (?_ : _ ∧ _ ∧ _ ∧ _ ∧ _ ∧ _ ∧ _ ∧ _ ∧ _) (?_ : _ ∧ _ ∧ _ ∧ _ ∧ _ ∧ _ ∧ _ ∧ _ ∧ _) ?_ <;> decide +kernel

/-- Every clause of `Obligations.PowerRequests` has a state and operands that meet its hypotheses. -/
theorem test_witness_PowerRequests :
    (∃ (s : State) (w : Wr), Safety.admits s w 0x6001 2 = true ∧ (Safety.valueOf s w 0x6001 2).bits 31 31 = 1 ∧
      s.modeNow ≠ modeDormant ∧ s.on MD_MODE_ENTERING = false ∧ s.namedDomains.any (fun d => s.domState d = 0) =
      false ∧ s.namedDomains.contains (0x1D + w.q.port) = false ∧ s.namedDomains ≠ [] ∧ s.namedDomains.all (accepts
      (PowReq.mk s.namedDomains ((Safety.valueOf s w 0x6001 2).bits 1 0) (s.frame.ticks + 1) false).target) = true ∧
      s.pow.run = none ∧ s.pow.pend = none) ∧
    (∃ (s : State) (w : Wr), Safety.admits s w 0x6001 2 = true ∧ (Safety.valueOf s w 0x6001 2).bits 31 31 = 1 ∧
      s.modeNow ≠ modeDormant ∧ s.on MD_MODE_ENTERING = false ∧ s.namedDomains.any (fun d => s.domState d = 0) =
      false ∧ s.namedDomains.contains (0x1D + w.q.port) = false ∧ s.namedDomains ≠ [] ∧ s.namedDomains.all (accepts
      (PowReq.mk s.namedDomains ((Safety.valueOf s w 0x6001 2).bits 1 0) (s.frame.ticks + 1) false).target) = true ∧
      s.pow.run.isSome = true ∧ s.pow.pend = none) ∧
    (∃ (s : State) (w : Wr) (r : PowReq), Safety.admits s w 0x6001 2 = true ∧ (Safety.valueOf s w 0x6001 2).bits 31
      31 = 1 ∧ s.modeNow ≠ modeDormant ∧ s.on MD_MODE_ENTERING = false ∧ s.namedDomains.any (fun d => s.domState d =
      0) = false ∧ s.namedDomains.contains (0x1D + w.q.port) = false ∧ s.namedDomains ≠ [] ∧ s.namedDomains.all
      (accepts (PowReq.mk s.namedDomains ((Safety.valueOf s w 0x6001 2).bits 1 0) (s.frame.ticks + 1) false).target)
      = true ∧ s.pow.pend = some r) ∧
    (∃ (s : State) (w : Wr), Safety.admits s w 0x6001 2 = true ∧ (Safety.valueOf s w 0x6001 2).bits 31 31 = 1 ∧
      s.modeNow ≠ modeDormant ∧ s.on MD_MODE_ENTERING = false ∧ s.namedDomains.any (fun d => s.domState d = 0) =
      false ∧ s.namedDomains.contains (0x1D + w.q.port) = false ∧ (s.namedDomains = [] ∨ s.namedDomains.all (accepts
      (PowReq.mk s.namedDomains ((Safety.valueOf s w 0x6001 2).bits 1 0) (s.frame.ticks + 1) false).target) = false)) ∧
    (∃ (s : State) (w : Wr), Safety.admits s w 0x6001 2 = true ∧ (Safety.valueOf s w 0x6001 2).bits 31 31 = 1 ∧
      s.modeNow ≠ modeDormant ∧ (s.on MD_MODE_ENTERING = true ∨ s.namedDomains.any (fun d => s.domState d = 0) = true
      ∨ s.namedDomains.contains (0x1D + w.q.port) = true)) ∧
    (∃ (s : State) (w : Wr), Safety.admits s w 0x6001 2 = true ∧ (Safety.valueOf s w 0x6001 2).bits 31 31 = 1 ∧
      s.modeNow = modeDormant) := by
  refine (fun h => ⟨⟨dev.set PW_REQ_MASK_LO_DOMAINS 0x10001, wr 0x80000001, h.1⟩,
    ⟨{ dev.set PW_REQ_MASK_LO_DOMAINS 0x10001 with pow := { dev.pow with run := some (neap 10) } }, wr 0x80000001,
      h.2.1⟩,
    ⟨{ dev.set PW_REQ_MASK_LO_DOMAINS 0x10001 with pow := { dev.pow with run := some (neap 10), pend := some (neap 10) } },
      wr 0x80000001, neap 10, h.2.2.1⟩,
    ⟨dev, wr 0x80000001, h.2.2.2.1⟩,
    ⟨dev.set MD_MODE_ENTERING 1, wr 0x80000001, h.2.2.2.2.1⟩,
    ⟨{ (dev.set MD_MODE_MODE modeDormant).set MD_MODE_ENTERING 1 with portA := { dev.portA with reqs := [{ fromD := false, frame := { request dev.address 3 with len := 2, blocks := [] } }] } },
      wr 0x80000001, h.2.2.2.2.2⟩⟩)
    (?_ : _ ∧ _ ∧ _ ∧ _ ∧ _ ∧ _)
  decide +kernel

/-- Every clause of `Obligations.NeapEntry` has a state and operands that meet its hypotheses. -/
theorem test_witness_NeapEntry :
    (∃ (s : State) (r : PowReq), Safety.wf s = true ∧ s.pow.run = some r ∧ s.get PW_STATUS_PHASE = 0 ∧ r.due ≤
      s.frame.ticks ∧ r.target = 3) ∧
    (∃ (s : State) (r : PowReq), Safety.wf s = true ∧ s.pow.run = some r ∧ s.get PW_STATUS_PHASE = 0 ∧ r.due ≤
      s.frame.ticks ∧ r.target = 1) ∧
    (∃ (s : State) (r : PowReq), Safety.wf s = true ∧ s.pow.run = some r ∧ s.get PW_STATUS_PHASE = 0 ∧ r.due ≤
      s.frame.ticks ∧ r.target = 2 ∧ refuser (s.runVotes r.doms) 127 r.doms = none) ∧
    (∃ (s : State) (r : PowReq) (k : Nat) (d : Nat), Safety.wf s = true ∧ s.pow.run = some r ∧ s.get PW_STATUS_PHASE
      = 0 ∧ r.due ≤ s.frame.ticks ∧ r.target = 2 ∧ refuser (s.runVotes r.doms) 127 r.doms = some (k, d)) ∧
    (∃ (s : State) (r : PowReq), Safety.wf s = true ∧ s.pow.run = some r ∧ s.frame.ticks < r.due) ∧
    (∃ (s : State) (r : PowReq) (k : Nat) (d : Nat), Safety.wf s = true ∧ s.pow.run = some r ∧ s.get PW_STATUS_PHASE
      = 1 ∧ r.due ≤ s.frame.ticks ∧ r.dormant = false ∧ refuser (s.neapVotes r.doms) 127 r.doms = some (k, d)) ∧
    (∃ (s : State) (r : PowReq), Safety.wf s = true ∧ s.pow.run = some r ∧ s.get PW_STATUS_PHASE = 1 ∧ r.due ≤
      s.frame.ticks ∧ refuser (s.neapVotes r.doms) 127 r.doms = none) ∧
    (∃ (s : State) (r : PowReq), Safety.wf s = true ∧ s.pow.run = some r ∧ s.get PW_STATUS_PHASE ≠ 1) ∧
    (∃ (s : State) (r : PowReq) (d : Nat) (ds : List Nat), Safety.wf s = true ∧ s.pow.run = some r ∧ s.get
      PW_STATUS_PHASE = 2 ∧ s.pow.toIsolate = d :: ds ∧ refuser (s.neapVotes r.doms) 15 (r.doms ++ s.pow.isolated ++
      s.pow.toIsolate) = none) ∧
    (∃ (s : State) (r : PowReq) (k : Nat) (d : Nat), Safety.wf s = true ∧ s.pow.run = some r ∧ s.get PW_STATUS_PHASE
      = 2 ∧ refuser (s.neapVotes r.doms) 15 (r.doms ++ s.pow.isolated ++ s.pow.toIsolate) = some (k, d)) ∧
    (∃ (s : State) (r : PowReq), Safety.wf s = true ∧ s.pow.run = some r ∧ s.get PW_STATUS_PHASE ≠ 2) ∧
    (∃ (s : State) (r : PowReq), Safety.wf s = true ∧ s.pow.run = some r ∧ s.get PW_STATUS_PHASE = 3) ∧
    (∃ (s : State) (r : PowReq), Safety.wf s = true ∧ s.pow.run = some r ∧ s.get PW_STATUS_PHASE ≠ 3) := by
  refine (fun h0 h1 => ⟨⟨{ dev.set PW_REQ_MASK_LO_DOMAINS 0x10001 with pow := { dev.pow with run := some (neap 10) } }, neap 10, h0.1⟩,
    ⟨{ dev with pow := { dev.pow with run := some { neap 10 with target := 1 } } }, { neap 10 with target := 1 },
      h0.2.1⟩,
    ⟨{ dev with pow := { dev.pow with run := some { neap 10 with target := 2 } } }, { neap 10 with target := 2 },
      h0.2.2.1⟩,
    ⟨(fun s : State =>
      { s.setLane 5 { s.lane 5 with st := .track } with pow := { s.pow with run := some { neap 10 with doms := [0x1C], target := 2 } } })
      dev, { neap 10 with doms := [0x1C], target := 2 }, 6, 0x1C, h0.2.2.2.1⟩,
    ⟨{ dev with pow := { dev.pow with run := some (neap 11) } }, neap 11, h0.2.2.2.2.1⟩,
    ⟨{ (dev.set PW_STATUS_PHASE 1).set PW_HOLD_LO_DOMAINS 0x10000 with pow := { dev.pow with run := some (neap 10) } },
      neap 10, 0, 0x10, h0.2.2.2.2.2.1⟩,
    ⟨{ dev.set PW_STATUS_PHASE 1 with pow := { dev.pow with run := some (neap 10) } }, neap 10, h0.2.2.2.2.2.2.1⟩,
    ⟨{ dev.set PW_REQ_MASK_LO_DOMAINS 0x10001 with pow := { dev.pow with run := some (neap 10) } }, neap 10,
      h0.2.2.2.2.2.2.2.1⟩,
    ⟨{ dev.set PW_STATUS_PHASE 2 with pow := { dev.pow with run := some (neap 10), toIsolate := [0x10] } }, neap 10,
      0x10, [], h0.2.2.2.2.2.2.2.2⟩,
    ⟨{ ((dev.setLane 5 { dev.lane 5 with st := .track }).setBoth LP_MON_ASSIGNED.index 5 (BitVec.ofNat 32 0x80000000)).set PW_STATUS_PHASE 2 with pow := { dev.pow with run := some { neap 10 with doms := [0x1C, 0x10, 0x1B] } } },
      { neap 10 with doms := [0x1C, 0x10, 0x1B] }, 1, 0x1B, h1.1⟩,
    ⟨{ dev.set PW_REQ_MASK_LO_DOMAINS 0x10001 with pow := { dev.pow with run := some (neap 10) } }, neap 10, h1.2.1⟩,
    ⟨{ dev.set PW_STATUS_PHASE 3 with pow := { dev.pow with run := some (neap 10) } }, neap 10, h1.2.2.1⟩,
    ⟨{ dev.set PW_REQ_MASK_LO_DOMAINS 0x10001 with pow := { dev.pow with run := some (neap 10) } }, neap 10,
      h1.2.2.2⟩⟩)
    (?_ : _ ∧ _ ∧ _ ∧ _ ∧ _ ∧ _ ∧ _ ∧ _ ∧ _) (?_ : _ ∧ _ ∧ _ ∧ _) <;> decide +kernel

/-- Every clause of `Obligations.WakesFromSleep` has a state and operands that meet its hypotheses. -/
theorem test_witness_WakesFromSleep :
    (∃ (s : State) (d : Nat) (client : Nat), Safety.wf s = true ∧ d < 0x21 ∧ s.modeNow ≠ modeDormant ∧ s.wakeCause d
      client = true ∧ s.isolatedNow d = false ∧ (s.domState d = 2 ∨ s.domState d = 3) ∧ (∀ x ∈ s.pow.wakes, x.dom ≠
      d) ∧ client < 256) ∧
    (∃ (s : State) (d : Nat) (client : Nat), Safety.wf s = true ∧ d < 0x21 ∧ s.modeNow ≠ modeDormant ∧ s.wakeCause d
      client = true ∧ s.isolatedNow d = true ∧ 16 ≤ d ∧ (∀ x ∈ s.pow.late, x.1 ≠ d)) ∧
    (∃ (s : State) (d : Nat) (client : Nat), Safety.wf s = true ∧ d < 0x21 ∧ (s.modeNow = modeDormant ∨ s.wakeCause d
      client = false)) ∧
    (∃ (s : State) (d : Nat) (w : Waking), Safety.wf s = true ∧ d < 0x21 ∧ s.pow.wakes.find? (fun w => w.dom = d) =
      some w ∧ w.target < 4 ∧ s.wakeReady d = true) ∧
    (∃ (s : State) (d : Nat) (w : Waking), Safety.wf s = true ∧ d < 0x21 ∧ (s.pow.wakes.find? (fun w => w.dom = d) =
      none ∨ s.wakeReady d = false)) := by
  refine (fun h => ⟨⟨dev.wr PW_DOMAIN_STATE 0x10 3, 0x10, 0xFE, h.1⟩,
    ⟨{ dev with pow := { dev.pow with isolated := [0x14] } }, 0x14, 0xFE, h.2.1⟩,
    ⟨{ ((dev.set MD_MODE_MODE modeDormant).set MD_MODE_ENTERING 1).set CK_STATUS_SRC 0 with mode := { dev.mode with entry := 2, wake := false } },
      0x14, 0xFE, h.2.2.1⟩,
    ⟨{ dev with pow := { dev.pow with wakes := [waking] } }, 0x10, waking, h.2.2.2.1⟩,
    ⟨dev, 0x14, waking, h.2.2.2.2⟩⟩)
    (?_ : _ ∧ _ ∧ _ ∧ _ ∧ _)
  decide +kernel

/-- Every clause of `Obligations.PerformanceSteps` has a state and operands that meet its hypotheses. -/
theorem test_witness_PerformanceSteps :
    (∃ (s : State) (w : Wr), Safety.wf s = true ∧ Safety.admits s w 0x6101 0 = true ∧ s.modeNow ≠ modeDormant ∧
      s.surveying = false ∧ (s.on CK_STATUS_SRC = true ∨ ((Safety.valueOf s w 0x6101 0).bits 1 0) ≠ 2) ∧ (s.on
      CK_LINK_CFG_FSEL = false ∨ ((Safety.valueOf s w 0x6101 0).bits 1 0) = 0) ∧ ((Safety.valueOf s w 0x6101 0).bits
      1 0) < 3 ∧ s.allFit s.windows (levelPath s.stepBase ((Safety.valueOf s w 0x6101 0).bits 1 0)) = true) ∧
    (∃ (s : State) (w : Wr), Safety.wf s = true ∧ Safety.admits s w 0x6101 0 = true ∧ s.modeNow ≠ modeDormant ∧
      s.surveying = false ∧ (s.on CK_STATUS_SRC = true ∨ ((Safety.valueOf s w 0x6101 0).bits 1 0) ≠ 2) ∧ (s.on
      CK_LINK_CFG_FSEL = false ∨ ((Safety.valueOf s w 0x6101 0).bits 1 0) = 0) ∧ ((Safety.valueOf s w 0x6101 0).bits
      1 0) < 3 ∧ s.allFit s.windows (levelPath s.stepBase ((Safety.valueOf s w 0x6101 0).bits 1 0)) = false) ∧
    (∃ (s : State) (w : Wr), Safety.wf s = true ∧ Safety.admits s w 0x6101 0 = true ∧ s.modeNow ≠ modeDormant ∧
      s.surveying = false ∧ (s.on CK_STATUS_SRC = true ∨ ((Safety.valueOf s w 0x6101 0).bits 1 0) ≠ 2) ∧ (s.on
      CK_LINK_CFG_FSEL = false ∨ ((Safety.valueOf s w 0x6101 0).bits 1 0) = 0) ∧ ((Safety.valueOf s w 0x6101 0).bits
      1 0) = 3) ∧
    (∃ (s : State) (w : Wr), Safety.wf s = true ∧ Safety.admits s w 0x6101 0 = true ∧ s.modeNow ≠ modeDormant ∧
      s.surveying = false ∧ ((s.on CK_STATUS_SRC = false ∧ ((Safety.valueOf s w 0x6101 0).bits 1 0) = 2) ∨ (s.on
      CK_LINK_CFG_FSEL = true ∧ ((Safety.valueOf s w 0x6101 0).bits 1 0) ≠ 0))) ∧
    (∃ (s : State) (w : Wr), Safety.wf s = true ∧ Safety.admits s w 0x6101 0 = true ∧ (s.modeNow = modeDormant ∨
      s.surveying = true)) ∧
    (∃ (s : State) (t : Nat), Safety.wf s = true ∧ s.perf.pend = some t ∧ s.mayStart t = true ∧ s.perf.step = none ∧
      s.get PL_STATUS_LEVEL < t) ∧
    (∃ (s : State) (t : Nat), Safety.wf s = true ∧ s.perf.pend = some t ∧ s.mayStart t = true ∧ s.perf.step = none ∧
      t < s.get PL_STATUS_LEVEL) ∧
    (∃ (s : State), Safety.wf s = true ∧ s.perf.pend = some (s.get PL_STATUS_LEVEL) ∧ s.mayStart (s.get
      PL_STATUS_LEVEL) = true ∧ s.perf.step = none) ∧
    (∃ (s : State) (t : Nat), Safety.wf s = true ∧ s.perf.pend = some t ∧ t ≠ s.get PL_STATUS_LEVEL ∧ s.on
      SM_STATUS_MARGINAL = true) ∧
    (∃ (s : State) (a : Nat) (b : Nat) (t : Nat), Safety.wf s = true ∧ s.perf.step = some (a, b) ∧ s.perf.freqTick =
      some t ∧ b < 3 ∧ t ≤ s.frame.ticks ∧ s.frame.tc = 0) ∧
    (∃ (s : State) (a : Nat) (b : Nat) (t : Nat), Safety.wf s = true ∧ s.perf.step = some (a, b) ∧ s.perf.freqTick =
      some t ∧ b < 3 ∧ (s.frame.ticks < t ∨ s.frame.tc ≠ 0)) ∧
    (∃ (s : State) (mv : Nat) (back : Bool), Safety.wf s = true ∧ s.perf.op = some (.writeVout mv back)) ∧
    (∃ (s : State) (mv : Nat) (back : Bool), Safety.wf s = true ∧ s.perf.op = some (.writeVout mv back) ∧
      s.perf.retries < 2) ∧
    (∃ (s : State), Safety.wf s = true ∧ s.perf.op = some .readStatus) ∧
    (∃ (s : State), Safety.wf s = true ∧ s.perf.op = some .readMode) ∧
    (∃ (s : State) (mv : Nat), Safety.wf s = true ∧ s.perf.op = some (.readVout mv)) ∧
    (∃ (s : State), Safety.wf s = true ∧ s.perf.op = none) ∧
    (∃ (s : State), Safety.wf s = true ∧ s.perf.settling = true) ∧
    (∃ (s : State), Safety.wf s = true ∧ s.perf.settling = false) := by
  refine (fun h0 h1 h2 => ⟨⟨dev, wr 1, h0.1⟩,
    ⟨(List.range 63).foldl (fun s k => s.setLane (64 + k) { s.lane k with st := .track }) (dev.set PL_STATUS_LEVEL
      2), wr 1, h0.2.1⟩,
    ⟨dev, wr 3, h0.2.2.1⟩,
    ⟨ringUp.set CK_STATUS_SRC 0, wr 2, h0.2.2.2.1⟩,
    ⟨(lane5 .track).set MD_MODE_MODE modeSurvey, wr 1, h0.2.2.2.2.1⟩,
    ⟨{ dev with perf := { dev.perf with pend := some 2 } }, 2, h0.2.2.2.2.2.1⟩,
    ⟨{ dev.set PL_STATUS_LEVEL 1 with perf := { dev.perf with pend := some 0 } }, 0, h0.2.2.2.2.2.2.1⟩,
    ⟨{ dev.set PL_STATUS_LEVEL 1 with perf := { dev.perf with pend := some 1 } }, h0.2.2.2.2.2.2.2.1⟩,
    ⟨{ dev.set SM_STATUS_MARGINAL 1 with perf := { dev.perf with pend := some 2 } }, 2, h0.2.2.2.2.2.2.2.2⟩,
    ⟨(fun s : State =>
      { s with perf := { s.perf with step := some (1, 0), freqTick := some 10 }, frame := { s.frame with tc := 0 } })
      dev, 1, 0, 10, h1.1⟩,
    ⟨{ dev with perf := { dev.perf with step := some (1, 2), freqTick := some 2 } }, 1, 2, 2, h1.2.1⟩,
    ⟨{ dev with perf := { dev.perf with op := some (.writeVout 700 true) } }, 700, true, h1.2.2.1⟩,
    ⟨{ dev with perf := { dev.perf with op := some (.writeVout 700 true) } }, 700, true, h1.2.2.2.1⟩,
    ⟨{ dev with perf := { dev.perf with op := some .readStatus } }, h1.2.2.2.2.1⟩,
    ⟨{ dev with perf := { dev.perf with op := some .readMode, step := some (1, 2) } }, h1.2.2.2.2.2.1⟩,
    ⟨{ dev with perf := { dev.perf with op := some (.readVout 700), step := some (1, 2) } }, 700, h1.2.2.2.2.2.2.1⟩,
    ⟨dev, h1.2.2.2.2.2.2.2.1⟩,
    ⟨{ dev with perf := { dev.perf with settling := true } }, h1.2.2.2.2.2.2.2.2⟩,
    ⟨dev, h2⟩⟩)
    (?_ : _ ∧ _ ∧ _ ∧ _ ∧ _ ∧ _ ∧ _ ∧ _ ∧ _) (?_ : _ ∧ _ ∧ _ ∧ _ ∧ _ ∧ _ ∧ _ ∧ _ ∧ _) ?_ <;> decide +kernel

/-- Every clause of `Obligations.DomainResets` has a state and operands that meet its hypotheses. -/
theorem test_witness_DomainResets :
    (∃ (s : State) (w : Wr) (d : Nat), Safety.wf s = true ∧ Safety.admits s w 0x6012 0 = true ∧ (Safety.valueOf s w
      0x6012 0).bits 31 31 = 1 ∧ (Safety.valueOf s w 0x6012 0).bits 5 0 = d ∧ d ≤ 0x20 ∧ s.modeNow ≠ modeDormant ∧
      s.surveying = false ∧ s.rst.dom = none ∧ s.on PW_STATUS_BUSY = false ∧ s.domState d ≠ 0 ∧ d ≠ 0x1D + w.q.port ∧
      (d < 16 → s.groupBusy d = false) ∧ (d = 0x19 → s.get CM_ARMED_STATE = 0 ∧ s.get SR_STATUS_STATE = 0) ∧ (d ≠
      0x19 → (s.runVotes [] d).testBit 2 = false) ∧ (s.runVotes [] d).testBit 3 = false) ∧
    (∃ (s : State) (w : Wr) (d : Nat), Safety.wf s = true ∧ Safety.admits s w 0x6012 0 = true ∧ (Safety.valueOf s w
      0x6012 0).bits 31 31 = 1 ∧ (Safety.valueOf s w 0x6012 0).bits 5 0 = d ∧ d ≤ 0x20 ∧ s.modeNow ≠ modeDormant ∧
      s.surveying = false ∧ (s.rst.dom.isSome = true ∨ s.on PW_STATUS_BUSY = true ∨ s.domState d = 0 ∨ d = 0x1D +
      w.q.port)) ∧
    (∃ (s : State) (w : Wr) (d : Nat), Safety.wf s = true ∧ Safety.admits s w 0x6012 0 = true ∧ (Safety.valueOf s w
      0x6012 0).bits 31 31 = 1 ∧ (Safety.valueOf s w 0x6012 0).bits 5 0 = d ∧ d ≤ 0x20 ∧ (s.modeNow = modeDormant ∨
      s.surveying = true)) ∧
    (∃ (s : State) (w : Wr) (d : Nat), Safety.wf s = true ∧ Safety.admits s w 0x6012 0 = true ∧ (Safety.valueOf s w
      0x6012 0).bits 31 31 = 1 ∧ (Safety.valueOf s w 0x6012 0).bits 5 0 = d ∧ 0x20 < d) ∧
    (∃ (s : State) (r : DomReset), Safety.wf s = true ∧ s.rst.dom = some r ∧ r.phase = 0 ∧ s.running r.dom = true ∧
      (r.due ≤ s.frame.ticks ∨ s.frame.running = false)) ∧
    (∃ (s : State) (r : DomReset), Safety.wf s = true ∧ s.rst.dom = some r ∧ (r.phase ≠ 0 ∨ (s.frame.running = true ∧
      s.frame.ticks < r.due))) ∧
    (∃ (s : State) (r : DomReset), Safety.wf s = true ∧ s.rst.dom = some r ∧ r.phase = 1) ∧
    (∃ (s : State) (r : DomReset), Safety.wf s = true ∧ s.rst.dom = some r ∧ r.phase ≠ 1) ∧
    (∃ (s : State) (r : DomReset), Safety.wf s = true ∧ s.rst.dom = some r ∧ 0 < r.phase) ∧
    (∃ (s : State) (r : DomReset), Safety.wf s = true ∧ s.rst.dom = some r ∧ r.phase = 2 ∧ r.drops ≤ 1) ∧
    (∃ (s : State) (r : DomReset), Safety.wf s = true ∧ s.rst.dom = some r ∧ r.phase = 2 ∧ 1 < r.drops) := by
  refine (fun h0 h1 => ⟨⟨dev, wr (0x80000000 + 0x14), 0x14, h0.1⟩,
    ⟨dev, wr (0x80000000 + 0x1D), 0x1D, h0.2.1⟩,
    ⟨(lane5 .track).set MD_MODE_MODE modeSurvey, wr (0x80000000 + 0x14), 0x14, h0.2.2.1⟩,
    ⟨dev, wr (0x80000000 + 0x21), 0x21, h0.2.2.2.1⟩,
    ⟨{ dev with rst := { dev.rst with dom := some (domReset 0 0) } }, domReset 0 0, h0.2.2.2.2.1⟩,
    ⟨{ dev with rst := { dev.rst with dom := some (domReset 1 0) } }, domReset 1 0, h0.2.2.2.2.2.1⟩,
    ⟨{ dev with rst := { dev.rst with dom := some (domReset 1 0) } }, domReset 1 0, h0.2.2.2.2.2.2.1⟩,
    ⟨{ dev with rst := { dev.rst with dom := some (domReset 0 0) } }, domReset 0 0, h0.2.2.2.2.2.2.2.1⟩,
    ⟨{ dev with rst := { dev.rst with dom := some (domReset 1 0) } }, domReset 1 0, h0.2.2.2.2.2.2.2.2⟩,
    ⟨{ dev with rst := { dev.rst with dom := some (domReset 2 1) } }, domReset 2 1, h1.1⟩,
    ⟨{ dev with rst := { dev.rst with dom := some (domReset 2 2) } }, domReset 2 2, h1.2⟩⟩)
    (?_ : _ ∧ _ ∧ _ ∧ _ ∧ _ ∧ _ ∧ _ ∧ _ ∧ _) (?_ : _ ∧ _) <;> decide +kernel

/-- Every clause of `Obligations.RingTransit` has a state and operands that meet its hypotheses. -/
theorem test_witness_RingTransit :
    (∃ (s : State) (p : Nat) (q : Nat) (f : RxFrame), Safety.wf s = true ∧ p < 4 ∧ s.pairUp p = true ∧ s.repeats =
      false ∧ s.outPair (otherPair p) = some q ∧ (s.pair q).through = [] ∧ (s.pair q).busyUp ≤ max s.frame.up (s.pair
      p).rxUp ∧ frameGood f = true ∧ knownType f.ftype = true ∧ (f.dest ≠ s.address ∨ s.takesIn (portOf p) = false) ∧
      f.hops < 255 ∧ (f.len ≤ 64 ∨ s.version q ≠ 0x10)) ∧
    (∃ (s : State) (p : Nat) (f : RxFrame), Safety.wf s = true ∧ p < 4 ∧ s.pairUp p = true ∧ s.repeats = false ∧
      f.dest = s.address ∧ s.takesIn (portOf p) = true ∧ knownType f.ftype = true ∧ frameGood f = true) ∧
    (∃ (s : State) (p : Nat) (f : RxFrame), Safety.wf s = true ∧ p < 4 ∧ s.pairUp p = true ∧ s.repeats = false ∧
      f.hops = 255 ∧ f.dest ≠ s.address ∧ frameGood f = true ∧ knownType f.ftype = true) ∧
    (∃ (s : State) (p : Nat), Safety.wf s = true ∧ p < 4 ∧ s.pairUp p = true ∧ s.repeats = false) ∧
    (∃ (s : State) (p : Nat) (c : Nat), Safety.wf s = true ∧ p < 4 ∧ s.pairUp p = true ∧ s.repeats = false ∧ (c = 0 ∨
      c = 0x10)) ∧
    (∃ (s : State) (p : Nat) (ty : Nat), Safety.wf s = true ∧ p < 4 ∧ s.pairUp p = true ∧ s.repeats = false ∧ (ty =
      0x50 ∨ ty = 0x70)) ∧
    (∃ (s : State) (p : Nat) (x : RxItem), Safety.wf s = true ∧ p < 4 ∧ s.pairUp p = true ∧ s.repeats = true ∧
      staysHere x = false) ∧
    (∃ (s : State) (p : Nat), Safety.wf s = true ∧ p < 4 ∧ s.pairUp p = false) ∧
    (∃ (s : State) (p : Nat) (f : RxFrame) (fs : List RxFrame), Safety.wf s = true ∧ p < 4 ∧ s.repeats = false ∧
      s.pairUp p = true ∧ (s.pair p).through = [] ∧ (s.pair p).own = f :: fs ∧ lineBlocks f + 8 ≤ 192) ∧
    (∃ (s : State) (p : Nat) (x : RxItem) (xs : List RxItem), Safety.wf s = true ∧ p < 4 ∧ s.repeats = false ∧
      s.pairUp p = true ∧ (s.pair p).through = x :: xs ∧ (s.pair p).own = []) ∧
    (∃ (s : State) (p : Nat), Safety.wf s = true ∧ p < 4 ∧ s.repeats = false ∧ s.pairUp p = true ∧ (s.pair p).through
      = [] ∧ (s.pair p).own = []) ∧
    (∃ (s : State) (p : Nat), Safety.wf s = true ∧ p < 4 ∧ (s.repeats = true ∨ s.pairUp p = false)) ∧
    (∃ (s : State) (p : Nat), Safety.wf s = true ∧ p < 4 ∧ s.safe.vaonLow = false ∧ s.rd FL_STATUS_STATE p = 0) ∧
    (∃ (s : State) (p : Nat), Safety.wf s = true ∧ p < 4 ∧ s.safe.vaonLow = false ∧ s.rd FL_STATUS_STATE p ≤ 1) ∧
    (∃ (s : State) (p : Nat), Safety.wf s = true ∧ p < 4 ∧ s.safe.vaonLow = false ∧ s.rd FL_STATUS_STATE p ≤ 1 ∧
      s.standing = []) ∧
    (∃ (s : State) (p : Nat), Safety.wf s = true ∧ p < 4 ∧ (s.safe.vaonLow = true ∨ 2 ≤ s.rd FL_STATUS_STATE p)) ∧
    (∃ (s : State) (p : Nat), Safety.wf s = true ∧ p < 4 ∧ s.rd FL_STATUS_STATE p = 2) ∧
    (∃ (s : State) (p : Nat), Safety.wf s = true ∧ p < 4 ∧ s.pairUp p = false ∧ s.silent p = false ∧ (s.pair
      p).agreed = 0) ∧
    (∃ (s : State) (p : Nat) (h : Hello), Safety.wf s = true ∧ p < 4 ∧ s.pairUp p = false ∧ s.silent p = false ∧
      (s.pair p).agreed ≠ 0 ∧ (s.pair p).peer = some h ∧ h.agreed = true ∧ h.version = (s.pair p).agreed ∧ s.rd
      FL_STATUS_STATE p = 3) ∧
    (∃ (s : State) (p : Nat), Safety.wf s = true ∧ p < 4 ∧ (s.pairUp p = true ∨ s.silent p = true)) ∧
    (∃ (s : State) (p : Nat) (dest : Nat), Safety.wf s = true ∧ p < 4 ∧ s.rd FL_STATUS_STATE p ≠ 0 ∧ s.rst.held = []
      ∧ s.toUs dest = true ∧ s.modeNow = modeDormant ∧ s.on MD_MODE_ENTERING = true ∧ s.boot.waking = false ∧
      s.mode.wake = false) ∧
    (∃ (s : State) (p : Nat) (dest : Nat), Safety.wf s = true ∧ p < 4 ∧ s.rd FL_STATUS_STATE p ≠ 0 ∧ s.rst.held = []
      ∧ s.toUs dest = true ∧ s.modeNow = modeDormant ∧ s.on MD_MODE_ENTERING = false ∧ s.boot.waking = false ∧
      s.mode.wake = false) ∧
    (∃ (s : State) (p : Nat) (dest : Nat), Safety.wf s = true ∧ p < 4 ∧ s.rd FL_STATUS_STATE p ≠ 0 ∧ s.rst.held = []
      ∧ s.toUs dest = true ∧ s.modeNow = modeSafe ∧ s.mode.safeFrom = modeDormant) ∧
    (∃ (s : State) (p : Nat) (dest : Nat), Safety.wf s = true ∧ p < 4 ∧ s.rd FL_STATUS_STATE p ≠ 0 ∧ (s.rst.held ≠ []
      ∨ s.toUs dest = false ∨ (s.modeNow ≠ modeDormant ∧ s.modeNow ≠ modeSafe))) ∧
    (∃ (s : State) (p : Nat), Safety.wf s = true ∧ p < 4 ∧ s.rd FL_STATUS_STATE p = 0) := by
  refine (fun h0 h1 h2 => ⟨⟨ringUp, 0, 1, request (dev.address + 1) 1, h0.1⟩,
    ⟨(dev.set TC_STATUS_STATE 5).wr FL_STATUS_STATE (2 * dev.timingPort) 4, 0, request dev.address 1, h0.2.1⟩,
    ⟨(dev.set TC_STATUS_STATE 5).wr FL_STATUS_STATE (2 * dev.timingPort) 4, 0, sealFrame
      { request 77 1 with hops := 255 }, h0.2.2.1⟩,
    ⟨(dev.set TC_STATUS_STATE 5).wr FL_STATUS_STATE (2 * dev.timingPort) 4, 0, h0.2.2.2.1⟩,
    ⟨(dev.set TC_STATUS_STATE 5).wr FL_STATUS_STATE (2 * dev.timingPort) 4, 0, 0, h0.2.2.2.2.1⟩,
    ⟨(dev.set TC_STATUS_STATE 5).wr FL_STATUS_STATE (2 * dev.timingPort) 4, 0, 0x50, h0.2.2.2.2.2.1⟩,
    ⟨{ ringUp.set MD_MODE_MODE modeDormant with pending := [] }, 0, .control 0x50 5, h0.2.2.2.2.2.2.1⟩,
    ⟨dev, 0, h0.2.2.2.2.2.2.2.1⟩,
    ⟨(ringUp).setPair 0 { (dev.pair 0) with own := [ownFrame] }, 0, ownFrame, [], h0.2.2.2.2.2.2.2.2⟩,
    ⟨ringUp.setPair 0 { ringUp.pair 0 with through := [.control 0x50 5] }, 0, .control 0x50 5, [], h1.1⟩,
    ⟨(dev.set TC_STATUS_STATE 5).wr FL_STATUS_STATE (2 * dev.timingPort) 4, 0, h1.2.1⟩,
    ⟨dev, 0, h1.2.2.1⟩,
    ⟨dev, 0, h1.2.2.2.1⟩,
    ⟨dev, 0, h1.2.2.2.2.1⟩,
    ⟨dev, 0, h1.2.2.2.2.2.1⟩,
    ⟨((dev.set TC_STATUS_STATE 1).wr FL_STATUS_STATE (2 * dev.timingPort) 2), 0, h1.2.2.2.2.2.2.1⟩,
    ⟨((dev.set TC_STATUS_STATE 1).wr FL_STATUS_STATE (2 * dev.timingPort) 2), 0, h1.2.2.2.2.2.2.2.1⟩,
    ⟨((dev.set TC_STATUS_STATE 1).wr FL_STATUS_STATE (2 * dev.timingPort) 2), 0, h1.2.2.2.2.2.2.2.2⟩,
    ⟨(dev.wr FL_STATUS_STATE 0 3).setPair 0 { dev.pair 0 with agreed := 0x11, peer := some hello }, 0, hello, h2.1⟩,
    ⟨dev, 0, h2.2.1⟩,
    ⟨((ringUp).set MD_MODE_MODE modeDormant).set MD_MODE_ENTERING 1, 0, dev.address, h2.2.2.1⟩,
    ⟨{ ringUp.set MD_MODE_MODE modeDormant with pending := [] }, 0, dev.address, h2.2.2.2.1⟩,
    ⟨{ (ringUp.set MD_MODE_MODE modeSafe) with mode := { ringUp.mode with safeFrom := modeDormant } }, 0,
      dev.address, h2.2.2.2.2.1⟩,
    ⟨((dev.set TC_STATUS_STATE 1).wr FL_STATUS_STATE (2 * dev.timingPort) 2), 0, 77, h2.2.2.2.2.2.1⟩,
    ⟨dev, 0, h2.2.2.2.2.2.2⟩⟩)
    (?_ : _ ∧ _ ∧ _ ∧ _ ∧ _ ∧ _ ∧ _ ∧ _ ∧ _) (?_ : _ ∧ _ ∧ _ ∧ _ ∧ _ ∧ _ ∧ _ ∧ _ ∧ _) (?_ : _ ∧ _ ∧ _ ∧ _ ∧ _ ∧ _ ∧ _) <;> decide +kernel

/-- Every clause of `Obligations.LinkUpAndLoss` has a state and operands that meet its hypotheses. -/
theorem test_witness_LinkUpAndLoss :
    (∃ (s : State) (p : Nat) (h : Hello) (k : Hello), Safety.wf s = true ∧ p < 4 ∧ s.rd FL_STATUS_STATE p = 3 ∧
      ((s.pair p).peer = none ∨ ((s.pair p).peer = some k ∧ sameHello h k = false))) ∧
    (∃ (s : State) (p : Nat) (h : Hello) (k : Hello), Safety.wf s = true ∧ p < 4 ∧ s.rd FL_STATUS_STATE p = 3 ∧
      (s.pair p).peer = some k ∧ sameHello h k = true ∧ (s.pair p).hellos ≤ 1) ∧
    (∃ (s : State) (p : Nat) (h : Hello) (k : Hello), Safety.wf s = true ∧ p < 4 ∧ s.rd FL_STATUS_STATE p = 3 ∧
      (s.pair p).peer = some k ∧ sameHello h k = true ∧ 2 ≤ (s.pair p).hellos ∧ (commonVersion (s.pair p).offer11 h)
      ≠ 0 ∧ ((s.pair p).agreed ≠ (commonVersion (s.pair p).offer11 h) ∨ (s.pair p).toldAgreed = false ∨ h.agreed =
      false ∨ h.version ≠ (commonVersion (s.pair p).offer11 h))) ∧
    (∃ (s : State) (p : Nat) (h : Hello) (k : Hello), Safety.wf s = true ∧ p < 4 ∧ s.rd FL_STATUS_STATE p = 3 ∧
      (s.pair p).peer = some k ∧ sameHello h k = true ∧ 2 ≤ (s.pair p).hellos ∧ (commonVersion (s.pair p).offer11 h)
      ≠ 0 ∧ (s.pair p).agreed = (commonVersion (s.pair p).offer11 h) ∧ (s.pair p).toldAgreed = true ∧ h.agreed = true
      ∧ h.version = (commonVersion (s.pair p).offer11 h)) ∧
    (∃ (s : State) (p : Nat) (h : Hello) (k : Hello), Safety.wf s = true ∧ p < 4 ∧ s.rd FL_STATUS_STATE p = 3 ∧
      (s.pair p).peer = some k ∧ sameHello h k = true ∧ 2 ≤ (s.pair p).hellos ∧ (commonVersion (s.pair p).offer11 h)
      = 0) ∧
    (∃ (s : State) (p : Nat), Safety.wf s = true ∧ p < 4 ∧ s.rd FL_STATUS_STATE p ≠ 3) ∧
    (∃ (s : State) (p : Nat), Safety.wf s = true ∧ p < 4 ∧ s.rd FL_STATUS_STATE p ≠ 0) ∧
    (∃ (s : State) (p : Nat), Safety.wf s = true ∧ p < 4 ∧ s.rd FL_STATUS_STATE p ≠ 0 ∧ (s.blockLocked p = false ∨
      s.rst.held ≠ [])) ∧
    (∃ (s : State) (p : Nat), Safety.wf s = true ∧ p < 4 ∧ s.rd FL_STATUS_STATE p ≠ 0 ∧ s.blockLocked p = true ∧
      s.rst.held = []) ∧
    (∃ (s : State) (p : Nat), Safety.wf s = true ∧ p < 4 ∧ s.rd FL_STATUS_STATE p = 0) ∧
    (∃ (s : State) (p : Nat), Safety.wf s = true ∧ p < 4 ∧ (s.pair p).engage = true) ∧
    (∃ (s : State) (p : Nat), Safety.wf s = true ∧ p < 4 ∧ (s.pair p).engage = false) ∧
    (∃ (s : State) (p : Nat), Safety.wf s = true ∧ p < 4 ∧ s.rd FL_STATUS_LOOPED p = 1 ∧ s.pairUp p = true ∧ (s.pair
      p).upUp + 3000 * s.rd FL_CTRL_LOOP_HOLD (portOf p) ≤ s.frame.up) ∧
    (∃ (s : State) (p : Nat), Safety.wf s = true ∧ p < 4 ∧ (s.rd FL_STATUS_LOOPED p = 0 ∨ s.pairUp p = false ∨
      s.frame.up < (s.pair p).upUp + 3000 * s.rd FL_CTRL_LOOP_HOLD (portOf p))) := by
  refine (fun h0 h1 => ⟨⟨dev.wr FL_STATUS_STATE 0 3, 0, hello, hello, h0.1⟩,
    ⟨(dev.wr FL_STATUS_STATE 0 3).setPair 0 { dev.pair 0 with agreed := 0x11, peer := some hello }, 0, hello, hello,
      h0.2.1⟩,
    ⟨(dev.wr FL_STATUS_STATE 0 3).setPair 0 { (dev.pair 0) with peer := some hello, hellos := 2, offer11 := true },
      0, hello, hello, h0.2.2.1⟩,
    ⟨(dev.wr FL_STATUS_STATE 0 3).setPair 0
      { dev.pair 0 with agreed := 0x11, peer := some hello, hellos := 2, toldAgreed := true, offer11 := true }, 0,
      hello, hello, h0.2.2.2.1⟩,
    ⟨(dev.wr FL_STATUS_STATE 0 3).setPair 0
      { dev.pair 0 with peer := some { hello with offers10 := false }, hellos := 2, offer11 := false }, 0,
      { hello with offers10 := false }, { hello with offers10 := false }, h0.2.2.2.2.1⟩,
    ⟨{ dev with pending := [.coldReset, .frameTick {}] }, 0, h0.2.2.2.2.2.1⟩,
    ⟨((dev.set TC_STATUS_STATE 1).wr FL_STATUS_STATE (2 * dev.timingPort) 2), 0, h0.2.2.2.2.2.2.1⟩,
    ⟨((dev.set TC_STATUS_STATE 1).wr FL_STATUS_STATE (2 * dev.timingPort) 2), 0, h0.2.2.2.2.2.2.2.1⟩,
    ⟨(dev.set TC_STATUS_STATE 5).wr FL_STATUS_STATE (2 * dev.timingPort) 4, 0, h0.2.2.2.2.2.2.2.2⟩,
    ⟨{ dev with pending := [.coldReset, .frameTick {}] }, 0, h1.1⟩,
    ⟨(ringUp).setPair 0 { (dev.pair 0) with engage := true }, 0, h1.2.1⟩,
    ⟨{ dev with pending := [.coldReset, .frameTick {}] }, 0, h1.2.2.1⟩,
    ⟨{ ((ringUp).wr FL_STATUS_LOOPED 0 1) with frame := { dev.frame with up := 9000000 } }, 0, h1.2.2.2.1⟩,
    ⟨{ dev with pending := [.coldReset, .frameTick {}] }, 0, h1.2.2.2.2⟩⟩)
    (?_ : _ ∧ _ ∧ _ ∧ _ ∧ _ ∧ _ ∧ _ ∧ _ ∧ _) (?_ : _ ∧ _ ∧ _ ∧ _ ∧ _) <;> decide +kernel

/-- Every clause of `Obligations.RingResetBlocks` has a state and operands that meet its hypotheses. -/
theorem test_witness_RingResetBlocks :
    (∃ (s : State) (p : Nat) (dest : Nat) (epoch : Nat), Safety.wf s = true ∧ p < 4 ∧ s.pairUp p = true ∧ s.repeats =
      false ∧ s.toUs dest = true ∧ (s.get SE_EPOCH_EPOCH = 0 ∨ (epoch = s.get SE_EPOCH_EPOCH ∧ s.get SE_EPOCH_ACTIVE
      = portOf p + 1)) ∧ s.rst.ringDue = none) ∧
    (∃ (s : State) (p : Nat) (dest : Nat) (epoch : Nat), Safety.wf s = true ∧ p < 4 ∧ s.pairUp p = true ∧ s.repeats =
      false ∧ s.toUs dest = true ∧ (s.get SE_EPOCH_EPOCH = 0 ∨ (epoch = s.get SE_EPOCH_EPOCH ∧ s.get SE_EPOCH_ACTIVE
      = portOf p + 1)) ∧ s.rst.ringDue.isSome = true) ∧
    (∃ (s : State) (p : Nat) (dest : Nat) (epoch : Nat), Safety.wf s = true ∧ p < 4 ∧ s.pairUp p = true ∧ s.repeats =
      false ∧ s.toUs dest = true ∧ s.get SE_EPOCH_EPOCH ≠ 0 ∧ (epoch ≠ s.get SE_EPOCH_EPOCH ∨ s.get SE_EPOCH_ACTIVE ≠
      portOf p + 1)) ∧
    (∃ (s : State) (p : Nat) (dest : Nat), Safety.wf s = true ∧ p < 4 ∧ s.pairUp p = true ∧ s.repeats = false ∧
      s.toUs dest = false) ∧
    (∃ (s : State) (p : Nat), Safety.wf s = true ∧ p < 4 ∧ s.pairUp p = true ∧ s.repeats = false) ∧
    (∃ (s : State) (p : Nat), Safety.wf s = true ∧ p < 4 ∧ s.pairUp p = true ∧ s.repeats = true) ∧
    (∃ (s : State) (p : Nat), Safety.wf s = true ∧ p < 4 ∧ s.pairUp p = false) := by
  refine (fun h => ⟨⟨(dev.set TC_STATUS_STATE 5).wr FL_STATUS_STATE (2 * dev.timingPort) 4, 0, dev.address, 5, h.1⟩,
    ⟨{ ringUp with rst := { dev.rst with ringDue := some 5 } }, 0, dev.address, 5, h.2.1⟩,
    ⟨((ringUp).set SE_EPOCH_EPOCH 4).set SE_EPOCH_ACTIVE 1, 0, dev.address, 5, h.2.2.1⟩,
    ⟨(dev.set TC_STATUS_STATE 5).wr FL_STATUS_STATE (2 * dev.timingPort) 4, 0, 77, h.2.2.2.1⟩,
    ⟨(dev.set TC_STATUS_STATE 5).wr FL_STATUS_STATE (2 * dev.timingPort) 4, 0, h.2.2.2.2.1⟩,
    ⟨{ ringUp.set MD_MODE_MODE modeDormant with pending := [] }, 0, h.2.2.2.2.2.1⟩,
    ⟨dev, 0, h.2.2.2.2.2.2⟩⟩)
    (?_ : _ ∧ _ ∧ _ ∧ _ ∧ _ ∧ _ ∧ _)
  decide +kernel

/-- Every clause of `Obligations.FaultReports` has a state and operands that meet its hypotheses. -/
theorem test_witness_FaultReports :
    (∃ (s : State) (r : Report), Safety.wf s = true ∧ s.collects = true ∧ reservedSource r.src = false ∧ s.masked
      r.src r.unit = false ∧ (r.wire = true ∨ s.sourceBit FC_ACTIVE_BITS r.src = false) ∧ s.fault.window = none ∧
      (s.taken r) ≤ 2) ∧
    (∃ (s : State) (r : Report) (w : Window), Safety.wf s = true ∧ s.collects = true ∧ reservedSource r.src = false ∧
      s.masked r.src r.unit = false ∧ (r.wire = true ∨ s.sourceBit FC_ACTIVE_BITS r.src = false) ∧ s.fault.window =
      some w ∧ (s.taken r) ≤ w.r.escalated) ∧
    (∃ (s : State) (r : Report), Safety.wf s = true ∧ (s.collects = false ∨ reservedSource r.src = true ∨ s.masked
      r.src r.unit = true ∨ (r.wire = false ∧ s.sourceBit FC_ACTIVE_BITS r.src = true))) ∧
    (∃ (s : State), Safety.wf s = true) ∧
    (∃ (s : State) (w : Window), Safety.wf s = true ∧ s.fault.window = some w ∧ s.windowDue = true ∧
      s.fault.fifo.length < 32) ∧
    (∃ (s : State) (w : Window), Safety.wf s = true ∧ s.fault.window = some w ∧ s.windowDue = true ∧ 32 ≤
      s.fault.fifo.length) ∧
    (∃ (s : State), Safety.wf s = true ∧ s.windowDue = false) ∧
    (∃ (s : State) (src : Nat) (act : Nat) (unit : Nat) (due : Nat), Safety.wf s = true ∧ s.fault.contain = [(src,
      act, unit, due, false)] ∧ due ≤ s.frame.ticks) ∧
    (∃ (s : State), Safety.wf s = true ∧ (∀ c, c ∈ s.fault.contain → c.2.2.2.2 = true ∨ s.frame.ticks < c.2.2.2.1)) ∧
    (∃ (s : State) (x : Rec) (xs : List Rec), Safety.wf s = true ∧ s.fault.fifo = x :: xs ∧ s.recording = true ∧
      s.fifoRoom x.code = true ∧ s.fault.gap = none) ∧
    (∃ (s : State) (x : Rec) (xs : List Rec) (g : Gap), Safety.wf s = true ∧ s.fault.fifo = x :: xs ∧ s.recording =
      true ∧ s.fifoRoom x.code = true ∧ s.fault.gap = some g) ∧
    (∃ (s : State) (x : Rec) (xs : List Rec), Safety.wf s = true ∧ s.fault.fifo = x :: xs ∧ s.fault.gap = none ∧
      s.recording = false) ∧
    (∃ (s : State) (x : Rec) (xs : List Rec), Safety.wf s = true ∧ s.fault.fifo = x :: xs ∧ s.recording = true ∧
      s.fifoRoom x.code = false) ∧
    (∃ (s : State), Safety.wf s = true ∧ s.fault.fifo = []) ∧
    (∃ (s : State) (p : Nat), Safety.wf s = true ∧ p < 256 ∧ (s.gateMoving p = true ∨ s.collects = false)) ∧
    (∃ (s : State) (p : Nat), Safety.wf s = true ∧ p < 256 ∧ s.gateMoving p = false ∧ s.collects = true) ∧
    (∃ (s : State) (src : Nat), Safety.wf s = true ∧ src < 128 ∧ (src < 5 ∨ 10 < src) ∧ s.collects = true) ∧
    (∃ (s : State) (src : Nat), Safety.wf s = true ∧ 5 ≤ src ∧ src ≤ 10) := by
  refine (fun h0 h1 => ⟨⟨dev, report 24, h0.1⟩,
    ⟨{ dev with fault := { dev.fault with window := some ({ window with r := { window.r with escalated := 1 } }) } },
      report 24, { window with r := { window.r with escalated := 1 } }, h0.2.1⟩,
    ⟨dev.set TC_STATUS_CLK_READY 0, report 24, h0.2.2.1⟩,
    ⟨dev, h0.2.2.2.1⟩,
    ⟨{ dev with fault := { dev.fault with window := some window } }, window, h0.2.2.2.2.1⟩,
    ⟨{ dev with fault := { dev.fault with window := some window, fifo := List.replicate 32 event } }, window,
      h0.2.2.2.2.2.1⟩,
    ⟨dev, h0.2.2.2.2.2.2.1⟩,
    ⟨{ dev with fault := { dev.fault with contain := [(13, 1, 5, 10, false)] } }, 13, 1, 5, 10, h0.2.2.2.2.2.2.2.1⟩,
    ⟨dev, h0.2.2.2.2.2.2.2.2⟩,
    ⟨{ dev.set EV_STATUS_CHAIN 1 with fault := { dev.fault with fifo := [event] } }, event, [], h1.1⟩,
    ⟨{ dev.set EV_STATUS_CHAIN 1 with fault := { dev.fault with fifo := [event], gap := some lost } }, event, [],
      lost, h1.2.1⟩,
    ⟨{ dev with fault := { dev.fault with fifo := [event] } }, event, [], h1.2.2.1⟩,
    ⟨{ dev.set EV_STATUS_CHAIN 1 with fault := { dev.fault with fifo := [event] }, ev := { dev.ev with fifo := List.replicate 4096 queued } },
      event, [], h1.2.2.2.1⟩,
    ⟨dev, h1.2.2.2.2.1⟩,
    ⟨dev.set TC_STATUS_CLK_READY 0, 5, h1.2.2.2.2.2.1⟩,
    ⟨dev, 5, h1.2.2.2.2.2.2.1⟩,
    ⟨dev, 13, h1.2.2.2.2.2.2.2.1⟩,
    ⟨dev, 5, h1.2.2.2.2.2.2.2.2⟩⟩)
    (?_ : _ ∧ _ ∧ _ ∧ _ ∧ _ ∧ _ ∧ _ ∧ _ ∧ _) (?_ : _ ∧ _ ∧ _ ∧ _ ∧ _ ∧ _ ∧ _ ∧ _ ∧ _) <;> decide +kernel

/-- Every clause of `Obligations.SafeStateEntry` has a state and operands that meet its hypotheses. -/
theorem test_witness_SafeStateEntry :
    ∃ (s : State) (r : Report), Safety.wf s = true ∧ s.collects = true ∧ s.fault.window = none ∧ reservedSource r.src
      = false ∧ s.masked r.src r.unit = false ∧ (r.wire = true ∨ s.sourceBit FC_ACTIVE_BITS r.src = false) ∧ 3 ≤ s.rd
      FC_CFG_SEVERITY r.src ∧ s.get SF_STATE_STATE = 0 :=
  ⟨(dev.wr FC_CFG_SEVERITY 24 3).set SF_STATE_STATE 0, report 24, by decide +kernel⟩

/-- Every clause of `Obligations.FaultClears` has a state and operands that meet its hypotheses. -/
theorem test_witness_FaultClears :
    (∃ (s : State) (w : Wr), Safety.wf s = true ∧ Safety.admits s w 0x7005 0 = true ∧ (Safety.valueOf s w 0x7005
      0).bits 31 31 = 0 ∧ (Safety.valueOf s w 0x7005 0).bits 30 30 = 0 ∧ s.sourceBit FC_ACTIVE_BITS ((Safety.valueOf
      s w 0x7005 0).bits 6 0) = false) ∧
    (∃ (s : State) (w : Wr), Safety.wf s = true ∧ Safety.admits s w 0x7005 0 = true ∧ (Safety.valueOf s w 0x7005
      0).bits 31 31 = 0 ∧ (Safety.valueOf s w 0x7005 0).bits 30 30 = 0 ∧ s.sourceBit FC_ACTIVE_BITS ((Safety.valueOf
      s w 0x7005 0).bits 6 0) = true) ∧
    (∃ (s : State) (w : Wr), Safety.wf s = true ∧ Safety.admits s w 0x7005 0 = true ∧ (Safety.valueOf s w 0x7005
      0).bits 31 31 = 1 ∧ (Safety.valueOf s w 0x7005 0).bits 30 30 = 0) ∧
    (∃ (s : State) (w : Wr), Safety.wf s = true ∧ Safety.admits s w 0x7005 0 = true ∧ (Safety.valueOf s w 0x7005
      0).bits 31 31 = 1 ∧ (Safety.valueOf s w 0x7005 0).bits 30 30 = 1 ∧ s.get SF_STATE_STATE = 0 ∧ s.fault.window =
      none) ∧
    (∃ (s : State) (w : Wr), Safety.wf s = true ∧ Safety.admits s w 0x7005 0 = true ∧ (Safety.valueOf s w 0x7005
      0).bits 31 31 = 0 ∧ (Safety.valueOf s w 0x7005 0).bits 30 30 = 1 ∧ s.get SF_STATE_STATE = 0 ∧ s.fault.window =
      none) ∧
    (∃ (s : State) (w : Wr), Safety.wf s = true ∧ Safety.admits s w 0x7005 0 = true ∧ (Safety.valueOf s w 0x7005
      0).bits 30 30 = 1 ∧ (s.get SF_STATE_STATE ≠ 0 ∨ s.fault.window.isSome = true)) ∧
    (∃ (s : State) (k : Nat), Safety.wf s = true ∧ k < 128) ∧
    (∃ (s : State), Safety.wf s = true ∧ s.fault.taken = 0) ∧
    (∃ (s : State) (w : Wr), Safety.wf s = true ∧ Safety.admits s w 0x7C00 0 = true ∧ (Safety.valueOf s w 0x7C00
      0).bits 31 31 = 0) ∧
    (∃ (s : State) (w : Wr), Safety.wf s = true ∧ Safety.admits s w 0x7C00 0 = true ∧ (Safety.valueOf s w 0x7C00
      0).bits 31 31 = 1 ∧ (0 < s.injLeft ∨ s.modeNow = modeSafe ∨ (sourceUnits ((Safety.valueOf s w 0x7C00 0).bits 6
      0)).all (s.masked ((Safety.valueOf s w 0x7C00 0).bits 6 0)) = true)) ∧
    (∃ (s : State) (w : Wr), Safety.wf s = true ∧ Safety.admits s w 0x7C00 0 = true ∧ (Safety.valueOf s w 0x7C00
      0).bits 31 31 = 1 ∧ s.injLeft = 0 ∧ s.modeNow ≠ modeSafe ∧ (sourceUnits ((Safety.valueOf s w 0x7C00 0).bits 6
      0)).all (s.masked ((Safety.valueOf s w 0x7C00 0).bits 6 0)) = false ∧ reservedSource ((Safety.valueOf s w
      0x7C00 0).bits 6 0) = false ∧ (Safety.valueOf s w 0x7C00 0).bits 23 16 ≠ 0 ∧ (Safety.valueOf s w 0x7C00 0).bits
      9 8 ≠ 0 ∧ (s.rd FC_CFG_FLOOR ((Safety.valueOf s w 0x7C00 0).bits 6 0) ≠ 4 ∨ ((Safety.valueOf s w 0x7C00 0).bits
      30 30 = 1 ∧ s.modeNow = modeBoot))) ∧
    (∃ (s : State) (w : Wr), Safety.wf s = true ∧ Safety.admits s w 0x7C00 0 = true ∧ (Safety.valueOf s w 0x7C00
      0).bits 31 31 = 1 ∧ s.injLeft = 0 ∧ s.modeNow ≠ modeSafe ∧ (sourceUnits ((Safety.valueOf s w 0x7C00 0).bits 6
      0)).all (s.masked ((Safety.valueOf s w 0x7C00 0).bits 6 0)) = false ∧ (reservedSource ((Safety.valueOf s w
      0x7C00 0).bits 6 0) = true ∨ (Safety.valueOf s w 0x7C00 0).bits 23 16 = 0 ∨ (Safety.valueOf s w 0x7C00 0).bits
      9 8 = 0 ∨ (s.rd FC_CFG_FLOOR ((Safety.valueOf s w 0x7C00 0).bits 6 0) = 4 ∧ ((Safety.valueOf s w 0x7C00 0).bits
      30 30 = 0 ∨ s.modeNow ≠ modeBoot)))) := by
  refine (fun h0 h1 => ⟨⟨dev, wr 24, h0.1⟩,
    ⟨dev.setSourceBit FC_ACTIVE_BITS 24 true, wr 24, h0.2.1⟩,
    ⟨dev, wr 0x80000000, h0.2.2.1⟩,
    ⟨dev, wr 0xC0000000, h0.2.2.2.1⟩,
    ⟨dev, wr 0x40000000, h0.2.2.2.2.1⟩,
    ⟨{ dev with fault := { dev.fault with window := some window } }, wr 0xC0000000, h0.2.2.2.2.2.1⟩,
    ⟨dev, 5, h0.2.2.2.2.2.2.1⟩,
    ⟨dev, h0.2.2.2.2.2.2.2.1⟩,
    ⟨dev, wr 24, h0.2.2.2.2.2.2.2.2⟩,
    ⟨(dev.set MD_MODE_MODE modeSafe), wr 0xC0000000, h1.1⟩,
    ⟨dev, wr 0x80050118, h1.2.1⟩,
    ⟨dev, wr 0xC0000000, h1.2.2⟩⟩)
    (?_ : _ ∧ _ ∧ _ ∧ _ ∧ _ ∧ _ ∧ _ ∧ _ ∧ _) (?_ : _ ∧ _ ∧ _) <;> decide +kernel

/-- Every clause of `Obligations.SafeRelease` has a state and operands that meet its hypotheses. -/
theorem test_witness_SafeRelease :
    (∃ (s : State) (w : Wr), Safety.wf s = true ∧ Safety.admits s w 0x7101 0 = true ∧ (Safety.valueOf s w 0x7101
      0).bits 0 0 = 0) ∧
    (∃ (s : State) (w : Wr), Safety.wf s = true ∧ Safety.admits s w 0x7101 0 = true ∧ (Safety.valueOf s w 0x7101
      0).bits 0 0 = 1 ∧ s.releasable = true ∧ (Safety.valueOf s w 0x7101 0).bits 31 16 = 0x5AFE ∧ s.on
      TC_STATUS_CLK_READY = true) ∧
    (∃ (s : State) (w : Wr), Safety.wf s = true ∧ Safety.admits s w 0x7101 0 = true ∧ (Safety.valueOf s w 0x7101
      0).bits 0 0 = 1 ∧ s.releasable = true ∧ (Safety.valueOf s w 0x7101 0).bits 31 16 = 0x5AFE ∧ s.on
      TC_STATUS_CLK_READY = false) ∧
    (∃ (s : State) (w : Wr), Safety.wf s = true ∧ Safety.admits s w 0x7101 0 = true ∧ (Safety.valueOf s w 0x7101
      0).bits 0 0 = 1 ∧ s.releasable = false ∧ (Safety.valueOf s w 0x7101 0).bits 31 16 = 0x5AFE) ∧
    (∃ (s : State) (w : Wr), Safety.wf s = true ∧ Safety.admits s w 0x7101 0 = true ∧ (Safety.valueOf s w 0x7101
      0).bits 0 0 = 1 ∧ (Safety.valueOf s w 0x7101 0).bits 31 16 ≠ 0x5AFE) ∧
    (∃ (s : State) (t : Nat), Safety.wf s = true ∧ s.safe.release = some t ∧ t ≤ s.frame.ticks ∧ s.mode.safeFrom ≠
      modeDormant) ∧
    (∃ (s : State) (t : Nat), Safety.wf s = true ∧ s.safe.release = some t ∧ t ≤ s.frame.ticks ∧ s.mode.safeFrom =
      modeDormant ∧ s.frame.running = false) ∧
    (∃ (s : State) (t : Nat), Safety.wf s = true ∧ s.safe.release = some t ∧ s.frame.ticks < t) ∧
    (∃ (s : State), Safety.wf s = true ∧ s.safe.release = none) ∧
    (∃ (s : State), Safety.wf s = true ∧ 2 ≤ s.get TB_STATUS_STATE ∧ s.mode.safeFrom = modeService) ∧
    (∃ (s : State), Safety.wf s = true ∧ (s.get TB_STATUS_STATE ≤ 1 ∨ s.mode.safeFrom = modeBoot)) := by
  refine (fun h0 h1 => ⟨⟨dev, wr 0, h0.1⟩,
    ⟨(dev.set MD_MODE_MODE modeSafe), wr 0x5AFE0001, h0.2.1⟩,
    ⟨((dev.set MD_MODE_MODE modeSafe).set SF_STATE_STATE 2).set TC_STATUS_CLK_READY 0, wr 0x5AFE0001, h0.2.2.1⟩,
    ⟨dev, wr 0x5AFE0001, h0.2.2.2.1⟩,
    ⟨dev, wr 1, h0.2.2.2.2.1⟩,
    ⟨{ (dev.set MD_MODE_MODE modeSafe) with safe := { dev.safe with release := some 10 }, mode := { dev.mode with safeFrom := modeService } },
      10, h0.2.2.2.2.2.1⟩,
    ⟨{ ((dev.set MD_MODE_MODE modeSafe).set SF_STATE_STATE 2) with safe := { dev.safe with release := some 10 }, mode := { dev.mode with safeFrom := modeDormant }, frame := { dev.frame with running := false } },
      10, h0.2.2.2.2.2.2.1⟩,
    ⟨{ (dev.set MD_MODE_MODE modeSafe) with safe := { dev.safe with release := some 11 } }, 11, h0.2.2.2.2.2.2.2.1⟩,
    ⟨dev, h0.2.2.2.2.2.2.2.2⟩,
    ⟨{ (dev.set MD_MODE_MODE modeSafe) with safe := { dev.safe with release := some 10 }, mode := { dev.mode with safeFrom := modeService } },
      h1.1⟩,
    ⟨dev, h1.2⟩⟩)
    (?_ : _ ∧ _ ∧ _ ∧ _ ∧ _ ∧ _ ∧ _ ∧ _ ∧ _) (?_ : _ ∧ _) <;> decide +kernel

/-- Every clause of `Obligations.SupplyAndTemperature` has a state and operands that meet its hypotheses. -/
theorem test_witness_SupplyAndTemperature :
    (∃ (s : State) (r : Nat), Safety.wf s = true ∧ r < 2 ∧ (s.rail r).low = false) ∧
    (∃ (s : State) (r : Nat), Safety.wf s = true ∧ r < 2 ∧ (s.rail r).low = true) ∧
    (∃ (s : State) (r : Nat), Safety.wf s = true ∧ r < 2 ∧ (s.rail r).low = true ∧ (s.rail r).dip = false ∧
      s.rst.held = []) ∧
    (∃ (s : State) (r : Nat), Safety.wf s = true ∧ r < 2 ∧ ((s.rail r).low = false ∨ (s.rail r).dip = true ∨
      s.rst.held ≠ [])) ∧
    (∃ (s : State) (r : Nat), Safety.wf s = true ∧ r < 2 ∧ (s.rail r).low = true ∧ (s.rail r).dip = false) ∧
    (∃ (s : State) (r : Nat), Safety.wf s = true ∧ r < 2 ∧ (s.rail r).low = true ∧ (s.rail r).dip = true) ∧
    (∃ (s : State) (r : Nat) (t : Nat), Safety.wf s = true ∧ r < 2 ∧ s.supply.recoverUp = some t ∧ t + 30000 ≤
      s.frame.up ∧ s.supply.vcore.dip = false ∧ s.supply.vtime.dip = false ∧ s.on SM_STATUS_MARGINAL = true) ∧
    (∃ (s : State) (r : Nat) (t : Nat), Safety.wf s = true ∧ r < 2 ∧ s.supply.recoverUp = some t ∧ s.frame.up < t +
      30000) ∧
    (∃ (s : State) (r : Nat), Safety.wf s = true ∧ r < 2 ∧ (s.supply.recoverUp = none ∨ s.supply.vcore.dip = true ∨
      s.supply.vtime.dip = true)) ∧
    (∃ (s : State) (r : Nat), Safety.wf s = true ∧ r < 2 ∧ s.rst.held.contains 1 = false ∧ s.rst.held.contains 2 =
      false ∧ s.supply.brown = none ∧ (s.rail r).low = true) ∧
    (∃ (s : State) (r : Nat), Safety.wf s = true ∧ r < 2 ∧ s.rst.held.contains 1 = false ∧ s.rst.held.contains 2 =
      false ∧ s.supply.brown = none ∧ (s.rail r).low = false) ∧
    (∃ (s : State) (r : Nat), Safety.wf s = true ∧ r < 2 ∧ (s.rst.held.contains 1 = true ∨ s.rst.held.contains 2 =
      true ∨ s.supply.brown.isSome = true)) ∧
    (∃ (s : State) (r : Nat) (t : Nat), Safety.wf s = true ∧ r < 2 ∧ s.supply.brown = some (t, r)) ∧
    (∃ (s : State) (r : Nat), Safety.wf s = true ∧ r < 2 ∧ s.supply.brown = none) ∧
    (∃ (s : State) (r : Nat) (k : Nat) (v : Int), Safety.wf s = true ∧ r < 2 ∧ s.rst.held = [] ∧ k < 65 ∧ -2048 ≤ v ∧
      v ≤ 2047) ∧
    (∃ (s : State) (r : Nat), Safety.wf s = true ∧ r < 2 ∧ s.rst.held ≠ []) ∧
    (∃ (s : State) (r : Nat), Safety.wf s = true ∧ r < 2 ∧ s.on SM_STATUS_ALERT = false ∧ s.rst.held = [] ∧ (((s.set
      SM_STATUS_ALERT 1).raiseLevel 12 unitDevice).perf.op.isSome = true ∨ ((s.set SM_STATUS_ALERT 1).raiseLevel 12
      unitDevice).perf.asked = false)) ∧
    (∃ (s : State) (r : Nat), Safety.wf s = true ∧ r < 2 ∧ s.on SM_STATUS_ALERT = false ∧ s.rst.held = [] ∧ ((s.set
      SM_STATUS_ALERT 1).raiseLevel 12 unitDevice).perf.op = none ∧ ((s.set SM_STATUS_ALERT 1).raiseLevel 12
      unitDevice).perf.asked = true) ∧
    (∃ (s : State) (r : Nat), Safety.wf s = true ∧ r < 2 ∧ (s.on SM_STATUS_ALERT = true ∨ s.rst.held ≠ [])) := by
  refine (fun h0 h1 h2 => ⟨⟨{ dev with pending := [.coldReset, .frameTick {}] }, 1, h0.1⟩,
    ⟨low false, 1, h0.2.1⟩,
    ⟨low false, 1, h0.2.2.1⟩,
    ⟨{ dev with pending := [.coldReset, .frameTick {}] }, 1, h0.2.2.2.1⟩,
    ⟨low false, 1, h0.2.2.2.2.1⟩,
    ⟨low true, 1, h0.2.2.2.2.2.1⟩,
    ⟨{ dev.set SM_STATUS_MARGINAL 1 with supply := { dev.supply with recoverUp := some 10 } }, 1, 10,
      h0.2.2.2.2.2.2.1⟩,
    ⟨{ dev with supply := { dev.supply with recoverUp := some 10001 } }, 1, 10001, h0.2.2.2.2.2.2.2.1⟩,
    ⟨{ dev with pending := [.coldReset, .frameTick {}] }, 1, h0.2.2.2.2.2.2.2.2⟩,
    ⟨low false, 1, h1.1⟩,
    ⟨{ dev with pending := [.coldReset, .frameTick {}] }, 1, h1.2.1⟩,
    ⟨{ dev with supply := { dev.supply with brown := some (10, 1) } }, 1, h1.2.2.1⟩,
    ⟨{ dev with supply := { dev.supply with brown := some (10, 1) } }, 1, 10, h1.2.2.2.1⟩,
    ⟨{ dev with pending := [.coldReset, .frameTick {}] }, 1, h1.2.2.2.2.1⟩,
    ⟨{ dev with pending := [.coldReset, .frameTick {}] }, 1, 5, (30 : Int), h1.2.2.2.2.2.1⟩,
    ⟨{ (dev.set CK_STATUS_SRC 0).set TC_STATUS_CLK_READY 0 with rst := { dev.rst with held := [3] }, clocks := { dev.clocks with link := 7 } },
      1, h1.2.2.2.2.2.2.1⟩,
    ⟨{ dev with pending := [.coldReset, .frameTick {}] }, 1, h1.2.2.2.2.2.2.2.1⟩,
    ⟨({ dev with perf := { dev.perf with asked := true } }).set TC_STATUS_CLK_READY 0, 1, h1.2.2.2.2.2.2.2.2⟩,
    ⟨{ (dev.set CK_STATUS_SRC 0).set TC_STATUS_CLK_READY 0 with rst := { dev.rst with held := [3] }, clocks := { dev.clocks with link := 7 } },
      1, h2⟩⟩)
    (?_ : _ ∧ _ ∧ _ ∧ _ ∧ _ ∧ _ ∧ _ ∧ _ ∧ _) (?_ : _ ∧ _ ∧ _ ∧ _ ∧ _ ∧ _ ∧ _ ∧ _ ∧ _) ?_ <;> decide +kernel

/-- Every clause of `Obligations.DeviceResets` has a state and operands that meet its hypotheses. -/
theorem test_witness_DeviceResets :
    (∃ (s : State), Safety.wf s = true) ∧
    (∃ (s : State) (width : Nat), Safety.wf s = true ∧ 100 ≤ width) ∧
    (∃ (s : State) (width : Nat), Safety.wf s = true ∧ width < 40) ∧
    (∃ (s : State) (width : Nat), Safety.wf s = true ∧ 40 ≤ width ∧ width < 100) ∧
    (∃ (s : State) (d : Nat), Safety.wf s = true ∧ s.rst.ringDue = some d) ∧
    (∃ (s : State), Safety.wf s = true ∧ s.rst.ringDue = none) ∧
    (∃ (s : State), Safety.wf s = true ∧ s.rst.held = []) ∧
    (∃ (s : State), Safety.wf s = true ∧ s.rst.held ≠ [] ∧ s.on SF_FATAL_LATCHED = false ∧ s.standing = []) ∧
    (∃ (s : State), Safety.wf s = true ∧ s.rst.held ≠ [] ∧ s.on SF_FATAL_LATCHED = true ∧ s.fault.window = none ∧
      s.rd FC_CFG_SEVERITY 2 = 4 ∧ s.get SF_STATE_STATE = 0) ∧
    (∃ (s : State), Safety.wf s = true ∧ (s.safe.sampled = true ∨ s.rst.held ≠ [])) ∧
    (∃ (s : State), Safety.wf s = true ∧ s.safe.sampled = false ∧ s.rst.held = []) := by
  refine (fun h0 h1 => ⟨⟨dev, h0.1⟩,
    ⟨dev, 100, h0.2.1⟩,
    ⟨dev, 5, h0.2.2.1⟩,
    ⟨dev, 40, h0.2.2.2.1⟩,
    ⟨{ ringUp with rst := { dev.rst with ringDue := some 5 } }, 5, h0.2.2.2.2.1⟩,
    ⟨dev, h0.2.2.2.2.2.1⟩,
    ⟨dev, h0.2.2.2.2.2.2.1⟩,
    ⟨{ (dev.set CK_STATUS_SRC 0).set TC_STATUS_CLK_READY 0 with rst := { dev.rst with held := [3] }, clocks := { dev.clocks with link := 7 } },
      h0.2.2.2.2.2.2.2.1⟩,
    ⟨(fun s : State => { s with rst := { s.rst with held := [3] } }) ((dev.set SF_FATAL_LATCHED 1).wr FC_CFG_SEVERITY
      2 4), h0.2.2.2.2.2.2.2.2⟩,
    ⟨dev, h1.1⟩,
    ⟨{ dev with safe := { dev.safe with sampled := false, vgate := false } }, h1.2⟩⟩)
    (?_ : _ ∧ _ ∧ _ ∧ _ ∧ _ ∧ _ ∧ _ ∧ _ ∧ _) (?_ : _ ∧ _) <;> decide +kernel

/-- Every clause of `Obligations.DivModeBumpless` has a state and operands that meet its hypotheses. -/
theorem test_witness_DivModeBumpless :
    (∃ (s : State) (w : Wr), Safety.wf s = true ∧ Safety.admits s w 0x2001 0 = true ∧ (Safety.valueOf s w 0x2001
      0).bits 3 0 ≤ 6 ∧ s.get TC_CONTROL_DIV_MODE = 1 ∧ (Safety.valueOf s w 0x2001 0).bits 5 5 = 0) ∧
    (∃ (s : State) (w : Wr), Safety.wf s = true ∧ Safety.admits s w 0x2001 0 = true ∧ (Safety.valueOf s w 0x2001
      0).bits 3 0 ≤ 6 ∧ s.get TC_CONTROL_DIV_MODE = 0 ∧ (Safety.valueOf s w 0x2001 0).bits 5 5 = 1) := by
  refine (fun h => ⟨⟨dev, wr 2, h.1⟩,
    ⟨dev.set TC_CONTROL_DIV_MODE 0, wr 0x22, h.2⟩⟩)
    (?_ : _ ∧ _)
  decide +kernel

/-- Every clause of `Obligations.EvidenceAck` has a state and operands that meet its hypotheses. -/
theorem test_witness_EvidenceAck :
    (∃ (s : State) (w : Wr), Safety.wf s = true ∧ Safety.admits s w 0x2606 0 = true ∧ ((Safety.valueOf s w 0x2606
      0).bits 31 16 ≠ s.evHead % 65536 ∨ ((Safety.valueOf s w 0x2606 0).bits 9 0) = 0 ∨ s.ev.sealed.length <
      ((Safety.valueOf s w 0x2606 0).bits 9 0))) ∧
    (∃ (s : State) (w : Wr), Safety.wf s = true ∧ Safety.admits s w 0x2606 0 = true ∧ (Safety.valueOf s w 0x2606
      0).bits 31 16 = s.evHead % 65536 ∧ 1 ≤ ((Safety.valueOf s w 0x2606 0).bits 9 0) ∧ ((Safety.valueOf s w 0x2606
      0).bits 9 0) ≤ s.ev.sealed.length) ∧
    (∃ (s : State) (w : Wr), Safety.wf s = true ∧ s.servesNow w.q = true ∧ s.formedNow w.q = true ∧ w.mask =
      BitVec.allOnes 32 ∧ s.writeWaits 0x2606 0 (w.value &&& w.mask) = none ∧ s.notActive w.q.port = false ∧ s.rd
      SE_SECTION_OWNER_OWNER 6 ≠ w.q.port + 1) := by
  refine (fun h => ⟨⟨dev, wr 3, h.1⟩,
    ⟨blocks 2, wr 2, h.2.1⟩,
    ⟨dev.wr SE_SECTION_OWNER_OWNER 6 0, wr 3, h.2.2⟩⟩)
    (?_ : _ ∧ _ ∧ _)
  decide +kernel

/-- Hypotheses about a next state: a command that has one. -/
theorem test_witness_EveryStepKeepsTheInvariant : ∃ s t : State, Safety.wf s = true ∧ step s = .next t :=
  ⟨dev, _, by decide +kernel, rfl⟩

/-- See above. -/
theorem test_witness_CommandsLeaveTheQueue : ∃ (c : Instr) (s t : State), Safety.wf s = true ∧ exec c s = .next t :=
  ⟨.dsStart, dev, _, by decide +kernel, rfl⟩

/-- The state right after reset, and a device in SERVICE, meet the invariant. -/
theorem test_witness_EveryCommandCompletes : Safety.wf State.reset = true ∧ Safety.wf dev = true := by decide +kernel

/-- Every clause of `Obligations.WriteCommands`: a write that is taken, one that its object refuses, one under an empty
mask, a malformed one, and one to an endpoint that is not there. -/
theorem test_witness_WriteCommands :
    (∃ (c : Instr) (s : State) (w : Wr) (i k : Nat) (r : Nat × State), Safety.wf s = true ∧
      Safety.writeRow c = some (i, k, w) ∧ Safety.admits s w i k = true ∧
      r = s.objectRule (Safety.eccOf c) w.q.port i k (Safety.valueOf s w i k) ∧ refuses r.1 = false) ∧
    (∃ (c : Instr) (s : State) (w : Wr) (i k : Nat) (r : Nat × State), Safety.wf s = true ∧
      Safety.writeRow c = some (i, k, w) ∧ Safety.admits s w i k = true ∧
      r = s.objectRule (Safety.eccOf c) w.q.port i k (Safety.valueOf s w i k) ∧ refuses r.1 = true) ∧
    (∃ (c : Instr) (s : State) (w : Wr) (i k : Nat), Safety.wf s = true ∧ Safety.writeRow c = some (i, k, w) ∧
      s.servesNow w.q = true ∧ s.formedNow w.q = true ∧ s.writeWaits i k 0 = none ∧
      s.precheck w.q.port i k w.mask = none ∧ w.mask = 0) ∧
    (∃ (c : Instr) (s : State) (w : Wr) (i k : Nat), Safety.wf s = true ∧ Safety.writeRow c = some (i, k, w) ∧
      s.servesNow w.q = true ∧ s.formedNow w.q = false) ∧
    (∃ (c : Instr) (s : State) (w : Wr) (i k : Nat), Safety.wf s = true ∧ Safety.writeRow c = some (i, k, w) ∧
      s.hears w.q = false) :=
  ⟨⟨.setpointWrite 4095 (wr 5), dev, wr 5, 0x400A, 4095, _, by decide +kernel, rfl, by decide +kernel, rfl,
      by decide +kernel⟩,
    ⟨.powerRequest (wr 0x80000000), dev, wr 0x80000000, 0x6001, 2, _, by decide +kernel, rfl, by decide +kernel, rfl,
      by decide +kernel⟩,
    ⟨.setpointWrite 0 { wr 5 with mask := 0 }, dev, { wr 5 with mask := 0 }, 0x400A, 0, by decide +kernel, rfl,
      by decide +kernel⟩,
    ⟨.setpointWrite 0 { wr 5 with q := { rq with formed := false } }, dev, { wr 5 with q := { rq with formed := false } },
      0x400A, 0, by decide +kernel, rfl, by decide +kernel⟩,
    ⟨.setpointWrite 0 (wr 5), State.reset, wr 5, 0x400A, 0, by decide +kernel, rfl, by decide +kernel⟩⟩

/-- See above: a write from a port that is not active. -/
theorem test_witness_RefusedWrites : ∃ (c : Instr) (s : State) (w : Wr) (i k st : Nat), Safety.wf s = true ∧
    Safety.writeRow c = some (i, k, w) ∧ s.servesNow w.q = true ∧ s.formedNow w.q = true ∧
    s.writeWaits i k (w.value &&& w.mask) = none ∧ s.precheck w.q.port i k w.mask = some st :=
  ⟨.portSelWrite (wr 1), (dev.set SE_EPOCH_EPOCH 4).set SE_EPOCH_ACTIVE 2, wr 1, 0x2002, 0, stNotActive, by decide +kernel, rfl,
    by decide +kernel⟩

/-- See above. -/
theorem test_witness_OtherClocksKeepTheirRatios :
    ∃ (s t : State) (k : Nat), Safety.wf s = true ∧ exec .perfFrequencyChange s = .next t ∧ k < 6 ∧ k ≠ 1 ∧ k ≠ 2 :=
  ⟨dev, _, 5, by decide +kernel, rfl, by decide, by decide, by decide⟩

/-- See above. -/
theorem test_witness_FrameDrive : ∃ (s t : State) (c : Instr) (coarse : Nat), Safety.wf s = true ∧
    c ∈ [Instr.dsStart, .dsPhaseEnd coarse, .dsStartTimeout, .pdmSourceMove, .sscChangeApply] ∧ exec c s = .next t :=
  ⟨dev, _, .dsStart, 9, by decide +kernel, by simp, rfl⟩

/-- See above. -/
theorem test_witness_FrameRing : ∃ (s t u : State) (c d : Instr) (p : Nat) (x : RxItem) (h : Hello), Safety.wf s = true ∧
    p < 4 ∧ c ∈ [Instr.frameForward p x, .ownFrameTransmit p] ∧ exec c s = .next t ∧
    d ∈ [Instr.helloSend p, .helloReceive p h, .loopEngage p, .loopRelease p] ∧ exec d s = .next u :=
  ⟨ringUp, _, _, .ownFrameTransmit 3, .helloSend 3, 3, .control 0x50 5, hello, by decide +kernel, by decide, by simp, rfl,
    by simp, rfl⟩

/-- See above. -/
theorem test_witness_FrameTiming : ∃ (s t : State) (c : Instr) (f : Nat) (within : Bool) (offset : Int),
    Safety.wf s = true ∧ s.timing.commit = none ∧
    c ∈ [Instr.recentre f, .trackRampStep, .relockTimeout, .referenceQualified within offset] ∧ exec c s = .next t :=
  ⟨dev, _, .trackRampStep, 5, true, 0, by decide +kernel, by decide +kernel, by simp, rfl⟩

/-- See above. -/
theorem test_witness_FrameEvidence : ∃ (s t : State) (c : Instr), Safety.wf s = true ∧
    c ∈ [Instr.evidenceRecordWrite, .sealTimeout, .chainRestart] ∧ exec c s = .next t :=
  ⟨dev, _, .sealTimeout, by decide +kernel, by simp, rfl⟩

/-- See above. -/
theorem test_witness_FrameReads : ∃ (s t : State) (c : Instr) (q : Rq) (i k : Nat) (ecc : EccOutcome) (raw : Word),
    Safety.wf s = true ∧ s.waitsFor i k = none ∧ s.svcFree = true ∧ s.on TI_STATUS_PENDING = false ∧ ecc ≠ .uncorrected ∧
    (c = .timeReadLatch q → s.waitsFor 0x2400 0 = none) ∧ (c = .ckStatusRead q → s.waitsFor 0x2200 0 = none) ∧
    c ∈ [Instr.readRequest q i k, .word64ReadLatch q i k, .evidenceRead q i k ecc raw, .timeReadLatch q, .ckStatusRead q] ∧
    exec c s = .next t :=
  ⟨dev, _, .readRequest rq 0x2000 0, rq, 0x2000, 0, .clean, 0, by decide +kernel, by decide +kernel, by decide +kernel,
    by decide +kernel, by decide, nofun, nofun, by simp, rfl⟩

end Sys2Proof.Tests
end

section
/-! SUPPORT. Pages of the dictionary, 256 indices each: what one page holds, which operations leave it alone, and the
pages that a posted record and a fault reaction may write. -/

namespace Sys2Proof.Machine

section Tables

variable {α : Type} [DecidableEq α] (d : Nat → α)

/-- Entries that a write's key does not belong to are what they were, in canonical form or not. -/
theorem Table.filter_put {f : Nat → Bool} {k : Nat} {v : α} {t : Table α} (hk : f k = false) :
    (Table.put d k v t).filter (fun p => f p.1) = t.filter (fun p => f p.1) := by
  induction t with
  | nil => unfold Table.put; split <;> simp [hk]
  | cons p t ih =>
    obtain ⟨j, w⟩ := p
    unfold Table.put
    split
    · next hj => subst hj; split <;> simp [hk]
    · split
      · split <;> simp [hk]
      · simp [List.filter_cons, ih]

/-- A kept key reads alike in what a filter by key leaves. -/
theorem Table.find_filter_from {f : Nat → Bool} {k : Nat} {t : Table α} {b : Option Nat} (hk : f k = true)
    (h : Table.wfFrom d b t = true) : Table.find d k (t.filter fun p => f p.1) = Table.find d k t := by
  induction t generalizing b with
  | nil => rfl
  | cons p t ih =>
    obtain ⟨j, w⟩ := p
    have ht := ((Table.wfFrom_cons d).mp h).2.2
    by_cases hj : f j = true
    · rw [List.filter_cons_of_pos (by exact hj), Table.find, Table.find, ih ht]
    · have hne : j ≠ k := by rintro rfl; exact hj hk
      rw [List.filter_cons_of_neg (by exact hj), ih ht, Table.find, if_neg hne]
      split
      · next hlt => exact Table.find_below d ht hlt.le
      · rfl

end Tables

/-- The page of 256 indices that a field's subentry stands in. -/
def Field.page (F : Field) (e : Nat) : Nat := objKey F.index (F.sub + e) / 2 ^ 24

/-- The words of one page. -/
def Words.page (n : Nat) (t : Table Word) : Table Word := t.filter fun p => decide (p.1 / 2 ^ 24 = n)

variable {s t : State} {ps : List Nat} {n : Nat}

theorem Words.page_put {t : Table Word} {i k : Nat} {v : Word} (hn : n ∉ ps) (hk : objKey i k / 2 ^ 24 ∈ ps) :
    Words.page n (Words.put t i k v) = Words.page n t :=
  Table.filter_put objDefault (f := fun j => decide (j / 2 ^ 24 = n))
    (decide_eq_false (fun e => hn (e ▸ hk)))

/-- Two dictionaries with the same page agree on each of its words. -/
theorem State.word_of_page (hs : s.ok) (ht : t.ok) {i k : Nat} (hk : objKey i k / 2 ^ 24 = n)
    (e : Words.page n t.objs = Words.page n s.objs) : t.word i k = s.word i k := by
  have read : ∀ {u : State}, u.ok → (Words.page n u.objs).find objDefault (objKey i k) = u.word i k := fun hu =>
    Table.find_filter_from objDefault (f := fun j => decide (j / 2 ^ 24 = n)) (decide_eq_true hk) hu
  rw [← read ht, ← read hs, e]

theorem State.word_wr_other {F : Field} {e x i k : Nat} (h : s.ok) (hk : objKey i k ≠ objKey F.index (F.sub + e)) :
    (s.wr F e x).word i k = s.word i k := by
  unfold State.wr
  rw [State.word_setWord h, if_neg hk]

/-! Operations on a field leave every page but the field's alone. -/

theorem State.setWord_page {i k : Nat} {v : Word} (hn : n ∉ ps) (hk : objKey i k / 2 ^ 24 ∈ ps) :
    Words.page n (s.setWord i k v).objs = Words.page n s.objs := Words.page_put hn hk

theorem State.wr_page {F : Field} {e v : Nat} (hn : n ∉ ps) (hF : F.page e ∈ ps) :
    Words.page n (s.wr F e v).objs = Words.page n s.objs := State.setWord_page hn hF

theorem State.set_page {F : Field} {v : Nat} (hn : n ∉ ps) (hF : F.page 0 ∈ ps) :
    Words.page n (s.set F v).objs = Words.page n s.objs := State.wr_page hn hF

theorem State.setB_page {F : Field} {b : Bool} (hn : n ∉ ps) (hF : F.page 0 ∈ ps) :
    Words.page n (s.setB F b).objs = Words.page n s.objs := State.wr_page hn hF

theorem State.bumpBy_page {F : Field} {e k : Nat} (hn : n ∉ ps) (hF : F.page e ∈ ps) :
    Words.page n (s.bumpBy F e k).objs = Words.page n s.objs := State.wr_page hn hF

theorem State.bump_page {F : Field} (hn : n ∉ ps) (hF : F.page 0 ∈ ps) :
    Words.page n (s.bump F).objs = Words.page n s.objs := State.wr_page hn hF

theorem State.bumpAt_page {F : Field} {e : Nat} (hn : n ∉ ps) (hF : F.page e ∈ ps) :
    Words.page n (s.bumpAt F e).objs = Words.page n s.objs := State.wr_page hn hF

theorem State.raiseTo_page {F : Field} {v : Nat} (hn : n ∉ ps) (hF : F.page 0 ∈ ps) :
    Words.page n (s.raiseTo F v).objs = Words.page n s.objs := by
  unfold State.raiseTo
  split
  · exact State.set_page hn hF
  · rfl

theorem State.put64_page {i k v : Nat} (hn : n ∉ ps) (h0 : objKey i k / 2 ^ 24 ∈ ps)
    (h1 : objKey i (k + 1) / 2 ^ 24 ∈ ps) : Words.page n (s.put64 i k v).objs = Words.page n s.objs :=
  (State.setWord_page hn h1).trans (State.setWord_page hn h0)

/-- A repeated operation leaves a page alone where each of its runs does. -/
theorem State.foldl_page {α : Type} {f : State → α → State} {l : List α}
    (h : ∀ t, ∀ x ∈ l, Words.page n (f t x).objs = Words.page n t.objs) :
    Words.page n (l.foldl f s).objs = Words.page n s.objs := by
  induction l generalizing s with
  | nil => rfl
  | cons x xs ih =>
    exact (ih fun t y hy => h t y (List.mem_cons_of_mem _ hy)).trans (h s x List.mem_cons_self)

theorem State.setMask_page {i lo m v : Nat} (hn : n ∉ ps) (hk : ∀ k < m, objKey i (lo + k) / 2 ^ 24 ∈ ps) :
    Words.page n (s.setMask i lo m v).objs = Words.page n s.objs :=
  State.foldl_page fun _ k hm => State.setWord_page hn (hk k (List.mem_range.mp hm))

/-! A posted record writes the event counts and the FIFO's mark, on page 0x26. -/

theorem State.postRec_page {r : Rec} {cross : Option Nat} (hn : n ∉ ps) (hp : 0x26 ∈ ps) :
    Words.page n (s.postRec r cross).objs = Words.page n s.objs := by
  have hEV : ∀ F : Field, F.page 0 = 0x26 → F.page 0 ∈ ps := fun F hF => hF ▸ hp
  unfold State.postRec
  split
  · split
    · exact State.raiseTo_page hn (hEV _ rfl)
    · split <;> exact State.bump_page hn (hEV _ rfl)
  · exact State.bump_page hn (hEV _ rfl)

theorem State.post_page {code source payload : Nat} (hn : n ∉ ps) (hp : 0x26 ∈ ps) :
    Words.page n (s.post code source payload).objs = Words.page n s.objs := State.postRec_page hn hp

theorem State.commitRecord_page {source time changed gates src flags : Nat} {x : Tally} (hn : n ∉ ps) (hp : 0x26 ∈ ps) :
    Words.page n (s.commitRecord source time x changed gates src flags).objs = Words.page n s.objs :=
  State.postRec_page hn hp

/-! A fault reaction (R304, R310, R315). -/

/-- The pages a fault reaction may write: mode, events, rings, commits, survey, collector, safe state. -/
def reactionPages : List Nat := [0x18, 0x26, 0x51, 0x52, 0x58, 0x70, 0x71]

variable (hn : n ∉ reactionPages)

/-- A change of lane state that is not recorded at once writes no word. -/
theorem State.moveLane_objs {e cause code : Nat} {l : Lane} {new : LState} :
    (s.moveLane e l new cause code false).objs = s.objs := by
  unfold State.moveLane
  extract_lets note u
  split <;> rfl

theorem State.safeLane_objs {e : Nat} : (s.safeLane e).objs = s.objs := by
  unfold State.safeLane
  extract_lets l u act cmd l' w
  have hu : u.objs = s.objs := by unfold u; split <;> rfl
  split
  · exact hu
  · exact State.moveLane_objs.trans hu

theorem State.safeLanes_objs {l : List Nat} : (l.foldl State.safeLane s).objs = s.objs := by
  induction l generalizing s with
  | nil => rfl
  | cons e es ih => exact ih.trans State.safeLane_objs

theorem State.assertFlt_objs {a : Nat} : (s.assertFlt a).objs = s.objs := by
  unfold State.assertFlt
  split <;> rfl

include hn

theorem State.setMode_page {new cause : Nat} : Words.page n (s.setMode new cause).objs = Words.page n s.objs := by
  unfold State.setMode
  simp (disch := decide) only [State.post_page hn, State.bump_page hn, State.set_page hn]

theorem State.missShadow_page {result : Nat} : Words.page n (s.missShadow result).objs = Words.page n s.objs := by
  unfold State.missShadow State.endShadow
  split
  · rfl
  · simp (disch := decide) only [State.commitRecord_page hn, State.bump_page hn, State.set_page hn]

theorem State.endRing_page : Words.page n s.endRing.objs = Words.page n s.objs := by
  unfold State.endRing
  simp (disch := decide) only [State.set_page hn]

theorem State.surveyCut_page {result : Nat} : Words.page n (s.surveyCut result).objs = Words.page n s.objs := by
  unfold State.surveyCut
  split
  · rfl
  · simp (disch := decide) only [State.set_page hn]

theorem State.abandonCal_page : Words.page n s.abandonCal.objs = Words.page n s.objs := by
  unfold State.abandonCal
  simp (disch := decide) only [State.bumpBy_page hn]

theorem State.enterSafe_page {src : Nat} : Words.page n (s.enterSafe src).objs = Words.page n s.objs := by
  unfold State.enterSafe
  split
  · rfl
  · extract_lets +onlyGivenNames marked parked dark
    have hmarked : Words.page n marked.objs = Words.page n s.objs := by
      simp (disch := decide) only [marked, State.set_page hn]
    have hdark : dark.objs = marked.objs := State.assertFlt_objs.trans State.safeLanes_objs
    clear_value dark
    extract_lets +onlyGivenNames _ released missed ended
    have hended : Words.page n ended.objs = Words.page n s.objs := by
      simp only [ended, missed, released, State.abandonCal_page hn, State.surveyCut_page hn, State.endRing_page hn,
        State.missShadow_page hn, hdark, hmarked]
    clear_value ended
    extract_lets
    split
    · exact hended
    · exact (State.setMode_page hn).trans hended

theorem State.setFatal_page {src : Nat} : Words.page n (s.setFatal src).objs = Words.page n s.objs := by
  unfold State.setFatal
  split
  · rfl
  · simp (disch := decide) only [State.bumpAt_page hn, State.set_page hn]

theorem State.reactSafe_page {src sev : Nat} : Words.page n (s.reactSafe src sev).objs = Words.page n s.objs := by
  unfold State.reactSafe
  split
  · rfl
  · split
    · split
      · simp (disch := decide) only [State.enterSafe_page hn, State.bumpAt_page hn]
      · rfl
    · simp (disch := decide) only [State.set_page hn, State.setFatal_page hn, State.enterSafe_page hn]

theorem State.react_page {src unit sev : Nat} : Words.page n (s.react src unit sev).objs = Words.page n s.objs := by
  unfold State.react
  extract_lets +onlyGivenNames degraded act _ due contained
  have hdegraded : Words.page n degraded.objs = Words.page n s.objs := by
    unfold degraded
    split
    · exact State.set_page hn (by decide)
    · rfl
  have hdue : due.objs = degraded.objs := by unfold due; split <;> rfl
  have hcontained : Words.page n contained.objs = Words.page n due.objs := by
    unfold contained
    split
    · rfl
    · exact State.set_page hn (by decide)
  exact (State.reactSafe_page hn).trans (by rw [hcontained, hdue, hdegraded])

theorem State.captureFirst_page {f : FaultRec} : Words.page n (s.captureFirst f).objs = Words.page n s.objs := by
  unfold State.captureFirst
  split
  · rfl
  · simp (disch := decide) only [State.set_page hn, State.setB_page hn, State.put64_page hn, State.setMask_page hn]

theorem State.followFirst_page {f : FaultRec} : Words.page n (s.followFirst f).objs = Words.page n s.objs := by
  unfold State.followFirst
  split
  · simp (disch := decide) only [State.set_page hn]
  · rfl

/-- The collector's sticky bits and counts of a source that exists stand on its own page. -/
theorem State.countReport_page {r : Report} (hr : r.src < 128) :
    Words.page n (s.countReport r).objs = Words.page n s.objs := by
  have hCount : FC_COUNT_COUNT.page r.src ∈ reactionPages := by
    have e : FC_COUNT_COUNT.page r.src = 0x70 := by
      simp only [Field.page, objKey, FC_COUNT_COUNT]; omega
    rw [e]; decide
  have hSticky : FC_STICKY_BITS.page (r.src / 32) ∈ reactionPages := by
    have e : FC_STICKY_BITS.page (r.src / 32) = 0x70 := by
      simp only [Field.page, objKey, FC_STICKY_BITS]; omega
    rw [e]; decide
  have h : Words.page n ((s.setSourceBit FC_STICKY_BITS r.src true).bumpAt FC_COUNT_COUNT r.src).objs =
      Words.page n s.objs := (State.bumpAt_page hn hCount).trans (State.wr_page hn hSticky)
  unfold State.countReport
  extract_lets u
  split <;> exact h

theorem State.openWindow_page {rs : List Report} : Words.page n (s.openWindow rs).objs = Words.page n s.objs := by
  unfold State.openWindow
  split
  · rfl
  · next r _ =>
    extract_lets +onlyGivenNames sev f
    split
    extract_lets +onlyGivenNames reacted shown
    have hreacted : Words.page n reacted.objs = Words.page n s.objs :=
      (State.react_page hn).trans (State.captureFirst_page hn)
    have hshown : Words.page n shown.objs = Words.page n reacted.objs := by
      simp (disch := decide) only [shown, State.set_page hn]
    exact hshown.trans hreacted

theorem State.mergeReport_page {w : Window} {r : Report} :
    Words.page n (s.mergeReport w r).objs = Words.page n s.objs := by
  unfold State.mergeReport
  extract_lets +onlyGivenNames sev up act _ f
  split
  extract_lets +onlyGivenNames w' u
  have hu : Words.page n u.objs = Words.page n s.objs := by
    unfold u
    split
    · exact State.react_page hn
    · rfl
  exact (State.set_page hn (by decide)).trans ((State.followFirst_page hn).trans hu)

theorem State.reportNow_page {rs : List Report} : Words.page n (s.reportNow rs).objs = Words.page n s.objs := by
  unfold State.reportNow
  extract_lets accepted u
  have hu : Words.page n u.objs = Words.page n s.objs := State.foldl_page fun t r hr => by
    have hlt : reservedSource r.src = false := by
      simpa using (Bool.and_eq_true_iff.mp (List.mem_filter.mp hr).2).1
    exact State.countReport_page hn (by simp [reservedSource] at hlt; omega)
  split
  · exact (State.openWindow_page hn).trans hu
  · refine (State.foldl_page fun t r _ => ?_).trans hu
    split
    · exact State.mergeReport_page hn
    · rfl

theorem State.report_page {rs : List Report} : Words.page n (s.report rs).objs = Words.page n s.objs := by
  unfold State.report
  split
  · exact State.reportNow_page hn
  · rfl

/-- A raised source leaves every page outside the reaction's alone. -/
theorem State.raise_page {src unit : Nat} : Words.page n (s.raise src unit).objs = Words.page n s.objs :=
  State.report_page hn

end Sys2Proof.Machine
end

section
/-! SUPPORT. A change of DIV_MODE is bumpless (R43): what an accepted write to TC_CONTROL does, and the words of the
divider and of tracking that its last part keeps. -/

namespace Sys2Proof.Machine

variable {s t u : State} {p : List Instr} {v : Word}

/-- The divider in force is read from TC_DIV_ACTIVE alone. -/
theorem State.divider_congr (h : ∀ k < 2, t.word 0x2003 k = s.word 0x2003 k) :
    t.prescale = s.prescale ∧ t.ratio = s.ratio := by
  unfold State.prescale State.ratio State.get State.rd
  simp only [TC_DIV_ACTIVE_PRESCALE, TC_DIV_ACTIVE_NINT, TC_DIV_ACTIVE_FRAC, Nat.add_zero, h 0 (by decide),
    h 1 (by decide), and_self]

/-! What follows the change of mode. -/

/-- The last part of an accepted TC_CONTROL write (R36, R37, R51): the estimate follows the sensor again where trimming
is no longer enabled, and BW and JC come into force where the loop takes them at once. -/
def State.settleControl (s : State) : State :=
  let s := if s.on TC_CONTROL_TRIM_EN then s else (s.set TC_STATUS_TRIM_ACTIVE 0).followFerr
  if s.tc = 4 ∨ s.tc = 6 ∨ s.timing.phase = 7 then s.takeBw else s

/-- The state that an accepted write of `v` to TC_CONTROL leaves, before it is answered. -/
def State.controlWritten (s : State) (v : Word) : State :=
  ((s.setWord 0x2001 0 v).changeDivMode (s.get TC_CONTROL_DIV_MODE) (v.bits 5 5)).settleControl

theorem State.wTcControl_accepts (h : v.bits 3 0 ≤ 6) : s.wTcControl v = (stOk, s.controlWritten v) := by
  unfold State.wTcControl
  rw [if_neg (by omega)]
  rfl

/-- Every word of page 0x20 but TC_STATUS and FERR_EST reads in `t` as it did in `s`. -/
def State.keepsDivider (s t : State) : Prop := ∀ i k, objKey i k / 2 ^ 24 = 0x20 → objKey i k ≠ objKey 0x2000 0 →
  objKey i k ≠ objKey 0x2012 1 → t.word i k = s.word i k

theorem State.keepsDivider_trans (h : s.keepsDivider t) (h' : t.keepsDivider u) : s.keepsDivider u :=
  fun i k hk h0 h1 => (h' i k hk h0 h1).trans (h i k hk h0 h1)

theorem State.set_keepsDivider {F : Field} {x : Nat} (h : s.ok)
    (hF : objKey F.index (F.sub + 0) = objKey 0x2000 0 ∨ objKey F.index (F.sub + 0) = objKey 0x2012 1) :
    s.keepsDivider (s.set F x) := fun i k _ h0 h1 =>
  have hne : objKey i k ≠ objKey F.index (F.sub + 0) := by
    rcases hF with e | e <;> rw [e] <;> assumption
  State.word_wr_other h hne

/-- Judging the estimate may raise a fault, whose reaction writes no word of page 0x20. -/
theorem State.judgeFerr_page : Words.page 0x20 s.judgeFerr.objs = Words.page 0x20 s.objs := by
  unfold State.judgeFerr
  extract_lets
  split
  · exact State.raise_page (by decide)
  · rfl

theorem State.judgeFerr_keepsDivider (hg : Good p s) : s.keepsDivider s.judgeFerr := fun _ _ hk _ _ =>
  State.word_of_page hg.objs (State.judgeFerr_good hg).objs hk State.judgeFerr_page

theorem State.followFerr_keepsDivider (hg : Good p s) : s.keepsDivider s.followFerr := by
  unfold State.followFerr
  split
  · exact State.keepsDivider_trans (State.set_keepsDivider hg.objs (by decide))
      (State.judgeFerr_keepsDivider (State.set_good hg))
  · exact fun _ _ _ _ _ => rfl

theorem State.settleControl_keepsDivider (hg : Good p s) : s.keepsDivider s.settleControl := by
  unfold State.settleControl
  extract_lets trimmed
  obtain ⟨hkeeps, hgood⟩ : s.keepsDivider trimmed ∧ Good p trimmed := by
    unfold trimmed
    split
    · exact ⟨fun _ _ _ _ _ => rfl, hg⟩
    · have hset := State.set_good (F := TC_STATUS_TRIM_ACTIVE) (v := 0) hg
      exact ⟨State.keepsDivider_trans (State.set_keepsDivider hg.objs (by decide)) (State.followFerr_keepsDivider hset),
        State.followFerr_good hset⟩
  split
  · exact State.keepsDivider_trans hkeeps (State.set_keepsDivider hgood.objs (by decide))
  · exact hkeeps

theorem State.keepsDivider_get (h : s.keepsDivider t) {F : Field} (hk : F.page 0 = 0x20)
    (h0 : objKey F.index (F.sub + 0) ≠ objKey 0x2000 0) (h1 : objKey F.index (F.sub + 0) ≠ objKey 0x2012 1) :
    t.get F = s.get F := by
  unfold State.get State.rd
  rw [h _ _ hk h0 h1]

theorem State.keepsDivider_divider (h : s.keepsDivider t) : t.prescale = s.prescale ∧ t.ratio = s.ratio :=
  State.divider_congr fun k hk => by apply h <;> simp only [objKey] <;> omega

/-! The change of mode. -/

/-- A change of DIV_MODE writes TC_DIV_NEXT, TC_TRACK_TARGET and TC_TRACK_NOW at most. -/
theorem State.changeDivMode_word (h : s.ok) {old new i k : Nat} (hn0 : objKey i k ≠ objKey 0x2004 0)
    (hn1 : objKey i k ≠ objKey 0x2004 1) (ht0 : objKey i k ≠ objKey 0x2006 0) (ht1 : objKey i k ≠ objKey 0x2006 1) :
    (s.changeDivMode old new).word i k = s.word i k := by
  unfold State.changeDivMode
  split
  · rw [State.word_setWord (State.setWord_ok h), if_neg hn1, State.word_setWord h, if_neg hn0]
  · split
    · exact (State.word_wr_other (F := TC_TRACK_TARGET) (e := 0) (State.setI_ok h) ht0).trans
        (State.word_wr_other (F := TC_TRACK_NOW) (e := 0) h ht1)
    · rfl

/-- From tracking to buffered: TC_DIV_NEXT takes the words of TC_DIV_ACTIVE. -/
theorem State.changeDivMode_toBuffered (h : s.ok) :
    (s.changeDivMode 1 0).word 0x2004 0 = s.word 0x2003 0 ∧ (s.changeDivMode 1 0).word 0x2004 1 = s.word 0x2003 1 := by
  unfold State.changeDivMode
  rw [if_pos ⟨rfl, rfl⟩]
  constructor
  · rw [State.word_setWord (State.setWord_ok h), if_neg (by decide), State.word_setWord_same h]
  · exact State.word_setWord_same (State.setWord_ok h)

/-- A signed field of 32 bits reads as the two's complement just written. -/
theorem State.get_setI_same {F : Field} {x : Int} (h : s.ok) (hlo : F.lo = 0) (hhi : F.hi = 31) :
    (s.setI F x).get F = toBits 32 x := by
  unfold State.get
  rw [State.setI_eq, State.rd_wr_same h (by omega) (by omega), hlo, hhi]
  exact Nat.mod_eq_of_lt (toBits_lt 32 x)

/-- From buffered to tracking: both offsets are the one that the divider in force represents. -/
theorem State.changeDivMode_toTracking (h : s.ok) :
    (s.changeDivMode 0 1).get TC_TRACK_NOW = toBits 32 (offsetOf s.prescale s.offsetLsb) ∧
      (s.changeDivMode 0 1).get TC_TRACK_TARGET = toBits 32 (offsetOf s.prescale s.offsetLsb) := by
  unfold State.changeDivMode
  rw [if_neg (by decide), if_pos ⟨rfl, rfl⟩]
  constructor
  · refine Eq.trans (State.rd_wr_other (State.setI_ok h) (.inl (by decide))) ?_
    exact State.get_setI_same h rfl rfl
  · exact State.get_setI_same (State.setI_ok h) rfl rfl

theorem State.controlWritten_keepsDivider (hg : Good p s) :
    ((s.setWord 0x2001 0 v).changeDivMode (s.get TC_CONTROL_DIV_MODE) (v.bits 5 5)).keepsDivider (s.controlWritten v) :=
  State.settleControl_keepsDivider (State.changeDivMode_good (State.setWord_good hg))

/-- The word written leaves the divider in force alone. -/
theorem State.setControl_divider (h : s.ok) :
    (s.setWord 0x2001 0 v).prescale = s.prescale ∧ (s.setWord 0x2001 0 v).ratio = s.ratio :=
  State.divider_congr fun k hk => by
    rw [State.word_setWord h, if_neg (by simp only [objKey]; omega)]

/-- Whatever the change of mode, DIV_MODE is the one written and the ratio stays. -/
theorem State.controlWritten_mode_ratio (hg : Good p s) : (s.controlWritten v).get TC_CONTROL_DIV_MODE = v.bits 5 5 ∧
    (s.controlWritten v).prescale = s.prescale ∧ (s.controlWritten v).ratio = s.ratio := by
  have hkeeps := State.controlWritten_keepsDivider (v := v) hg
  have hok : (s.setWord 0x2001 0 v).ok := State.setWord_ok hg.objs
  obtain ⟨hpreSet, hratioSet⟩ := State.setControl_divider (v := v) hg.objs
  obtain ⟨hpreEnd, hratioEnd⟩ := State.keepsDivider_divider hkeeps
  obtain ⟨hpre, hratio⟩ := State.divider_congr (s := s.setWord 0x2001 0 v)
    (t := (s.setWord 0x2001 0 v).changeDivMode (s.get TC_CONTROL_DIV_MODE) (v.bits 5 5)) fun k hk => by
      apply State.changeDivMode_word hok <;> simp only [objKey] <;> omega
  refine ⟨?_, ?_, ?_⟩
  · rw [State.keepsDivider_get hkeeps (by decide) (by decide) (by decide)]
    unfold State.get State.rd
    rw [State.changeDivMode_word hok (by decide) (by decide) (by decide) (by decide)]
    exact congrArg (·.bits 5 5) (State.word_setWord_same hg.objs)
  · rw [hpreEnd, hpre, hpreSet]
  · rw [hratioEnd, hratio, hratioSet]

/-- From tracking to buffered, TC_DIV_NEXT holds the values in force. -/
theorem State.controlWritten_toBuffered (hg : Good p s) (hold : s.get TC_CONTROL_DIV_MODE = 1) (hnew : v.bits 5 5 = 0) :
    (s.controlWritten v).get TC_DIV_NEXT_PRESCALE = s.get TC_DIV_ACTIVE_PRESCALE ∧
      (s.controlWritten v).get TC_DIV_NEXT_NINT = s.get TC_DIV_ACTIVE_NINT ∧
      (s.controlWritten v).get TC_DIV_NEXT_FRAC = s.get TC_DIV_ACTIVE_FRAC := by
  have hkeeps := State.controlWritten_keepsDivider (v := v) hg
  rw [hold, hnew] at hkeeps
  have hok : (s.setWord 0x2001 0 v).ok := State.setWord_ok hg.objs
  obtain ⟨hnext0, hnext1⟩ := State.changeDivMode_toBuffered hok
  have h0 : (s.controlWritten v).word 0x2004 0 = s.word 0x2003 0 := by
    rw [hkeeps _ _ (by decide) (by decide) (by decide), hnext0, State.word_setWord hg.objs, if_neg (by decide)]
  have h1 : (s.controlWritten v).word 0x2004 1 = s.word 0x2003 1 := by
    rw [hkeeps _ _ (by decide) (by decide) (by decide), hnext1, State.word_setWord hg.objs, if_neg (by decide)]
  exact ⟨congrArg (·.bits 9 8) h0, congrArg (·.bits 6 0) h0, congrArg (·.bits 23 0) h1⟩

/-- From buffered to tracking, both offsets are the one that the divider in force represents. -/
theorem State.controlWritten_toTracking (hg : Good p s) (hold : s.get TC_CONTROL_DIV_MODE = 0) (hnew : v.bits 5 5 = 1) :
    (s.controlWritten v).get TC_TRACK_NOW = toBits 32 (offsetOf s.prescale s.offsetLsb) ∧
      (s.controlWritten v).get TC_TRACK_TARGET = toBits 32 (offsetOf s.prescale s.offsetLsb) := by
  have hkeeps := State.controlWritten_keepsDivider (v := v) hg
  rw [hold, hnew] at hkeeps
  obtain ⟨hnow, htarget⟩ := State.changeDivMode_toTracking (State.setWord_ok (i := 0x2001) (k := 0) (v := v) hg.objs)
  obtain ⟨hpre, hratio⟩ := State.setControl_divider (v := v) hg.objs
  have hoffset : (s.setWord 0x2001 0 v).offsetLsb = s.offsetLsb := by
    unfold State.offsetLsb
    rw [hpre, hratio]
  rw [hpre, hoffset] at hnow htarget
  exact ⟨(State.keepsDivider_get hkeeps (by decide) (by decide) (by decide)).trans hnow,
    (State.keepsDivider_get hkeeps (by decide) (by decide) (by decide)).trans htarget⟩

/-- An admitted write to TC_CONTROL with a bandwidth in range is accepted. -/
theorem execDivModeWrite_accepted {w : Wr} (h : Safety.admits s w 0x2001 0 = true)
    (hbw : (Safety.valueOf s w 0x2001 0).bits 3 0 ≤ 6) : exec (.divModeWrite w) s =
      .next (Safety.served (s.controlWritten (Safety.valueOf s w 0x2001 0)) w.q 0x2001 0 stOk) := by
  have hrule : s.objectRule .clean w.q.port 0x2001 0 (Safety.valueOf s w 0x2001 0) =
      (stOk, s.controlWritten (Safety.valueOf s w 0x2001 0)) :=
    (State.objectRule_2001 ..).trans (State.wTcControl_accepts hbw)
  exact congrArg Host.Outcome.next (Safety.writeRequest_accepted h .clean hrule rfl)

end Sys2Proof.Machine

namespace Sys2Proof

open Machine

/-- Settles O54: TC_DIV_NEXT or the two offsets follow from the divider in force, whose own words neither the change
of mode nor what follows it (a fault reaction included) writes. -/
theorem divModeBumpless : Obligations.DivModeBumpless := by
  intro s w hwf hadm hbw
  have hg : Good s.pending s := Good.iff.mpr ⟨rfl, hwf⟩
  have hexec := execDivModeWrite_accepted hadm hbw
  obtain ⟨hmode, hpre, hratio⟩ := State.controlWritten_mode_ratio (v := Safety.valueOf s w 0x2001 0) hg
  constructor
  · intro hold hnew
    obtain ⟨hnextPre, hnextNint, hnextFrac⟩ := State.controlWritten_toBuffered hg hold hnew
    exact ⟨_, hexec, hmode.trans hnew, hnextPre, hnextNint, hnextFrac, hpre, hratio⟩
  · intro hold hnew
    obtain ⟨hnow, htarget⟩ := State.controlWritten_toTracking hg hold hnew
    exact ⟨_, hexec, hmode.trans hnew, hnow, htarget, hpre, hratio⟩

end Sys2Proof
end

section
/-! SUPPORT. A change of performance level leaves the other clocks' ratios as they are (R59): of page 0x20 it writes the
ratios of ECLK and FCLK alone. -/

namespace Sys2Proof.Machine

variable {s : State} {p : List Instr} {n : Nat}

/-- The pages that the end of a frequency change may write: events, performance levels, the supply monitor. -/
def levelPages : List Nat := [0x26, 0x61, 0x78]

theorem State.armsClock_objs : s.armsClock.objs = s.objs := by
  unfold State.armsClock State.mapArming
  split <;> rfl

section

variable (hn : n ∉ levelPages)
include hn

theorem State.perfRecord_page {new old event mv : Nat} :
    Words.page n (s.perfRecord new old event mv).objs = Words.page n s.objs := State.post_page hn (by decide)

theorem State.setLevels_page {mv : Nat} : Words.page n (s.setLevels mv).objs = Words.page n s.objs := by
  unfold State.setLevels
  simp (disch := decide) only [State.set_page hn]

theorem State.startVolt_page {lv : Nat} : Words.page n (s.startVolt lv).objs = Words.page n s.objs := by
  unfold State.startVolt
  extract_lets
  split
  · exact State.setLevels_page hn
  · rfl

theorem State.stepDone_page : Words.page n s.stepDone.objs = Words.page n s.objs := by
  have hdone : Words.page n ((s.bumpAt PL_COUNTS_COUNT 0).set PL_STATUS_BUSY 0).objs = Words.page n s.objs := by
    simp (disch := decide) only [State.set_page hn, State.bumpAt_page hn]
  unfold State.stepDone
  extract_lets
  split
  · exact (State.set_page hn (by decide)).trans hdone
  · exact hdone

end

/-- The new ratios stand in two words of page 0x20; every other word of the page stays. -/
theorem State.setFrequency_word (h : s.ok) {lv i k : Nat} (hk : objKey i k / 2 ^ 24 = 0x20)
    (h1 : objKey i k ≠ objKey 0x2018 1) (h2 : objKey i k ≠ objKey 0x2018 2) :
    (s.setFrequency lv).word i k = s.word i k := by
  have hlevel : objKey i k ≠ objKey 0x6100 0 := fun e => absurd hk (by rw [e]; decide)
  have hok : (s.set PL_STATUS_LEVEL lv).ok := State.set_ok h
  have hset := State.word_wr_other (F := PL_STATUS_LEVEL) (e := 0) (x := lv) h hlevel
  have heclk := State.word_wr_other (F := TC_OUTDIV_RATIO) (e := 1) (x := 2 * tcPerEc lv) hok h1
  have hfclk := State.word_wr_other (F := TC_OUTDIV_RATIO) (e := 2) (x := 4 * tcPerEc lv)
    (State.wr_ok (F := TC_OUTDIV_RATIO) (e := 1) (v := 2 * tcPerEc lv) hok) h2
  exact hfclk.trans (heclk.trans hset)

/-- What a frequency change leaves alone of page 0x20 (R59, R297). -/
theorem State.changeFrequency_word (hg : Good p s) {i k : Nat} (hk : objKey i k / 2 ^ 24 = 0x20)
    (h1 : objKey i k ≠ objKey 0x2018 1) (h2 : objKey i k ≠ objKey 0x2018 2) :
    s.changeFrequency.word i k = s.word i k := by
  have hclock := State.armsClock_good hg
  suffices hpage : s.changeFrequency = s ∨ ∃ lv, Words.page 0x20 s.changeFrequency.objs =
      Words.page 0x20 (s.armsClock.setFrequency lv).objs by
    obtain hsame | ⟨lv, hpage⟩ := hpage
    · rw [hsame]
    · calc s.changeFrequency.word i k = (s.armsClock.setFrequency lv).word i k :=
            State.word_of_page (State.setFrequency_good hclock).objs (State.changeFrequency_good hg).objs hk hpage
        _ = s.armsClock.word i k := State.setFrequency_word hclock.objs hk h1 h2
        _ = s.word i k := State.word_congr State.armsClock_objs i k
  unfold State.changeFrequency
  split
  · next a b _ _ _ =>
    split
    · exact .inl rfl
    · refine .inr ⟨b, ?_⟩
      extract_lets
      split
      · rw [State.startVolt_page (by decide), State.setLevels_page (by decide), State.perfRecord_page (by decide)]
      · rw [State.stepDone_page (by decide), State.perfRecord_page (by decide)]
  · exact .inl rfl

end Sys2Proof.Machine

namespace Sys2Proof

open Machine

/-- Settles O37: of page 0x20 a change of level writes the ratio words of ECLK and FCLK, clocks 1 and 2, alone. -/
theorem otherClocksKeepTheirRatios : Obligations.OtherClocksKeepTheirRatios := by
  intro s t k hwf hexec hk hk1 hk2
  have hg : Good s.pending s := Good.iff.mpr ⟨rfl, hwf⟩
  obtain rfl : s.changeFrequency = t := Host.Outcome.next.inj hexec
  have hclock : s.changeFrequency.word 0x2018 (0 + k) = s.word 0x2018 (0 + k) := by
    apply State.changeFrequency_word hg <;> simp only [objKey] <;> omega
  obtain ⟨hpre, hratio⟩ := State.divider_congr (s := s) (t := s.changeFrequency) fun j hj => by
    apply State.changeFrequency_word hg <;> simp only [objKey] <;> omega
  exact ⟨congrArg (·.bits 15 8) hclock, congrArg (·.bits 0 0) hclock, hpre, hratio⟩

end Sys2Proof
end

section
/-! SUPPORT. What a read request does, said once: one that the service takes up reads one word and is answered. The
reads of the device's time, TB_NOW (R160). -/

namespace Sys2Proof.Machine

variable {s : State} {q : Rq} {p i k : Nat} {ecc : EccOutcome} {raw : Word}

/-- A read request that the service takes up: one word read and answered. -/
theorem State.readRequest_now (hserves : s.servesNow q = true) (hcast : q.bcast = false) (hformed : s.formedNow q = true)
    (hwait : s.waitsFor i k = none) : s.readRequest q i k ecc raw =
      (s.readWord q.port i k ecc raw).2.2.answerWord q 1 i k (s.readWord q.port i k ecc raw).1
        (s.readWord q.port i k ecc raw).2.1 := by
  have hhears := (State.servesNow_iff.mp hserves).1
  have hsubmit := State.submit_now (s := s) (v := .read q i k ecc raw) hserves
  simp only [State.readRequest, hhears, hcast, hformed, Bool.not_true, Bool.or_self, Bool.false_eq_true, if_false, if_true,
    hsubmit, State.perform, State.serve, hwait]

/-- A subentry that is there and whose domain is not in reset is read. -/
theorem State.readWord_present (hknown : s.unknown i k = none) (hreset : s.peerReset i k = false) :
    s.readWord p i k ecc raw = (stOk, s.readValue p i k ecc raw) := by
  simp only [State.readWord, hknown, hreset, Bool.false_eq_true, if_false]

/-- An access to an object of no switched domain waits for none. -/
theorem State.waitsFor_noDomain (h : objDomain i k = none) : s.waitsFor i k = none := by
  rw [State.waitsFor, h, Option.filter_none]

/-- No domain reset cuts off an object of no switched domain. -/
theorem State.peerReset_noDomain (h : objDomain i k = none) : s.peerReset i k = false := by
  rw [State.peerReset, h, Option.any_none]

theorem State.port_setPort_same {x : PortSt} : (s.setPort p x).port p = x := by
  unfold State.setPort State.port
  split <;> rfl

/-- One of the two ports replaced, the other one stays. -/
theorem State.port_setPort_opposite {x : PortSt} (hp : p < 2) : (s.setPort p x).port (1 - p) = s.port (1 - p) := by
  obtain rfl | rfl : p = 0 ∨ p = 1 := by omega
  · rfl
  · rfl

/-! TB_NOW. -/

/-- TB_NOW stands in no switched domain and is served from step 2 of Table 11-3 on. -/
theorem State.unknown_timeNow (hk : k < 4) : s.unknown 0x2400 k = none := by
  have hrow : ∀ k < 4, (objRow 0x2400 k).isSome = true := by decide
  obtain ⟨r, hr⟩ := Option.isSome_iff_exists.mp (hrow k hk)
  have havail : s.available 0x2400 k = true := rfl
  simp only [State.unknown, hr, havail, if_true]

/-- A read of a word of TB_NOW that the service takes up is answered with its value. -/
theorem State.readRequest_timeNow (hserves : s.servesNow q = true) (hcast : q.bcast = false)
    (hformed : s.formedNow q = true) (hk : k < 4) : s.readRequest q 0x2400 k ecc raw =
      (s.readValue q.port 0x2400 k ecc raw).2.answerWord q 1 0x2400 k stOk (s.readValue q.port 0x2400 k ecc raw).1 := by
  have hdomain : objDomain 0x2400 k = none := rfl
  rw [State.readRequest_now hserves hcast hformed (State.waitsFor_noDomain hdomain),
    State.readWord_present (State.unknown_timeNow hk) (State.peerReset_noDomain hdomain)]

/-- Subindex 0 reads the seconds' low word and latches the four words for the port. -/
theorem State.readValue_timeNow_first : s.readValue p 0x2400 0 ecc raw =
    (BitVec.ofNat 32 (timeSeconds s.now), s.setPort p { s.port p with now := s.timeWords }) := rfl

/-- The other three subindices read what the port latched, and change nothing. -/
theorem State.readValue_timeNow_latched (hk : k ≠ 0) :
    s.readValue p 0x2400 k ecc raw = ((s.port p).now.getD k 0, s) := by
  rw [State.readValue, if_pos rfl, if_neg hk]

/-! The format of a time (R6). -/

theorem timeNs_lt (t : Nat) : timeNs t < 2 ^ 30 :=
  (Nat.mod_lt _ (by decide)).trans (by decide)

theorem timeFraction_lt (t : Nat) : timeFraction t < 2 ^ 16 := by
  have hsub : t % 768 < 768 := Nat.mod_lt t (by decide)
  unfold timeFraction
  omega

/-- A frame is 3,000 timing cycles of 256 units of 1/768 ns. -/
theorem State.now_eq_cycles : s.now = (s.frame.frame * 3000 + s.frame.tc) * 256 := by
  unfold State.now
  omega

theorem State.now_frameStart (h : s.frame.tc = 0) : s.now = s.frame.frame * 1000 * 768 := by
  rw [State.now_eq_cycles, h]
  omega

end Sys2Proof.Machine

namespace Sys2Proof

open Machine

/-- Settles O26: TB_NOW stands in no switched domain, so its reads are served at once; only that of subindex 0 changes
the state, and of it the reading port's latch alone. -/
theorem timeNowLatch : Obligations.TimeNowLatch := by
  intro s q hport hserves hcast hformed
  refine ⟨⟨s.setPort q.port { s.port q.port with now := s.timeWords }, ?_, ?_, ?_, ?_, ?_⟩, ?_, State.now_frameStart,
    rfl, rfl, timeNs_lt _, timeFraction_lt _, State.now_eq_cycles⟩
  · have hread := State.readRequest_timeNow (ecc := .clean) (raw := 0) hserves hcast hformed (k := 0) (by decide)
    rw [State.readValue_timeNow_first] at hread
    exact congrArg Host.Outcome.next hread
  · rw [State.port_setPort_same]
    rfl
  · rw [State.port_setPort_opposite hport]
  · exact State.setPort_objs ..
  · exact State.setPort_frame ..
  · intro k hk1 hk4
    have hread := State.readRequest_timeNow (ecc := .clean) (raw := 0) hserves hcast hformed hk4
    rw [State.readValue_timeNow_latched (by omega)] at hread
    exact congrArg Host.Outcome.next hread

end Sys2Proof
end

section
/-! SUPPORT. A write that its section's guard turns away, and the acknowledgement of sealed evidence blocks (R199). -/

namespace Sys2Proof.Machine

variable {s : State} {cs : List Instr} {v : Word} {n p i k sec : Nat} {m : Word} {r : ObjRow}

/-- A refused write outside TT_WIN_CMD and SF_RELEASE is counted by no object. -/
theorem State.countRefused_uncounted {st : Nat} (hwin : i ≠ 0x5002) (hrel : i ≠ 0x7101) :
    s.countRefused st i k v = s := by
  rw [State.countRefused, if_neg fun h => hwin h.1, if_neg fun h => hrel h.1]

/-- An object of a section is guarded by its owner alone. -/
theorem State.holdsGuard_iff (hsec : sectionOf i = some sec) :
    s.holdsGuard p i = true ↔ s.rd SE_SECTION_OWNER_OWNER sec = p + 1 := by
  rw [State.holdsGuard, hsec, Option.all_some, decide_eq_true_iff]

/-- A writable object that is not a write-once one gives the host access. -/
theorem State.accessBad_rewritable (hw : r.writable = true) (honce : r.once = false) : s.accessBad r k = false := by
  rw [State.accessBad, hw, honce]; rfl

/-- With the checks before it passed, a guarded object asks for its section (R7, R245). -/
theorem State.precheck_guard (hrow : objRow i k = some r) (hmask : m = BitVec.allOnes 32)
    (havail : s.available i k = true) (hactive : s.notActive p = false) (haccess : s.accessBad r k = false)
    (hguarded : r.guarded = true) (hholds : s.holdsGuard p i = false) : s.precheck p i k m = some stGuard := by
  simp [State.precheck, hrow, hmask, havail, hactive, haccess, hguarded, hholds]

/-! EV_ACK. -/

/-- The head stands as many blocks before the open block as there are sealed ones (R190). -/
theorem State.evHead_eq (hg : Good cs s) : s.evHead = s.ev.num - s.ev.sealed.length := by
  have hnum := hg.sealedNum
  unfold State.evHead
  split
  · next hnil => rw [hnil]; rfl
  · next b bs hcons =>
    rw [hcons, List.map_cons, List.length_cons, List.range'_succ, List.cons.injEq] at hnum
    rw [hcons, List.length_cons, hnum.1]

/-- The state after an acknowledgement of `n` blocks: they are freed, the writer no longer holds (R196),
and ECC_ERR is clear (R200). -/
def State.ackBlocks (s : State) (n : Nat) : State :=
  { (s.set EV_STATUS_HOLDING 0).set EV_STATUS_ECC_ERR 0 with ev := { s.ev with sealed := s.ev.sealed.drop n } }

theorem State.wEvAck_refuses (h : v.bits 31 16 ≠ s.evHead % 65536 ∨ v.bits 9 0 = 0 ∨ s.ev.sealed.length < v.bits 9 0) :
    s.wEvAck v = (stRange, s) := if_pos h

theorem State.wEvAck_accepts (hhead : v.bits 31 16 = s.evHead % 65536) (hpos : 1 ≤ v.bits 9 0)
    (hle : v.bits 9 0 ≤ s.ev.sealed.length) : s.wEvAck v = (stOk, s.ackBlocks (v.bits 9 0)) :=
  if_neg (by omega)

/-- The head advances by the number of blocks freed. -/
theorem State.evHead_ackBlocks (hg : Good cs s) (hgAck : Good cs (s.ackBlocks n)) (hle : n ≤ s.ev.sealed.length) :
    (s.ackBlocks n).evHead = s.evHead + n := by
  have hsealed := hg.sealedLe
  have hlength : (s.ackBlocks n).ev.sealed.length = s.ev.sealed.length - n := List.length_drop
  have hopen : (s.ackBlocks n).ev.num = s.ev.num := rfl
  rw [State.evHead_eq hgAck, State.evHead_eq hg, hlength, hopen]
  omega

/-- EV_ACK is served from step 2 of Table 11-3 on, and it belongs to section 6, EVIDENCE. -/
theorem State.precheck_evidenceAck (hmask : m = BitVec.allOnes 32) (hactive : s.notActive p = false)
    (howner : s.rd SE_SECTION_OWNER_OWNER 6 ≠ p + 1) : s.precheck p 0x2606 0 m = some stGuard :=
  have hrow : objRow 0x2606 0 = some ⟨0x2606, 0, 0, [⟨31, 16, .wog, 0, .c0⟩, ⟨9, 0, .wog, 0, .c0⟩]⟩ := rfl
  have hholds := mt (State.holdsGuard_iff (i := 0x2606) rfl).mp howner
  State.precheck_guard hrow hmask rfl hactive (State.accessBad_rewritable rfl rfl) rfl (Bool.eq_false_of_not_eq_true hholds)

end Sys2Proof.Machine

namespace Sys2Proof

open Machine

/-- Settles O55: the object's rule decides an admitted write, and the head's advance follows from the order of the
sealed blocks; without the section the write stops at the guard before that rule. -/
theorem evidenceAck : Obligations.EvidenceAck := by
  intro s w n hwf hn
  subst hn
  have hg : Good s.pending s := Good.iff.mpr ⟨rfl, hwf⟩
  have hrule := State.objectRule_2606 s .clean w.q.port 0 (Safety.valueOf s w 0x2606 0)
  refine ⟨fun hadm => ⟨fun hbad => ?_, fun hhead hpos hle => ?_⟩, fun hserves hformed hmask hwait hactive howner => ?_⟩
  · have hrefused := Safety.writeRequest_refused hadm .clean (hrule.trans (State.wEvAck_refuses hbad)) rfl
    rw [State.countRefused_uncounted (by decide) (by decide)] at hrefused
    exact congrArg Host.Outcome.next hrefused
  · have haccepts := State.wEvAck_accepts hhead hpos hle
    have hgAck := Good.snd_of haccepts (State.wEvAck_good hg)
    exact ⟨_, congrArg Host.Outcome.next (Safety.writeRequest_accepted hadm .clean (hrule.trans haccepts) rfl), rfl,
      State.evHead_ackBlocks hg hgAck hle, rfl⟩
  · have haway := Safety.writeRequest_turnedAway hserves hformed hwait .clean
      (State.precheck_evidenceAck hmask hactive howner)
    rw [State.countRefused_uncounted (by decide) (by decide)] at haway
    exact congrArg Host.Outcome.next haway

end Sys2Proof
end

section
/-! SUPPORT. What forwarding leaves of the state (R216, R217, R220), and what a RING_RESET block does (R224). -/

namespace Sys2Proof.Machine

variable {s t : State} {cs : List Instr} {p q : Nat} {x : RxItem}

/-! Forwarding writes the lane pairs and two objects, nothing else. -/

/-- The objects that forwarding writes: FL_TRUNCATED (R220) and FL_THRU_MAX (R217). -/
def forwardObjects : List Nat := [0x1135, 0x1151]

/-- What forwarding has no part in: the state without its lane pairs and without the words of `forwardObjects`. -/
def State.besideForwarding (s : State) : State :=
  { s with pairs := [], objs := s.objs.filter fun w => decide (w.1 / 2 ^ 16 ∉ forwardObjects) }

/-- The object of a subentry's key. -/
theorem objKey_object {i k : Nat} (hk : k < 2 ^ 16) : objKey i k / 2 ^ 16 = i := by
  unfold objKey
  omega

theorem State.wr_besideForwarding {F : Field} {e v : Nat} (hF : F.index ∈ forwardObjects) (he : F.sub + e < 2 ^ 16) :
    (s.wr F e v).besideForwarding = s.besideForwarding :=
  congrArg (fun ws => { s with pairs := [], objs := ws })
    (Table.filter_put objDefault (f := fun k => decide (k / 2 ^ 16 ∉ forwardObjects))
      (by rw [objKey_object he]; simpa using hF))

theorem State.addLoad_besideForwarding {up n : Nat} :
    (s.addLoad p up n).besideForwarding = s.besideForwarding := by
  unfold State.addLoad
  split <;> rfl

theorem State.occupy_besideForwarding {up n : Nat} :
    (s.occupy p up n).besideForwarding = s.besideForwarding := State.addLoad_besideForwarding

theorem State.flCount_truncated_besideForwarding (hp : p < 4) :
    (s.flCount FL_TRUNCATED_COUNT p).besideForwarding = s.besideForwarding := by
  unfold State.flCount
  split
  · rfl
  · exact State.wr_besideForwarding (by decide) (by simp only [FL_TRUNCATED_COUNT]; omega)

theorem State.cut_besideForwarding {f : RxFrame} (hp : p < 4) :
    (s.cut p f).2.besideForwarding = s.besideForwarding := by
  unfold State.cut
  split
  · exact State.flCount_truncated_besideForwarding hp
  · rfl

theorem State.sendItem_besideForwarding {up : Nat} (hp : p < 4) :
    (s.sendItem p up x).besideForwarding = s.besideForwarding := by
  cases x with
  | frame f => exact State.occupy_besideForwarding.trans (State.cut_besideForwarding hp)
  | control ty payload => rfl
  | badSync n f =>
    cases f with
    | none => rfl
    | some f => exact State.occupy_besideForwarding

theorem State.drainTo_besideForwarding {up : Nat} {l : List RxItem} (hp : p < 4) :
    (s.drainTo p up l).besideForwarding = s.besideForwarding := by
  induction l generalizing s with
  | nil => rfl
  | cons x xs ih =>
    unfold State.drainTo
    split
    · exact ih.trans (State.sendItem_besideForwarding hp)
    · rfl

theorem State.noteOccupancy_besideForwarding {n : Nat} (hp : p < 4) :
    (s.noteOccupancy p n).besideForwarding = s.besideForwarding := by
  unfold State.noteOccupancy
  split
  · rfl
  · exact State.wr_besideForwarding (by decide) (by simp only [FL_THRU_MAX_BLOCKS]; omega)

theorem State.emit_besideForwarding {up : Nat} (hp : p < 4) :
    (s.emit p up x).besideForwarding = s.besideForwarding := by
  have hdrain : (s.drain p up).besideForwarding = s.besideForwarding := State.drainTo_besideForwarding hp
  unfold State.emit
  extract_lets u control y n
  split
  · exact (State.sendItem_besideForwarding hp).trans hdrain
  · exact (State.noteOccupancy_besideForwarding hp).trans hdrain

theorem otherPair_lt (hp : p < 4) : otherPair p < 4 := by
  unfold otherPair
  split <;> omega

/-- A stream leaves on its own pair or, looped, on the other one of the port. -/
theorem State.outPair_lt (hp : p < 4) (h : s.outPair p = some q) : q < 4 := by
  unfold State.outPair at h
  split at h
  · obtain ⟨-, hq⟩ := Option.ite_none_right_eq_some.mp h
    exact Option.some.inj hq ▸ otherPair_lt hp
  · obtain ⟨-, hq⟩ := Option.ite_none_right_eq_some.mp h
    exact Option.some.inj hq ▸ hp

theorem State.pass_besideForwarding (hp : p < 4) : (s.pass p x).besideForwarding = s.besideForwarding := by
  simp only [State.pass, State.arrival]
  split
  · next q hout => exact State.emit_besideForwarding (State.outPair_lt (otherPair_lt hp) hout)
  · rfl

/-- A field of any other object reads alike in two states that differ by forwarding alone. -/
theorem State.get_of_besideForwarding (hs : s.ok) (ht : t.ok) (h : t.besideForwarding = s.besideForwarding) {F : Field}
    (hF : F.index ∉ forwardObjects) (hsub : F.sub < 2 ^ 16) : t.get F = s.get F := by
  have read : ∀ {u : State}, u.ok → u.besideForwarding.word F.index F.sub = u.word F.index F.sub := fun hu =>
    Table.find_filter_from objDefault (f := fun k => decide (k / 2 ^ 16 ∉ forwardObjects))
      (by rw [objKey_object hsub]; exact decide_eq_true hF) hu
  have hword : t.word F.index F.sub = s.word F.index F.sub := by rw [← read ht, ← read hs, h]
  exact congrArg (Word.bits · F.hi F.lo) hword

/-- Resets, lanes and the frame counter are no part of forwarding. -/
theorem State.kept_of_besideForwarding (h : t.besideForwarding = s.besideForwarding) :
    t.rst = s.rst ∧ t.lanes = s.lanes ∧ t.frame = s.frame :=
  have kept {α : Type} (part : State → α) : part t.besideForwarding = part s.besideForwarding := congrArg part h
  ⟨kept State.rst, kept State.lanes, kept State.frame⟩

/-! A RING_RESET block (R224). -/

variable {dest epoch port : Nat}

/-- A RING_RESET block as it travels on. -/
def ringResetBlock (dest epoch : Nat) : RxItem :=
  .control 0x60 (BitVec.ofNat 56 (dest % 256 + epoch % 2 ^ 32 * 256))

/-- The state after an endpoint has sent a RING_RESET on: one that names this device alone ends here. -/
def State.ringResetForwarded (s : State) (p dest epoch : Nat) : State :=
  if dest = s.address then s else s.pass p (ringResetBlock dest epoch)

theorem State.resetAllowed_iff : s.resetAllowed port epoch = true ↔
    s.get SE_EPOCH_EPOCH = 0 ∨ (epoch = s.get SE_EPOCH_EPOCH ∧ s.get SE_EPOCH_ACTIVE = port + 1) := by
  simp [State.resetAllowed]

theorem State.ringResetForwarded_good (hg : Good cs s) : Good cs (s.ringResetForwarded p dest epoch) :=
  Good.ite hg (State.pass_good hg)

theorem State.ringResetForwarded_besideForwarding (hp : p < 4) :
    (s.ringResetForwarded p dest epoch).besideForwarding = s.besideForwarding := by
  unfold State.ringResetForwarded
  split
  · rfl
  · exact State.pass_besideForwarding hp

/-- Whether a block is for the device and whether it is acted on do not change as the block is sent on. -/
theorem State.ringReset_judged_alike (hs : s.ok) (ht : t.ok) (h : t.besideForwarding = s.besideForwarding) :
    t.toUs dest = s.toUs dest ∧ t.resetAllowed port epoch = s.resetAllowed port epoch := by
  have read {F : Field} := State.get_of_besideForwarding hs ht h (F := F)
  constructor
  · unfold State.toUs State.address
    rw [read (by decide) (by decide)]
  · unfold State.resetAllowed
    rw [read (by decide) (by decide), read (by decide) (by decide)]

theorem State.ringResetReceive_down (hup : s.pairUp p = false) : s.ringResetReceive p dest epoch = s := by
  rw [State.ringResetReceive, hup]
  rfl

/-- In device reset and in DORMANT the block is repeated untouched (R226). -/
theorem State.ringResetReceive_repeated (hup : s.pairUp p = true) (hrepeats : s.repeats = true) :
    s.ringResetReceive p dest epoch = s.pass p (ringResetBlock dest epoch) := by
  rw [State.ringResetReceive, hup, hrepeats]
  rfl

/-- An endpoint sends the block on first; its answer is decided by the state that the block met. -/
theorem State.ringResetReceive_endpoint (hg : Good cs s) (hp : p < 4) (hup : s.pairUp p = true)
    (hrepeats : s.repeats = false) {u : State} (hu : u = s.ringResetForwarded p dest epoch) :
    s.ringResetReceive p dest epoch =
      if !s.toUs dest then u
      else if s.resetAllowed (portOf p) epoch then
        if s.rst.ringDue.isSome then u
        else { u with rst := { u.rst with ringDue := some (s.frame.up + 600), ringPort := portOf p + 1 } }
      else u.bump FL_RESETS_REFUSED_COUNT := by
  have hbeside : u.besideForwarding = s.besideForwarding := hu ▸ State.ringResetForwarded_besideForwarding hp
  have hgood : Good cs u := hu ▸ State.ringResetForwarded_good hg
  obtain ⟨hto, hallowed⟩ := State.ringReset_judged_alike (dest := dest) (port := portOf p) (epoch := epoch)
    hg.objs hgood.objs hbeside
  obtain ⟨hrst, -, hframe⟩ := State.kept_of_besideForwarding hbeside
  rw [State.ringResetReceive, hup, hrepeats, ← hto, ← hallowed, ← hrst, ← hframe, hu]
  rfl

end Sys2Proof.Machine

namespace Sys2Proof

open Machine

/-- Settles O41: sending the block on changes none of what R224 asks about it, for forwarding writes the lane pairs and
two counting objects alone. -/
theorem ringResetBlocks : Obligations.RingResetBlocks := by
  intro s p dest epoch hwf hp
  have hg : Good s.pending s := Good.iff.mpr ⟨rfl, hwf⟩
  refine ⟨fun hup hrepeats u hu => ?_, fun hup hrepeats => ?_, fun hup => ?_⟩
  · have hreceive := State.ringResetReceive_endpoint hg hp hup hrepeats hu
    have hbeside : u.besideForwarding = s.besideForwarding := hu ▸ State.ringResetForwarded_besideForwarding hp
    have hexec {t : State} (h : s.ringResetReceive p dest epoch = t) :
        exec (.ringResetReceive p dest epoch) s = .next t := congrArg Host.Outcome.next h
    refine ⟨fun hto => ⟨fun hallowed hidle => ?_, fun hallowed hdue => ?_, fun hepoch hother => ?_⟩,
      fun hto => ?_, State.kept_of_besideForwarding hbeside⟩
    · have hallows := State.resetAllowed_iff.mpr hallowed
      exact hexec (by simp [hreceive, hto, hallows, hidle])
    · have hallows := State.resetAllowed_iff.mpr hallowed
      exact hexec (by simp [hreceive, hto, hallows, hdue])
    · have hrefuses : ¬ s.resetAllowed (portOf p) epoch = true := mt State.resetAllowed_iff.mp (by omega)
      exact hexec (by simp [hreceive, hto, hrefuses])
    · exact hexec (by simp [hreceive, hto])
  · exact congrArg Host.Outcome.next (State.ringResetReceive_repeated hup hrepeats)
  · exact congrArg Host.Outcome.next (State.ringResetReceive_down hup)

end Sys2Proof
end

section
/-! SUPPORT. The acquire of semaphore sections (R252): what taking one section does to the words of SE_SECTION_OWNER,
what taking several does, and when the request is granted. -/

namespace Sys2Proof.Machine

variable {s : State} {i j k p : Nat} {l : List Nat} {v m : Word} {r : ObjRow}

/-! Requests in general. -/

/-- Outside the window command a write waits for its object's domain alone. -/
theorem State.writeWaits_eq_waitsFor (hwin : i ≠ 0x5002) : s.writeWaits i k v = s.waitsFor i k := by
  rw [State.writeWaits, State.writeBank, if_neg fun h => hwin h.1, Option.filter_none]
  cases s.waitsFor i k <;> rfl

/-- With the checks before it passed, the port that is not active is turned away (R245, R258). -/
theorem State.precheck_notActive (hrow : objRow i k = some r) (hmask : m = BitVec.allOnes 32)
    (havail : s.available i k = true) (hactive : s.notActive p = true) : s.precheck p i k m = some stNotActive := by
  simp [State.precheck, hrow, hmask, havail, hactive]

/-- What no run of a repeated operation changes stays. -/
theorem State.eachIn_kept {α : Type} {f : Nat → State → State} (part : State → α)
    (h : ∀ k t, part (f k t) = part t) : part (State.eachIn l f s) = part s :=
  List.foldlRecOn (motive := fun t => part t = part s) l _ rfl fun t ht k _ => (h k t).trans ht

/-! The word of a section. -/

/-- The word of a section once the port has asked for it: a free section is held by the port and has counted a grant. -/
def acquiredWord (p : Nat) (w : Word) : Word :=
  if w.bits 31 30 = 0 then (w.put 31 30 (p + 1)).put 15 0 (w.bits 15 0 + 1) else w

theorem acquiredWord_held {w : Word} (h : w.bits 31 30 ≠ 0) : acquiredWord p w = w := if_neg h

theorem acquiredWord_owner {w : Word} (hp : p < 2) :
    (acquiredWord p w).bits 31 30 = if w.bits 31 30 = 0 then p + 1 else w.bits 31 30 := by
  unfold acquiredWord
  split
  · rw [Word.bits_put_other (by decide) (by decide) (by decide), Word.bits_put_same (by decide) (by decide)]
    omega
  · rfl

theorem acquiredWord_grants {w : Word} :
    (acquiredWord p w).bits 15 0 = if w.bits 31 30 = 0 then (w.bits 15 0 + 1) % 2 ^ 16 else w.bits 15 0 := by
  unfold acquiredWord
  split
  · exact Word.bits_put_same (by decide) (by decide)
  · rfl

/-- A section is taken once: asking again changes nothing. -/
theorem acquiredWord_idem {w : Word} (hp : p < 2) : acquiredWord p (acquiredWord p w) = acquiredWord p w := by
  refine acquiredWord_held ?_
  rw [acquiredWord_owner hp]
  split <;> omega

/-! Sections taken. -/

theorem State.takeSection_ok (h : s.ok) : (s.takeSection p k).ok := by
  unfold State.takeSection
  split
  · exact State.wr_ok (State.wr_ok h)
  · exact h

theorem State.takeSection_held (h : s.rd SE_SECTION_OWNER_OWNER k ≠ 0) : s.takeSection p k = s := if_neg h

theorem State.takeSection_lanes_commit :
    ((s.takeSection p k).lanes, (s.takeSection p k).commit) = (s.lanes, s.commit) := by
  unfold State.takeSection
  split <;> rfl

theorem State.takeSection_word_same (h : s.ok) :
    (s.takeSection p k).word 0x1300 (0 + k) = acquiredWord p (s.word 0x1300 (0 + k)) := by
  unfold State.takeSection acquiredWord
  by_cases hfree : s.rd SE_SECTION_OWNER_OWNER k = 0
  · rw [if_pos hfree, if_pos (show (s.word 0x1300 (0 + k)).bits 31 30 = 0 from hfree)]
    exact (State.word_setWord_same (State.wr_ok h)).trans
      (congrArg (Word.put · 15 0 _) (State.word_setWord_same h))
  · rw [if_neg hfree, if_neg (show (s.word 0x1300 (0 + k)).bits 31 30 ≠ 0 from hfree)]

theorem State.takeSection_word_other (h : s.ok) (hjk : j ≠ k) :
    (s.takeSection p k).word 0x1300 (0 + j) = s.word 0x1300 (0 + j) := by
  have hkey : objKey 0x1300 (0 + j) ≠ objKey 0x1300 (0 + k) := by simp only [objKey]; omega
  unfold State.takeSection
  split
  · exact (State.word_wr_other (F := SE_SECTION_OWNER_GRANTS) (State.wr_ok h) hkey).trans
      (State.word_wr_other (F := SE_SECTION_OWNER_OWNER) h hkey)
  · rfl

/-- Of the sections' words, an acquire writes those of the sections it names, each once. -/
theorem State.takeSections_word (h : s.ok) (hp : p < 2) :
    (State.eachIn l (fun k s => s.takeSection p k) s).word 0x1300 (0 + j) =
      if j ∈ l then acquiredWord p (s.word 0x1300 (0 + j)) else s.word 0x1300 (0 + j) := by
  induction l generalizing s with
  | nil => rfl
  | cons k ks ih =>
    refine (ih (State.takeSection_ok h)).trans ?_
    by_cases hjk : j = k
    · subst hjk
      rw [State.takeSection_word_same h, acquiredWord_idem hp, ite_self, if_pos List.mem_cons_self]
    · simp only [State.takeSection_word_other h hjk, List.mem_cons, hjk, false_or]

theorem State.takeSections_held (h : ∀ k ∈ l, s.rd SE_SECTION_OWNER_OWNER k ≠ 0) :
    State.eachIn l (fun k s => s.takeSection p k) s = s :=
  List.foldlRecOn (motive := fun t => t = s) l _ rfl fun _ ht k hk =>
    (congrArg (·.takeSection p k) ht).trans (State.takeSection_held (h k hk))

/-! SE_ACQUIRE. -/

theorem mem_namedSections : k ∈ namedSections v ↔ k < 16 ∧ v.toNat.testBit k = true := by
  rw [namedSections, List.mem_filter, List.mem_range]

/-- No named section is held by the other port. -/
def State.acquirable (s : State) (p : Nat) (v : Word) : Prop :=
  ∀ k < 16, v.toNat.testBit k = true → s.rd SE_SECTION_OWNER_OWNER k = 0 ∨ s.rd SE_SECTION_OWNER_OWNER k = p + 1

/-- The state after a granted acquire. -/
def State.sectionsTaken (s : State) (p : Nat) (v : Word) : State :=
  State.eachIn (namedSections v) (fun k s => s.takeSection p k) s

theorem State.wAcquire_grants (h : s.acquirable p v) : s.wAcquire p v = (stOk, s.sectionsTaken p v) := by
  refine if_neg ?_
  simp only [List.any_eq_true, mem_namedSections, Bool.and_eq_true, decide_eq_true_eq]
  rintro ⟨k, ⟨hk, hbit⟩, hfree, hother⟩
  exact (h k hk hbit).elim hfree hother

theorem State.wAcquire_refuses (hk : k < 16) (hbit : v.toNat.testBit k = true)
    (hfree : s.rd SE_SECTION_OWNER_OWNER k ≠ 0) (hother : s.rd SE_SECTION_OWNER_OWNER k ≠ p + 1) :
    s.wAcquire p v = (stState, s) :=
  if_pos (List.any_eq_true.mpr ⟨k, mem_namedSections.mpr ⟨hk, hbit⟩, by simp [hfree, hother]⟩)

theorem State.sectionsTaken_word (h : s.ok) (hp : p < 2) (hk : k < 16) :
    (s.sectionsTaken p v).word 0x1300 (0 + k) =
      if v.toNat.testBit k = true then acquiredWord p (s.word 0x1300 (0 + k)) else s.word 0x1300 (0 + k) := by
  refine (State.takeSections_word h hp).trans ?_
  simp only [mem_namedSections, hk, true_and]

/-- Every named section is held by the port, the others keep their owners. -/
theorem State.sectionsTaken_owner (h : s.ok) (hp : p < 2) (hk : k < 16) (hcan : s.acquirable p v) :
    (s.sectionsTaken p v).rd SE_SECTION_OWNER_OWNER k =
      if v.toNat.testBit k = true then p + 1 else s.rd SE_SECTION_OWNER_OWNER k := by
  have hword := congrArg (Word.bits · 31 30) (State.sectionsTaken_word (v := v) h hp hk)
  refine Eq.trans hword ?_
  split
  · next hbit =>
    refine (acquiredWord_owner hp).trans ?_
    split
    · rfl
    · next hheld => exact (hcan k hk hbit).resolve_left hheld
  · rfl

/-- The sections newly taken count a grant, the others keep their counts. -/
theorem State.sectionsTaken_grants (h : s.ok) (hp : p < 2) (hk : k < 16) :
    (s.sectionsTaken p v).rd SE_SECTION_OWNER_GRANTS k =
      if v.toNat.testBit k = true ∧ s.rd SE_SECTION_OWNER_OWNER k = 0
      then (s.rd SE_SECTION_OWNER_GRANTS k + 1) % 2 ^ 16 else s.rd SE_SECTION_OWNER_GRANTS k := by
  have hword := congrArg (Word.bits · 15 0) (State.sectionsTaken_word (v := v) h hp hk)
  refine Eq.trans hword ?_
  rw [ite_and]
  split
  · exact acquiredWord_grants
  · rfl

theorem State.sectionsTaken_lanes_commit :
    ((s.sectionsTaken p v).lanes, (s.sectionsTaken p v).commit) = (s.lanes, s.commit) :=
  State.eachIn_kept (fun t => (t.lanes, t.commit)) fun _ _ => State.takeSection_lanes_commit

theorem State.sectionsTaken_held
    (h : ∀ k < 16, v.toNat.testBit k = true → s.rd SE_SECTION_OWNER_OWNER k = p + 1) : s.sectionsTaken p v = s :=
  State.takeSections_held fun k hk => by
    obtain ⟨hk16, hbit⟩ := mem_namedSections.mp hk
    rw [h k hk16 hbit]
    omega

/-- An admitted acquire that finds no named section with the other port is granted. -/
theorem execSeAcquire_granted {w : Wr} (hadm : Safety.admits s w 0x1301 0 = true)
    (hcan : s.acquirable w.q.port (Safety.valueOf s w 0x1301 0)) : exec (.seAcquire w) s =
      .next (Safety.served (s.sectionsTaken w.q.port (Safety.valueOf s w 0x1301 0)) w.q 0x1301 0 stOk) :=
  have hrule := (State.objectRule_1301 s .clean w.q.port 0 _).trans (State.wAcquire_grants hcan)
  congrArg Host.Outcome.next (Safety.writeRequest_accepted hadm .clean hrule rfl)

/-- SE_ACQUIRE is served from step 2 of Table 11-3 on. -/
theorem State.precheck_acquire_notActive (hmask : m = BitVec.allOnes 32) (hactive : s.notActive p = true) :
    s.precheck p 0x1301 0 m = some stNotActive :=
  have hrow : objRow 0x1301 0 = some ⟨0x1301, 0, 0, [⟨15, 0, .wo, 0, .c0⟩]⟩ := rfl
  State.precheck_notActive hrow hmask rfl hactive

end Sys2Proof.Machine

namespace Sys2Proof

open Machine

/-- Settles O29: one look at every named section decides the acquire, and a section taken for the port is not free any
more, so each of them counts one grant. -/
theorem sectionsAcquired : Obligations.SectionsAcquired := by
  intro s w hport
  refine ⟨fun hadm hwf hcan => ?_, fun hadm hheld => ?_, fun k hk hadm hbit hfree hother => ?_,
    fun hserves hformed hwait havail hmask hepoch hactive => ?_⟩
  · have hg : Good s.pending s := Good.iff.mpr ⟨rfl, hwf⟩
    obtain ⟨hlanes, hcommit⟩ := Prod.mk.inj (State.sectionsTaken_lanes_commit (s := s) (p := w.q.port)
      (v := Safety.valueOf s w 0x1301 0))
    exact ⟨_, execSeAcquire_granted hadm hcan, fun k hk => State.sectionsTaken_owner hg.objs hport hk hcan,
      fun k hk => State.sectionsTaken_grants hg.objs hport hk, hlanes, hcommit⟩
  · have hgranted := execSeAcquire_granted hadm fun k hk hbit => .inr (hheld k hk hbit)
    rwa [State.sectionsTaken_held hheld] at hgranted
  · have hrule := (State.objectRule_1301 s .clean w.q.port 0 _).trans (State.wAcquire_refuses hk hbit hfree hother)
    have hrefused := Safety.writeRequest_refused hadm .clean hrule rfl
    rw [State.countRefused_uncounted (by decide) (by decide)] at hrefused
    exact congrArg Host.Outcome.next hrefused
  · have hturned : s.notActive w.q.port = true := by simp [State.notActive, hepoch, hactive]
    have haway := Safety.writeRequest_turnedAway hserves hformed
      ((State.writeWaits_eq_waitsFor (by decide)).trans hwait) .clean (State.precheck_acquire_notActive hmask hturned)
    rw [State.countRefused_uncounted (by decide) (by decide)] at haway
    exact congrArg Host.Outcome.next haway

end Sys2Proof
end

section
/-! SUPPORT. What every command does with the queue and the invariant: it completes, leaves the queue as it was and keeps
the canonical form, operation by operation (Laws/Good*.lean). -/

namespace Sys2Proof.Machine

variable {s : State} {c : Instr} {i k : Nat} {w : Wr} {cs : List Instr}

/-- A command that is a write row is the write request of its subentry. -/
theorem exec_writeRow (h : Safety.writeRow c = some (i, k, w)) :
    exec c s = .next (s.writeRequest (Safety.eccOf c) i k w) := by
  cases c <;> cases h <;> rfl

/-- Every command that is no write row completes and keeps what `Good` says. -/
theorem exec_event_good (hg : Good cs s) (hc : Safety.writeRow c = none) : ∃ t, exec c s = .next t ∧ Good cs t := by
  cases c with
  | frameTick => exact ⟨_, rfl, Good.ite (State.nextTick_good hg) hg⟩
  | slackWindow => exact ⟨_, rfl, Good.ite (State.goOn_good (State.slackWindow_good hg)) hg⟩
  | loopWindowBoundary => exact ⟨_, rfl, Good.ite (State.windowBoundary_good hg) hg⟩
  | monitorSample => exact ⟨_, rfl, Good.ite (State.monitorSample_good hg) hg⟩
  | pilotUpdate => exact ⟨_, rfl, Good.ite (State.pilotUpdate_good hg) hg⟩
  | timingPortBlockLock => exact ⟨_, rfl, State.goOn_good (State.portLock_good hg)⟩
  | bandSearchPhaseEnd => exact ⟨_, rfl, Good.ite (State.phaseEnd_good hg) hg⟩
  | searchFailTimeout => exact ⟨_, rfl, State.searchFail_good hg⟩
  | referenceLoss => exact ⟨_, rfl, Good.ite hg (State.refLoss_good hg)⟩
  | lockLoss => exact ⟨_, rfl, State.lockLoss_good hg⟩
  | clkReadySet => exact ⟨_, rfl, State.setReady_good hg⟩
  | recentre => exact ⟨_, rfl, State.recentre_good hg⟩
  | referenceQualified => exact ⟨_, rfl, State.qualify_good hg⟩
  | relockLock => exact ⟨_, rfl, State.relock_good hg⟩
  | relockTimeout => exact ⟨_, rfl, Good.ite (State.bump_good (State.set_good hg)) hg⟩
  | trimWindowEnd => exact ⟨_, rfl, State.trimEnd_good hg⟩
  | coastLimitExceeded => exact ⟨_, rfl, State.coastLimit_good hg⟩
  | phaseStep => exact ⟨_, rfl, State.phaseStep_good hg⟩
  | trackRampStep => exact ⟨_, rfl, State.rampStep_good hg⟩
  | divCommitApply => exact ⟨_, rfl, State.applyDiv_good hg⟩
  | ckStatusRead => exact ⟨_, rfl, State.readRequest_good hg⟩
  | sourceSwitchDone => exact ⟨_, rfl, State.goOn_good (State.switchEnd_good hg)⟩
  | imageSourceSwitch => exact ⟨_, rfl, State.imageSwitch_good hg⟩
  | dsStart => exact ⟨_, rfl, Good.ite (State.dsBegin_good hg) hg⟩
  | dsPhaseEnd => exact ⟨_, rfl, State.dsPhaseEnd_good hg⟩
  | dsStartTimeout => exact ⟨_, rfl, Good.ite (Good.of_mk hg rfl rfl rfl rfl rfl rfl rfl rfl rfl rfl rfl rfl rfl) hg⟩
  | pdmSourceMove => exact ⟨_, rfl, State.movePdm_good hg⟩
  | dsLockLoss => exact ⟨_, rfl, State.dsLoss_good hg⟩
  | sscChangeApply => exact ⟨_, rfl, State.sscApply_good hg⟩
  | heaterCurrentMeasure => exact ⟨_, rfl, State.heaterMeasure_good hg⟩
  | eoComplianceFault => exact ⟨_, rfl, State.eoFault_good hg⟩
  | armingComplete => exact ⟨_, rfl, State.armComplete_good hg⟩
  | ringCommitArmStart => exact ⟨_, rfl, State.voteRose_good (State.ringArmStart_good hg)⟩
  | trigInEdge => exact ⟨_, rfl, Good.ite (State.trigEdge_good hg) hg⟩
  | surveyEntry => exact ⟨_, rfl, State.surveyEntry_good hg⟩
  | surveyPassStart => exact ⟨_, rfl, State.passStart_good hg⟩
  | sweepStepEnd => exact ⟨_, rfl, State.sweepStepEnd_good hg⟩
  | surveyCapture => exact ⟨_, rfl, State.surveyCapture_good hg⟩
  | crosstalkBaselineEnd => exact ⟨_, rfl, State.baselineEnd_good hg⟩
  | aggressorDwellEnd => exact ⟨_, rfl, State.dwellEnd_good hg⟩
  | selfProbeDwellEnd => exact ⟨_, rfl, State.probeEnd_good hg⟩
  | surveyRestore => exact ⟨_, rfl, State.surveyRestore_good hg⟩
  | surveyResume => exact ⟨_, rfl, State.surveyResume_good hg⟩
  | calTemperatureCheck => exact ⟨_, rfl, State.calCheck_good hg⟩
  | calRunStart => exact ⟨_, rfl, State.calStart_good hg⟩
  | calRunEnd => exact ⟨_, rfl, State.calEnd_good hg⟩
  | learnIntervalEnd => exact ⟨_, rfl, State.learnEnd_good hg⟩
  | learnedWrite => exact ⟨_, rfl, State.learnedWrite_good hg⟩
  | timeReadLatch => exact ⟨_, rfl, State.readRequest_good hg⟩
  | word64ReadLatch => exact ⟨_, rfl, State.readRequest_good hg⟩
  | frameMarkReceive => exact ⟨_, rfl, State.markReceive_good hg⟩
  | dreqSend => exact ⟨_, rfl, State.dreqSend_good hg⟩
  | dreqReceive => exact ⟨_, rfl, Good.ite (State.sendCtl_good hg) hg⟩
  | drespReceive => exact ⟨_, rfl, State.drespReceive_good hg⟩
  | drespTimeout => exact ⟨_, rfl, State.drespTimeout_good hg⟩
  | timeSet => exact ⟨_, rfl, Good.ite (State.nextTick_good hg) hg⟩
  | timeStep => exact ⟨_, rfl, Good.ite (State.nextTick_good hg) hg⟩
  | lightCrossing => exact ⟨_, rfl, State.crossing_good hg⟩
  | lightLevel => exact ⟨_, rfl, State.lightLevel_good hg⟩
  | lightRecordEnqueue => exact ⟨_, rfl, State.takeLight_good hg⟩
  | evidenceRecordWrite => exact ⟨_, rfl, State.writerCycle_good hg⟩
  | sealTimeout => exact ⟨_, rfl, State.sealTimeout_good hg⟩
  | chainRestart => exact ⟨_, rfl, Good.ite (State.startChain_good hg) hg⟩
  | evidenceRead => exact ⟨_, rfl, State.readRequest_good hg⟩
  | requestReceive => exact ⟨_, rfl, State.receive_good hg⟩
  | readRequest => exact ⟨_, rfl, State.readRequest_good hg⟩
  | bulkReadRequest => exact ⟨_, rfl, State.bulkRead_good hg⟩
  | bulkWriteRequest => exact ⟨_, rfl, State.bulkWrite_good hg⟩
  | frameForward => exact ⟨_, rfl, Good.ite (State.forward_good hg) hg⟩
  | ownFrameTransmit => exact ⟨_, rfl, State.transmit_good hg⟩
  | linkSignalDetect => exact ⟨_, rfl, State.signal_good hg⟩
  | linkBlockLock => exact ⟨_, rfl, State.goOn_good (State.blockLock_good hg)⟩
  | helloSend => exact ⟨_, rfl, State.sendHello_good hg⟩
  | helloReceive => exact ⟨_, rfl, State.hello_good hg⟩
  | linkLoss => exact ⟨_, rfl, State.linkLoss_good hg⟩
  | loopEngage => exact ⟨_, rfl, State.loopEngage_good hg⟩
  | loopRelease => exact ⟨_, rfl, State.loopRelease_good hg⟩
  | arbToken => exact ⟨_, rfl, State.tokenArrives_good hg⟩
  | tokenOutcome => exact ⟨_, rfl, State.tokenOutcome_good hg⟩
  | wakeReceive => exact ⟨_, rfl, State.wakeReceive_good hg⟩
  | ringResetReceive => exact ⟨_, rfl, State.ringResetReceive_good hg⟩
  | imageCheckDone => exact ⟨_, rfl, Good.ite (State.checkDone_good hg) hg⟩
  | imageFrame => exact ⟨_, rfl, Good.ite (State.submit_good hg) hg⟩
  | modeChange => exact ⟨_, rfl, State.modeChange_good hg⟩
  | dormantClockStop => exact ⟨_, rfl, State.clockStop_good hg⟩
  | powerRequestStart => exact ⟨_, rfl, State.powerStart_good hg⟩
  | neapVoteCheck => exact ⟨_, rfl, State.voteCheck_good hg⟩
  | neapIsolate => exact ⟨_, rfl, Good.ite (Good.ite (State.isolateHead_good (State.voteRose_good hg)) (State.voteRose_good hg)) hg⟩
  | neapPowerDown => exact ⟨_, rfl, State.neapDown_good hg⟩
  | domainWake => exact ⟨_, rfl, Good.ite (State.demandWake_good hg) hg⟩
  | domainWakeDone => exact ⟨_, rfl, State.goOn_good (State.wakeDone_good hg)⟩
  | perfStepStart => exact ⟨_, rfl, State.tryStart_good hg⟩
  | perfFrequencyChange => exact ⟨_, rfl, State.changeFrequency_good hg⟩
  | pmbusTransactionDone => exact ⟨_, rfl, State.pmbusDone_good hg⟩
  | voutSettleEnd => exact ⟨_, rfl, State.settleEnd_good hg⟩
  | domainResetStart => exact ⟨_, rfl, State.goOn_good (State.domResetStart_good hg)⟩
  | domainResetRelease => exact ⟨_, rfl, State.goOn_good (State.domResetRelease_good hg)⟩
  | crossingPeerDrop => exact ⟨_, rfl, State.goOn_good (State.peerDrop_good hg)⟩
  | crossingHandshakeDone => exact ⟨_, rfl, State.handshakeDone_good hg⟩
  | faultReport => exact ⟨_, rfl, State.faultReport_good hg⟩
  | reactionWindowClose => exact ⟨_, rfl, Good.ite (State.closeWindow_good hg) hg⟩
  | containmentApply => exact ⟨_, rfl, State.applyContainment_good hg⟩
  | faultRecordEnqueue => exact ⟨_, rfl, State.passFault_good hg⟩
  | safeInLow => exact ⟨_, rfl, State.safeIn_good hg⟩
  | fltReadbackMismatch => exact ⟨_, rfl, State.raiseLevel_good hg⟩
  | gateReadbackMismatch => exact ⟨_, rfl, State.gateMismatch_good hg⟩
  | safeReleaseEffect => exact ⟨_, rfl, State.releaseEffect_good hg⟩
  | supplyWarningCross => exact ⟨_, rfl, State.warningCross_good hg⟩
  | supplyDipQualify => exact ⟨_, rfl, State.dipQualify_good hg⟩
  | supplyRecover => exact ⟨_, rfl, State.supplyRecover_good hg⟩
  | supplyMarginalClear => exact ⟨_, rfl, State.marginalClear_good hg⟩
  | supplyResetLevel => exact ⟨_, rfl, State.resetLevel_good hg⟩
  | brownoutResetAssert => exact ⟨_, rfl, State.brownReset_good hg⟩
  | temperatureConversion => exact ⟨_, rfl, Good.ite (State.convert_good hg) hg⟩
  | pmbusAlert => exact ⟨_, rfl, State.pmbusAlert_good hg⟩
  | coldReset => exact ⟨_, rfl, State.coldReset_good hg⟩
  | pinReset => exact ⟨_, rfl, Good.ite (State.pinReset_good (Good.ite hg (State.freeBit_good hg))) (Good.ite hg (State.freeBit_good hg))⟩
  | ringResetAssert => exact ⟨_, rfl, State.ringReset_good hg⟩
  | resetRelease => exact ⟨_, rfl, Good.ite hg (State.release_good hg)⟩
  | vgateCrossing => exact ⟨_, rfl, State.vgateCross_good hg⟩
  | faultCauseEnd => exact ⟨_, rfl, State.causeEnd_good hg⟩
  | domainStart => exact ⟨_, rfl, State.domainStart_good hg⟩
  | portSelWrite | loopBandwidthWrite | divModeWrite | divCommit | trackTargetWrite | sourceSwitch | linkCfgWrite
  | clockEnableWrite | sscWrite | cmdOff | cmdPark | cmdRun | cmdCoast | cmdResume | cmdClear | monitorAssign |
  windowLengthWrite | setpointWrite | eoCodeWrite | armGo | armDisarm | shadowSync | schedulePush | scheduleFlush
  | scheduleFlushAll | ttWindowRead | ttWindowWrite | neighbourWrite | aggressorWrite | surveyGo | surveyAbort |
  calRequest | calCorrectionWrite | stepAuthorise | stepCancel | pdConfigWrite | sealNow | keyCommit | keyLock |
  evidenceAck | objectWrite | seAcquire | seRelease | arbKeyWrite | bootBegin | bootEnd | bootRun | bootAbort |
  modeRequestService | modeRequestDormant | powerRequest | perfLevelRequest | domainResetRequest |
  faultClearSource | faultClearAll | firstFaultClear | safeRelease | faultInject => cases hc

/-- Every command completes and keeps what `Good` says. -/
theorem exec_good (hg : Good cs s) : ∃ t, exec c s = .next t ∧ Good cs t := by
  rcases hrow : Safety.writeRow c with _ | ⟨i, k, w⟩
  · exact exec_event_good hg hrow
  · exact ⟨_, exec_writeRow hrow, State.writeRequest_good hg⟩

/-- A command's outcome keeps what `Good` says. -/
theorem Good.exec {t : State} (hg : Good cs s) (h : Machine.exec c s = .next t) : Good cs t := by
  obtain ⟨u, hu, hgu⟩ := exec_good (c := c) hg
  obtain rfl : u = t := Host.Outcome.next.inj (hu.symm.trans h)
  exact hgu

/-- The queue's rest is what a command leaves alone. -/
theorem Good.rest (h : Safety.wf s = true) : Good cs { s with pending := cs } :=
  Good.iff.mpr ⟨rfl, h⟩

theorem Good.wf (h : Good cs s) : Safety.wf s = true := (Good.iff.mp h).2

/-- A state of the model's invariant, with its own queue. -/
theorem Good.of_wf (h : Safety.wf s = true) : Good s.pending s := Good.iff.mpr ⟨rfl, h⟩

theorem step_nil (h : s.pending = []) : step s = .next s.idle := by
  unfold step; rw [h]

theorem step_cons (h : s.pending = c :: cs) : step s = Machine.exec c { s with pending := cs } := by
  unfold step; rw [h]

end Sys2Proof.Machine

namespace Sys2Proof

open Machine

/-- Settles O49: an idle cycle writes no table, and a command keeps the invariant whatever queue it runs beside. -/
theorem everyStepKeepsTheInvariant : Obligations.EveryStepKeepsTheInvariant := by
  intro s t hwf hstep
  rcases hq : s.pending with _ | ⟨c, cs⟩
  · obtain rfl : s.idle = t := Host.Outcome.next.inj ((step_nil hq).symm.trans hstep)
    exact (State.idle_good (Good.of_wf hwf)).wf
  · exact (Good.exec (Good.rest hwf) ((step_cons hq).symm.trans hstep)).wf

/-- Settles O51: every command's operation keeps the queue and the invariant, and none stops. -/
theorem everyCommandCompletes : Obligations.EveryCommandCompletes := by
  intro c s hwf
  obtain ⟨t, hexec, hgood⟩ := exec_good (c := c) (Good.of_wf hwf)
  exact ⟨t, hexec, hgood.wf, hgood.pending⟩

/-- Settles O50: the queue is part of what every command's operation keeps. -/
theorem commandsLeaveTheQueue : Obligations.CommandsLeaveTheQueue := by
  intro c s t hwf hexec
  exact (Good.exec (Good.of_wf hwf) hexec).pending

/-- Settles O1: the two arms of a step, and the frame counter of an idle cycle. -/
theorem stepRunsTheFrontCommand : Obligations.StepRunsTheFrontCommand := by
  refine ⟨fun c cs s hq => step_cons hq, fun s hq => ⟨step_nil hq, ?_, State.idle_keeps s, ?_, fun hrun => ?_⟩⟩
  · rw [State.idle_frame]
  · rw [State.idle_frame]
  · rw [State.idle_frame, hrun, if_pos rfl]

/-- Settles O48: the reset state is one literal, of which each clause reads a part. -/
theorem resetState : Obligations.ResetState := by
  unfold Obligations.ResetState
  refine ⟨?_, rfl, ?_⟩ <;> decide

end Sys2Proof
end

section
/-! SUPPORT. Write rows in general: what the dictionary service does with one, whatever its object. -/

namespace Sys2Proof.Machine

variable {s t : State} {c : Instr} {i k st : Nat} {w : Wr}

/-- An admitted write row whose object accepts it. -/
theorem exec_accepted (hrow : Safety.writeRow c = some (i, k, w)) (hadm : Safety.admits s w i k = true)
    (hrule : s.objectRule (Safety.eccOf c) w.q.port i k (Safety.valueOf s w i k) = (st, t)) (hst : refuses st = false) :
    exec c s = .next (Safety.served t w.q i k st) := by
  rw [exec_writeRow hrow, Safety.writeRequest_accepted hadm _ hrule hst]

/-- An admitted write row whose object refuses it. -/
theorem exec_refused (hrow : Safety.writeRow c = some (i, k, w)) (hadm : Safety.admits s w i k = true)
    (hrule : s.objectRule (Safety.eccOf c) w.q.port i k (Safety.valueOf s w i k) = (st, t)) (hst : refuses st = true) :
    exec c s = .next ((t.countRefused st i k (Safety.valueOf s w i k)).answerWrite w.q i k st) := by
  rw [exec_writeRow hrow, Safety.writeRequest_refused hadm _ hrule hst]

/-- The same for an object whose refusals no object counts. -/
theorem exec_refused_uncounted (hrow : Safety.writeRow c = some (i, k, w)) (hadm : Safety.admits s w i k = true)
    (hrule : s.objectRule (Safety.eccOf c) w.q.port i k (Safety.valueOf s w i k) = (st, t)) (hst : refuses st = true)
    (hwin : i ≠ 0x5002) (hrel : i ≠ 0x7101) : exec c s = .next (t.answerWrite w.q i k st) := by
  rw [exec_refused hrow hadm hrule hst, State.countRefused_uncounted hwin hrel]

/-- A write row that a check before the object's own turns away. -/
theorem exec_turnedAway (hrow : Safety.writeRow c = some (i, k, w)) (hserves : s.servesNow w.q = true)
    (hformed : s.formedNow w.q = true) (hwait : s.writeWaits i k (w.value &&& w.mask) = none)
    (hcheck : s.precheck w.q.port i k w.mask = some st) :
    exec c s = .next ((s.countRefused st i k (w.value &&& w.mask)).answerWrite w.q i k st) := by
  rw [exec_writeRow hrow, Safety.writeRequest_turnedAway hserves hformed hwait _ hcheck]

/-- A malformed write row is answered with FORMAT and does nothing else. -/
theorem State.writeRequest_malformed (hserves : s.servesNow w.q = true) (hformed : s.formedNow w.q = false)
    (ecc : EccOutcome) : s.writeRequest ecc i k w = s.answerWrite w.q i k stFormat := by
  have hhears := (State.servesNow_iff.mp hserves).1
  have hsubmit := State.submit_now (s := s) (v := .malformed w.q 3 i k) hserves
  simp [State.writeRequest, hhears, hformed, hsubmit, State.perform, State.serve, State.answerFormat]

/-- A precheck that passes finds the object's row. -/
theorem State.objRow_of_precheck (h : s.precheck w.q.port i k w.mask = none) : ∃ r, objRow i k = some r := by
  rcases hr : objRow i k with _ | r
  · simp only [State.precheck, hr, State.unknown] at h
    split at h <;> cases h
  · exact ⟨r, rfl⟩

/-- A mask of zeros names no bit: the request is judged and changes nothing (log entry 73). -/
theorem State.writeRequest_maskless (hserves : s.servesNow w.q = true) (hformed : s.formedNow w.q = true)
    (hwait : s.writeWaits i k (w.value &&& w.mask) = none) (hcheck : s.precheck w.q.port i k w.mask = none)
    (hmask : w.mask = 0) (ecc : EccOutcome) : s.writeRequest ecc i k w = s.answerWrite w.q i k stOk := by
  obtain ⟨r, hr⟩ := State.objRow_of_precheck hcheck
  rw [State.writeRequest_now hserves hformed hwait ecc]
  simp only [State.writeWord, hcheck, hr, if_pos hmask]

/-! A request's port is a number of its own (R215 bounds it, the model does not): the counts of a port far above 1 stand
at other objects' keys, and a state whose far "link domain" runs serves such a port. -/

/-- The port whose ID_SERVICE counts stand at the keys of object 0x1200. -/
def farPort : Nat := 0x700000

/-- A request from the far port. -/
def farRequest : Rq := { port := farPort, fromD := false, src := 0, tag := 0, bcast := false, formed := true }

/-- The state after reset, with the far port's endpoint running and clocked. -/
def farState : State := ({ State.reset with
  objs := State.reset.objs.put objDefault (objKey 0x6000 (0x1D + farPort)) 0x40000000
  force := State.reset.force.put objDefault (objKey 0x2210 (0x1D + farPort)) 1
  boot := { State.reset.boot with served := true } } : State).set CK_STATUS_SRC 1

theorem farState_wf : Safety.wf farState = true := by decide

theorem farState_serves : farState.servesNow farRequest = true := by decide

theorem farState_formed : farState.formedNow farRequest = true := by decide

/-- Object 0 is none of the dictionary's. -/
theorem farState_unknown : farState.unknown 0 0 = some stNoObject := by decide

end Sys2Proof.Machine

namespace Sys2Proof

open Machine

/-- Settles O52: a write row is the write request of its subentry, whose course Laws/Dictionary.lean and the lemmas above
state. -/
theorem writeCommands : Obligations.WriteCommands := by
  intro c s w i k hwf hrow
  refine ⟨fun hadm r hr => ⟨fun hst => exec_accepted hrow hadm hr.symm hst, fun hst => exec_refused hrow hadm hr.symm hst⟩,
    fun hserves hformed hwait hcheck hmask => ?_, fun hserves hformed => ?_, fun hhears => ?_⟩
  · have hwait' : s.writeWaits i k (w.value &&& w.mask) = none := by
      rw [hmask, show w.value &&& 0 = 0 from BitVec.and_zero]; exact hwait
    rw [exec_writeRow hrow, State.writeRequest_maskless hserves hformed hwait' hcheck hmask]
  · rw [exec_writeRow hrow, State.writeRequest_malformed hserves hformed]
  · rw [exec_writeRow hrow, Safety.writeRequest_unheard hhears]

/-- Refutes O53: a write from the far port to an object that does not exist counts its service at object 0x1200, on a
page that the statement says is kept. -/
theorem not_refusedWrites : ¬ Obligations.RefusedWrites := by
  intro h
  obtain ⟨t, -, rfl, -, hpages⟩ := h (.objectWrite 0 0 ⟨farRequest, 0, 0⟩) farState ⟨farRequest, 0, 0⟩ 0 0 stNoObject
    farState_wf rfl farState_serves farState_formed (by decide) (by decide)
  exact absurd (hpages 0x1200 0 (by decide) (by decide)) (by decide)

/-- Refutes O60: a read from the far port counts its service at object 0x1200 as well. -/
theorem not_frameReads : ¬ Obligations.FrameReads := by
  intro h
  obtain ⟨-, hpages⟩ := h farState (farState.readRequest farRequest 0 0 .clean 0) (.readRequest farRequest 0 0) farRequest
    0 0 .clean 0 farState_wf (by decide) (by decide) (by decide) (by decide) (by decide) (by decide) (by simp) rfl
  exact absurd (hpages 0x1200 0 (by decide) (by decide)) (by decide)

end Sys2Proof
end

section
/-! SUPPORT. Reading a field after other fields are written, in one normal form (`rd` of `wr`), and frames: what an
operation leaves of the state beside some of its parts and some pages of the dictionary. -/

namespace Sys2Proof.Machine

variable {s t u : State} {F G : Field} {e e' v n i k : Nat}

/-! Reading. -/

/-- Two fields share no bit: their bits are apart, or their words are. The bits come first, so that for fields of one
word the check evaluates whatever the subindex. -/
def Field.apart (F : Field) (e : Nat) (G : Field) (e' : Nat) : Bool :=
  (Nat.ble F.lo F.hi && Nat.blt F.hi 32 && (Nat.blt F.hi G.lo || (Nat.blt G.hi F.lo && Nat.ble G.lo G.hi))) ||
    !(Nat.beq (objKey G.index (G.sub + e')) (objKey F.index (F.sub + e)))

/-- A field has its bits in a word. -/
def Field.fits (F : Field) : Bool := Nat.ble F.lo F.hi && Nat.blt F.hi 32

/-- A field that shares no bit with the one written. -/
theorem State.rd_wr_apart (h : s.ok ∧ F.apart e G e' = true) : (s.wr F e v).rd G e' = s.rd G e' := by
  refine State.rd_wr_other h.1 ?_
  have happart := h.2
  simp only [Field.apart, Bool.or_eq_true, Bool.and_eq_true, Nat.ble_eq, Nat.blt_eq, Bool.not_eq_true'] at happart
  rcases happart with ⟨⟨hl, hh⟩, hbits⟩ | hkey
  · exact .inr ⟨hl, hh, hbits⟩
  · exact .inl (Nat.ne_of_beq_eq_false hkey)

/-- The field just written. -/
theorem State.rd_wr_eq (h : s.ok ∧ F.fits = true) : (s.wr F e v).rd F e = v % 2 ^ (F.hi + 1 - F.lo) := by
  have hfits := h.2
  simp only [Field.fits, Bool.and_eq_true, Nat.ble_eq, Nat.blt_eq] at hfits
  exact State.rd_wr_same h.1 hfits.1 hfits.2

/-- A word of another key than the one written. -/
theorem State.rd_setWord_apart {w : Word} (h : s.ok ∧ Nat.beq (objKey G.index (G.sub + e')) (objKey i k) = false) :
    (s.setWord i k w).rd G e' = s.rd G e' := by
  unfold State.rd
  rw [State.word_setWord h.1, if_neg (Nat.ne_of_beq_eq_false h.2)]

/-- A field of the word just written. -/
theorem State.rd_setWord_eq {w : Word} (h : s.ok ∧ Nat.beq (objKey G.index (G.sub + e')) (objKey i k) = true) :
    (s.setWord i k w).rd G e' = w.bits G.hi G.lo := by
  unfold State.rd
  rw [State.word_setWord h.1, if_pos (Nat.eq_of_beq_eq_true h.2)]

/-- The same for the dictionary as a table alone. -/
theorem Words.rd_wr_apart {t : Table Word} (h : Words.ok t ∧ F.apart e G e' = true) :
    Words.rd (Words.wr t F e v) G e' = Words.rd t G e' :=
  State.rd_wr_apart (s := { State.reset with objs := t }) h

theorem Words.rd_wr_eq {t : Table Word} (h : Words.ok t ∧ F.fits = true) :
    Words.rd (Words.wr t F e v) F e = v % 2 ^ (F.hi + 1 - F.lo) :=
  State.rd_wr_eq (s := { State.reset with objs := t }) h

theorem Words.rd_put_apart {t : Table Word} {w : Word}
    (h : Words.ok t ∧ Nat.beq (objKey G.index (G.sub + e')) (objKey i k) = false) :
    Words.rd (Words.put t i k w) G e' = Words.rd t G e' :=
  State.rd_setWord_apart (s := { State.reset with objs := t }) h

theorem Words.rd_put_eq {t : Table Word} {w : Word}
    (h : Words.ok t ∧ Nat.beq (objKey G.index (G.sub + e')) (objKey i k) = true) :
    Words.rd (Words.put t i k w) G e' = w.bits G.hi G.lo :=
  State.rd_setWord_eq (s := { State.reset with objs := t }) h

/-- A field of another object, where both subindices fit 16 bits. -/
theorem Field.apart_of_index (hi : F.index ≠ G.index) (he : F.sub + e < 65536) (he' : G.sub + e' < 65536) :
    F.apart e G e' = true := by
  have hkey : Nat.beq (objKey G.index (G.sub + e')) (objKey F.index (F.sub + e)) = false := by
    refine Bool.eq_false_iff.mpr fun h => ?_
    have hsame := Nat.eq_of_beq_eq_true h
    simp only [objKey] at hsame
    omega
  simp [Field.apart, hkey]

/-- A field of another subindex. -/
theorem Field.apart_of_sub (he : G.sub + e' ≠ F.sub + e) (hi : F.index = G.index) : F.apart e G e' = true := by
  have hkey : Nat.beq (objKey G.index (G.sub + e')) (objKey F.index (F.sub + e)) = false := by
    refine Bool.eq_false_iff.mpr fun h => ?_
    have hsame := Nat.eq_of_beq_eq_true h
    simp only [objKey] at hsame
    omega
  simp [Field.apart, hkey]

/-- A field stands on one page, and an operation that keeps the page keeps the field. -/
theorem State.rd_of_page (hs : s.ok) (ht : t.ok) (h : Words.page n t.objs = Words.page n s.objs) (hF : F.page e = n) :
    t.rd F e = s.rd F e := by
  unfold State.rd
  rw [State.word_of_page hs ht hF h]

theorem State.on_iff : s.on F = true ↔ s.rd F 0 = 1 := decide_eq_true_iff

theorem State.on_false_iff : s.on F = false ↔ s.rd F 0 ≠ 1 := decide_eq_false_iff_not

/-! Records posted. -/

theorem State.raiseTo_keeps : s.raiseTo F v = { s with objs := (s.raiseTo F v).objs } := by
  unfold State.raiseTo
  split <;> rfl

/-- Posting a record changes the event counts, the FIFO and its loss episodes, and nothing else. -/
theorem State.postRec_keeps {r : Rec} {c : Option Nat} :
    s.postRec r c = { s with objs := (s.postRec r c).objs, ev := (s.postRec r c).ev } := by
  unfold State.postRec
  split
  · split
    · unfold State.enqueue
      extract_lets u
      rw [State.raiseTo_keeps]
    · split <;> rfl
  · rfl

theorem State.post_keeps {code src payload : Nat} : s.post code src payload =
    { s with objs := (s.post code src payload).objs, ev := (s.post code src payload).ev } := State.postRec_keeps

theorem State.postRec_ok {r : Rec} {c : Option Nat} (h : s.ok) : (s.postRec r c).ok := by
  unfold State.postRec
  split
  · split
    · exact State.raiseTo_ok h
    · split <;> exact State.bump_ok (F := _) h
  · exact State.bump_ok (F := _) h

@[simp] theorem State.post_ok {code src payload : Nat} (h : s.ok) : (s.post code src payload).ok := State.postRec_ok h

/-- A posted record writes page 0x26 alone. -/
theorem State.rd_post {code src payload : Nat} (h : s.ok ∧ Nat.beq (G.page e') 0x26 = false) :
    (s.post code src payload).rd G e' = s.rd G e' :=
  State.rd_of_page h.1 (State.post_ok h.1)
    (State.post_page (ps := [0x26]) (by simpa using Nat.ne_of_beq_eq_false h.2) (by simp)) rfl

/-! Frames. -/

/-- A part of the state is what it was, and so are the dictionary's pages outside `ps`. -/
def State.Keeps (part : State → State) (ps : List Nat) (s t : State) : Prop :=
  part t = part s ∧ ∀ n ∉ ps, Words.page n t.objs = Words.page n s.objs

variable {part : State → State} {ps : List Nat}

theorem State.Keeps.refl : State.Keeps part ps s s := ⟨rfl, fun _ _ => rfl⟩

theorem State.Keeps.trans (h : State.Keeps part ps s t) (h' : State.Keeps part ps t u) : State.Keeps part ps s u :=
  ⟨h'.1.trans h.1, fun n hn => (h'.2 n hn).trans (h.2 n hn)⟩

/-- The part does not show the dictionary. -/
def WordFree (part : State → State) : Prop := ∀ (t : State) (x : Table Word), part { t with objs := x } = part t

/-- The part does not show the dictionary and the log. -/
def RecordFree (part : State → State) : Prop :=
  ∀ (t : State) (x : Table Word) (y : EvSt), part { t with objs := x, ev := y } = part t

/-- An update of what the part leaves out, the dictionary aside. -/
theorem State.Keeps.beside (h : State.Keeps part ps s t) (hp : part u = part t) (ho : u.objs = t.objs) :
    State.Keeps part ps s u :=
  ⟨hp.trans h.1, fun n hn => (congrArg (Words.page n) ho).trans (h.2 n hn)⟩

theorem State.Keeps.wr (hp : WordFree part) (hF : F.page e ∈ ps) (h : State.Keeps part ps s t) :
    State.Keeps part ps s (t.wr F e v) :=
  ⟨(hp t _).trans h.1, fun n hn => (State.wr_page hn hF).trans (h.2 n hn)⟩

theorem State.Keeps.set (hp : WordFree part) (hF : F.page 0 ∈ ps) (h : State.Keeps part ps s t) :
    State.Keeps part ps s (t.set F v) := h.wr hp hF

theorem State.Keeps.bump (hp : WordFree part) (hF : F.page 0 ∈ ps) (h : State.Keeps part ps s t) :
    State.Keeps part ps s (t.bump F) := h.wr hp hF

theorem State.Keeps.bumpAt (hp : WordFree part) (hF : F.page e ∈ ps) (h : State.Keeps part ps s t) :
    State.Keeps part ps s (t.bumpAt F e) := h.wr hp hF

theorem State.Keeps.raiseTo (hp : WordFree part) (hF : F.page 0 ∈ ps) (h : State.Keeps part ps s t) :
    State.Keeps part ps s (t.raiseTo F v) := by
  unfold State.raiseTo
  split
  · exact h.set hp hF
  · exact h

theorem State.Keeps.post {code src payload : Nat} (hp : RecordFree part) (hpage : 0x26 ∈ ps)
    (h : State.Keeps part ps s t) : State.Keeps part ps s (t.post code src payload) := by
  refine ⟨?_, fun n hn => (State.post_page hn hpage).trans (h.2 n hn)⟩
  rw [State.post_keeps]
  exact (hp t _ _).trans h.1

theorem State.Keeps.ite {c : Prop} [Decidable c] (ht : State.Keeps part ps s t) (hu : State.Keeps part ps s u) :
    State.Keeps part ps s (if c then t else u) := by
  split <;> assumption

theorem State.Keeps.rd (h : State.Keeps part ps s t) (hs : s.ok) (ht : t.ok) (hF : ps.contains (F.page e) = false) :
    t.rd F e = s.rd F e := State.rd_of_page hs ht (h.2 _ (by simpa using hF)) rfl

/-- A repeated operation. -/
theorem State.Keeps.foldl {α : Type} {f : State → α → State} {l : List α}
    (h : ∀ t, ∀ x ∈ l, State.Keeps part ps t (f t x)) : State.Keeps part ps s (l.foldl f s) := by
  induction l generalizing s with
  | nil => exact .refl
  | cons x xs ih =>
    exact (h s x List.mem_cons_self).trans (ih fun t y hy => h t y (List.mem_cons_of_mem _ hy))

theorem State.Keeps.setWord {w : Word} (hp : WordFree part) (hk : objKey i k / 2 ^ 24 ∈ ps)
    (h : State.Keeps part ps s t) : State.Keeps part ps s (t.setWord i k w) :=
  ⟨(hp t _).trans h.1, fun n hn => (State.setWord_page hn hk).trans (h.2 n hn)⟩

theorem State.Keeps.setMask {lo m w : Nat} (hp : WordFree part) (hk : ∀ k < m, objKey i (lo + k) / 2 ^ 24 ∈ ps)
    (h : State.Keeps part ps s t) : State.Keeps part ps s (t.setMask i lo m w) :=
  h.trans (.foldl fun _ k hm => State.Keeps.refl.setWord hp (hk k (List.mem_range.mp hm)))

theorem State.Keeps.pages (h : State.Keeps part ps s t) (hs : s.ok) (ht : t.ok) : Safety.pagesKept ps s t := by
  intro index sub hsub hpage
  have hkey : objKey index sub / 2 ^ 24 = index / 256 := by simp only [objKey]; omega
  exact State.word_of_page hs ht hkey (h.2 _ hpage)

/-! Operations on words alone. -/

/-- The state without its dictionary. -/
def State.besideWords (s : State) : State := { s with objs := [] }

/-- The dictionary's pages `ps` aside, two states agree. -/
abbrev State.KeepsWords (ps : List Nat) : State → State → Prop := State.Keeps State.besideWords ps

theorem besideWords_words : WordFree State.besideWords := fun _ _ => rfl

/-- The state of another one, with this dictionary. -/
def State.withWords (s t : State) : State := { s with objs := t.objs }

theorem State.Keeps.eq_words (h : State.KeepsWords ps s t) : t = { s with objs := t.objs } :=
  calc t = t.besideWords.withWords t := rfl
    _ = s.besideWords.withWords t := by rw [h.1]
    _ = s.withWords t := rfl

/-! What an operation writes, field by field. -/

/-- The dictionary stays in canonical form, and a field that shares no bit with `fs` reads as before. -/
def State.Writes (fs : List (Field × Nat)) (s t : State) : Prop :=
  s.ok → t.ok ∧ ∀ G e, fs.all (fun F => F.1.apart F.2 G e) = true → t.rd G e = s.rd G e

variable {fs : List (Field × Nat)} {b : Bool} {x : Int}

theorem State.Writes.rd (h : State.Writes fs s t) (hs : s.ok) (hG : fs.all (fun F => F.1.apart F.2 G e) = true) :
    t.rd G e = s.rd G e := (h hs).2 G e hG

theorem State.Writes.refl : State.Writes fs s s := fun h => ⟨h, fun _ _ _ => rfl⟩

theorem State.Writes.trans (h : State.Writes fs s t) (h' : State.Writes fs t u) : State.Writes fs s u := fun hs =>
  ⟨(h' (h hs).1).1, fun G e hG => ((h' (h hs).1).2 G e hG).trans ((h hs).2 G e hG)⟩

theorem State.Writes.wr (hF : (F, e) ∈ fs) (h : State.Writes fs s t) : State.Writes fs s (t.wr F e v) := fun hs =>
  ⟨State.wr_ok (h hs).1, fun G e' hG =>
    (State.rd_wr_apart ⟨(h hs).1, List.all_eq_true.mp hG _ hF⟩).trans ((h hs).2 G e' hG)⟩

theorem State.Writes.set (hF : (F, 0) ∈ fs) (h : State.Writes fs s t) : State.Writes fs s (t.set F v) := h.wr hF

theorem State.Writes.setB (hF : (F, 0) ∈ fs) (h : State.Writes fs s t) : State.Writes fs s (t.setB F b) := h.wr hF

theorem State.Writes.setI (hF : (F, 0) ∈ fs) (h : State.Writes fs s t) : State.Writes fs s (t.setI F x) := h.wr hF

theorem State.Writes.bump (hF : (F, 0) ∈ fs) (h : State.Writes fs s t) : State.Writes fs s (t.bump F) := h.wr hF

theorem State.Writes.bumpAt (hF : (F, e) ∈ fs) (h : State.Writes fs s t) : State.Writes fs s (t.bumpAt F e) := h.wr hF

/-- A field above a word's bits reads as 0. -/
theorem State.rd_above (h : 31 < G.lo) : s.rd G e = 0 := by
  have hw := (s.word G.index (G.sub + e)).isLt
  have hbits : (s.word G.index (G.sub + e)).toNat / 2 ^ G.lo = 0 :=
    Nat.div_eq_of_lt (hw.trans_le (Nat.pow_le_pow_right (by decide) h))
  simp [State.rd, Word.bits, hbits]

/-- A word written whole is a field of 32 bits. -/
theorem State.Writes.setWord {w : Word} (hF : ((⟨i, k, 31, 0⟩ : Field), 0) ∈ fs) (h : State.Writes fs s t) :
    State.Writes fs s (t.setWord i k w) := fun hs => by
  refine ⟨State.setWord_ok (h hs).1, fun G e' hG => Eq.trans ?_ ((h hs).2 G e' hG)⟩
  have happart := List.all_eq_true.mp hG _ hF
  simp only [Field.apart, Bool.or_eq_true, Bool.and_eq_true, Nat.ble_eq, Nat.blt_eq, Bool.not_eq_true'] at happart
  rcases happart with ⟨-, (habove | ⟨hbelow, -⟩)⟩ | hkey
  · rw [State.rd_above habove, State.rd_above habove]
  · omega
  · exact State.rd_setWord_apart ⟨(h hs).1, hkey⟩

/-- An update beside the dictionary. -/
theorem State.Writes.beside (h : State.Writes fs s t) (ho : u.objs = t.objs) : State.Writes fs s u := fun hs =>
  ⟨State.ok_of_objs (h hs).1 ho, fun G e hG => (State.rd_congr ho G e).trans ((h hs).2 G e hG)⟩

theorem State.Writes.ite {c : Prop} [Decidable c] (ht : State.Writes fs s t) (hu : State.Writes fs s u) :
    State.Writes fs s (if c then t else u) := by
  split <;> assumption

theorem State.Writes.foldl {α : Type} {f : State → α → State} {l : List α}
    (h : ∀ t, ∀ x ∈ l, State.Writes fs t (f t x)) : State.Writes fs s (l.foldl f s) := by
  induction l generalizing s with
  | nil => exact .refl
  | cons x xs ih =>
    exact (h s x List.mem_cons_self).trans (ih fun t y hy => h t y (List.mem_cons_of_mem _ hy))

theorem State.Writes.raiseTo (hF : (F, 0) ∈ fs) (h : State.Writes fs s t) : State.Writes fs s (t.raiseTo F v) := by
  unfold State.raiseTo
  exact .ite (h.set hF) h

theorem State.Writes.mono {gs : List (Field × Nat)} (hsub : ∀ p ∈ fs, p ∈ gs) (h : State.Writes fs s t) :
    State.Writes gs s t := fun hs =>
  ⟨(h hs).1, fun G e hG => (h hs).2 G e (List.all_eq_true.mpr fun p hp => List.all_eq_true.mp hG p (hsub p hp))⟩

/-- What a posted record writes. -/
def postFields : List (Field × Nat) :=
  [(EV_COUNTS_LOST_LIGHT, 0), (EV_COUNTS_LOST_OTHER, 0), (EV_COUNTS_LOST_NOCHAIN, 0), (EV_FIFO_MAX, 0)]

theorem State.postRec_writes {r : Rec} {c : Option Nat} : State.Writes postFields s (s.postRec r c) := by
  unfold State.postRec
  refine .ite (.ite ?_ (.ite ?_ ?_)) ?_
  · unfold State.enqueue
    extract_lets _ queued
    exact (State.Writes.refl.beside (u := queued) rfl).raiseTo (by decide)
  all_goals exact (State.Writes.refl.bump (by decide)).beside rfl

theorem State.post_writes {code src payload : Nat} : State.Writes postFields s (s.post code src payload) :=
  State.postRec_writes

/-- What a change of mode writes. -/
def modeFields : List (Field × Nat) :=
  [(MD_MODE_PRIOR, 0), (MD_MODE_MODE, 0), (MD_MODE_CAUSE, 0), (MD_CHANGES_COUNT, 0)] ++ postFields

theorem State.setMode_writes {new cause : Nat} : State.Writes modeFields s (s.setMode new cause) := by
  unfold State.setMode
  extract_lets old changed
  have hchanged : State.Writes modeFields s (changed.bump MD_CHANGES_COUNT) :=
    .bump (by decide) (.set (by decide) (.set (by decide) (.set (by decide) .refl)))
  exact hchanged.trans (State.post_writes.mono (by decide))

end Sys2Proof.Machine
end

section
/-! SUPPORT. The evidence writer (chapter 8): one equation for each arm of its cycle, what a slot written leaves, what the
writer leaves of the state beside the log, and the objects of the log. -/

namespace Sys2Proof.Machine

variable {s : State} {n i lo m x : Nat} {k : BitVec 256} {v : Word}

/-! The writer's cycle. -/

theorem State.writerCycle_start (hruns : s.writerRuns = true) (hstart : s.ev.start = some n) :
    s.writerCycle = s.startChain n := by
  simp [State.writerCycle, hruns, hstart]

theorem State.writerCycle_stopped (hruns : s.writerRuns = true) (hstart : s.ev.start = none)
    (h : s.on EV_STATUS_HOLDING = true ∨ s.on EV_STATUS_CHAIN = false) : s.writerCycle = s := by
  rcases h with h | h <;> simp [State.writerCycle, hruns, hstart, h]

section

variable (hruns : s.writerRuns = true) (hstart : s.ev.start = none) (hchain : s.on EV_STATUS_CHAIN = true)
  (hholding : s.on EV_STATUS_HOLDING = false)
include hruns hstart hchain hholding

theorem State.writerCycle_key {id time flags : Nat} (hkey : s.ev.keyQueue = some (k, id, time, flags)) :
    s.writerCycle = s.endGaps.writeKey k id time flags := by
  have hkey' : s.endGaps.ev.keyQueue = some (k, id, time, flags) := hkey
  simp [State.writerCycle, hruns, hstart, hchain, hholding, hkey']

variable (hkey : s.ev.keyQueue = none)
include hkey

theorem State.writerCycle_gap {g : Gap} (hgap : s.endGaps.endedGap = some g) :
    s.writerCycle = s.endGaps.writeGap g := by
  have hkey' : s.endGaps.ev.keyQueue = none := hkey
  simp [State.writerCycle, hruns, hstart, hchain, hholding, hkey', hgap]

variable (hgap : s.endGaps.endedGap = none)
include hgap

theorem State.writerCycle_fill (hfill : s.on EV_STATUS_FILLING = true) : s.writerCycle = s.endGaps.writeFill := by
  have hkey' : s.endGaps.ev.keyQueue = none := hkey
  have hfill' : s.endGaps.on EV_STATUS_FILLING = true := hfill
  simp [State.writerCycle, hruns, hstart, hchain, hholding, hkey', hgap, hfill']

theorem State.writerCycle_fifo (hfill : s.on EV_STATUS_FILLING = false) : s.writerCycle = s.endGaps.writeFifo := by
  have hkey' : s.endGaps.ev.keyQueue = none := hkey
  have hfill' : s.endGaps.on EV_STATUS_FILLING = false := hfill
  simp [State.writerCycle, hruns, hstart, hchain, hholding, hkey', hgap, hfill']

end

theorem State.writeFifo_nil (h : s.ev.fifo = []) : s.writeFifo = s := by
  unfold State.writeFifo; rw [h]

theorem State.writeFifo_cons {y : FifoRec} {ys : List FifoRec} (h : s.ev.fifo = y :: ys) :
    s.writeFifo = (({ s with ev := { s.ev with fifo := ys } } : State).postingDelay y.crossUp).writeEvent y.r := by
  unfold State.writeFifo; rw [h]

/-! A slot. -/

/-- Words written from one number change the dictionary alone. -/
theorem State.setMask_keeps : s.setMask i lo m x = { s with objs := (s.setMask i lo m x).objs } := by
  unfold State.setMask State.each
  induction List.range m generalizing s with
  | nil => rfl
  | cons j js ih => rw [List.foldl_cons, ih]; rfl

/-- What a seal takes from the open block, and what it leaves of the log. -/
structure State.Sealed (s t : State) (slots : List (BitVec 256)) : Prop where
  block : ∃ b : Block, t.ev.sealed = s.ev.sealed ++ [b] ∧ b.num = s.ev.num ∧ b.recs.length = slots.length + 2 ∧
    b.recs.take slots.length = slots
  openRecs : t.ev.openRecs = []
  num : t.ev.num = s.ev.num + 1
  prevTag : t.ev.prevTag = blockTag s.ev.key s.ev.prevTag s.ev.num slots

/-- A key change that governs from the next block changes key and key change alone. -/
theorem State.turnKey_ev : s.turnKey.ev = { s.ev with key := s.turnKey.ev.key, keyNext := s.turnKey.ev.keyNext } := by
  unfold State.turnKey
  split
  · rfl
  · extract_lets u v
    split <;> rfl

/-- A key change touches the words of the dictionary and of the log. -/
theorem State.turnKey_keeps : s.turnKey = { s with objs := s.turnKey.objs, ev := s.turnKey.ev } := by
  unfold State.turnKey
  split
  · rfl
  · extract_lets u v
    split <;> rfl

theorem State.sealBlock_sealed {slots : List (BitVec 256)} (h : s.ev.openRecs = slots) : s.Sealed s.sealBlock slots := by
  subst h
  unfold State.sealBlock
  extract_lets tag recs n _ u counted turned
  have hcounted : counted.ev = u.ev := by unfold counted; rw [State.setMask_keeps]; rfl
  have hturned : turned.ev = { u.ev with key := turned.ev.key, keyNext := turned.ev.keyNext } := by
    rw [show turned.ev = _ from State.turnKey_ev]
    exact congrArg (fun e : EvSt => { e with key := turned.ev.key, keyNext := turned.ev.keyNext }) hcounted
  suffices hdone : s.Sealed turned s.ev.openRecs by
    split
    · exact hdone
    · exact ⟨hdone.block, hdone.openRecs, hdone.num, hdone.prevTag⟩
  clear_value turned
  constructor
  · refine ⟨⟨n, recs⟩, by rw [hturned], rfl, by simp [recs], by simp [recs]⟩
  · rw [hturned]
  · rw [hturned]
  · rw [hturned]

/-! The writer's frame: the log, its objects and the posting delays. -/

/-- The state without the log. -/
def State.besideLog (s : State) : State := { s with objs := [], ev := {} }

/-- The pages of the posting delays and of the log. -/
def logPages : List Nat := [0x25, 0x26]

/-- The log and its pages aside, two states agree. -/
abbrev State.KeepsLog : State → State → Prop := State.Keeps State.besideLog logPages

/-- The state of another one, with this dictionary and log. -/
def State.withLog (s t : State) : State := { s with objs := t.objs, ev := t.ev }

variable {t : State} {F : Field} {r : Rec}

theorem State.KeepsLog.eq (h : s.KeepsLog t) : t = { s with objs := t.objs, ev := t.ev } :=
  calc t = t.besideLog.withLog t := rfl
    _ = s.besideLog.withLog t := by rw [h.1]
    _ = s.withLog t := rfl

theorem besideLog_words : WordFree State.besideLog := fun _ _ => rfl

/-- An update of the log beside its objects. -/
theorem State.KeepsLog.ev {e : EvSt} (h : s.KeepsLog t) : s.KeepsLog { t with ev := e } := h.beside rfl rfl

theorem State.turnKey_keepsLog : s.KeepsLog s.turnKey := by
  unfold State.turnKey
  split
  · exact .refl
  · extract_lets _ u turned
    have hturned : s.KeepsLog turned := .set besideLog_words (by decide) (State.KeepsLog.ev .refl)
    split
    · exact hturned.set besideLog_words (by decide)
    · exact hturned

theorem State.sealBlock_keepsLog : s.KeepsLog s.sealBlock := by
  unfold State.sealBlock
  extract_lets tag recs n _ u counted turned
  have hput : s.KeepsLog (u.put64 0x2604 0 n) :=
    .setWord besideLog_words (by decide) (.setWord besideLog_words (by decide) (State.KeepsLog.ev .refl))
  have hcounted : s.KeepsLog counted :=
    .bump besideLog_words (by decide) (.setMask besideLog_words (by decide) hput)
  have hturned : s.KeepsLog turned :=
    (hcounted.set besideLog_words (by decide)).trans State.turnKey_keepsLog
  split
  · exact hturned
  · exact hturned.set besideLog_words (by decide)

theorem State.writeSlot_keepsLog : s.KeepsLog (s.writeSlot r) := by
  unfold State.writeSlot
  extract_lets j _ u
  have hu : s.KeepsLog u := .ev .refl
  exact .ite (hu.trans State.sealBlock_keepsLog) hu

theorem State.writeEvent_keepsLog : s.KeepsLog (s.writeEvent r) :=
  State.Keeps.trans (.bump besideLog_words (by decide) .refl) State.writeSlot_keepsLog

theorem State.startChain_keepsLog : s.KeepsLog (s.startChain n) := by
  unfold State.startChain
  extract_lets started _ opened
  have hstarted : s.KeepsLog started := .set besideLog_words (by decide) (.set besideLog_words (by decide) .refl)
  exact hstarted.ev.trans State.writeEvent_keepsLog

theorem State.postingDelay_keepsLog {c : Option Nat} : s.KeepsLog (s.postingDelay c) := by
  unfold State.postingDelay
  split
  · exact .refl
  · exact .raiseTo besideLog_words (by decide) (.set besideLog_words (by decide) .refl)

theorem State.writeFifo_keepsLog : s.KeepsLog s.writeFifo := by
  unfold State.writeFifo
  split
  · exact .refl
  · exact ((State.KeepsLog.ev .refl).trans State.postingDelay_keepsLog).trans State.writeEvent_keepsLog

theorem State.writerCycle_keepsLog : s.KeepsLog s.writerCycle := by
  have hgaps : s.KeepsLog s.endGaps := .ev .refl
  unfold State.writerCycle
  refine .ite .refl ?_
  split
  · exact State.startChain_keepsLog
  · refine .ite .refl (hgaps.trans ?_)
    extract_lets u
    split
    · exact (State.KeepsLog.ev .refl).trans State.writeEvent_keepsLog
    · split
      · exact (State.KeepsLog.ev .refl).trans State.writeEvent_keepsLog
      · exact .ite (State.Keeps.trans (.bump besideLog_words (by decide) .refl) State.writeSlot_keepsLog)
          State.writeFifo_keepsLog

theorem State.sealTimeout_keepsLog : s.KeepsLog s.sealTimeout := by
  unfold State.sealTimeout
  exact .ite .refl
    (.ite (State.writerCycle_keepsLog.set besideLog_words (by decide)) State.writerCycle_keepsLog)

/-! The objects of the log. -/

theorem State.wEvCtrl_sealNow (h : s.ok) (hseal : v.bits 31 31 = 1) (hlow : v.bits 19 0 = 0 ∨ 10 ≤ v.bits 19 0)
    (hhigh : v.bits 19 0 ≤ 1000000) (hchain : s.on EV_STATUS_CHAIN = true) (hopen : s.ev.openRecs ≠ []) :
    s.wEvCtrl v = (stOk, (s.set EV_CTRL_SEAL_TIMEOUT (v.bits 19 0)).set EV_STATUS_FILLING 1) := by
  have hchain' : (s.set EV_CTRL_SEAL_TIMEOUT (v.bits 19 0)).on EV_STATUS_CHAIN = true :=
    State.on_iff.mpr ((State.rd_wr_apart ⟨h, rfl⟩).trans (State.on_iff.mp hchain))
  have hrange : ¬ ((1 ≤ v.bits 19 0 ∧ v.bits 19 0 ≤ 9) ∨ 1000000 < v.bits 19 0) := by omega
  simp [State.wEvCtrl, State.sealNow, hrange, hseal, hchain, hchain', hopen]

theorem State.wEvCtrl_nothingToSeal (hseal : v.bits 31 31 = 1) (hlow : v.bits 19 0 = 0 ∨ 10 ≤ v.bits 19 0)
    (hhigh : v.bits 19 0 ≤ 1000000) (h : s.on EV_STATUS_CHAIN = false ∨ s.ev.openRecs = []) :
    s.wEvCtrl v = (stOk, s) := by
  have hrange : ¬ ((1 ≤ v.bits 19 0 ∧ v.bits 19 0 ≤ 9) ∨ 1000000 < v.bits 19 0) := by omega
  rcases h with h | h <;> simp [State.wEvCtrl, hrange, hseal, h]

end Sys2Proof.Machine

namespace Sys2Proof

open Machine

/-- Settles O21: up to the 61st record a slot is appended; the 62nd seals the block with its two seal records. -/
theorem evidenceSlots : Obligations.EvidenceSlots := by
  intro s r
  refine ⟨fun hlen => ?_, fun hlen => ?_⟩
  · have hopen : s.writeSlot r = { s with ev := { s.ev with
        openRecs := s.ev.openRecs ++ [r.stored (62 * s.ev.num + s.ev.openRecs.length)]
        openUp := if s.ev.openRecs.length = 0 then s.frame.up else s.ev.openUp } } := if_neg (by omega)
    rw [hopen]
    exact ⟨rfl, rfl, rfl, rfl⟩
  · have hsealed : s.Sealed (s.writeSlot r) (s.ev.openRecs ++ [r.stored (62 * s.ev.num + 61)]) := by
      unfold State.writeSlot
      extract_lets j _ u
      have hslots : u.ev.openRecs = s.ev.openRecs ++ [r.stored (62 * s.ev.num + 61)] := by
        show _ ++ [r.stored (62 * s.ev.num + s.ev.openRecs.length)] = _
        rw [hlen]
      have hdone := State.sealBlock_sealed hslots
      rw [if_pos hlen]
      exact ⟨hdone.block, hdone.openRecs, hdone.num, hdone.prevTag⟩
    obtain ⟨⟨b, hblocks, hnum, hlength, htake⟩, hopen, hnext, htag⟩ := hsealed
    have hslots : (s.ev.openRecs ++ [r.stored (62 * s.ev.num + 61)]).length = 62 := by simp [hlen]
    rw [hslots] at hlength htake
    exact ⟨b, hblocks, hnum, hlength, htake, hopen, hnext, htag⟩

/-- Settles O20: each arm of the writer's cycle in its order, and what the seal timeout adds. -/
theorem evidenceWriter : Obligations.EvidenceWriter := by
  intro s n k id time flags g x xs hruns
  have hexec : exec .evidenceRecordWrite s = .next s.writerCycle := rfl
  have htimeout (hdue : s.sealDue = true) : exec .sealTimeout s =
      .next (if s.writerCycle.sealDue then s.writerCycle.set EV_STATUS_FILLING 1 else s.writerCycle) := by
    refine congrArg Host.Outcome.next ?_
    simp [State.sealTimeout, hruns, hdue]
  refine ⟨fun hstart => ?_, fun hstart => ?_, fun hstart => ?_, fun hstart hstopped => ?_,
    fun hstart hchain hholding => ⟨fun hkey => ?_, fun hkey hgap => ?_, fun hkey hgap hfill => ?_,
      fun hkey hgap hfill => ⟨fun hfifo => ?_, fun hfifo => ?_⟩⟩,
    fun hdue hstart hholding hkey hgap hfifo => ?_, fun hdue hnot => ?_, fun hdue => ?_⟩
  · rw [hexec, State.writerCycle_start hruns hstart]
  · exact congrArg Host.Outcome.next (if_pos (by simp [hruns, hstart]))
  · exact congrArg Host.Outcome.next (if_neg (by simp [hstart]))
  · rw [hexec, State.writerCycle_stopped hruns hstart hstopped]
  · rw [hexec, State.writerCycle_key hruns hstart hchain hholding hkey]
  · rw [hexec, State.writerCycle_gap hruns hstart hchain hholding hkey hgap]
  · rw [hexec, State.writerCycle_fill hruns hstart hchain hholding hkey hgap hfill]
  · rw [hexec, State.writerCycle_fifo hruns hstart hchain hholding hkey hgap hfill,
      State.writeFifo_cons (s := s.endGaps) hfifo]
  · rw [hexec, State.writerCycle_fifo hruns hstart hchain hholding hkey hgap hfill,
      State.writeFifo_nil (s := s.endGaps) hfifo]
  · have hparts := hdue
    simp only [State.sealDue, Bool.and_eq_true, Bool.not_eq_true'] at hparts
    obtain ⟨⟨⟨⟨-, hchain⟩, -⟩, hfill⟩, -⟩ := hparts
    rw [htimeout hdue, State.writerCycle_fifo hruns hstart hchain hholding hkey hgap hfill,
      State.writeFifo_nil (s := s.endGaps) hfifo, if_pos (show s.endGaps.sealDue = true from hdue)]
  · rw [htimeout hdue, hnot]
    rfl
  · exact congrArg Host.Outcome.next (by simp [State.sealTimeout, hdue])

/-- Settles O22: the rules of EV_CTRL and EV_KEY_CTRL on each form of the word written. -/
theorem evidenceWrites : Obligations.EvidenceWrites := by
  intro s w hwf
  have hok : s.ok := (Good.of_wf hwf).objs
  refine ⟨fun v hv hadm hseal hlow hhigh => ⟨fun hchain hopen => ?_, fun hnone => ?_⟩, fun v hv hadm =>
    ⟨fun hlock hcommit hpending => ⟨fun hkeep => ?_, fun hset => ?_⟩, fun hlock hcommit hpending => ?_,
      fun hlock hset hcommit => ?_, fun hlock hclear => ?_, fun hcommit hset => ⟨fun hid => ?_, fun hid => ?_⟩⟩⟩
  all_goals subst hv
  · exact exec_accepted rfl hadm
      ((State.objectRule_2601 ..).trans (State.wEvCtrl_sealNow hok hseal hlow hhigh hchain hopen)) rfl
  · exact exec_accepted rfl hadm
      ((State.objectRule_2601 ..).trans (State.wEvCtrl_nothingToSeal hseal hlow hhigh hnone)) rfl
  · exact exec_accepted rfl hadm ((State.objectRule_2603 ..).trans
      (by simp [State.wEvKeyCtrl, hlock, hcommit, hpending, hkeep])) rfl
  · exact exec_accepted rfl hadm ((State.objectRule_2603 ..).trans
      (by simp [State.wEvKeyCtrl, hlock, hcommit, hpending, hset])) rfl
  · exact exec_refused_uncounted rfl hadm ((State.objectRule_2603 ..).trans
      (by simp [State.wEvKeyCtrl, hlock, hcommit, hpending])) rfl (by decide) (by decide)
  · exact exec_refused_uncounted rfl hadm ((State.objectRule_2603 ..).trans
      (by simp [State.wEvKeyCtrl, hlock, hcommit, hset])) rfl (by decide) (by decide)
  · have hrule := (State.objectRule_2603 s .clean w.q.port 0 _).trans
      (show s.wEvKeyCtrl (Safety.valueOf s w 0x2603 0) = (stAccess, s) by simp [State.wEvKeyCtrl, hlock, hclear])
    exact ⟨exec_refused_uncounted rfl hadm hrule rfl (by decide) (by decide),
      exec_refused_uncounted rfl hadm hrule rfl (by decide) (by decide)⟩
  · exact exec_accepted rfl hadm ((State.objectRule_2603 ..).trans
      (by simp [State.wEvKeyCtrl, hcommit, hset, hid])) rfl
  · exact exec_refused_uncounted rfl hadm ((State.objectRule_2603 ..).trans
      (by simp [State.wEvKeyCtrl, hcommit, hset, hid])) rfl (by decide) (by decide)

/-- Settles O59: every part of the writer's cycle writes the log, its objects and the posting delays alone. -/
theorem frameEvidence : Obligations.FrameEvidence := by
  intro s t c hwf hc hexec
  have hkeeps : s.KeepsLog t := by
    simp only [List.mem_cons, List.not_mem_nil, or_false] at hc
    rcases hc with rfl | rfl | rfl
    · exact Host.Outcome.next.inj hexec ▸ State.writerCycle_keepsLog
    · exact Host.Outcome.next.inj hexec ▸ State.sealTimeout_keepsLog
    · exact Host.Outcome.next.inj hexec ▸ .ite State.startChain_keepsLog .refl
  have hg := Good.of_wf hwf
  exact ⟨hkeeps.eq, hkeeps.pages hg.objs (hg.exec hexec).objs⟩

end Sys2Proof
end

section
/-! SUPPORT. What a fault reaction leaves alone (R304, R310, R315): the parts of the state beside the dictionary, the log,
the collector, the safe state, the lanes with their notes, the commits, the survey, the calibration and the mode. -/

namespace Sys2Proof.Machine

variable {s t : State}

/-- The state without the parts that a fault reaction may change. -/
def State.besideReaction (s : State) : State :=
  { s with objs := [], ev := {}, fault := { crit := s.fault.crit, warm := s.fault.warm }, safe := {}, lanes := [],
           notes := [], commit := {}, survey := {}, cal := {}, mode := {} }

/-- A reaction's parts and pages aside, two states agree. -/
abbrev State.KeepsReaction : State → State → Prop := State.Keeps State.besideReaction reactionPages

theorem besideReaction_words : WordFree State.besideReaction := fun _ _ => rfl

theorem besideReaction_records : RecordFree State.besideReaction := fun _ _ _ => rfl

@[simp] theorem State.wr_besideReaction {F : Field} {e v : Nat} :
    (s.wr F e v).besideReaction = s.besideReaction := besideReaction_words s _

@[simp] theorem State.set_besideReaction {F : Field} {v : Nat} : (s.set F v).besideReaction = s.besideReaction :=
  State.wr_besideReaction

@[simp] theorem State.setB_besideReaction {F : Field} {b : Bool} :
    (s.setB F b).besideReaction = s.besideReaction := State.wr_besideReaction

@[simp] theorem State.bump_besideReaction {F : Field} : (s.bump F).besideReaction = s.besideReaction :=
  State.wr_besideReaction

@[simp] theorem State.bumpAt_besideReaction {F : Field} {e : Nat} :
    (s.bumpAt F e).besideReaction = s.besideReaction := State.wr_besideReaction

@[simp] theorem State.put64_besideReaction {i k v : Nat} : (s.put64 i k v).besideReaction = s.besideReaction :=
  (besideReaction_words (s.setWord i k _) _).trans (besideReaction_words s _)

@[simp] theorem State.setMask_besideReaction {i lo m x : Nat} :
    (s.setMask i lo m x).besideReaction = s.besideReaction := by
  rw [State.setMask_keeps]
  exact besideReaction_words s _

theorem State.postRec_besideReaction {r : Rec} {c : Option Nat} : (s.postRec r c).besideReaction = s.besideReaction := by
  rw [State.postRec_keeps]
  exact besideReaction_records s _ _

theorem State.setMode_besideReaction {new cause : Nat} : (s.setMode new cause).besideReaction = s.besideReaction :=
  State.postRec_besideReaction

theorem State.moveLane_besideReaction {e cause code : Nat} {l : Lane} {new : LState} :
    (s.moveLane e l new cause code false).besideReaction = s.besideReaction := by
  unfold State.moveLane
  extract_lets note u
  split <;> rfl

theorem State.safeLane_besideReaction {e : Nat} : (s.safeLane e).besideReaction = s.besideReaction := by
  unfold State.safeLane
  extract_lets l u act cmd l' w
  have hu : u.besideReaction = s.besideReaction := by unfold u; split <;> rfl
  split
  · exact hu
  · exact State.moveLane_besideReaction.trans hu

theorem State.safeLanes_besideReaction {l : List Nat} :
    (l.foldl State.safeLane s).besideReaction = s.besideReaction := by
  induction l generalizing s with
  | nil => rfl
  | cons e es ih => exact ih.trans State.safeLane_besideReaction

theorem State.assertFlt_besideReaction {a : Nat} : (s.assertFlt a).besideReaction = s.besideReaction := by
  unfold State.assertFlt
  split <;> rfl

theorem State.darken_besideReaction {a : Nat} : (s.darken a).besideReaction = s.besideReaction := rfl

theorem State.missShadow_besideReaction {result : Nat} : (s.missShadow result).besideReaction = s.besideReaction := by
  unfold State.missShadow
  split
  · rfl
  · exact State.postRec_besideReaction

theorem State.surveyCut_besideReaction {result : Nat} : (s.surveyCut result).besideReaction = s.besideReaction := by
  unfold State.surveyCut
  split <;> rfl

theorem State.enterSafe_besideReaction {src : Nat} : (s.enterSafe src).besideReaction = s.besideReaction := by
  unfold State.enterSafe
  split
  · rfl
  · extract_lets +onlyGivenNames marked parked dark
    have hparked : parked.besideReaction = s.besideReaction := State.safeLanes_besideReaction
    have hdark : dark.besideReaction = parked.besideReaction :=
      State.assertFlt_besideReaction.trans State.darken_besideReaction
    clear_value dark
    extract_lets +onlyGivenNames _ released missed ended
    have hmissed : missed.besideReaction = dark.besideReaction := State.missShadow_besideReaction
    have hended : ended.besideReaction = missed.besideReaction := State.surveyCut_besideReaction
    have hall := hended.trans (hmissed.trans (hdark.trans hparked))
    clear_value ended
    extract_lets
    split
    · exact hall
    · exact State.setMode_besideReaction.trans hall

theorem State.setFatal_besideReaction {src : Nat} : (s.setFatal src).besideReaction = s.besideReaction := by
  unfold State.setFatal
  split <;> simp

theorem State.reactSafe_besideReaction {src sev : Nat} : (s.reactSafe src sev).besideReaction = s.besideReaction := by
  unfold State.reactSafe
  split
  · rfl
  · split
    · split
      · exact State.enterSafe_besideReaction
      · rfl
    · exact State.setFatal_besideReaction.trans State.enterSafe_besideReaction

theorem State.react_besideReaction {src unit sev : Nat} : (s.react src unit sev).besideReaction = s.besideReaction := by
  unfold State.react
  extract_lets +onlyGivenNames degraded act _ due contained
  have hdegraded : degraded.besideReaction = s.besideReaction := by unfold degraded; split <;> rfl
  have hdue : due.besideReaction = degraded.besideReaction := by unfold due; split <;> rfl
  have hcontained : contained.besideReaction = due.besideReaction := by unfold contained; split <;> rfl
  exact State.reactSafe_besideReaction.trans (hcontained.trans (hdue.trans hdegraded))

theorem State.captureFirst_besideReaction {f : FaultRec} : (s.captureFirst f).besideReaction = s.besideReaction := by
  unfold State.captureFirst
  split <;> simp

theorem State.openWindow_besideReaction {rs : List Report} : (s.openWindow rs).besideReaction = s.besideReaction := by
  unfold State.openWindow
  split
  · rfl
  · extract_lets +onlyGivenNames sev f
    split
    extract_lets +onlyGivenNames reacted shown
    exact State.react_besideReaction.trans State.captureFirst_besideReaction

theorem State.mergeReport_besideReaction {w : Window} {r : Report} :
    (s.mergeReport w r).besideReaction = s.besideReaction := by
  unfold State.mergeReport
  extract_lets +onlyGivenNames sev up act _ f
  split
  extract_lets +onlyGivenNames w' u
  have hu : u.besideReaction = s.besideReaction := by
    unfold u
    split
    · exact State.react_besideReaction
    · rfl
  refine Eq.trans ?_ hu
  show (u.followFirst f).besideReaction = _
  unfold State.followFirst
  split <;> rfl

theorem State.countReport_besideReaction {r : Report} : (s.countReport r).besideReaction = s.besideReaction := by
  unfold State.countReport
  extract_lets u
  split <;> rfl

/-- What a repeated operation leaves alone. -/
theorem State.foldl_besideReaction {α : Type} {f : State → α → State} {l : List α}
    (h : ∀ t x, (f t x).besideReaction = t.besideReaction) : (l.foldl f s).besideReaction = s.besideReaction := by
  induction l generalizing s with
  | nil => rfl
  | cons x xs ih => exact ih.trans (h s x)

theorem State.reportNow_besideReaction {rs : List Report} : (s.reportNow rs).besideReaction = s.besideReaction := by
  unfold State.reportNow
  extract_lets accepted u
  have hu : u.besideReaction = s.besideReaction := State.foldl_besideReaction fun _ _ => State.countReport_besideReaction
  split
  · exact State.openWindow_besideReaction.trans hu
  · refine (State.foldl_besideReaction fun t r => ?_).trans hu
    split
    · exact State.mergeReport_besideReaction
    · rfl

/-- A report changes what a reaction may change. -/
theorem State.report_keepsReaction {rs : List Report} : s.KeepsReaction (s.report rs) := by
  refine ⟨?_, fun n hn => State.report_page hn⟩
  unfold State.report
  split
  · exact State.reportNow_besideReaction
  · rfl

theorem State.raise_keepsReaction {src unit : Nat} : s.KeepsReaction (s.raise src unit) := State.report_keepsReaction

/-- A report writes no field outside the reaction's pages. -/
theorem State.rd_report {rs : List Report} {G : Field} {e' : Nat}
    (h : (s.ok ∧ (s.report rs).ok) ∧ reactionPages.contains (G.page e') = false) :
    (s.report rs).rd G e' = s.rd G e' :=
  State.rd_of_page h.1.1 h.1.2 (State.report_page (by simpa using h.2)) rfl

theorem State.rd_raise {src unit : Nat} {G : Field} {e' : Nat}
    (h : (s.ok ∧ (s.raise src unit).ok) ∧ reactionPages.contains (G.page e') = false) :
    (s.raise src unit).rd G e' = s.rd G e' := State.rd_report h

end Sys2Proof.Machine
end

section
/-! SUPPORT. The start of the timing synthesiser (chapter 2): block lock of the reference, the phases of the band search,
a failed search, and CLK_READY. -/

namespace Sys2Proof.Machine

variable {s t : State} {x : BandMeas} {n p : Nat} {cs : List Instr}

theorem State.timingPort_lt : s.timingPort < 2 := State.rd_lt s TC_REF_PORT_SEL 0

/-! Block lock of the reference. -/

theorem State.blockLock_keeps : s.blockLock p = { s with objs := (s.blockLock p).objs, pairs := (s.blockLock p).pairs } := by
  unfold State.blockLock
  split <;> rfl

/-- A pair that has at least sent its first blocks has block lock afterwards. -/
theorem State.blockLock_locked (hok : s.ok) (h : 2 ≤ s.rd FL_STATUS_STATE p) : (s.blockLock p).blockLocked p = true := by
  unfold State.blockLock
  split
  · have hnow : (s.wr FL_STATUS_STATE p 3).rd FL_STATUS_STATE p = 3 := State.rd_wr_eq ⟨hok, rfl⟩
    exact decide_eq_true (hnow.symm ▸ Nat.le_refl 3)
  · exact decide_eq_true (by omega)

theorem flStatus_page (hp : p < 4) : FL_STATUS_STATE.page p = 0x11 := by
  simp only [Field.page, objKey, FL_STATUS_STATE]
  omega

theorem State.blockLock_page (hp : p < 4) (hn : n ≠ 0x11) :
    Words.page n (s.blockLock p).objs = Words.page n s.objs := by
  have hpage : FL_STATUS_STATE.page p ∈ [0x11] := by rw [flStatus_page hp]; exact List.mem_singleton.mpr rfl
  unfold State.blockLock
  split
  · exact State.wr_page (s := s) (by simpa using hn) hpage
  · rfl

/-- The domains that the boot sequence starts. -/
def State.startDomains (s : State) : State :=
  State.eachIn [0x1C, 0x1D, 0x1E, 0x1A] (fun d s => if s.domState d = 0 then s.wr PW_DOMAIN_STATE d 1 else s) s

theorem State.startDomains_keeps : State.KeepsWords [0x60] s s.startDomains :=
  .foldl fun t d hd => .ite (.wr besideWords_words (by
    simp only [List.mem_cons, List.not_mem_nil, or_false] at hd
    rcases hd with rfl | rfl | rfl | rfl <;> decide) .refl) .refl

/-- The state without the boot sequence. -/
def State.besideBoot (s : State) : State := { s with objs := [], boot := {} }

/-- The boot sequence as block lock of the reference leaves it. -/
def State.bootServed (s : State) : State := if s.boot.served then s else s.startBootDomains

theorem State.bootServed_keeps : State.Keeps State.besideBoot [0x60] s s.bootServed := by
  refine .ite .refl ⟨?_, State.startDomains_keeps.2⟩
  show (s.startDomains).besideBoot = _
  rw [State.startDomains_keeps.eq_words]
  rfl

theorem State.bootServed_served : s.bootServed.boot.served = true := by
  unfold State.bootServed
  split
  · assumption
  · rfl

theorem State.bootServed_good (hg : Good cs s) : Good cs s.bootServed :=
  Good.ite hg (State.startBootDomains_good hg)

/-- A waiting search whose reference is present starts from phase 1. -/
theorem State.startSearch_starts (hwait : s.tc = 1) (href : s.refPresent = true) :
    s.startSearch = { s.set TC_STATUS_STATE 2 with timing := { s.timing with phase := 1 } } := by
  simp [State.startSearch, hwait, href, State.enterPhase]

theorem State.portLock_eq (hheld : s.rst.held = []) (hsig : 2 ≤ s.rd FL_STATUS_STATE (2 * s.timingPort))
    {u : State} (hu : u = s.blockLock (2 * s.timingPort)) (hwait : u.tc = 1) :
    s.portLock = State.startSearch (State.bootServed { u with timing := { u.timing with lockUp := u.frame.up } }) := by
  subst hu
  have hnow : ¬((s.rst.held ≠ [] || decide (s.rd FL_STATUS_STATE (2 * s.timingPort) < 2)) = true) := by
    simp only [hheld, ne_eq, not_true, decide_false, Bool.false_or, decide_eq_true_eq]
    omega
  unfold State.portLock
  exact (if_neg hnow).trans (if_pos hwait)

theorem State.portLock_starts (hg : Good cs s) (hheld : s.rst.held = [])
    (hsig : 2 ≤ s.rd FL_STATUS_STATE (2 * s.timingPort)) (hwait : s.tc = 1) :
    s.portLock.blockLocked (2 * s.timingPort) = true ∧ s.portLock.tc = 2 ∧ s.portLock.timing.phase = 1 ∧
      s.portLock.timing.lockUp = s.frame.up ∧ s.portLock.boot.served = true ∧ s.portLock.lanes = s.lanes := by
  have hp : s.timingPort < 2 := State.timingPort_lt
  obtain ⟨u, hu⟩ : ∃ u, u = s.blockLock (2 * s.timingPort) := ⟨_, rfl⟩
  have hgLock : Good cs u := hu ▸ State.blockLock_good hg
  have hpage : Words.page 0x20 u.objs = Words.page 0x20 s.objs :=
    hu ▸ State.blockLock_page (by omega) (by decide)
  have hlocked : u.blockLocked (2 * s.timingPort) = true := hu ▸ State.blockLock_locked hg.objs hsig
  have hkept : u = { s with objs := u.objs, pairs := u.pairs } := hu ▸ State.blockLock_keeps
  have htc : u.tc = 1 := (State.rd_of_page hg.objs hgLock.objs hpage rfl).trans hwait
  have hport : u.timingPort = s.timingPort := State.rd_of_page hg.objs hgLock.objs hpage rfl
  rw [State.portLock_eq hheld hsig hu htc]
  have hframe : u.frame = s.frame := by rw [hkept]
  have hlanes : u.lanes = s.lanes := by rw [hkept]
  clear hu hkept
  obtain ⟨v, hv⟩ : ∃ v, v = State.bootServed { u with timing := { u.timing with lockUp := u.frame.up } } := ⟨_, rfl⟩
  have hkeeps : State.Keeps State.besideBoot [0x60] { u with timing := { u.timing with lockUp := u.frame.up } } v :=
    hv ▸ State.bootServed_keeps
  have hgServed : Good cs v := by rw [hv]; exact State.bootServed_good { hgLock with }
  have hok : v.ok := hgServed.objs
  have hserved : v.boot.served = true := hv ▸ State.bootServed_served
  rw [← hv]
  have hread {F : Field} {e : Nat} (hF : [0x60].contains (F.page e) = false) : v.rd F e = u.rd F e :=
    hkeeps.rd hgLock.objs hok hF
  have htiming : v.timing = { u.timing with lockUp := u.frame.up } := (congrArg State.timing hkeeps.1 :)
  have hlocked' : v.blockLocked (2 * s.timingPort) = true := by
    have hF : [0x60].contains (FL_STATUS_STATE.page (2 * s.timingPort)) = false := by
      rw [flStatus_page (by omega)]
      rfl
    unfold State.blockLocked
    rw [hread hF]
    exact hlocked
  have href : v.refPresent = true := by
    have : v.timingPort = s.timingPort := (hread (by decide)).trans hport
    rw [State.refPresent, this]
    exact hlocked'
  rw [State.startSearch_starts ((hread (by decide)).trans htc) href]
  refine ⟨?_, State.rd_wr_eq ⟨hok, by decide⟩, rfl, ?_, hserved, (congrArg State.lanes hkeeps.1 :).trans hlanes⟩
  · refine Eq.trans (congrArg (fun n => decide (3 ≤ n)) ?_) hlocked'
    exact State.rd_wr_apart ⟨hok, Field.apart_of_index (by decide) (by decide) (by
      show 0 + 2 * s.timingPort < 65536
      omega)⟩
  · show v.timing.lockUp = _
    rw [htiming, ← hframe]

/-! CLK_READY clears. -/

/-- What the end of CLK_READY writes beside CLK_READY itself. -/
def unreadyFields : List (Field × Nat) :=
  [CK_STATUS_READY_SEEN, CK_COUNT_SWITCH_COUNT, CK_STATUS_SRC, CK_STATUS_SWITCH_BUSY, CK_STATUS_FALLBACK,
    CK_COUNT_FALLBACK_COUNT, TC_TRACK_NOW, TC_DIV_ACTIVE_PRESCALE, TC_STATUS_PRESCALE, TC_DIV_ACTIVE_NINT,
    TC_DIV_ACTIVE_FRAC, DS_STATUS_STATE, DS_STATUS_LOCK, DS_STATUS_READY, DS_STATUS_BACKUP, DS_STATUS_SSC_ACTIVE,
    TB_STATUS_STATE, TB_STATUS_STEP_SCHEDULED, TB_STATUS_SERVER_COAST, TB_STATUS_SERVER_UNSET, TC_PHASE_PENDING_PENDING,
    TC_STATUS_PHASE_BUSY, TB_JUMP_PENDING_VALID].map (·, 0)

theorem State.fallback_writes : State.Writes unreadyFields s s.fallback := by
  unfold State.fallback
  extract_lets u
  have hu : State.Writes unreadyFields s u := .set (by decide) (.set (by decide) .refl)
  exact (hu.bump (F := CK_COUNT_FALLBACK_COUNT) (by decide)).beside rfl

theorem State.setDiv_writes {pre ratio : Nat} : State.Writes unreadyFields s (s.setDiv pre ratio) :=
  .set (by decide) (.set (by decide) (.set (by decide) (.set (by decide) .refl)))

theorem State.dropTrack_writes : State.Writes unreadyFields s s.dropTrack := by
  have hnow : State.Writes unreadyFields s (s.set TC_TRACK_NOW 0) := .set (by decide) .refl
  exact .ite (hnow.trans State.setDiv_writes) hnow

theorem State.dsOff_writes : State.Writes unreadyFields s s.dsOff := by
  unfold State.dsOff
  extract_lets u v
  have hv : State.Writes unreadyFields s v :=
    .set (by decide) (.set (by decide) (.set (by decide) (.set (by decide) (.set (by decide) .refl))))
  exact hv.beside rfl

theorem State.setSteps_writes {k : Int} : State.Writes unreadyFields s (s.setSteps k) :=
  .setB (by decide) (.setI (by decide) .refl)

theorem State.unsetTime_writes : State.Writes unreadyFields s s.unsetTime := by
  unfold State.unsetTime
  extract_lets u v
  have hu : State.Writes unreadyFields s (u.set TB_STATUS_SERVER_UNSET 0) :=
    .set (by decide) (.set (by decide) (.set (by decide) (.set (by decide) .refl)))
  have hv : State.Writes unreadyFields s v := hu.trans State.setSteps_writes
  exact (hv.set (F := TB_JUMP_PENDING_VALID) (v := 0) (by decide)).beside rfl

theorem State.clearReady_writes : State.Writes unreadyFields (s.set TC_STATUS_CLK_READY 0) s.clearReady := by
  unfold State.clearReady
  extract_lets +onlyGivenNames was u
  have hu : State.Writes unreadyFields (s.set TC_STATUS_CLK_READY 0) u := .set (by decide) .refl
  clear_value u
  split
  next late v hv =>
  have hv' : v.objs = u.objs := by
    split at hv <;> cases hv <;> rfl
  extract_lets +onlyGivenNames switched
  have hsw : State.Writes unreadyFields (s.set TC_STATUS_CLK_READY 0) switched :=
    .ite (.set (by decide) (.bump (by decide) (hu.beside hv'))) (hu.beside hv')
  clear_value switched
  extract_lets _ _ settled back
  have hback : State.Writes unreadyFields (s.set TC_STATUS_CLK_READY 0) back := by
    have hsettled : State.Writes unreadyFields (s.set TC_STATUS_CLK_READY 0) settled :=
      (hsw.set (F := CK_STATUS_SWITCH_BUSY) (v := 0) (by decide)).beside rfl
    exact .ite (hsettled.trans State.fallback_writes) hsettled
  have hend := ((hback.trans State.dropTrack_writes).trans State.dsOff_writes).trans State.unsetTime_writes
  exact .ite (hend.beside rfl) hback

theorem State.clearReady_off (hok : s.ok) : s.clearReady.on TC_STATUS_CLK_READY = false := by
  have h0 : (s.set TC_STATUS_CLK_READY 0).rd TC_STATUS_CLK_READY 0 = 0 := State.rd_wr_eq ⟨hok, by decide⟩
  have hread := State.clearReady_writes.rd (State.set_ok hok) (G := TC_STATUS_CLK_READY) (e := 0) (by decide)
  exact State.on_false_iff.mpr (by rw [hread, h0]; decide)
/-! The phases of the band search. -/

theorem State.enterPhase_writes : State.Writes [(TC_STATUS_STATE, 0), (TC_STATUS_BW, 0)] s (s.enterPhase n) := by
  unfold State.enterPhase
  extract_lets u v
  have hu : State.Writes [(TC_STATUS_STATE, 0), (TC_STATUS_BW, 0)] s u := .set (by decide) .refl
  have hv : State.Writes [(TC_STATUS_STATE, 0), (TC_STATUS_BW, 0)] s v :=
    .ite (hu.set (by decide)) (.ite (hu.set (by decide)) hu)
  exact hv.beside rfl

theorem State.enterPhase_tc (hok : s.ok) : (s.enterPhase n).tc = if n ≤ 4 then 2 else 3 := by
  have hstate : (s.set TC_STATUS_STATE (if n ≤ 4 then 2 else 3)).rd TC_STATUS_STATE 0 = if n ≤ 4 then 2 else 3 :=
    (State.rd_wr_eq ⟨hok, by decide⟩).trans (by split <;> rfl)
  refine Eq.trans ?_ hstate
  unfold State.enterPhase State.tc State.get State.takeBw
  extract_lets u v
  have hu : u.ok := State.set_ok hok
  show v.rd TC_STATUS_STATE 0 = _
  unfold v
  split
  · exact State.rd_wr_apart ⟨hu, by decide⟩
  · split
    · exact State.rd_wr_apart ⟨hu, by decide⟩
    · rfl

@[simp] theorem State.enterPhase_timing : (s.enterPhase n).timing = { s.timing with phase := n } := by
  simp only [State.enterPhase, State.takeBw]
  split_ifs <;> rfl

@[simp] theorem State.enterPhase_frame : (s.enterPhase n).frame = s.frame := by
  simp only [State.enterPhase, State.takeBw]
  split_ifs <;> rfl

@[simp] theorem State.enterPhase_lanes : (s.enterPhase n).lanes = s.lanes := by
  simp only [State.enterPhase, State.takeBw]
  split_ifs <;> rfl

@[simp] theorem State.setFine_fine {f : Nat} : (s.setFine f).fine = f := Nat.mul_div_cancel_left f (by decide)

/-- Acquisition begins at a bandwidth of 6 (log entry 25). -/
theorem State.enterPhase_acquire (hok : s.ok) : (s.enterPhase 5).get TC_STATUS_BW = 6 :=
  State.rd_wr_eq (s := s.set TC_STATUS_STATE 3) ⟨State.set_ok hok, by decide⟩

section

variable (hg : Good cs s)
include hg

theorem State.takeStored_reads : s.takeStored.rd TC_DCO_COARSE 0 = s.rd TC_DCO_COARSE_s01 0 ∧
    s.takeStored.rd TC_DCO_MEDIUM 0 = s.rd TC_DCO_MEDIUM_s01 0 ∧ s.takeStored.fine = s.get TC_DCO_FINE_s01 := by
  have hok : Words.ok s.objs := hg.objs
  simp only [State.takeStored, State.setFine_fine, State.setFine_objs, State.rd_objs, State.get_objs, State.set_objs]
  simp (disch := (constructor; (repeat refine Words.wr_ok ?_); exact hok; decide)) only
    [Words.rd_wr_apart, Words.rd_wr_eq]
  exact ⟨Nat.mod_eq_of_lt (Words.rd_lt ..), Nat.mod_eq_of_lt (Words.rd_lt ..), trivial⟩

theorem State.phaseEnd_stored (hphase : s.timing.phase = 1) (href : s.refPresent = true)
    (hstored : s.timing.fromStored = true) :
    (s.phaseEnd x).timing.phase = 5 ∧ (s.phaseEnd x).get TC_STATUS_BW = 6 ∧
      (s.phaseEnd x).get TC_DCO_COARSE = s.get TC_DCO_COARSE_s01 ∧
      (s.phaseEnd x).get TC_DCO_MEDIUM = s.get TC_DCO_MEDIUM_s01 ∧ (s.phaseEnd x).fine = s.get TC_DCO_FINE_s01 := by
  have hend : s.phaseEnd x = s.takeStored.enterPhase 5 := by
    simp [State.phaseEnd, hphase, href, hstored]
  have hok := (State.takeStored_good hg).objs
  have hwrites := State.enterPhase_writes (s := s.takeStored) (n := 5)
  obtain ⟨hcoarse, hmedium, hfine⟩ := State.takeStored_reads hg
  rw [hend]
  exact ⟨by simp, State.enterPhase_acquire hok, (hwrites.rd hok (by decide)).trans hcoarse,
    (hwrites.rd hok (by decide)).trans hmedium, by simpa [State.fine] using hfine⟩

theorem State.phaseEnd_medium (hphase : s.timing.phase = 3) :
    (s.phaseEnd x).timing.phase = 4 ∧ (s.phaseEnd x).get TC_DCO_MEDIUM = x.medium % 64 ∧
      (s.phaseEnd x).get TC_DCO_MEDIUM_s01 = x.medium % 64 ∧
      (s.phaseEnd x).get TC_DCO_COARSE_s01 = s.get TC_DCO_COARSE := by
  have hok : Words.ok s.objs := hg.objs
  simp [State.phaseEnd, hphase, State.enterPhase, State.get_objs, State.set_objs]
  simp (disch := (constructor; (repeat refine Words.wr_ok ?_); exact hok; decide)) only
    [Words.rd_wr_apart, Words.rd_wr_eq]
  exact ⟨rfl, rfl, Nat.mod_eq_of_lt (Words.rd_lt ..)⟩

theorem State.phaseEnd_gains (hphase : s.timing.phase = 4) :
    (s.phaseEnd x).timing.phase = 5 ∧ (s.phaseEnd x).tc = 3 ∧ (s.phaseEnd x).get TC_STATUS_BW = 6 ∧
      (s.phaseEnd x).fine = 32768 ∧ (s.phaseEnd x).timing.loop.gain = x.tdcGain % 65536 ∧
      (s.phaseEnd x).get TC_DCO_KDCO = x.kdco % 2 ^ (TC_DCO_KDCO.hi + 1 - TC_DCO_KDCO.lo) ∧
      (s.phaseEnd x).get TC_DCO_MED_STEP = x.medStep % 2 ^ (TC_DCO_MED_STEP.hi + 1 - TC_DCO_MED_STEP.lo) := by
  have hok : Words.ok s.objs := hg.objs
  simp [State.phaseEnd, hphase, State.enterPhase, State.tc, State.get_objs, State.set_objs, State.fine, State.setFine]
  simp (disch := (constructor; (repeat refine Words.wr_ok ?_); exact hok; decide)) only
    [Words.rd_wr_apart, Words.rd_wr_eq]
  exact ⟨rfl, rfl, trivial, trivial⟩

end

/-- What the declaration of lock writes beside LOCK, its count and the fine code. -/
def lockFields : List (Field × Nat) :=
  [(TC_OUTDIV_RUNNING, 0), (TC_OUTDIV_RUNNING, 1), (TC_OUTDIV_RUNNING, 2), (TC_OUTDIV_RUNNING, 3), (TC_OUTDIV_RUNNING, 4),
    (TC_OUTDIV_RUNNING, 5), (TC_OUTDIV_ALIGN_ODD, 3), (TC_OUTDIV_ALIGN_ODD, 4), (TC_STATUS_STATE, 0), (TC_STATUS_BW, 0)]

/-- LOCK, its count, the fine code and the phase error at the declaration of lock (R35, R47). -/
def State.lockTaken (s : State) (x : BandMeas) : State :=
  let s := (((s.set TC_STATUS_LOCK 1).bump TC_COUNT_LOCK_COUNT).setFine x.fine).set TC_DCO_FINE_s01 x.fine
  s.setLoop { s.timing.loop with theta := 0, pulses := [] }

theorem State.lockTaken_lock (hok : Words.ok s.objs) :
    (s.lockTaken x).ok ∧ (s.lockTaken x).rd TC_STATUS_LOCK 0 = 1 := by
  have hobjs : (s.lockTaken x).objs = Words.wr (((s.set TC_STATUS_LOCK 1).bump TC_COUNT_LOCK_COUNT).objs)
      TC_DCO_FINE_s01 0 x.fine := rfl
  simp only [State.rd_objs, State.ok, hobjs, State.bump_objs, State.set_objs]
  refine ⟨Words.wr_ok (Words.wr_ok (Words.wr_ok hok)), ?_⟩
  simp (disch := (constructor; (repeat refine Words.wr_ok ?_); exact hok; decide)) only
    [Words.rd_wr_apart, Words.rd_wr_eq]
  rfl

/-- The output dividers run (R57). -/
def State.runDividers (s : State) : State := State.each 6 (fun k s => s.wr TC_OUTDIV_RUNNING k 1) s

theorem State.runDividers_writes : State.Writes lockFields s s.runDividers :=
  .foldl fun t k hk => .wr (by
    rw [List.mem_range] at hk
    interval_cases k <;> decide) .refl

/-- The frame counter starts with the first lock, its dividers aligned to even frames (R57). -/
def State.frameStarted (s : State) : State :=
  if s.frame.running then s else
    let s := State.eachIn [3, 4] (fun k s => s.wr TC_OUTDIV_ALIGN_ODD k 0) s
    { s with frame := { running := true, tc := 0, frame := 0, ticks := s.frame.ticks + 1, up := s.frame.up } }

theorem State.frameStarted_writes : State.Writes lockFields s s.frameStarted := by
  unfold State.frameStarted
  extract_lets aligned
  have haligned : State.Writes lockFields s aligned := .wr (by decide) (.wr (by decide) .refl)
  exact .ite .refl (haligned.beside rfl)

@[simp] theorem State.frameStarted_timing : s.frameStarted.timing = s.timing := by
  unfold State.frameStarted
  split <;> rfl

theorem State.frameStarted_running : s.frameStarted.frame.running = true := by
  unfold State.frameStarted
  split
  · assumption
  · rfl

theorem State.frameStarted_zero (h : s.frame.running = false) :
    s.frameStarted.frame.frame = 0 ∧ s.frameStarted.frame.tc = 0 := by
  unfold State.frameStarted
  rw [if_neg (by simp [h])]
  exact ⟨rfl, rfl⟩

theorem State.declareLock_eq :
    s.declareLock x = (s.lockTaken x).runDividers.frameStarted.enterPhase 7 := rfl

theorem State.declareLock_lock (hok : s.ok) : (s.declareLock x).get TC_STATUS_LOCK = 1 := by
  obtain ⟨hokTaken, hlock⟩ := State.lockTaken_lock (x := x) hok
  have hstarted := (State.runDividers_writes (s := s.lockTaken x)).trans State.frameStarted_writes
  rw [State.declareLock_eq]
  exact (State.enterPhase_writes.rd (hstarted hokTaken).1 (by decide)).trans
    ((hstarted.rd hokTaken (by decide)).trans hlock)

theorem State.declareLock_beside : (s.declareLock x).timing.phase = 7 ∧ (s.declareLock x).frame.running = true ∧
    (s.declareLock x).fine = x.fine ∧ (s.declareLock x).timing.loop.theta = 0 ∧
    (s.frame.running = false → (s.declareLock x).frame.frame = 0 ∧ (s.declareLock x).frame.tc = 0) := by
  rw [State.declareLock_eq, State.enterPhase_timing, State.enterPhase_frame, State.frameStarted_timing]
  refine ⟨rfl, State.frameStarted_running, ?_, rfl, fun h => State.frameStarted_zero h⟩
  rw [State.fine, State.enterPhase_timing, State.frameStarted_timing]
  exact Nat.mul_div_cancel_left _ (by decide)

/-! A failed search, and CLK_READY. -/

theorem State.searchFail_restarts (hg : Good cs s) (hphase : s.timing.phase = 6) :
    s.searchFail.on TC_STATUS_CLK_READY = false ∧ s.searchFail.tc = 2 ∧
      s.searchFail.timing.phase = if s.timing.fromStored then 2 else 1 := by
  have hgClear : Good cs (s.bump TC_COUNT_SEARCH_FAILS).clearReady := State.clearReady_good (State.bump_good hg)
  have hclear : (s.bump TC_COUNT_SEARCH_FAILS).clearReady.on TC_STATUS_CLK_READY = false :=
    State.clearReady_off (State.bump_ok hg.objs)
  obtain ⟨u, hfail, hobjs⟩ : ∃ u : State,
      s.searchFail = u.enterPhase (if s.timing.fromStored then 2 else 1) ∧
      u.objs = (s.bump TC_COUNT_SEARCH_FAILS).clearReady.objs := by
    simp only [State.searchFail, hphase, reduceIte]
    exact ⟨_, rfl, rfl⟩
  have hok : u.ok := State.ok_of_objs hgClear.objs hobjs
  rw [hfail]
  refine ⟨?_, ?_, by rw [State.enterPhase_timing]⟩
  · rw [State.on_false_iff] at hclear ⊢
    rwa [State.enterPhase_writes.rd hok (by decide), State.rd_congr hobjs]
  · rw [State.enterPhase_tc hok]
    split <;> rfl

/-- What the time base writes when it goes to HOLDOVER. -/
def holdFields : List (Field × Nat) :=
  [(TB_STATUS_STEP_SCHEDULED, 0), (TB_STATUS_STEP_CANCELLED, 0), (TB_COUNT_COUNT, 5), (TB_STATUS_STATE, 0)]

theorem State.cancelStep_writes : State.Writes holdFields s s.cancelStep := by
  unfold State.cancelStep
  split
  · exact .refl
  · exact (State.Writes.bumpAt (by decide) (.set (by decide) (.set (by decide) .refl))).beside rfl

theorem State.setTb_writes : State.Writes holdFields s (s.setTb n) := by
  unfold State.setTb
  extract_lets u v
  have hv : State.Writes holdFields s v := .ite (State.Writes.refl.beside rfl) .refl
  exact hv.set (by decide)

theorem State.holdTime_writes : State.Writes holdFields s s.holdTime := by
  unfold State.holdTime
  exact .ite .refl ((State.cancelStep_writes.trans State.setTb_writes).beside rfl)

theorem State.setTb_tb (hok : s.ok) (hn : n < 2 ^ (TB_STATUS_STATE.hi + 1 - TB_STATUS_STATE.lo)) : (s.setTb n).tb = n := by
  unfold State.setTb
  extract_lets u v
  have hv : v.ok := by unfold v; split <;> exact hok
  exact (State.rd_wr_eq ⟨hv, by decide⟩).trans (Nat.mod_eq_of_lt hn)

theorem State.holdTime_tb (hok : s.ok) : s.holdTime.tb = 5 := by
  unfold State.holdTime
  split
  · assumption
  · exact State.setTb_tb (State.cancelStep_writes hok).1 (by decide)


/-- The instant of CLK_READY: its bit, the lock time and the start of the time base's clock (R47). -/
def State.readied (s : State) : State :=
  { (s.set TC_STATUS_CLK_READY 1).set BT_LOCK_TIME_US (s.usSince s.timing.lockUp) with
    time := { s.time with syncUp := s.frame.up } }

theorem State.readied_reads (hok : Words.ok s.objs) : s.readied.ok ∧ s.readied.rd TC_STATUS_CLK_READY 0 = 1 ∧
    s.readied.rd BT_LOCK_TIME_US 0 = s.usSince s.timing.lockUp ∧ s.readied.modeNow = s.modeNow ∧
    s.readied.coasting = s.coasting := by
  have hobjs : s.readied.objs = Words.wr (Words.wr s.objs TC_STATUS_CLK_READY 0 1) BT_LOCK_TIME_US 0
    (s.usSince s.timing.lockUp) := rfl
  simp only [State.coasting, State.tc, State.modeNow, State.rd_objs, State.get_objs, State.ok, hobjs]
  simp (disch := (constructor; (repeat refine Words.wr_ok ?_); exact hok; decide)) only
    [Words.rd_wr_apart, Words.rd_wr_eq]
  exact ⟨Words.wr_ok (Words.wr_ok hok), rfl, Nat.mod_eq_of_lt (Nat.lt_succ_of_le (Nat.min_le_right _ _)), trivial, rfl⟩

/-- The state without the time base. -/
def State.besideTime (s : State) : State := { s with objs := [], time := {} }

theorem State.cancelStep_besideTime : s.cancelStep.besideTime = s.besideTime := by
  unfold State.cancelStep
  split <;> rfl

theorem State.setTb_besideTime : (s.setTb n).besideTime = s.besideTime := by
  simp only [State.setTb]
  split <;> rfl

theorem State.holdTime_besideTime : s.holdTime.besideTime = s.besideTime := by
  unfold State.holdTime
  split
  · rfl
  · exact State.setTb_besideTime.trans State.cancelStep_besideTime

/-- CLK_READY while the loop coasts leaves the time base in HOLDOVER (R175). -/
def State.heldIfCoasting (s : State) : State := if s.coasting then s.holdTime else s

/-- CLK_READY ends a wake from DORMANT (R279). -/
def State.woken (s : State) : State :=
  if s.boot.waking then
    let s := { s with boot := { s.boot with waking := false } }
    if s.modeNow = modeDormant then s.setMode modeBoot 7
    else if s.modeNow = modeSafe && s.get SF_STATE_STATE = 0 then s.setMode modeBoot 9
    else s
  else s

theorem State.woken_eq (h : s.boot.waking = false) : s.woken = s := if_neg (by simp [h])

theorem State.setMode_boot {new cause : Nat} : (s.setMode new cause).boot = s.boot := by
  unfold State.setMode
  rw [State.post_keeps]
  rfl

theorem State.setMode_modeNow {new cause : Nat} (hok : Words.ok s.objs)
    (hnew : new < 2 ^ (MD_MODE_MODE.hi + 1 - MD_MODE_MODE.lo)) : (s.setMode new cause).modeNow = new := by
  unfold State.setMode
  extract_lets old u
  have hobjs : u.objs = Words.wr (Words.wr (Words.wr s.objs MD_MODE_PRIOR 0 old) MD_MODE_MODE 0 new) MD_MODE_CAUSE 0 cause :=
    rfl
  have hu : Words.ok u.objs := hobjs ▸ Words.wr_ok (Words.wr_ok (Words.wr_ok hok))
  refine (State.post_writes.rd (State.bump_ok hu) (by decide)).trans ?_
  simp only [State.rd_objs, State.bump_objs, hobjs]
  simp (disch := (constructor; (repeat refine Words.wr_ok ?_); exact hok; decide)) only
    [Words.rd_wr_apart, Words.rd_wr_eq]
  exact Nat.mod_eq_of_lt hnew

theorem State.woken_writes : State.Writes modeFields s s.woken := by
  unfold State.woken
  extract_lets _ u
  have hu : State.Writes modeFields s u := State.Writes.refl.beside rfl
  exact .ite (.ite (hu.trans State.setMode_writes) (.ite (hu.trans State.setMode_writes) hu)) .refl

theorem State.woken_waking : s.woken.boot.waking = false := by
  unfold State.woken
  extract_lets _ u
  split
  · split
    · rw [State.setMode_boot]
    · split
      · rw [State.setMode_boot]
      · rfl
  · next hnot => exact Bool.eq_false_iff.mpr hnot

theorem State.woken_mode (hok : s.ok) (hwaking : s.boot.waking = true) (hmode : s.modeNow = modeDormant) :
    s.woken.modeNow = modeBoot := by
  unfold State.woken
  extract_lets _ u
  have hu : u.modeNow = modeDormant := hmode
  rw [if_pos hwaking, if_pos hu]
  exact State.setMode_modeNow (s := u) (State.ok_of_objs hok rfl) (by decide)

theorem State.setReady_eq (hrun : s.frame.running = true) (hheld : s.rst.held = [])
    (hready : s.on TC_STATUS_CLK_READY = false) (hclock : s.on TC_STATUS_LOCK = true ∨ s.coasting = true) :
    s.setReady = s.readied.heldIfCoasting.woken :=
  if_pos (by simpa [hrun, hheld, hready] using hclock)

theorem State.setReady_reads (hok : s.ok) (hready : s.setReady = s.readied.heldIfCoasting.woken) :
    s.setReady.on TC_STATUS_CLK_READY = true ∧ s.setReady.boot.waking = false ∧
        s.setReady.get BT_LOCK_TIME_US = s.usSince s.timing.lockUp ∧ (s.coasting = true → s.setReady.tb = 5) ∧
        (s.boot.waking = true → s.modeNow = modeDormant → s.setReady.modeNow = modeBoot) := by
  obtain ⟨hokReady, hbit, htime, hmode, hcoast⟩ := State.readied_reads hok
  have hheld : State.Writes holdFields s.readied s.readied.heldIfCoasting := .ite State.holdTime_writes .refl
  have hokHeld := (hheld hokReady).1
  have hread {F : Field} (hF : holdFields.all (fun p => p.1.apart p.2 F 0) = true)
      (hF' : modeFields.all (fun p => p.1.apart p.2 F 0) = true) : s.setReady.rd F 0 = s.readied.rd F 0 := by
    rw [hready]
    exact (State.woken_writes.rd hokHeld hF').trans (hheld.rd hokReady hF)
  have hboot : s.readied.heldIfCoasting.boot = s.boot := by
    unfold State.heldIfCoasting
    split
    · exact (congrArg State.boot (State.holdTime_besideTime (s := s.readied)) :)
    · rfl
  refine ⟨State.on_iff.mpr ((hread (by decide) (by decide)).trans hbit), hready ▸ State.woken_waking,
    (hread (by decide) (by decide)).trans htime, fun h => ?_, fun hw hm => ?_⟩
  · rw [hready]
    refine (State.woken_writes.rd hokHeld (by decide)).trans ?_
    rw [State.heldIfCoasting, if_pos (hcoast.trans h)]
    exact State.holdTime_tb hokReady
  · rw [hready]
    exact State.woken_mode hokHeld (by rw [hboot]; exact hw) ((hheld.rd hokReady (by decide)).trans (hmode.trans hm))

/-- The end of a phase of a search that runs. -/
theorem execBandSearchPhaseEnd_runs (h : s.searching = true ∨ s.timing.phase = 7) :
    exec (.bandSearchPhaseEnd x) s = .next (s.phaseEnd x) :=
  congrArg Host.Outcome.next (if_pos (by simpa using h))

theorem State.phaseEnd_declares (hphase : s.timing.phase = 6) : s.phaseEnd x = s.declareLock x := by
  simp [State.phaseEnd, hphase]

/-- Phase 7 ends the search. -/
theorem State.phaseEnd_locked (hok : s.ok) (hphase : s.timing.phase = 7) : (s.phaseEnd x).tc = 4 ∧
    (s.phaseEnd x).timing.phase = 0 ∧ (s.phaseEnd x).fine = x.fine ∧ (s.phaseEnd x).lanes = s.lanes := by
  have hfine : (s.phaseEnd x).fine = ((s.set TC_STATUS_STATE 4).setFine x.fine).fine := by
    simp [State.phaseEnd, hphase, State.fine]
  have hobjs : (s.phaseEnd x).objs = (s.set TC_STATUS_STATE 4).objs := by
    simp [State.phaseEnd, hphase]
  refine ⟨(State.rd_congr hobjs _ _).trans (State.rd_wr_eq ⟨hok, by decide⟩), ?_, hfine.trans State.setFine_fine, ?_⟩
  · simp [State.phaseEnd, hphase]
  · simp [State.phaseEnd, hphase]

end Sys2Proof.Machine

namespace Sys2Proof

open Machine

/-- Settles O3: block lock of the reference starts the search, each phase's end is one equation of the model or the
reads of the state it leaves, and CLK_READY follows. -/
theorem bandSearch : Obligations.BandSearch := by
  intro s x hwf
  have hg := Good.of_wf hwf
  have hok : s.ok := hg.objs
  refine ⟨fun hheld hsig hwait => ?_, fun hsearch => ⟨fun hphase href hstored => ?_, fun hphase href hstored => ?_,
    fun hphase => ?_, fun hphase => ?_, fun hphase => ?_, fun hphase => ?_, fun hphase => ?_⟩,
    fun hphase => ?_, fun hphase => ?_, fun hphase => ?_,
    fun hrun hheld hready => ⟨fun hlock hcoast hwaking => ?_, fun hclock => ?_⟩⟩
  · exact ⟨s.portLock, rfl, State.portLock_starts hg hheld hsig hwait⟩
  · rw [execBandSearchPhaseEnd_runs (.inl hsearch)]
    simp [State.phaseEnd, hphase, href, hstored]
  · exact ⟨_, execBandSearchPhaseEnd_runs (.inl hsearch), State.phaseEnd_stored hg hphase href hstored⟩
  · rw [execBandSearchPhaseEnd_runs (.inl hsearch)]
    simp [State.phaseEnd, hphase]
  · exact ⟨_, execBandSearchPhaseEnd_runs (.inl hsearch), State.phaseEnd_medium hg hphase⟩
  · exact ⟨_, execBandSearchPhaseEnd_runs (.inl hsearch), State.phaseEnd_gains hg hphase⟩
  · rw [execBandSearchPhaseEnd_runs (.inl hsearch)]
    simp [State.phaseEnd, hphase]
  · refine ⟨_, execBandSearchPhaseEnd_runs (.inl hsearch), ?_⟩
    rw [State.phaseEnd_declares hphase]
    exact ⟨State.declareLock_lock hok, State.declareLock_beside⟩
  · exact ⟨_, execBandSearchPhaseEnd_runs (.inr hphase), State.phaseEnd_locked hok hphase⟩
  · exact congrArg Host.Outcome.next (by simp [State.searchFail, hphase])
  · exact ⟨s.searchFail, rfl, State.searchFail_restarts hg hphase⟩
  · have hnow := State.setReady_eq hrun hheld hready (.inl hlock)
    obtain ⟨-, -, -, -, hcoast'⟩ := State.readied_reads hok
    have hheldNot : s.readied.heldIfCoasting = s.readied := if_neg (by simp [hcoast', hcoast])
    rw [hheldNot, State.woken_eq (s := s.readied) hwaking] at hnow
    exact congrArg Host.Outcome.next hnow
  · exact ⟨s.setReady, rfl, State.setReady_reads hok (State.setReady_eq hrun hheld hready hclock)⟩

end Sys2Proof
end

section
/-! SUPPORT. A state in which writes of port A are admitted, and the write to TC_CONTROL that also moves FERR_EST. -/

namespace Sys2Proof.Machine

/-- The state after reset, with port A's endpoint running and clocked, the boot sequence begun, and every section in port
A's hands. -/
def portAState : State :=
  let s := State.each 16 (fun k s => s.wr SE_SECTION_OWNER_OWNER k 1) State.reset
  { (s.wr PW_DOMAIN_STATE 0x1D 1).set CK_STATUS_SRC 1 with boot := { State.reset.boot with served := true } }

/-- A request of port A. -/
def portARequest : Rq := { port := 0, fromD := false, src := 0, tag := 0, bcast := false, formed := true }

/-- A write of port A under the full mask. -/
def portAWrite (v : Word) : Wr := { q := portARequest, value := v, mask := BitVec.allOnes 32 }

/-- The loop coasts with trimming inactive and an estimate of 0, which its sensor would put at 100 (R53). -/
def coastingState : State := portAState.set TC_STATUS_STATE 5

theorem coastingState_wf : Safety.wf coastingState = true := by decide

theorem coastingState_admits : Safety.admits coastingState (portAWrite 0x20) 0x2001 0 = true := by decide

end Sys2Proof.Machine

namespace Sys2Proof

open Machine

/-- Refutes O2: a write to TC_CONTROL without TRIM_EN makes the frequency estimate of a coasting loop follow the sensor
(R53), which the statement's `Safety.afterControl` leaves out. -/
theorem not_timingLoopWrites : ¬ Obligations.TimingLoopWrites := by
  intro h
  obtain ⟨-, hcontrol, -⟩ := h coastingState (portAWrite 0x20) coastingState_wf
  obtain ⟨hstored, -⟩ := hcontrol _ rfl coastingState_admits
  have hsame := Host.Outcome.next.inj (hstored (by decide) (by decide))
  exact absurd (congrArg (·.get TC_COAST_FERR_EST) hsame) (by decide)

end Sys2Proof
end

section
/-! SUPPORT. Coasting and re-lock (chapter 2): the frequency estimate, what a loss leaves, qualification, the end of a
re-lock, and trim windows. -/

namespace Sys2Proof.Machine
variable {s t u : State} {n fine : Nat} {byRef : Bool} {offset tdc err : Int} {cs : List Instr} {G : Field} {e : Nat}

/-! The frequency estimate of a coasting loop. -/

/-- Judging the estimate marks the episode and may raise a source; the rest of the timing loop stays. -/
theorem State.judgeFerr_timing : ∃ b, s.judgeFerr.timing = { s.timing with ferrRaised := b } := by
  unfold State.judgeFerr
  extract_lets lim
  split
  · exact ⟨true, (congrArg State.timing State.raise_keepsReaction.1 :)⟩
  · exact ⟨s.timing.ferrRaised, rfl⟩

theorem State.judgeFerr_time : s.judgeFerr.time = s.time := by
  unfold State.judgeFerr
  extract_lets lim
  split
  · exact (congrArg State.time State.raise_keepsReaction.1 :)
  · rfl

theorem State.rd_judgeFerr (hg : Good cs s) (hG : reactionPages.contains (G.page e) = false) :
    s.judgeFerr.rd G e = s.rd G e := by
  have hgJudged := State.judgeFerr_good hg
  unfold State.judgeFerr at hgJudged ⊢
  extract_lets at hgJudged ⊢
  split at hgJudged
  · next h =>
    rw [if_pos h]
    exact State.rd_raise ⟨⟨hg.objs, hgJudged.objs⟩, hG⟩
  · next h => rw [if_neg h]

theorem State.followFerr_timing : ∃ b, s.followFerr.timing = { s.timing with ferrRaised := b } := by
  unfold State.followFerr
  split
  · exact State.judgeFerr_timing
  · exact ⟨s.timing.ferrRaised, rfl⟩

theorem State.followFerr_time : s.followFerr.time = s.time := by
  unfold State.followFerr
  split
  · exact State.judgeFerr_time
  · rfl

theorem State.rd_followFerr (hg : Good cs s) (hG : reactionPages.contains (G.page e) = false)
    (hapart : TC_COAST_FERR_EST.apart 0 G e = true) : s.followFerr.rd G e = s.rd G e := by
  unfold State.followFerr
  split
  · exact (State.rd_judgeFerr (State.set_good hg) hG).trans (State.rd_wr_apart ⟨hg.objs, hapart⟩)
  · rfl

/-! Coasting begins (R49). -/

theorem State.surveyHoldover_keeps : s.surveyHoldover = { s with survey := s.surveyHoldover.survey } := by
  unfold State.surveyHoldover
  split
  · rfl
  · split <;> rfl

/-- Codes frozen, LOCK clear, a waiting commit dropped, and the episode's clock. -/
def State.coastFrozen (s : State) (byRef : Bool) (fine : Nat) : State :=
  let s := ((((s.set TC_STATUS_STATE 5).set TC_STATUS_LOCK 0).setFine fine).dropCommit).beginEpisode byRef
  { s with time := { s.time with coast := true } }

/-- The time base holds, and a device in SERVICE or SURVEY goes to HOLDOVER. -/
def State.coastHeld (s : State) : State :=
  let s := if s.on TC_STATUS_CLK_READY then s.holdTime else s
  if s.modeNow = modeService ∨ s.modeNow = modeSurvey then s.surveyHoldover.setMode modeHoldover 4 else s

theorem State.startCoast_eq : s.startCoast byRef fine = (s.coastFrozen byRef fine).coastHeld.followFerr := rfl

theorem State.dropCommit_commit : s.dropCommit.timing = { s.timing with commit := none } := by
  unfold State.dropCommit
  split
  · rfl
  · next h => rw [← Option.isNone_iff_eq_none.mp (by simpa using h)]

theorem State.dropCommit_frame : s.dropCommit.frame = s.frame := by
  unfold State.dropCommit
  split <;> rfl

theorem State.dropCommit_objs : s.dropCommit.objs =
    if s.timing.commit.isSome then Words.wr s.objs TC_STATUS_DIV_DISCARD 0 1 else s.objs := by
  unfold State.dropCommit
  split <;> rfl

theorem State.beginEpisode_objs : (s.beginEpisode byRef).objs =
    Words.wr (Words.wr s.objs TC_STATUS_TRIM_ACTIVE 0 0) TC_COAST_TRIM_TOTAL 0
      (toBits (TC_COAST_TRIM_TOTAL.hi + 1 - TC_COAST_TRIM_TOTAL.lo) 0) := rfl

theorem State.coastFrozen_timing : (s.coastFrozen byRef fine).timing.commit = none ∧
    (s.coastFrozen byRef fine).timing.coastUp = s.frame.up ∧ (s.coastFrozen byRef fine).time.coast = true := by
  obtain ⟨u, hu⟩ : ∃ u, u = (((s.set TC_STATUS_STATE 5).set TC_STATUS_LOCK 0).setFine fine).dropCommit := ⟨_, rfl⟩
  have hcommit : u.timing.commit = none := by rw [hu, State.dropCommit_commit]
  have hframe : u.frame = s.frame := by rw [hu, State.dropCommit_frame]; rfl
  unfold State.coastFrozen
  rw [← hu]
  exact ⟨hcommit, congrArg FrameSt.up hframe, rfl⟩

theorem State.coastFrozen_reads (hok : Words.ok s.objs) : (s.coastFrozen byRef fine).ok ∧
    (s.coastFrozen byRef fine).rd TC_STATUS_STATE 0 = 5 ∧ (s.coastFrozen byRef fine).rd TC_STATUS_LOCK 0 = 0 ∧
    (s.timing.commit.isSome = true → (s.coastFrozen byRef fine).rd TC_STATUS_DIV_DISCARD 0 = 1) := by
  have hcommit : (((s.set TC_STATUS_STATE 5).set TC_STATUS_LOCK 0).setFine fine).timing.commit = s.timing.commit := rfl
  simp only [State.coastFrozen, State.ok, State.rd_objs, State.beginEpisode_objs, State.dropCommit_objs, hcommit,
    State.setFine_objs, State.set_objs]
  split
  · simp (disch := (constructor; (repeat refine Words.wr_ok ?_); exact hok; decide)) only
      [Words.rd_wr_apart, Words.rd_wr_eq]
    exact ⟨Words.wr_ok (Words.wr_ok (Words.wr_ok (Words.wr_ok (Words.wr_ok hok)))), rfl, rfl, fun _ => rfl⟩
  · next h =>
    simp (disch := (constructor; (repeat refine Words.wr_ok ?_); exact hok; decide)) only
      [Words.rd_wr_apart, Words.rd_wr_eq]
    exact ⟨Words.wr_ok (Words.wr_ok (Words.wr_ok (Words.wr_ok hok))), rfl, rfl, fun h' => absurd h' h⟩

theorem State.coastHeld_writes : State.Writes (holdFields ++ modeFields) s s.coastHeld := by
  unfold State.coastHeld
  extract_lets u
  have hu : State.Writes (holdFields ++ modeFields) s u := .ite (State.holdTime_writes.mono (by decide)) .refl
  have hsurvey : u.surveyHoldover.objs = u.objs := by rw [State.surveyHoldover_keeps]
  exact .ite ((hu.beside hsurvey).trans (State.setMode_writes.mono (by decide))) hu

theorem State.coastHeld_timing : s.coastHeld.timing = s.timing := by
  unfold State.coastHeld
  extract_lets u
  have hu : u.timing = s.timing := by
    unfold u
    split
    · exact (congrArg State.timing State.holdTime_besideTime :)
    · rfl
  split
  · refine Eq.trans (congrArg State.timing State.setMode_besideReaction :) ?_
    rw [State.surveyHoldover_keeps]
    exact hu
  · exact hu

theorem State.holdTime_coast (h : s.time.coast = true) : s.holdTime.time.coast = true := by
  unfold State.holdTime
  split
  · exact h
  · rfl

theorem State.coastHeld_coast (h : s.time.coast = true) : s.coastHeld.time.coast = true := by
  unfold State.coastHeld
  extract_lets u
  have hu : u.time.coast = true := by
    unfold u
    split
    · exact State.holdTime_coast h
    · exact h
  split
  · have hmode : (u.surveyHoldover.setMode modeHoldover 4).time = u.surveyHoldover.time :=
      (congrArg State.time State.setMode_besideReaction :)
    rw [hmode, State.surveyHoldover_keeps]
    exact hu
  · exact hu

theorem State.coastFrozen_good (hg : Good cs s) : Good cs (s.coastFrozen byRef fine) := by
  unfold State.coastFrozen
  extract_lets u
  have hu : Good cs u :=
    State.beginEpisode_good (State.dropCommit_good (State.setFine_good (State.set_good (State.set_good hg))))
  clear_value u
  exact { hu with }

theorem State.coastHeld_good (hg : Good cs s) : Good cs s.coastHeld := by
  unfold State.coastHeld
  extract_lets u
  have hu : Good cs u := Good.ite (State.holdTime_good hg) hg
  exact Good.ite (State.setMode_good (State.surveyHoldover_good hu)) hu

theorem State.startCoast_reads (hg : Good cs s) : (s.startCoast byRef fine).tc = 5 ∧
    (s.startCoast byRef fine).on TC_STATUS_LOCK = false ∧ (s.startCoast byRef fine).timing.commit = none ∧
    (s.startCoast byRef fine).time.coast = true ∧ (s.startCoast byRef fine).timing.coastUp = s.frame.up ∧
    (s.timing.commit.isSome = true → (s.startCoast byRef fine).on TC_STATUS_DIV_DISCARD = true) := by
  obtain ⟨hok, hstate, hlock, hdiscard⟩ := State.coastFrozen_reads (byRef := byRef) (fine := fine) hg.objs
  obtain ⟨hcommit, hup, hcoast⟩ := State.coastFrozen_timing (s := s) (byRef := byRef) (fine := fine)
  have hgHeld : Good cs (s.coastFrozen byRef fine).coastHeld :=
    State.coastHeld_good (State.coastFrozen_good hg)
  have hread {F : Field} (hF : reactionPages.contains (F.page 0) = false) (hferr : TC_COAST_FERR_EST.apart 0 F 0 = true)
      (hheld : (holdFields ++ modeFields).all (fun p => p.1.apart p.2 F 0) = true) :
      (s.startCoast byRef fine).rd F 0 = (s.coastFrozen byRef fine).rd F 0 := by
    rw [State.startCoast_eq]
    exact (State.rd_followFerr hgHeld hF hferr).trans (State.coastHeld_writes.rd hok hheld)
  obtain ⟨b, htiming⟩ := State.followFerr_timing (s := (s.coastFrozen byRef fine).coastHeld)
  rw [State.coastHeld_timing] at htiming
  have htime := State.followFerr_time (s := (s.coastFrozen byRef fine).coastHeld)
  refine ⟨(hread (by decide) (by decide) (by decide)).trans hstate, ?_, ?_, ?_, ?_, fun h => ?_⟩
  · rw [State.on_false_iff, hread (by decide) (by decide) (by decide), hlock]
    decide
  · rw [State.startCoast_eq, htiming]
    exact hcommit
  · rw [State.startCoast_eq, htime]
    exact State.coastHeld_coast hcoast
  · rw [State.startCoast_eq, htiming]
    exact hup
  · exact State.on_iff.mpr ((hread (by decide) (by decide) (by decide)).trans (hdiscard h))

/-! Loss of reference and of lock (R34, R48). -/

/-- A reference loss is counted, and REF_OFF_FREQ clears. -/
def State.lossCounted (s : State) : State := (s.bump TC_COUNT_REF_LOSS_COUNT).set TC_STATUS_REF_OFF_FREQ 0

theorem State.lossCounted_writes :
    State.Writes [(TC_COUNT_REF_LOSS_COUNT, 0), (TC_STATUS_REF_OFF_FREQ, 0)] s s.lossCounted :=
  .set (by decide) (.bump (by decide) .refl)

theorem State.refLoss_watched (hok : s.ok) (hstate : 2 ≤ s.tc) (hphase : s.timing.phase ≠ 1) :
    s.refLoss fine =
      if s.searching then s.lossCounted.dropCommit.abandonSearch
      else if s.tc = 6 then (s.lossCounted.dropCommit.set TC_STATUS_STATE 5).bump TC_COUNT_RELOCK_ABORTS
      else if s.tc = 5 then s.lossCounted
      else s.lossCounted.startCoast true fine := by
  have htc : s.lossCounted.tc = s.tc := State.lossCounted_writes.rd hok (by decide)
  have hsearch : s.lossCounted.searching = s.searching := by
    rw [State.searching, State.searching, htc, State.on, State.on, State.lossCounted_writes.rd hok (by decide)]
  have hwatch : ¬(s.tc ≤ 1 ∨ s.timing.phase = 1) := by omega
  rw [← htc, ← hsearch]
  exact if_neg hwatch

theorem State.not_searching (h : s.tc = 5 ∨ s.tc = 6) : s.searching = false := by
  rcases h with h | h <;> simp [State.searching, h]

theorem execReferenceLoss_eq (h : s.tc ≠ 5 ∨ s.refPresent = true) :
    exec (.referenceLoss fine) s = .next (s.refLoss fine) := by
  refine congrArg Host.Outcome.next (if_neg ?_)
  rcases h with h | h <;> simp [h]

/-! Qualification, re-lock and trimming (R50 to R53). -/

theorem State.wantedBw_lt : s.wantedBw < 16 := by
  unfold State.wantedBw
  split
  · decide
  · exact State.rd_lt s TC_CONTROL_BW 0

/-- The re-lock's state, bandwidth and measured offset. -/
def State.qualified (s : State) (offset : Int) : State :=
  ((s.set TC_STATUS_REF_OFF_FREQ 0).set TC_STATUS_STATE 6).takeBw.setI TC_COAST_RELOCK_OFFSET offset

theorem State.qualified_reads (hok : Words.ok s.objs) (hlow : -2 ^ 31 ≤ offset) (hhigh : offset < 2 ^ 31) :
    (s.qualified offset).tc = 6 ∧ (s.qualified offset).get TC_STATUS_REF_OFF_FREQ = 0 ∧
      (s.qualified offset).getI TC_COAST_RELOCK_OFFSET = offset ∧ (s.qualified offset).get TC_STATUS_BW = s.wantedBw := by
  have hbw : ((s.set TC_STATUS_REF_OFF_FREQ 0).set TC_STATUS_STATE 6).wantedBw = s.wantedBw := by
    simp only [State.wantedBw, State.on_objs, State.get_objs, State.set_objs]
    simp (disch := (constructor; (repeat refine Words.wr_ok ?_); exact hok; decide)) only [Words.rd_wr_apart]
    rfl
  simp only [State.qualified, State.takeBw, hbw, State.tc, State.getI, State.rdI, State.rd_objs, State.get_objs,
    State.setI_objs, State.set_objs]
  simp (disch := (constructor; (repeat refine Words.wr_ok ?_); exact hok; decide)) only
    [Words.rd_wr_apart, Words.rd_wr_eq]
  refine ⟨rfl, rfl, ?_, Nat.mod_eq_of_lt State.wantedBw_lt⟩
  rw [Nat.mod_eq_of_lt (toBits_lt _ _)]
  exact signedOf_toBits (by decide) hlow hhigh

theorem State.qualify_relocks (hok : s.ok) (hcoast : s.tc = 5) (href : s.refPresent = true) (hlow : -2 ^ 31 ≤ offset)
    (hhigh : offset < 2 ^ 31) :
    (s.qualify true offset).tc = 6 ∧ (s.qualify true offset).get TC_STATUS_REF_OFF_FREQ = 0 ∧
      (s.qualify true offset).getI TC_COAST_RELOCK_OFFSET = offset ∧
      (s.qualify true offset).timing.loop.theta = offset ∧ (s.qualify true offset).get TC_STATUS_BW = s.wantedBw ∧
      (s.qualify true offset).lanes = s.lanes := by
  have heq : s.qualify true offset =
      (s.qualified offset).setLoop { (s.qualified offset).settlePulses.timing.loop with theta := offset } := by
    simp [State.qualify, State.qualified, hcoast, href]
  have hlanes : (s.qualified offset).lanes = s.lanes := rfl
  have hreads := State.qualified_reads hok hlow hhigh
  simp only [State.tc, State.getI, State.rdI, State.get_objs, State.rd_objs] at hreads
  obtain ⟨hstate, hoff, hoffset, hbw⟩ := hreads
  rw [heq]
  generalize s.qualified offset = u at *
  simp only [State.tc, State.getI, State.rdI, State.get_objs, State.rd_objs, State.setLoop_objs]
  exact ⟨hstate, hoff, hoffset, rfl, hbw, hlanes⟩

/-- What LOCK writes at the end of a re-lock. -/
def relockFields : List (Field × Nat) :=
  [(TC_COUNT_LOCK_COUNT, 0), (TC_DCO_FINE_s01, 0)] ++ holdFields

theorem State.resumeTime_writes : State.Writes relockFields s s.resumeTime := by
  unfold State.resumeTime
  extract_lets u
  have hu : State.Writes relockFields s u := State.setTb_writes.mono (by decide)
  exact .ite (hu.beside rfl) .refl

theorem State.resumeTime_besideTime : s.resumeTime.besideTime = s.besideTime := by
  unfold State.resumeTime
  split
  · exact State.setTb_besideTime
  · rfl

/-- LOCK sets at the end of a re-lock. -/
def State.lockResumed (s : State) : State :=
  let s := s.set TC_COAST_COAST_TIME s.coastTime
  let s := ((s.set TC_STATUS_STATE 4).set TC_STATUS_LOCK 1).bump TC_COUNT_LOCK_COUNT
  (s.set TC_STATUS_TRIM_ACTIVE 0).set TC_DCO_FINE_s01 s.fine

/-- HOLDOVER is to end at the next tick. -/
def State.holdoverEnds (s : State) : State :=
  if s.modeNow = modeHoldover then
    { s with mode := { s.mode with next := some (modeService, 5, s.frame.ticks + 1) } }
  else s

theorem State.relock_eq (h : s.tc = 6) : s.relock = s.lockResumed.holdoverEnds.resumeTime := if_pos h

theorem State.lockResumed_reads (hok : Words.ok s.objs) : s.lockResumed.ok ∧ s.lockResumed.rd TC_STATUS_LOCK 0 = 1 ∧
    s.lockResumed.rd TC_STATUS_STATE 0 = 4 ∧ s.lockResumed.rd TC_STATUS_TRIM_ACTIVE 0 = 0 ∧
    s.lockResumed.modeNow = s.modeNow := by
  simp only [State.lockResumed, State.modeNow, State.ok, State.get_objs, State.rd_objs, State.bump_objs, State.set_objs]
  refine ⟨?_, ?_⟩
  · repeat refine Words.wr_ok ?_
    exact hok
  · simp (disch := (constructor; (repeat refine Words.wr_ok ?_); exact hok; decide)) only
      [Words.rd_wr_apart, Words.rd_wr_eq]
    exact ⟨rfl, rfl, rfl, trivial⟩

theorem State.holdoverEnds_keeps : s.holdoverEnds.objs = s.objs ∧ s.holdoverEnds.timing = s.timing ∧
    s.holdoverEnds.lanes = s.lanes := by
  unfold State.holdoverEnds
  split <;> exact ⟨rfl, rfl, rfl⟩

theorem State.holdoverEnds_next : s.holdoverEnds.mode.next =
    if s.modeNow = modeHoldover then some (modeService, 5, s.frame.ticks + 1) else s.mode.next := by
  unfold State.holdoverEnds
  split <;> rfl

theorem State.relock_reads (hok : s.ok) (h : s.tc = 6) : s.relock.get TC_STATUS_LOCK = 1 ∧ s.relock.tc = 4 ∧
    s.relock.on TC_STATUS_TRIM_ACTIVE = false ∧ s.relock.timing = s.timing ∧ s.relock.lanes = s.lanes ∧
    s.relock.mode.next = if s.modeNow = modeHoldover then some (modeService, 5, s.frame.ticks + 1) else s.mode.next := by
  obtain ⟨hokNow, hlock, hstate, htrim, hmode⟩ := State.lockResumed_reads hok
  have hnext : s.lockResumed.holdoverEnds.mode.next = _ := State.holdoverEnds_next
  rw [hmode] at hnext
  have hbeside := State.resumeTime_besideTime (s := s.lockResumed.holdoverEnds)
  obtain ⟨hobjs, htiming, hlanes⟩ := State.holdoverEnds_keeps (s := s.lockResumed)
  rw [State.relock_eq h, State.on_false_iff]
  generalize s.lockResumed.holdoverEnds = u at *
  have hread {F : Field} (hF : relockFields.all (fun p => p.1.apart p.2 F 0) = true) :
      u.resumeTime.rd F 0 = s.lockResumed.rd F 0 := by
    rw [State.resumeTime_writes.rd (State.ok_of_objs hokNow hobjs) hF]
    exact State.rd_congr hobjs F 0
  refine ⟨(hread (by decide)).trans hlock, (hread (by decide)).trans hstate, ?_, ?_, ?_, ?_⟩
  · rw [hread (by decide), htrim]
    decide
  · exact (congrArg State.timing hbeside :).trans htiming
  · exact (congrArg State.lanes hbeside :).trans hlanes
  · exact (congrArg (·.mode.next) hbeside :).trans hnext

/-- A trim window begins anew. -/
def State.trimBegun (s : State) : State :=
  { s with timing := { s.timing with trimFirst := none, trimLast := none, trimUp := s.frame.up } }

/-- What a trim window applies: the code moved by the clamped error, the total, and the estimate (R51, R53). -/
def State.trimmedBy (s : State) (err : Int) : State :=
  let c := -(clampInt (-onePpm) onePpm err)
  let s := s.setFine (clampInt 0 65535 ((s.fine : Int) + roundDiv (c * 6) (s.get TC_DCO_KDCO))).toNat
  let s := s.setI TC_COAST_TRIM_TOTAL (s.getI TC_COAST_TRIM_TOTAL + c)
  let s := (s.set TC_STATUS_TRIM_ACTIVE 1).set TC_COAST_FERR_EST ((roundDiv err.natAbs 256).toNat + 20)
  { s with timing := { s.timing with trimmed := true } }

theorem State.trimEnd_none (h : s.trimError tdc = none) : s.trimEnd tdc = s.trimBegun := by
  simp only [State.trimEnd, h]
  rfl

theorem State.trimEnd_some (h : s.trimError tdc = some err) (hcoast : s.tc = 5) (htrim : s.on TC_CONTROL_TRIM_EN = true)
    (hlock : s.blockLocked (2 * (1 - s.timingPort)) = true) :
    s.trimEnd tdc = (s.trimBegun.trimmedBy err).judgeFerr := by
  have hif : (s.trimBegun.tc = 5 && s.trimBegun.on TC_CONTROL_TRIM_EN &&
      s.trimBegun.blockLocked (2 * (1 - s.trimBegun.timingPort))) = true := by
    show (s.tc = 5 && s.on TC_CONTROL_TRIM_EN && s.blockLocked (2 * (1 - s.timingPort))) = true
    simp [hcoast, htrim, hlock]
  simp only [State.trimEnd, h]
  exact if_pos hif

theorem clampInt_toNat {x hi : Int} (h : 0 ≤ hi) : ((clampInt 0 hi x).toNat : Int) = clampInt 0 hi x := by
  refine Int.toNat_of_nonneg ?_
  unfold clampInt
  split_ifs <;> omega

theorem State.trimmedBy_keeps : (s.trimmedBy err).timing.trimFirst = s.timing.trimFirst ∧
    (s.trimmedBy err).timing.trimLast = s.timing.trimLast ∧ (s.trimmedBy err).lanes = s.lanes := by
  simp [State.trimmedBy, State.setFine, State.setLoop]

theorem State.trimmedBy_fine : ((s.trimmedBy err).fine : Int) = clampInt 0 65535 ((s.fine : Int) +
    roundDiv (-(clampInt (-256000) 256000 err) * 6) (s.get TC_DCO_KDCO)) := by
  show _ = clampInt 0 65535 ((s.fine : Int) + roundDiv (-(clampInt (-onePpm) onePpm err) * 6) (s.get TC_DCO_KDCO))
  have hcode : (s.trimmedBy err).timing.loop.fine = 32 * (clampInt 0 65535 ((s.fine : Int) +
    roundDiv (-(clampInt (-onePpm) onePpm err) * 6) (s.get TC_DCO_KDCO))).toNat := rfl
  rw [State.fine, hcode, Nat.mul_div_cancel_left _ (by decide), clampInt_toNat (by decide)]

theorem State.trimmedBy_reads (hok : Words.ok s.objs) :
    ((s.trimmedBy err).fine : Int) = clampInt 0 65535 ((s.fine : Int) +
        roundDiv (-(clampInt (-256000) 256000 err) * 6) (s.get TC_DCO_KDCO)) ∧
      (s.trimmedBy err).on TC_STATUS_TRIM_ACTIVE = true ∧ (s.trimmedBy err).timing.trimFirst = s.timing.trimFirst ∧
      (s.trimmedBy err).timing.trimLast = s.timing.trimLast ∧ (s.trimmedBy err).lanes = s.lanes ∧
      (s.trimmedBy err).get TC_COAST_FERR_EST =
        ((roundDiv err.natAbs 256).toNat + 20) % 2 ^ (TC_COAST_FERR_EST.hi + 1 - TC_COAST_FERR_EST.lo) := by
  obtain ⟨hfirst, hlast, hlanes⟩ := State.trimmedBy_keeps (s := s) (err := err)
  refine ⟨State.trimmedBy_fine, ?_, hfirst, hlast, hlanes, ?_⟩
  · refine State.on_iff.mpr ?_
    simp only [State.trimmedBy, State.rd_objs, State.set_objs, State.setI_objs, State.setFine_objs]
    simp (disch := (constructor; (repeat refine Words.wr_ok ?_); exact hok; decide)) only
      [Words.rd_wr_apart, Words.rd_wr_eq]
    rfl
  · simp only [State.trimmedBy, State.get_objs, State.set_objs, State.setI_objs, State.setFine_objs]
    simp (disch := (constructor; (repeat refine Words.wr_ok ?_); exact hok; decide)) only [Words.rd_wr_eq]

end Sys2Proof.Machine

namespace Sys2Proof

open Machine

/-- Settles O4: losses, qualification and the ends of windows are equations of the model, and what coasting, re-lock and
a trim window leave is read from the words they write; a fault raised on the way writes none of them. -/
theorem coastAndRelock : Obligations.CoastAndRelock := by
  refine ⟨fun s fine offset hwf => ?_, fun s tdc err hwf => ?_⟩
  · have hg := Good.of_wf hwf
    have hok : s.ok := hg.objs
    refine ⟨fun u hu hphase => ⟨fun htc => ?_, fun htc href => ?_, fun hstate hcoast hsearch => ?_, fun hsearch => ?_⟩,
      fun h => ?_, fun hlock hmask => ?_, fun hlock hmask => ?_, fun hlock htc href htime => ?_, fun u hu => ?_,
      fun htc href => ?_, fun htc href hlow hhigh => ?_, fun htc => ?_⟩
    · rw [execReferenceLoss_eq (.inl (by omega)), State.refLoss_watched hok (by omega) hphase, hu,
        if_neg (by simp [State.not_searching (.inr htc)]), if_pos htc]
      rfl
    · rw [execReferenceLoss_eq (.inr href), State.refLoss_watched hok (by omega) hphase, hu,
        if_neg (by simp [State.not_searching (.inl htc)]), if_neg (by omega), if_pos htc]
      rfl
    · have hnot : s.tc ≠ 5 ∧ s.tc ≠ 6 := by simpa [State.coasting] using hcoast
      rw [execReferenceLoss_eq (.inl hnot.1), State.refLoss_watched hok hstate hphase, hu, if_neg (by simp [hsearch]),
        if_neg hnot.2, if_neg hnot.1]
      rfl
    · have hstate : s.tc = 2 ∨ s.tc = 3 := by
        have h := (Bool.and_eq_true_iff.mp hsearch).1
        simpa using h
      rw [execReferenceLoss_eq (.inl (by omega)), State.refLoss_watched hok (by omega) hphase, hu, if_pos hsearch]
      rfl
    · refine congrArg Host.Outcome.next ?_
      split
      · rfl
      · exact if_pos h
    · exact congrArg Host.Outcome.next (by simp [State.lockLoss, hlock, hmask])
    · exact congrArg Host.Outcome.next (by simp [State.lockLoss, hlock, hmask])
    · exact congrArg Host.Outcome.next (by simp [State.lockLoss, hlock, htc, href, htime])
    · exact hu ▸ State.startCoast_reads hg
    · exact congrArg Host.Outcome.next (by simp [State.qualify, htc, href])
    · exact ⟨s.qualify true offset, rfl, State.qualify_relocks hok htc href hlow hhigh⟩
    · exact congrArg Host.Outcome.next (if_pos htc)
  · have hok : s.ok := (Good.of_wf hwf).objs
    refine ⟨fun htc => ⟨s.relock, rfl, State.relock_reads hok htc⟩, fun htc htrim hlock herr => ?_, fun herr => ?_,
      fun hcoast hlim hover hraised => ?_, fun hover => ?_⟩
    · obtain ⟨hfine, hactive, hfirst, hlast, hlanes, hest⟩ := State.trimmedBy_reads (s := s.trimBegun) (err := err) hok
      exact ⟨_, congrArg Host.Outcome.next (State.trimEnd_some herr htc htrim hlock), hfine, hactive, hfirst, hlast, hlanes, hest⟩
    · exact congrArg Host.Outcome.next (State.trimEnd_none herr)
    · exact congrArg Host.Outcome.next (by simp [State.coastLimit, hcoast, hlim, hover, hraised])
    · exact congrArg Host.Outcome.next (by simp [State.coastLimit, Nat.not_lt.mpr hover])

end Sys2Proof
end

section
/-! SUPPORT. Band moves, divider commits and phase steps (chapter 2), and the frame of the loop's own steps. -/

namespace Sys2Proof.Machine

variable {s t u : State} {f n pre ratio : Nat} {cs : List Instr} {G : Field} {e : Nat} {d : Int}

theorem le_foldl_max {l : List Nat} : n ≤ l.foldl max n := by
  induction l generalizing n with
  | nil => exact Nat.le_refl n
  | cons x xs ih => exact (Nat.le_max_left n x).trans ih

theorem State.pulsesOver_ge : s.frame.up ≤ s.pulsesOver := le_foldl_max

/-- The state once no pulse runs. -/
theorem State.waitPulses_keeps : s.waitPulses = { s with
    frame := { s.frame with up := s.waitPulses.frame.up, tc := s.waitPulses.frame.tc }, timing := s.waitPulses.timing } := rfl

theorem State.waitPulses_up : s.waitPulses.frame.up = s.pulsesOver := Nat.max_eq_right State.pulsesOver_ge

/-! Recentring (R39). -/

theorem State.recentre_eq (hlock : s.on TC_STATUS_LOCK = true) (hcommit : s.timing.commit = none) (hf : f < 65536)
    (hout : centred f = false) : s.recentre f = (s.waitPulses.setFine f).bandMove (decide (40959 < f)) := by
  simp [State.recentre, State.applyDiv, hlock, hcommit, hout, Nat.mod_eq_of_lt hf]

/-- A medium move and its compensation by the measured step. -/
def State.mediumMoved (s : State) (m : Nat) (k : Int) : State :=
  ((s.bump TC_COUNT_RECENTRE_COUNT).set TC_DCO_MEDIUM m).setFine (clampInt 0 65535 ((s.fine : Int) + k)).toNat

/-- A coarse move, after which the fine code is free. -/
def State.coarseMoved (s : State) (c : Nat) : State :=
  let (f, s) := (s.bump TC_COUNT_RECENTRE_COUNT).free
  ((s.set TC_DCO_COARSE c).set TC_DCO_MEDIUM 32).setFine (f.toNat % 65536)

/-- The band is stored for the next start. -/
def State.bandStored (s : State) : State :=
  (s.set TC_DCO_COARSE_s01 (s.get TC_DCO_COARSE)).set TC_DCO_MEDIUM_s01 (s.get TC_DCO_MEDIUM)

theorem State.bump_recentre_reads (hok : Words.ok s.objs) :
    (s.bump TC_COUNT_RECENTRE_COUNT).get TC_DCO_MEDIUM = s.get TC_DCO_MEDIUM ∧
      (s.bump TC_COUNT_RECENTRE_COUNT).get TC_DCO_COARSE = s.get TC_DCO_COARSE ∧
      (s.bump TC_COUNT_RECENTRE_COUNT).get TC_DCO_MED_STEP = s.get TC_DCO_MED_STEP :=
  ⟨State.rd_wr_apart ⟨hok, by decide⟩, State.rd_wr_apart ⟨hok, by decide⟩, State.rd_wr_apart ⟨hok, by decide⟩⟩

theorem State.bandMove_up (hok : Words.ok s.objs) (h : s.get TC_DCO_MEDIUM ≠ 63) : s.bandMove true =
    (s.mediumMoved (s.get TC_DCO_MEDIUM + 1) (-(s.get TC_DCO_MED_STEP : Int))).bandStored := by
  obtain ⟨-, -, hstep⟩ := State.bump_recentre_reads hok
  simp [State.bandMove, State.mediumMoved, State.bandStored, h, hstep, State.fine]

theorem State.bandMove_down (hok : Words.ok s.objs) (h : s.get TC_DCO_MEDIUM ≠ 0) : s.bandMove false =
    (s.mediumMoved (s.get TC_DCO_MEDIUM - 1) (s.get TC_DCO_MED_STEP)).bandStored := by
  obtain ⟨-, -, hstep⟩ := State.bump_recentre_reads hok
  simp [State.bandMove, State.mediumMoved, State.bandStored, h, hstep, State.fine]

theorem State.bandMove_coarseUp (hok : Words.ok s.objs) (h : s.get TC_DCO_MEDIUM = 63) : s.bandMove true =
    (s.coarseMoved (min (s.get TC_DCO_COARSE + 1) 255)).bandStored := by
  obtain ⟨-, hcoarse, -⟩ := State.bump_recentre_reads hok
  simp [State.bandMove, State.coarseMoved, State.bandStored, h, hcoarse]

theorem State.bandMove_coarseDown (hok : Words.ok s.objs) (h : s.get TC_DCO_MEDIUM = 0) : s.bandMove false =
    (s.coarseMoved (s.get TC_DCO_COARSE - 1)).bandStored := by
  obtain ⟨-, hcoarse, -⟩ := State.bump_recentre_reads hok
  simp [State.bandMove, State.coarseMoved, State.bandStored, h, hcoarse]

theorem State.mediumStored_reads {m : Nat} {k : Int} (hok : Words.ok s.objs) (hm : m < 64) :
    (s.mediumMoved m k).bandStored.get TC_DCO_MEDIUM = m ∧ (s.mediumMoved m k).bandStored.get TC_DCO_MEDIUM_s01 = m ∧
      (s.mediumMoved m k).bandStored.get TC_DCO_COARSE = s.get TC_DCO_COARSE ∧
      (s.mediumMoved m k).bandStored.get TC_COUNT_RECENTRE_COUNT =
        satAdd (TC_COUNT_RECENTRE_COUNT.hi + 1 - TC_COUNT_RECENTRE_COUNT.lo) (s.get TC_COUNT_RECENTRE_COUNT) 1 := by
  simp only [State.bandStored, State.mediumMoved, State.get_objs, State.set_objs, State.bump_objs, State.setFine_objs]
  simp (disch := (constructor; (repeat refine Words.wr_ok ?_); exact hok; decide)) only
    [Words.rd_wr_apart, Words.rd_wr_eq]
  have hm' : m % 2 ^ (TC_DCO_MEDIUM.hi + 1 - TC_DCO_MEDIUM.lo) = m := Nat.mod_eq_of_lt hm
  rw [hm']
  exact ⟨rfl, Nat.mod_eq_of_lt hm, trivial, Nat.mod_eq_of_lt satAdd_lt⟩

theorem State.mediumStored_keeps {m : Nat} {k : Int} :
    ((s.mediumMoved m k).bandStored.fine : Int) = clampInt 0 65535 ((s.fine : Int) + k) ∧
      (s.mediumMoved m k).bandStored.frame = s.frame ∧ (s.mediumMoved m k).bandStored.lanes = s.lanes := by
  have hcode : (s.mediumMoved m k).bandStored.timing.loop.fine = 32 * (clampInt 0 65535 ((s.fine : Int) + k)).toNat := rfl
  refine ⟨?_, rfl, rfl⟩
  rw [State.fine, hcode, Nat.mul_div_cancel_left _ (by decide), clampInt_toNat (by decide)]

theorem State.coarseStored_reads {c : Nat} (hok : Words.ok s.objs) (hc : c < 256) :
    (s.coarseMoved c).bandStored.get TC_DCO_MEDIUM = 32 ∧ (s.coarseMoved c).bandStored.get TC_DCO_COARSE = c ∧
      (s.coarseMoved c).bandStored.get TC_DCO_COARSE_s01 = c ∧ (s.coarseMoved c).bandStored.lanes = s.lanes ∧
      (s.coarseMoved c).bandStored.get TC_COUNT_RECENTRE_COUNT =
        satAdd (TC_COUNT_RECENTRE_COUNT.hi + 1 - TC_COUNT_RECENTRE_COUNT.lo) (s.get TC_COUNT_RECENTRE_COUNT) 1 := by
  have hlanes : (s.coarseMoved c).bandStored.lanes = s.lanes := rfl
  rw [hlanes]
  simp only [State.bandStored, State.coarseMoved, State.free, State.get_objs, State.set_objs, State.bump_objs,
    State.setFine_objs]
  simp (disch := (constructor; (repeat refine Words.wr_ok ?_); exact hok; decide)) only
    [Words.rd_wr_apart, Words.rd_wr_eq]
  have hc' : c % 2 ^ (TC_DCO_COARSE.hi + 1 - TC_DCO_COARSE.lo) = c := Nat.mod_eq_of_lt hc
  rw [hc']
  exact ⟨rfl, rfl, Nat.mod_eq_of_lt hc, trivial, Nat.mod_eq_of_lt satAdd_lt⟩

theorem State.bandMove_count (hok : Words.ok s.objs) {b : Bool} : (s.bandMove b).get TC_COUNT_RECENTRE_COUNT =
    satAdd (TC_COUNT_RECENTRE_COUNT.hi + 1 - TC_COUNT_RECENTRE_COUNT.lo) (s.get TC_COUNT_RECENTRE_COUNT) 1 := by
  have hmed : s.get TC_DCO_MEDIUM < 64 := State.rd_lt s TC_DCO_MEDIUM 0
  have hcoarse : s.get TC_DCO_COARSE < 256 := State.rd_lt s TC_DCO_COARSE 0
  cases b with
  | true =>
    by_cases h : s.get TC_DCO_MEDIUM = 63
    · rw [State.bandMove_coarseUp hok h]
      exact (State.coarseStored_reads hok (by omega)).2.2.2.2
    · rw [State.bandMove_up hok h]
      exact (State.mediumStored_reads hok (by omega)).2.2.2
  | false =>
    by_cases h : s.get TC_DCO_MEDIUM = 0
    · rw [State.bandMove_coarseDown hok h]
      exact (State.coarseStored_reads hok (by omega)).2.2.2.2
    · rw [State.bandMove_down hok h]
      exact (State.mediumStored_reads hok (by omega)).2.2.2

/-! A divider commit (R41). -/

/-- No pulse runs any more, and the commit's edge is here. -/
def State.edgeTaken (s : State) : State :=
  let s := s.waitPulses
  { s with timing := { s.timing with commit := none, loop := { s.timing.loop with edge := some s.frame.up } } }

/-- The three values of a commit in force, and in tracking mode the offset that they represent. -/
def State.divided (s : State) (pre ratio : Nat) : State :=
  let s := s.setDiv pre ratio
  if s.on TC_CONTROL_DIV_MODE then s.reportTrack else s

theorem State.applyDiv_none (h : s.timing.commit = none) : s.applyDiv = s := by
  simp [State.applyDiv, h]

theorem State.applyDiv_some {r : Option Nat} (h : s.timing.commit = some (pre, r)) (hn : n = r.getD (s.trackRatio pre)) :
    s.applyDiv =
      if (s.edgeTaken.divided pre n).modeNow = modeBoot && (s.edgeTaken.divided pre n).on TC_STATUS_LOCK &&
        beyond20 (dcoUnits s.prescale s.ratio) (dcoUnits pre n) then (s.edgeTaken.divided pre n).relockStored
      else s.edgeTaken.divided pre n := by
  subst hn
  simp only [State.applyDiv, h]
  rfl

/-- Values in force are words alone. -/
theorem State.divided_besideWords : (s.divided pre n).besideWords = s.besideWords := by
  have hdiv : (s.setDiv pre n).besideWords = s.besideWords := by
    unfold State.setDiv
    extract_lets u
    exact (besideWords_words (u.set TC_DIV_ACTIVE_NINT (n / modulus)) _).trans
      ((besideWords_words u _).trans ((besideWords_words (s.set TC_DIV_ACTIVE_PRESCALE pre) _).trans (besideWords_words s _)))
  unfold State.divided
  extract_lets u
  split
  · exact (besideWords_words u _).trans hdiv
  · exact hdiv

theorem State.divided_commit : (s.edgeTaken.divided pre n).timing.commit = none :=
  (congrArg (·.timing.commit) (State.divided_besideWords (s := s.edgeTaken) (pre := pre) (n := n)) :)

theorem State.relockStored_commit : s.relockStored.timing.commit = s.timing.commit := by
  unfold State.relockStored
  extract_lets +onlyGivenNames stored
  have hstored : stored.timing.commit = s.timing.commit := rfl
  clear_value stored
  split
  next x v hv =>
  have hfree : v.timing.commit = s.timing.commit := by cases hv; exact hstored
  extract_lets +onlyGivenNames offset loop average
  have haverage : average.timing.commit = s.timing.commit := hfree
  clear_value average
  obtain ⟨b, htiming⟩ := State.followFerr_timing (s := average.beginEpisode false)
  rw [htiming]
  exact haverage

theorem State.applyDiv_commit : s.applyDiv.timing.commit = none := by
  rcases hcommit : s.timing.commit with _ | ⟨pre, r⟩
  · rw [State.applyDiv_none hcommit, hcommit]
  · rw [State.applyDiv_some hcommit rfl]
    split
    · rw [State.relockStored_commit, State.divided_commit]
    · exact State.divided_commit

theorem State.divided_reads (hok : Words.ok s.objs) (hpre : pre < 3) (hratio : n < 128 * 16777215) :
    (s.divided pre n).prescale = pre ∧ (s.divided pre n).ratio = n ∧ (s.divided pre n).get TC_STATUS_PRESCALE = pre ∧
      (s.divided pre n).on TC_STATUS_LOCK = s.on TC_STATUS_LOCK ∧ (s.divided pre n).modeNow = s.modeNow := by
  have hnint : n / modulus % 2 ^ (TC_DIV_ACTIVE_NINT.hi + 1 - TC_DIV_ACTIVE_NINT.lo) = n / modulus :=
    Nat.mod_eq_of_lt (Nat.div_lt_of_lt_mul (by rw [Nat.mul_comm]; exact hratio))
  have hfrac : n % modulus % 2 ^ (TC_DIV_ACTIVE_FRAC.hi + 1 - TC_DIV_ACTIVE_FRAC.lo) = n % modulus :=
    Nat.mod_eq_of_lt ((Nat.mod_lt n (by decide)).trans (by decide))
  have hpre' : pre % 2 ^ (TC_DIV_ACTIVE_PRESCALE.hi + 1 - TC_DIV_ACTIVE_PRESCALE.lo) = pre :=
    Nat.mod_eq_of_lt (hpre.trans (by decide))
  have hratio' : ratioOf (n / modulus) (n % modulus) = n := by
    unfold ratioOf
    rw [Nat.mul_comm]
    exact Nat.div_add_mod n modulus
  unfold State.divided
  extract_lets u
  have hobjs : u.objs = Words.wr (Words.wr (Words.wr (Words.wr s.objs TC_DIV_ACTIVE_PRESCALE 0 pre) TC_STATUS_PRESCALE 0 pre)
    TC_DIV_ACTIVE_NINT 0 (n / modulus)) TC_DIV_ACTIVE_FRAC 0 (n % modulus) := rfl
  clear_value u
  split <;>
  · simp only [State.prescale, State.ratio, State.modeNow, State.reportTrack, State.get_objs, State.on_objs,
      State.setI_objs, hobjs]
    simp (disch := (constructor; (repeat refine Words.wr_ok ?_); exact hok; decide)) only
      [Words.rd_wr_apart, Words.rd_wr_eq]
    rw [hnint, hfrac]
    exact ⟨hpre', hratio', hpre', trivial, trivial⟩

theorem State.edgeTaken_keeps : s.edgeTaken.frame.up = s.pulsesOver ∧
    s.edgeTaken.timing.loop.edge = some s.pulsesOver ∧ s.edgeTaken.lanes = s.lanes :=
  ⟨State.waitPulses_up, congrArg some State.waitPulses_up, rfl⟩

/-! Phase steps (R54). -/

/-- One phase step toward zero: its pulse, the pending count and the total. -/
def State.stepTaken (s : State) (d : Int) : State :=
  let s := (s.startPulse d).setSteps (s.getI TC_PHASE_PENDING_PENDING - d)
  let s := s.setI TC_PHASE_TOTAL_TOTAL (s.getI TC_PHASE_TOTAL_TOTAL + d)
  { s with time := { s.time with steps := s.time.steps + d } }

theorem State.phaseStep_eq (hmay : s.mayStep = true) (hn : s.getI TC_PHASE_PENDING_PENDING ≠ 0)
    (hd : d = if s.getI TC_PHASE_PENDING_PENDING < 0 then -1 else 1) : s.phaseStep = (s.stepTaken d).judgeOffset := by
  subst hd
  exact if_pos (by simp [hmay, hn])

theorem signedOf32_range {v : Nat} : -2 ^ 31 ≤ signedOf 32 v ∧ signedOf 32 v < 2 ^ 31 := by
  unfold signedOf
  split <;> omega

theorem State.stepTaken_pending (hok : Words.ok s.objs) 
    (hd : d = if s.getI TC_PHASE_PENDING_PENDING < 0 then -1 else 1) :
    (s.stepTaken d).getI TC_PHASE_PENDING_PENDING = s.getI TC_PHASE_PENDING_PENDING - d := by
  obtain ⟨hlow, hhigh⟩ : -2 ^ 31 ≤ s.getI TC_PHASE_PENDING_PENDING ∧ s.getI TC_PHASE_PENDING_PENDING < 2 ^ 31 :=
    signedOf32_range
  have hrange : -2 ^ 31 ≤ s.getI TC_PHASE_PENDING_PENDING - d ∧ s.getI TC_PHASE_PENDING_PENDING - d < 2 ^ 31 := by
    split at hd <;> omega
  have hread : (s.stepTaken d).get TC_PHASE_PENDING_PENDING = toBits 32 (s.getI TC_PHASE_PENDING_PENDING - d) := by
    have hpulse : (s.startPulse d).objs = s.objs := rfl
    simp only [State.stepTaken, State.setSteps, State.get_objs, State.setI_objs, State.setB_objs, hpulse]
    simp (disch := (constructor; (repeat refine Words.wr_ok ?_); exact hok; decide)) only
      [Words.rd_wr_apart, Words.rd_wr_eq]
    exact Nat.mod_eq_of_lt (toBits_lt _ _)
  exact (congrArg (signedOf 32) hread).trans (signedOf_toBits (by decide) hrange.1 hrange.2)

theorem State.stepTaken_pulses : ∃ p, (s.stepTaken d).timing.loop.pulses =
    (s.timing.loop.pulses.filter fun p => s.frame.up < p.endUp) ++ [p] := ⟨_, rfl⟩

theorem State.stepTaken_keeps : (s.stepTaken d).time.steps = s.time.steps + d ∧ (s.stepTaken d).lanes = s.lanes :=
  ⟨rfl, rfl⟩

/-! The frame of these steps. -/

/-- The state without the timing loop, the instant and the count of free values. -/
def State.besideLoop (s : State) : State :=
  { s with objs := [], timing := {}, fresh := 0, frame := { s.frame with up := 0, tc := 0 } }

/-- The timing loop with its page, the instant and the free values aside, two states agree. -/
abbrev State.KeepsLoop : State → State → Prop := State.Keeps State.besideLoop [0x20]

theorem besideLoop_words : WordFree State.besideLoop := fun _ _ => rfl

/-- The state of another one, with this timing loop, instant and free values. -/
def State.withLoop (s t : State) : State :=
  { s with objs := t.objs, timing := t.timing, fresh := t.fresh, frame := { s.frame with up := t.frame.up, tc := t.frame.tc } }

theorem State.KeepsLoop.eq (h : s.KeepsLoop t) : t = s.withLoop t :=
  calc t = t.besideLoop.withLoop t := rfl
    _ = s.besideLoop.withLoop t := by rw [h.1]
    _ = s.withLoop t := rfl

theorem State.KeepsLoop.setFine (h : s.KeepsLoop t) : s.KeepsLoop (t.setFine f) := h.beside rfl rfl

theorem State.mediumMoved_keepsLoop {m : Nat} {k : Int} : s.KeepsLoop (s.mediumMoved m k) :=
  .setFine (.set besideLoop_words (by decide) (.bump besideLoop_words (by decide) .refl))

theorem State.coarseMoved_keepsLoop {c : Nat} : s.KeepsLoop (s.coarseMoved c) := by
  have hfree : s.KeepsLoop (s.bump TC_COUNT_RECENTRE_COUNT).free.2 :=
    State.Keeps.beside (t := s.bump TC_COUNT_RECENTRE_COUNT) (.bump besideLoop_words (by decide) .refl) rfl rfl
  exact .setFine (.set besideLoop_words (by decide) (.set besideLoop_words (by decide) hfree))

theorem State.bandStored_keepsLoop : s.KeepsLoop s.bandStored :=
  .set besideLoop_words (by decide) (.set besideLoop_words (by decide) .refl)

theorem State.bandMove_keepsLoop (hok : s.ok) {b : Bool} : s.KeepsLoop (s.bandMove b) := by
  cases b with
  | true =>
    by_cases h : s.get TC_DCO_MEDIUM = 63
    · rw [State.bandMove_coarseUp hok h]
      exact State.coarseMoved_keepsLoop.trans State.bandStored_keepsLoop
    · rw [State.bandMove_up hok h]
      exact State.mediumMoved_keepsLoop.trans State.bandStored_keepsLoop
  | false =>
    by_cases h : s.get TC_DCO_MEDIUM = 0
    · rw [State.bandMove_coarseDown hok h]
      exact State.coarseMoved_keepsLoop.trans State.bandStored_keepsLoop
    · rw [State.bandMove_down hok h]
      exact State.mediumMoved_keepsLoop.trans State.bandStored_keepsLoop

theorem State.waitPulses_besideLoop : s.waitPulses.besideLoop = s.besideLoop := rfl

theorem State.recentre_keepsLoop (hok : s.ok) (hcommit : s.timing.commit = none) : s.KeepsLoop (s.recentre f) := by
  have hwaited : s.KeepsLoop (s.waitPulses.setFine (f % 65536)) :=
    .setFine (State.Keeps.refl.beside State.waitPulses_besideLoop rfl)
  have hokWaited : (s.waitPulses.setFine (f % 65536)).ok := hok
  unfold State.recentre
  rw [State.applyDiv_none hcommit]
  split
  · exact .refl
  · extract_lets
    split
    · exact hwaited.trans (State.bandMove_keepsLoop hokWaited)
    · exact .refl

theorem State.setDiv_keepsLoop : s.KeepsLoop (s.setDiv pre ratio) :=
  .set besideLoop_words (by decide) (.set besideLoop_words (by decide)
    (.set besideLoop_words (by decide) (.set besideLoop_words (by decide) .refl)))

theorem State.rampStep_keepsLoop : s.KeepsLoop s.rampStep := by
  unfold State.rampStep
  exact .ite (State.setDiv_keepsLoop.wr besideLoop_words (by decide)) .refl

theorem State.setLoop_besideLoop {l : LoopSt} : (s.setLoop l).besideLoop = s.besideLoop := rfl

theorem State.qualified_keepsLoop : s.KeepsLoop (s.qualified d) :=
  .wr besideLoop_words (by decide) (.set besideLoop_words (by decide)
    (.set besideLoop_words (by decide) (.set besideLoop_words (by decide) .refl)))

theorem State.qualify_keepsLoop {b : Bool} : s.KeepsLoop (s.qualify b d) := by
  unfold State.qualify
  refine .ite ?_ .refl
  cases b with
  | false => exact .set besideLoop_words (by decide) .refl
  | true =>
    have hset : s.KeepsLoop ((s.qualified d).setLoop { (s.qualified d).settlePulses.timing.loop with theta := d }) :=
      State.qualified_keepsLoop.beside State.setLoop_besideLoop rfl
    exact hset

end Sys2Proof.Machine

namespace Sys2Proof

open Machine

/-- Settles O5: a recentring is one band move on the state whose pulses are over, a divider commit writes three values on
one edge, and each other step is an equation of the model. -/
theorem dividerSteps : Obligations.DividerSteps := by
  intro s f hwf hf
  have hok : s.ok := (Good.of_wf hwf).objs
  have hrecentre (hlock : s.on TC_STATUS_LOCK = true) (hcommit : s.timing.commit = none) (hout : centred f = false) :
      exec (.recentre f) s = .next ((s.waitPulses.setFine f).bandMove (decide (40959 < f))) :=
    congrArg Host.Outcome.next (State.recentre_eq hlock hcommit hf hout)
  have hfine : (s.waitPulses.setFine f).fine = f := State.setFine_fine
  have hup : (s.waitPulses.setFine f).frame.up = s.pulsesOver := State.waitPulses_up
  refine ⟨fun hlock hcommit hout => ?_, fun hlock hcommit hout happlied => ?_, fun h => ?_, fun hmode hlock hgoal => ?_,
    fun hmode hlock hgoal => ?_, fun hgoal => ?_, fun pre new r hcommit hnew hpre hratio => ?_, fun hcommit => ?_,
    fun hmay hn => ?_, fun hmay => ?_⟩
  · refine ⟨fun hhigh hmed => ?_, fun hlow hmed => ?_, fun hhigh hmed hcoarse => ?_, fun hlow hmed hcoarse => ?_, ?_⟩
    · have hmove := State.bandMove_up (s := s.waitPulses.setFine f) hok (Nat.ne_of_lt hmed)
      obtain ⟨hm, hm', hc, -⟩ := State.mediumStored_reads (s := s.waitPulses.setFine f) (k := -(s.get TC_DCO_MED_STEP : Int))
        hok (Nat.succ_lt_succ hmed)
      obtain ⟨hcode, hframe, hlanes⟩ := State.mediumStored_keeps (s := s.waitPulses.setFine f)
        (m := s.get TC_DCO_MEDIUM + 1) (k := -(s.get TC_DCO_MED_STEP : Int))
      rw [hfine] at hcode
      rw [hrecentre hlock hcommit hout, decide_eq_true hhigh, hmove]
      exact ⟨_, rfl, hm, hm', hc, hcode, (congrArg FrameSt.up hframe).trans hup, hlanes⟩
    · have hmove := State.bandMove_down (s := s.waitPulses.setFine f) hok (Nat.ne_of_gt hmed)
      obtain ⟨hm, hm', hc, -⟩ := State.mediumStored_reads (s := s.waitPulses.setFine f) (k := s.get TC_DCO_MED_STEP)
        (m := s.get TC_DCO_MEDIUM - 1) hok ((Nat.sub_le _ _).trans_lt (State.rd_lt ..))
      obtain ⟨hcode, hframe, hlanes⟩ := State.mediumStored_keeps (s := s.waitPulses.setFine f)
        (m := s.get TC_DCO_MEDIUM - 1) (k := s.get TC_DCO_MED_STEP)
      rw [hfine] at hcode
      rw [hrecentre hlock hcommit hout, decide_eq_false (by omega), hmove]
      exact ⟨_, rfl, hm, hm', hc, hcode, (congrArg FrameSt.up hframe).trans hup, hlanes⟩
    · have hmin : min (s.get TC_DCO_COARSE + 1) 255 = s.get TC_DCO_COARSE + 1 := Nat.min_eq_left hcoarse
      have hmove := State.bandMove_coarseUp (s := s.waitPulses.setFine f) hok hmed
      obtain ⟨hm, hc, hc', hlanes, -⟩ := State.coarseStored_reads (s := s.waitPulses.setFine f)
        (c := min (s.get TC_DCO_COARSE + 1) 255) hok ((Nat.min_le_right _ _).trans_lt (by decide))
      rw [hrecentre hlock hcommit hout, decide_eq_true hhigh, hmove]
      exact ⟨_, rfl, hm, hc.trans hmin, hc'.trans hmin, hlanes⟩
    · have hmove := State.bandMove_coarseDown (s := s.waitPulses.setFine f) hok hmed
      obtain ⟨hm, hc, hc', hlanes, -⟩ := State.coarseStored_reads (s := s.waitPulses.setFine f)
        (c := s.get TC_DCO_COARSE - 1) hok ((Nat.sub_le _ _).trans_lt (State.rd_lt ..))
      rw [hrecentre hlock hcommit hout, decide_eq_false (by omega), hmove]
      exact ⟨_, rfl, hm, hc, hc', hlanes⟩
    · exact ⟨_, hrecentre hlock hcommit hout, State.bandMove_count (s := s.waitPulses.setFine f) hok⟩
  · have hidle := State.applyDiv_none (State.applyDiv_commit (s := s))
    exact congrArg Host.Outcome.next (by simp [State.recentre, hlock, hout, happlied, hidle, Nat.mod_eq_of_lt hf])
  · refine congrArg Host.Outcome.next (if_pos ?_)
    rcases h with h | h <;> simp [h, Nat.mod_eq_of_lt hf]
  · have hne : s.offsetLsb ≠ lsbOf s.prescale (s.getI TC_TRACK_TARGET) := ne_of_lt hgoal
    exact congrArg Host.Outcome.next (by simp [State.rampStep, hmode, hlock, hgoal, hne])
  · have hne : s.offsetLsb ≠ lsbOf s.prescale (s.getI TC_TRACK_TARGET) := ne_of_gt hgoal
    exact congrArg Host.Outcome.next (by simp [State.rampStep, hmode, hlock, not_lt_of_gt hgoal, hne])
  · exact congrArg Host.Outcome.next (by simp [State.rampStep, hgoal])
  · obtain ⟨hpre', hratio', hstatus, hlock, hmode⟩ := State.divided_reads (s := s.edgeTaken) hok hpre hratio
    have hbeside := State.divided_besideWords (s := s.edgeTaken) (pre := pre) (n := new)
    obtain ⟨hup', hedge, hlanes⟩ := State.edgeTaken_keeps (s := s)
    refine ⟨s.edgeTaken.divided pre new, State.divided_commit, hpre', hratio', hstatus,
      (congrArg (·.frame.up) hbeside :).trans hup', (congrArg (·.timing.loop.edge) hbeside :).trans hedge,
      (congrArg State.lanes hbeside :).trans hlanes, congrArg Host.Outcome.next ?_⟩
    rw [State.applyDiv_some hcommit hnew, hlock, hmode]
    have hlock' : s.edgeTaken.on TC_STATUS_LOCK = s.on TC_STATUS_LOCK := rfl
    have hmode' : s.edgeTaken.modeNow = s.modeNow := rfl
    simp only [hlock', hmode', Bool.and_eq_true, decide_eq_true_eq, and_assoc]
  · exact congrArg Host.Outcome.next (State.applyDiv_none hcommit)
  · obtain ⟨p, hpulses⟩ := State.stepTaken_pulses (s := s)
      (d := if s.getI TC_PHASE_PENDING_PENDING < 0 then -1 else 1)
    obtain ⟨hsteps, hlanes⟩ := State.stepTaken_keeps (s := s) (d := if s.getI TC_PHASE_PENDING_PENDING < 0 then -1 else 1)
    refine ⟨_, congrArg Host.Outcome.next (State.phaseStep_eq hmay hn rfl), fun d hd => ?_, ?_, ?_, hlanes⟩
    · subst hd
      exact ⟨hsteps, State.stepTaken_pending hok rfl⟩
    · rw [hpulses, List.drop_left]
    · rw [hpulses, List.length_append]
      rfl
  · exact congrArg Host.Outcome.next (by simp [State.phaseStep, hmay])

/-- Settles O58: each of these steps is made of updates of the timing loop and of words of page 0x20. -/
theorem frameTiming : Obligations.FrameTiming := by
  intro s t c f within offset hwf hcommit hc hexec
  have hkeeps : s.KeepsLoop t := by
    simp only [List.mem_cons, List.not_mem_nil, or_false] at hc
    rcases hc with rfl | rfl | rfl | rfl
    · exact Host.Outcome.next.inj hexec ▸ State.recentre_keepsLoop (Good.of_wf hwf).objs hcommit
    · exact Host.Outcome.next.inj hexec ▸ State.rampStep_keepsLoop
    · exact Host.Outcome.next.inj hexec ▸ .ite (.bump besideLoop_words (by decide)
        (.set besideLoop_words (by decide) .refl)) .refl
    · exact Host.Outcome.next.inj hexec ▸ State.qualify_keepsLoop
  have hg := Good.of_wf hwf
  exact ⟨hkeeps.eq, hkeeps.pages hg.objs (hg.exec hexec).objs⟩

end Sys2Proof
end

section
/-! SUPPORT. The drive synthesiser (chapter 3) and its frame; a response owed to a port whose counts stand at CK_STATUS. -/

namespace Sys2Proof.Machine


variable {s t u : State} {code coarse n : Nat}

/-- A port whose ID_SERVICE counts stand at the key of CK_STATUS. -/
def clockPort : Nat := 0x4700000

/-- A request from that port. -/
def clockRequest : Rq := { port := clockPort, fromD := false, src := 0, tag := 0, bcast := true, formed := true }

/-- The state after reset, with a response owed to that request, and CK_STATUS one below SWITCH_BUSY. -/
def owingState : State :=
  { State.reset.setWord 0x2200 0 0x0FFFFFFF with
    clocks := { State.reset.clocks with owed := some { q := clockRequest, bulk := none } } }

theorem owingState_wf : Safety.wf owingState = true := by decide

/-! The drive synthesiser (R71 to R74). -/

theorem State.dsPhaseEnd_lock (hphase : s.clocks.dsPhase = 4) : s.dsPhaseEnd coarse =
    { ((s.set DS_STATUS_STATE 2).set DS_STATUS_LOCK 1).bump DS_COUNT_LOCK_COUNT with
      clocks := { s.clocks with dsPhase := 0, pdmTick := some (s.frame.ticks + 1) } } := by
  simp only [State.dsPhaseEnd, hphase]
  rfl

theorem State.dsPhaseEnd_lock_reads (hok : Words.ok s.objs) (hphase : s.clocks.dsPhase = 4) :
    (s.dsPhaseEnd coarse).on DS_STATUS_LOCK = true ∧ (s.dsPhaseEnd coarse).get DS_STATUS_STATE = 2 := by
  rw [State.dsPhaseEnd_lock hphase]
  simp only [State.get_objs, State.on_objs, State.set_objs, State.bump_objs]
  simp (disch := (constructor; (repeat refine Words.wr_ok ?_); exact hok; decide)) only
    [Words.rd_wr_apart, Words.rd_wr_eq]
  exact ⟨rfl, rfl⟩

/-- PDM on the synthesiser. -/
def State.pdmMoved (s : State) : State := (s.set DS_STATUS_BACKUP 0).set DS_STATUS_READY 1

theorem State.movePdm_due (hdue : s.clocks.pdmTick = some n) (hn : n ≤ s.frame.ticks) : s.movePdm =
    { s.pdmMoved.startProfile with clocks := { s.clocks with pdmTick := none, sscUp := s.frame.up } } := by
  simp only [State.movePdm, hdue, if_pos hn]
  rfl

theorem State.movePdm_early (hdue : s.clocks.pdmTick = some n) (hn : s.frame.ticks < n) : s.movePdm = s := by
  simp only [State.movePdm, hdue, if_neg (Nat.not_le.mpr hn)]

/-- A flag written to one bit reads back. -/
theorem bit_reads {p : Prop} [Decidable p] : decide ((decide p).toNat % 2 ^ 1 = 1) = decide p := by
  by_cases h : p <;> simp [h]

theorem State.pdmMoved_reads (hok : Words.ok s.objs) :
    s.pdmMoved.startProfile.on DS_STATUS_BACKUP = false ∧ s.pdmMoved.startProfile.on DS_STATUS_READY = true ∧
      s.pdmMoved.startProfile.on DS_STATUS_SSC_ACTIVE = decide (s.get DS_STATUS_SSC_MODE ≠ 0) := by
  simp only [State.startProfile, State.pdmMoved, State.get_objs, State.on_objs, State.set_objs, State.setB_objs]
  simp (disch := (constructor; (repeat refine Words.wr_ok ?_); exact hok; decide)) only
    [Words.rd_wr_apart, Words.rd_wr_eq]
  refine ⟨rfl, rfl, ?_⟩
  exact bit_reads

/-- A move that is due: its flags, and the profile that starts. -/
theorem State.movePdm_reads (hok : Words.ok s.objs) (hdue : s.clocks.pdmTick = some n) (hn : n ≤ s.frame.ticks) :
    s.movePdm.on DS_STATUS_BACKUP = false ∧ s.movePdm.on DS_STATUS_READY = true ∧ s.movePdm.clocks.pdmTick = none ∧
      s.movePdm.clocks.sscUp = s.frame.up ∧
      s.movePdm.on DS_STATUS_SSC_ACTIVE = decide (s.get DS_STATUS_SSC_MODE ≠ 0) := by
  obtain ⟨hbackup, hready, hactive⟩ := State.pdmMoved_reads hok
  rw [State.movePdm_due hdue hn]
  generalize s.pdmMoved.startProfile = t at hbackup hready hactive
  simp only [State.on_objs] at hbackup hready hactive ⊢
  exact ⟨hbackup, hready, trivial, trivial, hactive⟩

theorem State.dsLoss_eq (hlock : s.on DS_STATUS_LOCK = true) : s.dsLoss =
    let t := (((s.set DS_STATUS_LOCK 0).set DS_STATUS_READY 0).set DS_STATUS_SSC_ACTIVE 0).dsBegin 3
    if s.on DS_STATUS_READY then ((t.bump DS_COUNT_UNLOCK_COUNT).bump DS_COUNT_BACKUP_COUNT).raise 18 unitDevice else t :=
  if_pos hlock

/-- The spread-spectrum settings that a zero of the profile brings into force. -/
def State.sscSet (s : State) : State :=
  (s.set DS_STATUS_SSC_MODE (s.get DS_CONTROL_SSC_MODE)).set DS_STATUS_SSC_DEPTH (s.get DS_CONTROL_SSC_DEPTH)

theorem State.sscApply_eq (hssc : s.clocks.ssc = true) (hready : s.on DS_STATUS_READY = true) (hzero : s.sscNow = 0) :
    s.sscApply = { s.sscSet.startProfile with clocks := { s.sscSet.startProfile.clocks with ssc := false } } :=
  if_pos (by simp [hssc, hready, hzero])

theorem State.sscApply_off (hoff : s.sscNow ≠ 0) : s.sscApply = s :=
  if_neg (by simp [hoff])

theorem State.sscSet_reads (hok : Words.ok s.objs) :
    s.sscSet.startProfile.get DS_STATUS_SSC_MODE = s.get DS_CONTROL_SSC_MODE ∧
      s.sscSet.startProfile.get DS_STATUS_SSC_DEPTH = s.get DS_CONTROL_SSC_DEPTH := by
  simp only [State.startProfile, State.sscSet, State.get_objs, State.set_objs, State.setB_objs]
  simp (disch := (constructor; (repeat refine Words.wr_ok ?_); exact hok; decide)) only
    [Words.rd_wr_apart, Words.rd_wr_eq]
  exact ⟨Nat.mod_eq_of_lt (Words.rd_lt ..), Nat.mod_eq_of_lt (Words.rd_lt ..)⟩

theorem State.sscApply_reads (hok : Words.ok s.objs) (hssc : s.clocks.ssc = true) (hready : s.on DS_STATUS_READY = true)
    (hzero : s.sscNow = 0) : s.sscApply.get DS_STATUS_SSC_MODE = s.get DS_CONTROL_SSC_MODE ∧
      s.sscApply.get DS_STATUS_SSC_DEPTH = s.get DS_CONTROL_SSC_DEPTH ∧ s.sscApply.clocks.ssc = false ∧
      s.sscApply.clocks.sscUp = s.frame.up := by
  obtain ⟨hmode, hdepth⟩ := State.sscSet_reads hok
  have hup : s.sscSet.startProfile.clocks.sscUp = s.frame.up := rfl
  rw [State.sscApply_eq hssc hready hzero]
  generalize s.sscSet.startProfile = t at hmode hdepth hup
  simp only [State.get_objs] at hmode hdepth ⊢
  exact ⟨hmode, hdepth, trivial, hup⟩

/-! Frames. -/

/-- The state without the clocks and the dictionary. -/
def State.besideClocks (s : State) : State := { s with objs := [], clocks := {} }

/-- The clocks and the page of the drive synthesiser aside, two states agree. -/
abbrev State.KeepsDrive : State → State → Prop := State.Keeps State.besideClocks [0x21]

theorem besideClocks_words : WordFree State.besideClocks := fun _ _ => rfl

/-- The state of another one, with these clocks. -/
def State.withClocks (s t : State) : State := { s with objs := t.objs, clocks := t.clocks }

theorem State.KeepsDrive.eq (h : s.KeepsDrive t) : t = s.withClocks t :=
  calc t = t.besideClocks.withClocks t := rfl
    _ = s.besideClocks.withClocks t := by rw [h.1]
    _ = s.withClocks t := rfl

theorem State.KeepsDrive.clocks {x : ClockSt} (h : s.KeepsDrive t) : s.KeepsDrive { t with clocks := x } :=
  h.beside rfl rfl

theorem State.dsBegin_keepsDrive : s.KeepsDrive (s.dsBegin code) :=
  .clocks (.set besideClocks_words (by decide) (.set besideClocks_words (by decide) .refl))

theorem State.dsPhaseEnd_keepsDrive : s.KeepsDrive (s.dsPhaseEnd coarse) := by
  unfold State.dsPhaseEnd
  split
  · exact .clocks .refl
  · exact .clocks (.set besideClocks_words (by decide) .refl)
  · exact .clocks .refl
  · exact .clocks (.bump besideClocks_words (by decide) (.set besideClocks_words (by decide)
      (.set besideClocks_words (by decide) .refl)))
  · exact .refl

theorem State.startProfile_keepsDrive (h : s.KeepsDrive t) : s.KeepsDrive t.startProfile :=
  .clocks (h.wr besideClocks_words (by decide))

theorem State.pdmMoved_keepsDrive : s.KeepsDrive s.pdmMoved :=
  .set besideClocks_words (by decide) (.set besideClocks_words (by decide) .refl)

theorem State.movePdm_keepsDrive : s.KeepsDrive s.movePdm := by
  rcases hdue : s.clocks.pdmTick with _ | n
  · simp only [State.movePdm, hdue]
    exact .refl
  · rcases Nat.lt_or_ge s.frame.ticks n with hn | hn
    · rw [State.movePdm_early hdue hn]
      exact .refl
    · rw [State.movePdm_due hdue hn]
      exact State.KeepsDrive.clocks (State.startProfile_keepsDrive State.pdmMoved_keepsDrive)

theorem State.sscSet_keepsDrive : s.KeepsDrive s.sscSet :=
  .set besideClocks_words (by decide) (.set besideClocks_words (by decide) .refl)

theorem State.sscApply_keepsDrive : s.KeepsDrive s.sscApply := by
  unfold State.sscApply
  split
  · exact State.KeepsDrive.clocks (State.startProfile_keepsDrive State.sscSet_keepsDrive)
  · exact .refl

/-- The drive synthesiser's events keep the rest of the state. -/
theorem exec_keepsDrive {c : Instr}
    (hc : c ∈ [Instr.dsStart, .dsPhaseEnd coarse, .dsStartTimeout, .pdmSourceMove, .sscChangeApply])
    (h : exec c s = .next t) : s.KeepsDrive t := by
  simp only [List.mem_cons, List.not_mem_nil, or_false] at hc
  rcases hc with rfl | rfl | rfl | rfl | rfl <;> obtain rfl := Host.Outcome.next.inj h
  · exact .ite State.dsBegin_keepsDrive .refl
  · exact State.dsPhaseEnd_keepsDrive
  · exact .ite (State.KeepsDrive.clocks .refl) .refl
  · exact State.movePdm_keepsDrive
  · exact State.sscApply_keepsDrive

end Sys2Proof.Machine

namespace Sys2Proof

open Machine

/-- Refutes O6: the count of a service to `clockPort` raises SWITCH_BUSY, so that the owed response is followed by the
end of a switch. -/
theorem not_clockTree : ¬ Obligations.ClockTree := by
  intro h
  obtain ⟨-, -, -, howed⟩ := h.2 owingState clockRequest {} owingState_wf
  have hsame := Host.Outcome.next.inj (howed (by decide) rfl)
  exact absurd (congrArg (·.on CK_STATUS_SRC) hsame) (by decide)

/-- Settles O7: each event's course by its case, and the fields that it writes read back. -/
theorem driveSynthesiser : Obligations.DriveSynthesiser := by
  intro s coarse n hwf
  have hok := (Good.of_wf hwf).objs
  refine ⟨fun hclocked hready hstate => ?_, fun h => ?_, fun h => ?_, fun h => ?_, fun h => ?_, fun h => ?_,
    fun hdue hn => ?_, fun hdue hn => ?_, fun hlock hready => ?_, fun hlock hready => ?_, fun hssc hready hzero => ?_,
    fun hoff => ?_⟩
  · exact congrArg Host.Outcome.next (if_pos (by simp [hclocked, hready, hstate]))
  · exact congrArg Host.Outcome.next (by simp only [State.dsPhaseEnd, h])
  · exact congrArg Host.Outcome.next (by simp only [State.dsPhaseEnd, h])
  · exact congrArg Host.Outcome.next (by simp only [State.dsPhaseEnd, h])
  · obtain ⟨hlock, hstate⟩ := State.dsPhaseEnd_lock_reads (coarse := coarse) hok h
    refine ⟨_, rfl, hlock, hstate, ?_, ?_⟩ <;> rw [State.dsPhaseEnd_lock h]
  · exact congrArg Host.Outcome.next (if_pos h)
  · exact ⟨s.movePdm, rfl, State.movePdm_reads hok hdue hn⟩
  · exact congrArg Host.Outcome.next (State.movePdm_early hdue hn)
  · exact congrArg Host.Outcome.next ((State.dsLoss_eq hlock).trans (if_neg (by simp [hready])))
  · exact congrArg Host.Outcome.next ((State.dsLoss_eq hlock).trans (if_pos hready))
  · exact ⟨s.sscApply, rfl, State.sscApply_reads hok hssc hready hzero⟩
  · exact congrArg Host.Outcome.next (State.sscApply_off hoff)

/-- Settles O56: the five events write page 0x21 and the clocks alone. -/
theorem frameDrive : Obligations.FrameDrive := by
  intro s t c coarse hwf hc h
  have hkeeps := exec_keepsDrive hc h
  exact ⟨hkeeps.eq, hkeeps.pages ((Good.of_wf hwf).objs) (Good.exec (Good.of_wf hwf) h).objs⟩

end Sys2Proof
end

section
/-! SUPPORT. The dictionary service's reads, bulk requests and buffers (chapter 10): what each does at once, and the latches that an answer leaves. -/

namespace Sys2Proof.Machine


variable {s t u : State} {q : Rq} {f : RxFrame} {p i k n st : Nat} {ecc : EccOutcome} {raw : Word}

/-! Request buffers (R246, R247). -/

/-- A frame that reaches its port, by the first check that it fails. -/
theorem State.receive_taken (hup : s.pairUp p = true) (htakes : s.takesIn (portOf p) = true) (hfor : s.takes f = true) :
    s.receive p f =
      if !frameGood f then s.bumpAt FL_CRC_ERRORS_COUNT p
      else if f.stomped then s
      else if !requestType f.ftype then s.bumpAt ID_SERVICE_COUNT (4 * portOf p + 3)
      else if 4 ≤ (s.port (portOf p)).reqs.length then s.bumpAt ID_SERVICE_COUNT (4 * portOf p + 2)
      else s.setPort (portOf p) { s.port (portOf p) with
        reqs := (s.port (portOf p)).reqs ++ [{ fromD := decide (p % 2 = 1), frame := f }] } := by
  simp [State.receive, hup, htakes, hfor]

theorem State.receive_ignored (h : s.pairUp p = false ∨ s.takesIn (portOf p) = false ∨ s.takes f = false) :
    s.receive p f = s := by
  refine if_pos ?_
  rcases h with h | h | h <;> simp [h]

/-- An endpoint replaced leaves the dictionary, the lanes and the service. -/
theorem State.setPort_keeps {x : PortSt} :
    (s.setPort p x).objs = s.objs ∧ (s.setPort p x).lanes = s.lanes ∧ (s.setPort p x).svc = s.svc := by
  unfold State.setPort
  split <;> exact ⟨rfl, rfl, rfl⟩

/-! Reads that are not one present word at once. -/

/-- A read request that its domain makes wait. -/
theorem State.readRequest_stalled {d : Nat} (hserves : s.servesNow q = true) (hcast : q.bcast = false)
    (hformed : s.formedNow q = true) (hwait : s.waitsFor i k = some d) :
    s.readRequest q i k ecc raw = (s.stall i k d).putBack (.read q i k ecc raw) := by
  have hhears := (State.servesNow_iff.mp hserves).1
  have hsubmit := State.submit_now (s := s) (v := .read q i k ecc raw) hserves
  simp [State.readRequest, hhears, hcast, hformed, hsubmit, State.perform, State.serve, hwait]

/-- A present word read. -/
theorem State.readRequest_present (hserves : s.servesNow q = true) (hcast : q.bcast = false)
    (hformed : s.formedNow q = true) (hwait : s.waitsFor i k = none) (hknown : s.unknown i k = none)
    (hreset : s.peerReset i k = false) : s.readRequest q i k ecc raw =
      (s.readValue q.port i k ecc raw).2.answerWord q 1 i k stOk (s.readValue q.port i k ecc raw).1 := by
  rw [State.readRequest_now hserves hcast hformed hwait, State.readWord_present hknown hreset]

theorem State.readWord_unknown (h : s.unknown i k = some st) : s.readWord p i k ecc raw = (st, 0, s) := by
  simp only [State.readWord, h]

theorem State.readWord_peerReset (hknown : s.unknown i k = none) (h : s.peerReset i k = true) :
    s.readWord p i k ecc raw = (stPeerReset, 0, s) := by
  simp only [State.readWord, hknown, h, if_true]

theorem State.readRequest_malformed (hserves : s.servesNow q = true) (hcast : q.bcast = false)
    (hformed : s.formedNow q = false) : s.readRequest q i k ecc raw = s.answerWord q 1 i k stFormat 0 := by
  have hhears := (State.servesNow_iff.mp hserves).1
  have hsubmit := State.submit_now (s := s) (v := .malformed q 1 i k) hserves
  simp [State.readRequest, hhears, hcast, hformed, hsubmit, State.perform, State.serve, State.answerFormat]

/-- CK_STATUS is read by the rule of R66. -/
theorem State.readRequest_ckStatus (hserves : s.servesNow q = true) (hcast : q.bcast = false)
    (hformed : s.formedNow q = true) :
    s.readRequest q 0x2200 0 .clean 0 = s.seeReady.answerWord q 1 0x2200 0 stOk (s.seeReady.view 0x2200 0) := by
  have hdomain : objDomain 0x2200 0 = none := rfl
  have hknown : s.unknown 0x2200 0 = none := by
    have hrow : (objRow 0x2200 0).isSome = true := by decide
    obtain ⟨r, hr⟩ := Option.isSome_iff_exists.mp hrow
    have havail : s.available 0x2200 0 = true := rfl
    simp only [State.unknown, hr, havail, if_true]
  exact State.readRequest_present hserves hcast hformed (State.waitsFor_noDomain hdomain) hknown
    (State.peerReset_noDomain hdomain)

/-- A word of an open record with an uncorrectable error is returned as stored. -/
theorem State.readValue_openUncorrected (h : k / 8 < s.ev.openRecs.length) :
    s.readValue p 0x2609 k .uncorrected raw = (raw, s.evEcc .uncorrected) := by
  have hword : s.evWord 0x2609 k = true := by simp [State.evWord, h]
  rw [State.readValue, if_neg (by decide), if_neg (by decide), if_pos hword, if_pos rfl]

/-! Bulk requests. -/

/-- A bulk read that the service takes up. -/
theorem State.bulkRead_now {l : List (EccOutcome × Word)} (hserves : s.servesNow q = true) (hcast : q.bcast = false)
    (hformed : s.formedNow q = true) (hn : 1 ≤ n) (hmost : n ≤ s.bulkMost q) :
    s.bulkRead q i k n l = s.perform (.bulkRead q i k [] (eccRun n l)) := by
  have hhears := (State.servesNow_iff.mp hserves).1
  have hsubmit := State.submit_now (s := s) (v := .bulkRead q i k [] (eccRun n l)) hserves
  simp [State.bulkRead, hhears, hcast, hformed, hn, hmost, hsubmit]

theorem State.bulkRead_malformed {l : List (EccOutcome × Word)} (hserves : s.servesNow q = true) (hcast : q.bcast = false)
    (hbad : (s.formedNow q && decide (1 ≤ n ∧ n ≤ s.bulkMost q)) = false) :
    s.bulkRead q i k n l = s.answerRun q i k stFormat [] := by
  have hhears := (State.servesNow_iff.mp hserves).1
  have hsubmit := State.submit_now (s := s) (v := .malformed q 5 i k) hserves
  simp only [State.bulkRead, hhears, hcast, hbad, hsubmit, State.perform, State.serve, State.answerFormat, Bool.not_true,
    Bool.or_self, Bool.false_eq_true, if_false, if_true]

/-- A bulk write that the service takes up. -/
theorem State.bulkWrite_now {stop : Bool} {items : List BulkItem} (hserves : s.servesNow q = true)
    (hformed : s.formedNow q = true) (hok : bulkOk items = true) :
    s.bulkWrite q stop items = s.perform (.bulkWrite q stop {} (bulkSteps items)) := by
  have hhears := (State.servesNow_iff.mp hserves).1
  have hsubmit := State.submit_now (s := s) (v := .bulkWrite q stop {} (bulkSteps items)) hserves
  simp [State.bulkWrite, hhears, hformed, hok, hsubmit]

theorem State.bulkWrite_malformed {stop : Bool} {items : List BulkItem} (hserves : s.servesNow q = true)
    (hbad : (s.formedNow q && bulkOk items) = false) : s.bulkWrite q stop items = s.answerBulk q stFormat {} := by
  have hhears := (State.servesNow_iff.mp hserves).1
  have hsubmit := State.submit_now (s := s) (v := .malformed q 7 0 0) hserves
  simp [State.bulkWrite, hhears, hbad, hsubmit, State.perform, State.serve, State.answerFormat]

/-! What an answer leaves of the state. -/

/-- The latches of both ports, with the lanes: what no answer changes. -/
def State.latches (s : State) : List (Nat × Word) × List (Nat × Word) × Table Lane :=
  (s.portA.latch, s.portB.latch, s.lanes)

theorem State.setPort_latches {x : PortSt} (h : x.latch = (s.port p).latch) : (s.setPort p x).latches = s.latches := by
  unfold State.setPort State.port at *
  split <;> simp_all [State.latches]

theorem State.wr_latches {F : Field} {e v : Nat} : (s.wr F e v).latches = s.latches := rfl

theorem State.setPair_latches {x : PairSt} : (s.setPair p x).latches = s.latches := rfl

theorem State.queueOwn_latches : (s.queueOwn p f).latches = s.latches := by
  unfold State.queueOwn
  split
  · exact State.setPair_latches
  · split
    · exact State.setPair_latches
    · rfl

theorem State.takeRequest_latches : (s.takeRequest q).latches = s.latches := by
  unfold State.takeRequest
  extract_lets +onlyGivenNames x t
  have ht : t.latches = s.latches := State.setPort_latches rfl
  exact ht

theorem State.countService_latches : (s.countService p st).latches = s.latches := by
  unfold State.countService
  extract_lets a b
  have hb : b.latches = s.latches := by
    unfold b
    split <;> rfl
  clear_value b
  split
  · exact hb
  · exact hb

theorem State.finish_latches {blocks : State → List (BitVec 64)} : (s.finish q n st blocks).latches = s.latches := by
  have hcount : ((s.takeRequest q).countService q.port st).latches = s.latches :=
    State.countService_latches.trans State.takeRequest_latches
  unfold State.finish
  extract_lets t
  split
  · exact hcount
  · exact State.queueOwn_latches.trans hcount

/-- A port's latch is one of the two. -/
theorem State.port_latch_of_latches (h : t.latches = s.latches) : (t.port p).latch = (s.port p).latch := by
  simp only [State.latches, Prod.mk.injEq] at h
  obtain ⟨hA, hB, -⟩ := h
  unfold State.port
  split
  · exact hA
  · exact hB

/-! 64-bit objects (R235). -/

theorem State.latchHigh_latched : (s.latchHigh p i k).latched p i (k + 1) = some (s.view i (k + 1)) := by
  simp [State.latched, State.latchHigh, State.port_setPort_same]

/-- The high word of a 64-bit object is none that a read treats in another way. -/
theorem State.readValue_low (h : lowOf64 i k = true) : s.readValue p i k .clean 0 = (s.view i k, s.latchHigh p i k) ∧
    s.readValue p i (k + 1) .clean 0 = ((s.latched p i (k + 1)).getD (s.view i (k + 1)), s) := by
  simp only [lowOf64, Bool.or_eq_true, Bool.and_eq_true, decide_eq_true_eq] at h
  rcases h with (⟨rfl, ((((rfl | rfl) | rfl) | rfl) | rfl)⟩ | ⟨rfl, rfl⟩) | ⟨rfl, rfl⟩ <;> exact ⟨rfl, rfl⟩

end Sys2Proof.Machine

namespace Sys2Proof

open Machine

/-- Settles O23: the checks of R246 and R247 one after another. -/
theorem requestBuffers : Obligations.RequestBuffers := by
  intro s p f hp
  refine ⟨fun hup htakes hfor => ?_, fun h => congrArg Host.Outcome.next (State.receive_ignored h)⟩
  have hreceive := State.receive_taken hup htakes hfor
  refine ⟨fun hgood hstomp htype => ⟨fun hroom => ?_, fun hfull => ?_⟩, fun hgood hstomp htype => ?_, fun hbad => ?_,
    fun hgood hstomp => ?_⟩
  · obtain ⟨hobjs, hlanes, hsvc⟩ := State.setPort_keeps (s := s) (p := portOf p) (x := { s.port (portOf p) with
      reqs := (s.port (portOf p)).reqs ++ [{ fromD := decide (p % 2 = 1), frame := f }] })
    have hport : portOf p < 2 := by unfold portOf; omega
    refine ⟨s.setPort (portOf p) _, congrArg Host.Outcome.next (hreceive.trans ?_), ?_,
      State.port_setPort_opposite hport, hobjs, hlanes, hsvc⟩
    · simp [hgood, hstomp, htype, Nat.not_le.mpr hroom]
    · rw [State.port_setPort_same]
  · exact congrArg Host.Outcome.next (hreceive.trans (by simp [hgood, hstomp, htype, hfull]))
  · exact congrArg Host.Outcome.next (hreceive.trans (by simp [hgood, hstomp, htype]))
  · exact congrArg Host.Outcome.next (hreceive.trans (by simp [hbad]))
  · exact congrArg Host.Outcome.next (hreceive.trans (by simp [hgood, hstomp]))

/-- Settles O24: a read request is one word or one run read and answered, or what its format, its object or its domain
makes of it. -/
theorem readRequests : Obligations.ReadRequests := by
  intro s q i k n d raw l hserves hcast
  refine ⟨fun hformed => ⟨fun hwait hknown hreset => ⟨?_, fun ecc => ?_⟩, fun st hwait hst => ?_, fun hwait hknown hreset => ?_,
    fun hwait => ?_, fun hready => ?_, fun hready => ?_, fun hwait hknown hreset hopen => ?_, fun hn hmost => ⟨?_, ?_⟩,
    fun hbad => ?_⟩, fun hformed => ⟨?_, ?_⟩⟩
  · exact ⟨_, _, congrArg Host.Outcome.next (State.readRequest_present hserves hcast hformed hwait hknown hreset), rfl⟩
  · exact ⟨_, _, congrArg Host.Outcome.next (State.readRequest_present hserves hcast hformed hwait hknown hreset), rfl⟩
  · exact congrArg Host.Outcome.next (by
      rw [State.readRequest_now hserves hcast hformed hwait, State.readWord_unknown hst])
  · exact congrArg Host.Outcome.next (by
      rw [State.readRequest_now hserves hcast hformed hwait, State.readWord_peerReset hknown hreset])
  · exact congrArg Host.Outcome.next (State.readRequest_stalled hserves hcast hformed hwait)
  · have hread := State.readRequest_ckStatus hserves hcast hformed
    rw [State.seeReady, if_pos hready] at hread
    exact congrArg Host.Outcome.next hread
  · have hread := State.readRequest_ckStatus hserves hcast hformed
    rw [State.seeReady, if_neg (by simp [hready])] at hread
    exact congrArg Host.Outcome.next hread
  · exact congrArg Host.Outcome.next (by
      rw [State.readRequest_present hserves hcast hformed hwait hknown hreset, State.readValue_openUncorrected hopen])
  · intro st got t hrun
    exact congrArg Host.Outcome.next (by
      rw [State.bulkRead_now hserves hcast hformed hn hmost]
      simp only [State.perform, State.serve, hrun])
  · intro st got x xs t hrun
    exact congrArg Host.Outcome.next (by
      rw [State.bulkRead_now hserves hcast hformed hn hmost]
      simp only [State.perform, State.serve, hrun])
  · have hcount : decide (1 ≤ n ∧ n ≤ s.bulkMost q) = false := by
      rw [decide_eq_false_iff_not]
      omega
    exact congrArg Host.Outcome.next (State.bulkRead_malformed hserves hcast (by simp only [hcount, Bool.and_false]))
  · exact congrArg Host.Outcome.next (State.readRequest_malformed hserves hcast hformed)
  · exact congrArg Host.Outcome.next (State.bulkRead_malformed hserves hcast (by simp only [hformed, Bool.false_and]))

/-- Settles O25: the answer leaves the latches, and a read of the high word looks there first. -/
theorem latchedReads : Obligations.LatchedReads := by
  intro s q i k hport hserves hcast hformed hwait hknown hreset hlow
  have hread := State.readRequest_present (ecc := .clean) (raw := 0) hserves hcast hformed hwait hknown hreset
  rw [(State.readValue_low hlow).1] at hread
  have hkeeps : (s.readRequest q i k .clean 0).latches = (s.latchHigh q.port i k).latches := by
    rw [hread]
    exact State.finish_latches
  have hlatched : (s.readRequest q i k .clean 0).latched q.port i (k + 1) = some (s.view i (k + 1)) := by
    rw [State.latched, State.port_latch_of_latches hkeeps]
    exact State.latchHigh_latched
  refine ⟨_, rfl, hlatched, ?_, ?_, fun u hA hB => ?_⟩
  · rw [State.port_latch_of_latches hkeeps]
    exact congrArg PortSt.latch (State.port_setPort_opposite hport)
  · exact (congrArg (·.2.2) hkeeps :).trans State.setPort_keeps.2.1
  · have hsame : u.latched q.port i (k + 1) = some (s.view i (k + 1)) := by
      rw [← hlatched]
      simp only [State.latched, State.port, hA, hB]
    rw [(State.readValue_low hlow).2, hsame, Option.getD_some]

/-- Settles O27: a bulk write runs its steps in order from the first; a single write is the write row of its object. -/
theorem bulkAndObjectWrites : Obligations.BulkAndObjectWrites := by
  refine ⟨fun s q stop items hserves => ⟨fun hformed hok => ⟨?_, ?_⟩, fun hbad => ?_, fun b x xs => ⟨fun hpass hwait => ?_,
    fun hstop => ?_⟩⟩, fun s w i k st t => ⟨fun hadm hrule => ⟨fun hst => exec_accepted rfl hadm hrule hst,
      fun hst => exec_refused rfl hadm hrule hst⟩, ?_, fun hserves hformed hwait => ⟨fun hcheck hrow hmask => ?_,
      fun hcheck => exec_turnedAway rfl hserves hformed hwait hcheck⟩, fun hserves hformed => ?_⟩⟩
  · intro b t hrun
    exact congrArg Host.Outcome.next (by
      rw [State.bulkWrite_now hserves hformed hok]
      simp only [State.perform, State.serve, hrun])
  · intro b x xs t hrun
    exact congrArg Host.Outcome.next (by
      rw [State.bulkWrite_now hserves hformed hok]
      simp only [State.perform, State.serve, hrun])
  · exact congrArg Host.Outcome.next (State.bulkWrite_malformed hserves (Bool.and_eq_false_iff.mpr hbad))
  · rw [State.runSteps, if_neg (by simp [hpass]), hwait]
  · have hpass : b.passes x = true := by simp [Bulk.passes, hstop]
    have hskip : b.skipStep x = b := by simp [Bulk.skipStep, hstop]
    rw [State.runSteps, if_pos hpass, hskip]
  · rw [State.objectRule_2004]
    simp [State.wTcDivNext, modulus]
  · exact congrArg Host.Outcome.next (State.writeRequest_maskless hserves hformed hwait hcheck hmask .clean)
  · exact congrArg Host.Outcome.next (State.writeRequest_malformed hserves hformed .clean)

end Sys2Proof
end

section
/-! SUPPORT. Arbitration tokens, sections released and key words (chapter 10); the ring address, which no forwarding changes. -/

namespace Sys2Proof.Machine


variable {s t u : State} {p q j k n up dest epoch : Nat} {x : RxItem} {f : RxFrame} {v : Word} {l : List Nat} {b : Token}

/-! The device's ring address, which no forwarding changes, whatever the pair. -/

/-- The dictionary's form and the ring address are kept. -/
def State.KeepsAddress (s t : State) : Prop := s.ok → t.ok ∧ t.address = s.address

theorem State.KeepsAddress.refl : s.KeepsAddress s := fun h => ⟨h, rfl⟩

theorem State.KeepsAddress.trans (h : s.KeepsAddress t) (h' : t.KeepsAddress u) : s.KeepsAddress u := fun hs =>
  ⟨(h' (h hs).1).1, (h' (h hs).1).2.trans (h hs).2⟩

theorem State.KeepsAddress.setPair {y : PairSt} (h : s.KeepsAddress t) : s.KeepsAddress (t.setPair p y) := h

/-- Counters stand at keys above that of FL_ADDR, whatever the pair. -/
theorem State.KeepsAddress.wr {F : Field} {v : Nat} (hF : 0x1102 < F.index) (h : s.KeepsAddress t) :
    s.KeepsAddress (t.wr F k v) := fun hs => by
  have hkey : objKey FL_ADDR_ADDR.index (FL_ADDR_ADDR.sub + 0) ≠ objKey F.index (F.sub + k) := by
    have haddr : objKey FL_ADDR_ADDR.index (FL_ADDR_ADDR.sub + 0) = 0x1102 * 65536 := rfl
    rw [haddr]
    simp only [objKey]
    omega
  exact ⟨State.wr_ok (h hs).1, (State.rd_wr_other (h hs).1 (.inl hkey)).trans (h hs).2⟩

theorem State.addLoad_keepsAddress : s.KeepsAddress (s.addLoad p up n) := by
  unfold State.addLoad
  split
  · exact .refl
  · exact .setPair .refl

theorem State.occupy_keepsAddress : s.KeepsAddress (s.occupy p up n) := State.addLoad_keepsAddress.setPair

theorem State.cut_keepsAddress : s.KeepsAddress (s.cut p f).2 := by
  unfold State.cut State.flCount
  split
  · split
    · exact .refl
    · exact .wr (by decide) .refl
  · exact .refl

theorem State.sendItem_keepsAddress : s.KeepsAddress (s.sendItem p up x) := by
  match x with
  | .frame f => exact (State.cut_keepsAddress.trans State.occupy_keepsAddress).setPair
  | .control _ _ => exact .setPair .refl
  | .badSync _ none => exact .setPair .refl
  | .badSync _ (some f) => exact State.occupy_keepsAddress.setPair

theorem State.drainTo_keepsAddress {xs : List RxItem} : s.KeepsAddress (s.drainTo p up xs) := by
  induction xs generalizing s with
  | nil => exact .setPair .refl
  | cons y ys ih =>
    unfold State.drainTo
    split
    · exact State.sendItem_keepsAddress.trans ih
    · exact .setPair .refl

theorem State.noteOccupancy_keepsAddress : s.KeepsAddress (s.noteOccupancy p n) := by
  unfold State.noteOccupancy
  split
  · exact .refl
  · exact .wr (by decide) .refl

theorem State.emit_keepsAddress : s.KeepsAddress (s.emit p up x) := by
  have hdrain : s.KeepsAddress (s.drain p up) := State.drainTo_keepsAddress
  unfold State.emit
  extract_lets t control y m
  refine hdrain.trans ?_
  split
  · exact State.sendItem_keepsAddress
  · exact .trans (.setPair .refl) State.noteOccupancy_keepsAddress

theorem State.pass_keepsAddress : s.KeepsAddress (s.pass p x) := by
  have harrival : s.KeepsAddress (s.arrival p (itemBlocks x)).2 := .setPair .refl
  unfold State.pass
  generalize s.arrival p (itemBlocks x) = r at harrival
  obtain ⟨up, t⟩ := r
  dsimp only
  split
  · exact harrival.trans State.emit_keepsAddress
  · exact harrival

/-! Tokens on the ring (R255). -/

theorem State.tokenArrives_headAlone {tag : BitVec 64} (hup : s.pairUp p = true) :
    s.tokenArrives p dest epoch tag false = s.forward p (headItem dest epoch tag) := by
  simp [State.tokenArrives, hup]

/-- A token for this device alone joins those to be checked. -/
theorem State.tokenArrives_ours {tag : BitVec 64} (hup : s.pairUp p = true) (hacting : s.acting = true)
    (hdest : dest = s.address) (hlt : dest < 256) : s.tokenArrives p dest epoch tag true =
      { s with tokens := s.tokens ++ [{ port := portOf p, dest := dest, epoch := epoch % 2 ^ 32, tag := tag,
                                        ahead := s.requestsOf (portOf p) }] } := by
  have hours : s.toUs dest = true := by simp [State.toUs, hdest]
  simp [State.tokenArrives, hup, hacting, ← hdest, hours, Nat.mod_eq_of_lt hlt]

/-- A token for another device is forwarded and nothing else. -/
theorem State.tokenArrives_others {tag : BitVec 64} (hok : s.ok) (hup : s.pairUp p = true) (hdest : s.toUs dest = false) :
    s.tokenArrives p dest epoch tag true = (s.pass p (headItem dest epoch tag)).pass p (tailItem tag) := by
  have hpassed := (State.pass_keepsAddress (p := p) (x := headItem dest epoch tag)).trans
    (State.pass_keepsAddress (p := p) (x := tailItem tag)) hok
  have hother : dest ≠ s.address := fun h => by simp [State.toUs, h] at hdest
  have hstill : ((s.pass p (headItem dest epoch tag)).pass p (tailItem tag)).toUs dest = false := by
    rw [State.toUs, hpassed.2]
    exact hdest
  simp [State.tokenArrives, hup, hother, hstill]

theorem State.tokenArrives_down {tag : BitVec 64} {whole : Bool} (hup : s.pairUp p = false) :
    s.tokenArrives p dest epoch tag whole = s := by
  simp [State.tokenArrives, hup]

/-! Tokens checked (R256, R257). -/

theorem State.judgeToken_le : s.judgeToken b ≤ 5 := by
  simp only [State.judgeToken]
  split_ifs <;> omega

theorem State.judgeToken_noKey (h : s.on SE_EPOCH_KEY_SET = false) : s.judgeToken b = 4 := if_pos (by simp [h])

/-- An accepted token bears the expected tag and a later epoch. -/
theorem State.judgeToken_accepts (h : s.judgeToken b = 0) :
    s.get SE_EPOCH_EPOCH < b.epoch ∧ b.tag.toNat = s.expectedTag b := by
  simp only [State.judgeToken] at h
  split_ifs at h with hkey htag hold hsame hport
  exact ⟨by omega, not_not.mp htag⟩

/-- The count and the report of the last token, by its judgement. -/
def State.tokenNoted (s : State) (b : Token) (r : Nat) : State :=
  let s := s.bumpAt SE_ARB_COUNTS_COUNT r
  let s := ((s.set SE_LAST_TOKEN_RESULT (r + 1)).set SE_LAST_TOKEN_PORT (b.port + 1)).set SE_LAST_TOKEN_DEST b.dest
  s.set SE_LAST_TOKEN_EPOCH b.epoch

theorem State.applyToken_eq : s.applyToken b = if s.judgeToken b = 0 then (s.tokenNoted b (s.judgeToken b)).acceptToken b
    else s.tokenNoted b (s.judgeToken b) := rfl

theorem State.tokenNoted_reads {r : Nat} (hok : Words.ok s.objs) (hr : r ≤ 5) (hport : b.port < 2) :
    (s.tokenNoted b r).get SE_LAST_TOKEN_RESULT = r + 1 ∧ (s.tokenNoted b r).get SE_LAST_TOKEN_PORT = b.port + 1 ∧
      (s.tokenNoted b r).get SE_EPOCH_EPOCH = s.get SE_EPOCH_EPOCH ∧
      (s.tokenNoted b r).get SE_EPOCH_ACTIVE = s.get SE_EPOCH_ACTIVE := by
  have hsub : ∀ G : Field, G.sub < 2 → G.index = 0x1340 → SE_ARB_COUNTS_COUNT.apart r G 0 = true := fun G hs hi =>
    Field.apart_of_index (by rw [hi]; decide) (by have : SE_ARB_COUNTS_COUNT.sub = 0 := rfl; omega) (by omega)
  unfold State.tokenNoted
  extract_lets c d
  have hc : Words.ok c.objs := State.wr_ok (s := s) hok
  have hepoch : c.get SE_EPOCH_EPOCH = s.get SE_EPOCH_EPOCH := State.rd_wr_apart ⟨hok, hsub _ (by decide) rfl⟩
  have hactive : c.get SE_EPOCH_ACTIVE = s.get SE_EPOCH_ACTIVE := State.rd_wr_apart ⟨hok, hsub _ (by decide) rfl⟩
  rw [← hepoch, ← hactive]
  clear_value c
  simp only [d, State.get_objs, State.set_objs]
  simp (disch := (constructor; (repeat refine Words.wr_ok ?_); exact hc; decide)) only
    [Words.rd_wr_apart, Words.rd_wr_eq]
  exact ⟨Nat.mod_eq_of_lt (show r + 1 < 16 by omega), Nat.mod_eq_of_lt (show b.port + 1 < 4 by omega), trivial, trivial⟩

/-- The sections of a port that loses the active role become free. -/
def State.sectionsFreed (s : State) (code : Nat) : State :=
  State.each 16 (fun k s => if s.rd SE_SECTION_OWNER_OWNER k = code then s.wr SE_SECTION_OWNER_OWNER k 0 else s) s

/-- What an accepted token writes. -/
def tokenFields : List (Field × Nat) :=
  [(SE_EPOCH_EPOCH, 0), (SE_EPOCH_ACTIVE, 0)] ++ ((List.range 16).map fun k => (SE_SECTION_OWNER_OWNER, k)) ++ postFields

theorem State.sectionsFreed_writes {code : Nat} :
    State.Writes ((List.range 16).map fun k => (SE_SECTION_OWNER_OWNER, k)) s (s.sectionsFreed code) :=
  State.Writes.foldl fun _ k hk => .ite (.wr (List.mem_map.mpr ⟨k, hk, rfl⟩) .refl) .refl

theorem State.acceptToken_eq : s.acceptToken b =
    ((((s.set SE_EPOCH_EPOCH b.epoch).set SE_EPOCH_ACTIVE (b.port + 1)).sectionsFreed (2 - b.port)).post 0x80 b.port
      (payloadOf [(b.epoch, 32), (b.port + 1, 24), (s.get SE_EPOCH_ACTIVE, 16), (s.heldBy (2 - b.port), 0)])) := rfl

/-- After the role has moved: what the freed sections and the record leave. -/
theorem State.acceptToken_writes : State.Writes (((List.range 16).map fun k => (SE_SECTION_OWNER_OWNER, k)) ++ postFields)
    ((s.set SE_EPOCH_EPOCH b.epoch).set SE_EPOCH_ACTIVE (b.port + 1)) (s.acceptToken b) := by
  rw [State.acceptToken_eq]
  refine .trans (State.sectionsFreed_writes.mono ?_) (State.post_writes.mono ?_)
  · exact fun x hx => List.mem_append_left _ hx
  · exact fun x hx => List.mem_append_right _ hx

theorem State.acceptToken_reads (hok : s.ok) (hport : b.port < 2) (hepoch : b.epoch < 2 ^ 32) :
    (s.acceptToken b).get SE_EPOCH_EPOCH = b.epoch ∧ (s.acceptToken b).get SE_EPOCH_ACTIVE = b.port + 1 := by
  have hset : ((s.set SE_EPOCH_EPOCH b.epoch).set SE_EPOCH_ACTIVE (b.port + 1)).ok := State.wr_ok (State.wr_ok hok)
  refine ⟨(State.acceptToken_writes.rd hset (by decide)).trans ?_, (State.acceptToken_writes.rd hset (by decide)).trans ?_⟩
  · refine (State.rd_wr_apart ⟨State.wr_ok hok, by decide⟩).trans ((State.rd_wr_eq ⟨hok, by decide⟩).trans ?_)
    exact Nat.mod_eq_of_lt hepoch
  · refine (State.rd_wr_eq ⟨State.wr_ok hok, by decide⟩).trans ?_
    exact Nat.mod_eq_of_lt (show b.port + 1 < 4 by omega)

theorem State.acceptToken_report {G : Field} (hok : s.ok) (hG : G.index = 0x1343)
    (happart : (((List.range 16).map fun k => (SE_SECTION_OWNER_OWNER, k)) ++ postFields).all
      (fun F => F.1.apart F.2 G 0) = true) (hsub : G.sub < 2) : (s.acceptToken b).get G = s.get G := by
  have hother : ∀ F : Field, F.index = 0x1340 → F.sub < 2 → F.apart 0 G 0 = true := fun F hF hs =>
    Field.apart_of_index (by rw [hF, hG]; decide) (by omega) (by omega)
  refine (State.acceptToken_writes.rd (State.wr_ok (State.wr_ok hok)) happart).trans ?_
  exact (State.rd_wr_apart ⟨State.wr_ok hok, hother _ rfl (by decide)⟩).trans
    (State.rd_wr_apart ⟨hok, hother _ rfl (by decide)⟩)

/-- The report of a token that is taken, and where the active role then stands. -/
theorem State.applyToken_reads (hok : s.ok) (hport : b.port < 2) :
    (s.applyToken b).get SE_LAST_TOKEN_RESULT = s.judgeToken b + 1 ∧ (s.applyToken b).get SE_LAST_TOKEN_PORT = b.port + 1 ∧
      (s.judgeToken b ≠ 0 → (s.applyToken b).get SE_EPOCH_EPOCH = s.get SE_EPOCH_EPOCH ∧
        (s.applyToken b).get SE_EPOCH_ACTIVE = s.get SE_EPOCH_ACTIVE) ∧
      (s.judgeToken b = 0 → b.epoch < 2 ^ 32 → (s.applyToken b).get SE_EPOCH_EPOCH = b.epoch ∧
        (s.applyToken b).get SE_EPOCH_ACTIVE = b.port + 1) := by
  obtain ⟨hresult, hlast, hepoch, hactive⟩ := State.tokenNoted_reads hok (s.judgeToken_le (b := b)) hport
  have hnoted : (s.tokenNoted b (s.judgeToken b)).ok :=
    State.wr_ok (State.wr_ok (State.wr_ok (State.wr_ok (State.wr_ok hok))))
  rw [State.applyToken_eq]
  generalize s.tokenNoted b (s.judgeToken b) = t at *
  split
  · next haccepted =>
    exact ⟨(State.acceptToken_report hnoted rfl (by decide) (by decide)).trans hresult,
      (State.acceptToken_report hnoted rfl (by decide) (by decide)).trans hlast, fun h => absurd haccepted h,
      fun _ hlt => State.acceptToken_reads hnoted hport hlt⟩
  · next hother => exact ⟨hresult, hlast, fun _ => ⟨hepoch, hactive⟩, fun h => absurd h hother⟩

/-! Beside the dictionary and the log. -/

theorem State.post_besideRecords {code src payload : Nat} :
    ((s.post code src payload).tokens, (s.post code src payload).lanes, (s.post code src payload).commit) =
      (s.tokens, s.lanes, s.commit) := by
  rw [State.post_keeps]

theorem State.applyToken_besideRecords :
    ((s.applyToken b).tokens, (s.applyToken b).lanes, (s.applyToken b).commit) = (s.tokens, s.lanes, s.commit) := by
  rw [State.applyToken_eq]
  split
  · rw [State.acceptToken_eq, State.post_besideRecords]
    exact State.eachIn_kept (l := List.range 16) (fun t => (t.tokens, t.lanes, t.commit)) fun k t => by
      split <;> rfl
  · rfl

theorem State.tokenOutcome_takes {l : List Token} (hheld : s.svc.held = none) (htokens : s.tokens = b :: l) :
    s.tokenOutcome = (({ s with tokens := l } : State).applyToken b).goOn := by
  simp only [State.tokenOutcome, hheld, htokens]

theorem State.tokenOutcome_waits (h : s.tokens = [] ∨ s.svc.held ≠ none) : s.tokenOutcome = s := by
  unfold State.tokenOutcome
  split
  · next hheld htokens => simp [hheld, htokens] at h
  · rfl

/-! Sections released and key words (R253, R254). -/

/-- A released section becomes free where the port held it. -/
def State.releaseSection (s : State) (p k : Nat) : State :=
  if s.rd SE_SECTION_OWNER_OWNER k = p + 1 then s.wr SE_SECTION_OWNER_OWNER k 0 else s

theorem State.releaseSection_ok (h : s.ok) : (s.releaseSection p k).ok := by
  unfold State.releaseSection
  split
  · exact State.wr_ok h
  · exact h

theorem State.releaseSection_same (h : s.ok) : (s.releaseSection p k).rd SE_SECTION_OWNER_OWNER k =
    if s.rd SE_SECTION_OWNER_OWNER k = p + 1 then 0 else s.rd SE_SECTION_OWNER_OWNER k := by
  unfold State.releaseSection
  split
  · exact State.rd_wr_eq ⟨h, by decide⟩
  · rfl

theorem State.releaseSection_other (h : s.ok) (hjk : j ≠ k) :
    (s.releaseSection p j).rd SE_SECTION_OWNER_OWNER k = s.rd SE_SECTION_OWNER_OWNER k := by
  unfold State.releaseSection
  split
  · refine State.rd_wr_apart ⟨h, Field.apart_of_sub ?_ rfl⟩
    have hsub : SE_SECTION_OWNER_OWNER.sub = 0 := rfl
    omega
  · rfl

theorem State.releaseSection_grants (h : s.ok) :
    (s.releaseSection p j).rd SE_SECTION_OWNER_GRANTS k = s.rd SE_SECTION_OWNER_GRANTS k := by
  unfold State.releaseSection
  split
  · exact State.rd_wr_apart ⟨h, rfl⟩
  · rfl

/-- Several sections released. -/
def State.releaseSections (s : State) (p : Nat) (l : List Nat) : State :=
  State.eachIn l (fun k s => s.releaseSection p k) s

theorem State.releaseSections_owner (h : s.ok) : (s.releaseSections p l).rd SE_SECTION_OWNER_OWNER k =
    if k ∈ l ∧ s.rd SE_SECTION_OWNER_OWNER k = p + 1 then 0 else s.rd SE_SECTION_OWNER_OWNER k := by
  induction l generalizing s with
  | nil => simp [State.releaseSections, State.eachIn]
  | cons j js ih =>
    refine (ih (State.releaseSection_ok h)).trans ?_
    by_cases hjk : j = k
    · subst hjk
      rw [State.releaseSection_same h]
      by_cases hown : s.rd SE_SECTION_OWNER_OWNER j = p + 1 <;> simp [hown]
    · rw [State.releaseSection_other h hjk]
      simp [Ne.symm hjk]

theorem State.releaseSections_grants (h : s.ok) :
    (s.releaseSections p l).rd SE_SECTION_OWNER_GRANTS k = s.rd SE_SECTION_OWNER_GRANTS k := by
  induction l generalizing s with
  | nil => rfl
  | cons j js ih => exact (ih (State.releaseSection_ok h)).trans (State.releaseSection_grants h)

theorem State.releaseSections_commit : (s.releaseSections p l).commit = s.commit :=
  State.eachIn_kept State.commit fun k t => by
    unfold State.releaseSection
    split <;> rfl

theorem State.wRelease_eq : s.wRelease p v = (stOk, s.releaseSections p (namedSections v)) := rfl

/-- The word that completes the key. -/
theorem State.wArbKey_last (h : s.arbMask ||| 2 ^ k = 255) : s.wArbKey k v =
    (stOk, ({ s.setWord 0x1341 k v with arbMask := 255 } : State).set SE_EPOCH_KEY_SET 1) := by
  simp only [State.wArbKey, h, if_true]

theorem State.wArbKey_more (h : s.arbMask ||| 2 ^ k ≠ 255) : s.wArbKey k v =
    (stOk, { s.setWord 0x1341 k v with arbMask := s.arbMask ||| 2 ^ k }) := by
  simp only [State.wArbKey, h, if_false]

/-- Under an epoch no key word is written, not even by the active port (R254). -/
theorem State.precheck_arbKey (hk : k < 8) (havail : s.available 0x1341 k = true) (hepoch : s.get SE_EPOCH_EPOCH ≠ 0)
    (hactive : s.get SE_EPOCH_ACTIVE = p + 1) : s.precheck p 0x1341 k (BitVec.allOnes 32) = some stAccess := by
  have hrow : ∀ j < 8, objRow 0x1341 j = some ⟨0x1341, 0, 7, [⟨31, 0, .w1, 0, .c3⟩]⟩ := by decide
  have honce : (⟨0x1341, 0, 7, [⟨31, 0, .w1, 0, .c3⟩]⟩ : ObjRow).once = true := rfl
  have hcurrent : s.notActive p = false := by simp [State.notActive, hactive]
  have hbad : s.accessBad ⟨0x1341, 0, 7, [⟨31, 0, .w1, 0, .c3⟩]⟩ k = true := by
    simp [State.accessBad, honce, hepoch]
  simp [State.precheck, hrow k hk, havail, hcurrent, hbad]

end Sys2Proof.Machine

namespace Sys2Proof

open Machine

/-- Settles O28: forwarding keeps the ring address whatever the pair, so a token for another device joins no list; the
report of the last token survives the move of the active role; a release visits each named section once. -/
theorem tokensAndSections : Obligations.TokensAndSections := by
  refine ⟨fun s p dest epoch tag b l hwf => ?_, fun s w k hport hk hwf => ?_⟩
  · have hok : s.ok := (Good.of_wf hwf).objs
    refine ⟨fun hup => ⟨?_, fun hacting hdest hlt => ?_, fun hdest => ?_⟩, fun hup => ?_, fun htokens hheld hport => ?_,
      fun h => congrArg Host.Outcome.next (State.tokenOutcome_waits h), State.judgeToken_noKey, State.judgeToken_accepts⟩
    · exact congrArg Host.Outcome.next (State.tokenArrives_headAlone hup)
    · exact congrArg Host.Outcome.next (State.tokenArrives_ours hup hacting hdest hlt)
    · exact congrArg Host.Outcome.next (State.tokenArrives_others hok hup hdest)
    · exact congrArg Host.Outcome.next (State.tokenArrives_down hup)
    · have hbeside := State.applyToken_besideRecords (s := { s with tokens := l }) (b := b)
      obtain ⟨hleft, hlanes, hcommit⟩ : _ ∧ _ ∧ _ := by simpa only [Prod.mk.injEq] using hbeside
      have hreads := State.applyToken_reads (s := { s with tokens := l }) (b := b) hok hport
      obtain ⟨hresult, hlast, hkept, hmoved⟩ := hreads
      exact ⟨_, congrArg Host.Outcome.next (State.tokenOutcome_takes hheld htokens), hleft, hresult, hlast, hlanes, hcommit,
        hkept, hmoved⟩
  · have hok : s.ok := (Good.of_wf hwf).objs
    have hrule := fun v => (State.objectRule_1341 s .clean w.q.port (k % 8) v)
    refine ⟨fun hadm => ⟨_, exec_accepted rfl hadm ((State.objectRule_1302 ..).trans State.wRelease_eq) rfl, ?_,
      State.releaseSections_grants hok, State.releaseSections_commit⟩, fun hadm hlast => ?_, fun hadm hmore => ?_,
      fun hserves hformed hwait havail hmask hepoch hactive => ?_⟩
    · refine (State.releaseSections_owner hok).trans ?_
      simp only [mem_namedSections, hk, true_and]
    · exact exec_accepted rfl hadm ((hrule _).trans (State.wArbKey_last hlast)) rfl
    · exact exec_accepted rfl hadm ((hrule _).trans (State.wArbKey_more hmore)) rfl
    · have haway := exec_turnedAway (c := .arbKeyWrite (k % 8) w) rfl hserves hformed
        ((State.writeWaits_eq_waitsFor (by decide)).trans hwait)
        (hmask ▸ State.precheck_arbKey (Nat.mod_lt _ (by decide)) havail hepoch hactive)
      rwa [State.countRefused_uncounted (by decide) (by decide)] at haway

end Sys2Proof
end

section
/-! SUPPORT. Downloads, image frames, the image check and the start of the domains (chapter 11). -/

namespace Sys2Proof.Machine


variable {s t u : State} {q : Rq} {f : ImgFrame} {v : Word} {n m a b r st k d e len req : Nat}

/-! BT_CTRL (R273). -/

theorem State.wBtCtrl_state (hcmd : 1 ≤ v.bits 2 0 ∧ v.bits 2 0 ≤ 4)
    (h : bootAllowed (v.bits 2 0) (s.get BT_STATUS_STATE) = false) : s.wBtCtrl v = (stState, s) := by
  simp [State.wBtCtrl, h, hcmd]

theorem State.wBtCtrl_mode (h : bootAllowed (v.bits 2 0) (s.get BT_STATUS_STATE) = true) (hmode : s.modeNow ≠ modeBoot) :
    s.wBtCtrl v = (stMode, s) := by
  simp [State.wBtCtrl, h, hmode]

theorem State.wBtCtrl_range (hcmd : v.bits 2 0 = 1) (h : bootAllowed 1 (s.get BT_STATUS_STATE) = true)
    (hmode : s.modeNow = modeBoot) (hlen : s.get BT_LENGTH_BYTES < 768 ∨ 786944 < s.get BT_LENGTH_BYTES) :
    s.wBtCtrl v = (stRange, s) := by
  simp [State.wBtCtrl, h, hmode, hcmd, hlen]

theorem State.wBtCtrl_begin (hcmd : v.bits 2 0 = 1) (h : bootAllowed 1 (s.get BT_STATUS_STATE) = true)
    (hmode : s.modeNow = modeBoot) (hlow : 768 ≤ s.get BT_LENGTH_BYTES) (hhigh : s.get BT_LENGTH_BYTES ≤ 786944) :
    s.wBtCtrl v = (stOk, s.bootBegin (v.bits 31 16)) := by
  simp [State.wBtCtrl, h, hmode, hcmd, Nat.not_lt.mpr hlow, Nat.not_lt.mpr hhigh]

theorem State.wBtCtrl_end (hcmd : v.bits 2 0 = 2) (h : s.get BT_STATUS_STATE = 1) (hmode : s.modeNow = modeBoot) :
    s.wBtCtrl v = (stOk, s.bootEnd) := by
  have hallowed : bootAllowed 2 1 = true := rfl
  simp [State.wBtCtrl, h, hmode, hcmd, hallowed]

theorem State.wBtCtrl_run (hcmd : v.bits 2 0 = 3) (h : s.get BT_STATUS_STATE = 3) (hmode : s.modeNow = modeBoot) :
    s.wBtCtrl v = (stOk, s.bootRun) := by
  have hallowed : bootAllowed 3 3 = true := rfl
  simp [State.wBtCtrl, h, hmode, hcmd, hallowed]

theorem State.wBtCtrl_abort (hcmd : v.bits 2 0 = 4) (h : bootAllowed 4 (s.get BT_STATUS_STATE) = true)
    (hmode : s.modeNow = modeBoot) : s.wBtCtrl v = (stOk, s.bootAbort) := by
  simp [State.wBtCtrl, h, hmode, hcmd]

/-! IMAGE frames (R274). -/

theorem State.imageFrame_now (hserves : s.servesNow q = true) : exec (.imageFrame q f) s = .next (s.imageFrame q f) := by
  have hhears := (State.servesNow_iff.mp hserves).1
  have hsubmit := State.submit_now (s := s) (v := .image q f) hserves
  exact congrArg Host.Outcome.next ((if_pos hhears).trans hsubmit)

/-- A frame that comes to its own conditions. -/
theorem State.imageFrame_judged (hactive : s.notActive q.port = false) (hguard : s.holdsGuard q.port 0x1400 = true)
    (hformed : s.formedNow q = true) (hcast : q.bcast = false) (h : s.image f = (st, t)) :
    s.imageFrame q f = if refuses st then (t.takeRequest q).bump BT_IMAGE_REFUSED_COUNT else t.takeRequest q := by
  simp [State.imageFrame, State.imageStatus, hactive, hguard, hformed, hcast, h]

theorem State.image_refused (h : s.get BT_STATUS_STATE ≠ 1 ∨ f.session ≠ s.get BT_STATUS_SESSION ∨ f.offset % 256 ≠ 0 ∨
    s.chunkCount < f.offset / 256 + f.chunks.length) : ∃ st, s.image f = (st, s) ∧ refuses st = true := by
  unfold State.image
  by_cases hstate : s.get BT_STATUS_STATE ≠ 1
  · exact ⟨stState, by simp [hstate], rfl⟩
  · exact ⟨stRange, by
      have hbad := h.resolve_left hstate
      simp only [hstate, if_false]
      exact if_pos (by simpa [or_assoc] using hbad), rfl⟩

/-- The chunks of a frame stored one after another. -/
def State.storeFrom (s : State) (k : Nat) (l : List (Nat × BitVec 2048)) : State :=
  l.foldl (fun s p => s.storeChunk (k + p.1) p.2) s

theorem State.image_stored (hstate : s.get BT_STATUS_STATE = 1) (hsession : f.session = s.get BT_STATUS_SESSION)
    (halign : f.offset % 256 = 0) (hfits : f.offset / 256 + f.chunks.length ≤ s.chunkCount) :
    s.image f = (stOk, (s.storeFrom (f.offset / 256) ((List.range f.chunks.length).zip f.chunks)).reportChunks) := by
  simp [State.image, hstate, hsession, halign, Nat.not_lt.mpr hfits, State.storeFrom]

theorem lookup_filter_other {α : Type} {l : List (Nat × α)} (h : n ≠ k) :
    (l.filter fun p => decide (p.1 ≠ k)).lookup n = l.lookup n := by
  induction l with
  | nil => rfl
  | cons x xs ih =>
    obtain ⟨i, c⟩ := x
    by_cases hi : i = k
    · have hni : (n == i) = false := by simp [hi, h]
      rw [List.filter_cons_of_neg (by simp [hi]), ih, List.lookup_cons, hni]
    · rw [List.filter_cons_of_pos (by simp [hi]), List.lookup_cons, List.lookup_cons, ih]

theorem State.storeChunk_lookup {c : BitVec 2048} :
    (s.storeChunk k c).boot.chunks.lookup n = if n = k then some c else s.boot.chunks.lookup n := by
  unfold State.storeChunk
  split
  · next h => simp [h]
  · next h =>
    rw [List.lookup_cons, show (n == k) = false by simpa using h]
    exact lookup_filter_other h

/-- The last chunk of a number counts, and the others stay. -/
theorem State.storeFrom_other {l : List (Nat × BitVec 2048)} (h : ∀ x ∈ l, n ≠ k + x.1) :
    (s.storeFrom k l).boot.chunks.lookup n = s.boot.chunks.lookup n := by
  induction l generalizing s with
  | nil => rfl
  | cons x xs ih =>
    refine (ih fun y hy => h y (List.mem_cons_of_mem _ hy)).trans ?_
    rw [State.storeChunk_lookup, if_neg (h x List.mem_cons_self)]

theorem State.storeFrom_stored {l : List (BitVec 2048)} (hn : n < l.length) :
    (s.storeFrom k ((List.range' m l.length).zip l)).boot.chunks.lookup (k + (m + n)) = l[n]? := by
  induction l generalizing s m n with
  | nil => simp at hn
  | cons c cs ih =>
    have hzip : (List.range' m (c :: cs).length).zip (c :: cs) = (m, c) :: (List.range' (m + 1) cs.length).zip cs := by
      simp [List.range'_succ]
    rw [hzip]
    cases n with
    | zero =>
      refine (State.storeFrom_other (l := (List.range' (m + 1) cs.length).zip cs) fun x hx => ?_).trans ?_
      · have hrange := List.of_mem_zip hx |>.1
        simp only [List.mem_range'_1] at hrange
        omega
      · rw [State.storeChunk_lookup]
        simp
    | succ j =>
      have hj : j < cs.length := by simpa using hn
      have := ih (s := s.storeChunk (k + m) c) (m := m + 1) hj
      rw [show m + 1 + j = m + (j + 1) by omega] at this
      exact this

theorem State.storeFrom_keeps {l : List (Nat × BitVec 2048)} : (s.storeFrom k l).objs = s.objs ∧
    (s.storeFrom k l).boot.length = s.boot.length ∧ (s.storeFrom k l).lanes = s.lanes := by
  induction l generalizing s with
  | nil => exact ⟨rfl, rfl, rfl⟩
  | cons x xs ih => exact ih (s := s.storeChunk (k + x.1) x.2)

theorem State.reportChunks_reads (hok : Words.ok s.objs) :
    s.reportChunks.get BT_STATUS_STATE = s.get BT_STATUS_STATE := by
  simp only [State.reportChunks, State.get_objs, State.set_objs]
  simp (disch := (constructor; (repeat refine Words.wr_ok ?_); exact hok; decide)) only [Words.rd_wr_apart]

/-! The image check (R272). -/

theorem imageResult_le {img : Bytes} : imageResult img len ≤ 9 := by
  simp only [imageResult]
  split_ifs <;> omega

theorem imageResult_pos {img : Bytes} : 1 ≤ imageResult img len := by
  simp only [imageResult]
  split_ifs <;> omega

/-- A record of the firmware writes the log's fields alone. -/
theorem State.firmwareRecord_writes : State.Writes postFields s (s.firmwareRecord n m a b) := State.post_writes

theorem State.firmwareRecord_keeps : (s.firmwareRecord n m a b).boot = s.boot ∧
    (s.firmwareRecord n m a b).lanes = s.lanes := by
  unfold State.firmwareRecord
  rw [State.post_keeps]
  exact ⟨rfl, rfl⟩

theorem State.checkFailed_reads (hok : Words.ok s.objs) (hr : r < 16) (hst : st < 16) :
    (s.checkFailed n m r st).get BT_STATUS_RESULT = r ∧ (s.checkFailed n m r st).get BT_STATUS_STATE = st := by
  unfold State.checkFailed
  extract_lets t
  have ht : Words.ok t.objs := Words.wr_ok (Words.wr_ok (Words.wr_ok hok))
  have hresult : t.get BT_STATUS_RESULT = r % 16 ∧ t.get BT_STATUS_STATE = st % 16 := by
    simp only [t, State.get_objs, State.set_objs, State.bump_objs]
    simp (disch := (constructor; (repeat refine Words.wr_ok ?_); exact hok; decide)) only
      [Words.rd_wr_apart, Words.rd_wr_eq]
    exact ⟨rfl, rfl⟩
  refine ⟨(State.firmwareRecord_writes.rd ht (by decide)).trans ?_, (State.firmwareRecord_writes.rd ht (by decide)).trans ?_⟩
  · exact hresult.1.trans (Nat.mod_eq_of_lt hr)
  · exact hresult.2.trans (Nat.mod_eq_of_lt hst)

theorem State.checkFailed_keeps : (s.checkFailed n m r st).boot = s.boot ∧ (s.checkFailed n m r st).lanes = s.lanes := by
  unfold State.checkFailed
  extract_lets t
  exact State.firmwareRecord_keeps

/-- The image's interface version, once its check has passed. -/
def State.imageTaken (s : State) (fwIf : Nat) : State := { s with boot := { s.boot with fwIf := BitVec.ofNat 32 fwIf } }

/-- What a passed check writes. -/
def State.imageReady (s : State) (svn : Nat) : State :=
  ((s.set BT_STATUS_RESULT 1).set BT_STATUS_STATE 3).set BT_IMAGE_SVN_SVN svn

/-- A passed check: its result, the image's versions and the record. -/
def State.checkPassed (s : State) (fwIf svn : Nat) : State :=
  ((s.imageTaken fwIf).imageReady svn).firmwareRecord fwIf svn 0 1

theorem State.imageReady_reads (hok : Words.ok s.objs) : (s.imageReady m).ok ∧
    (s.imageReady m).get BT_STATUS_RESULT = 1 ∧ (s.imageReady m).get BT_STATUS_STATE = 3 := by
  refine ⟨Words.wr_ok (Words.wr_ok (Words.wr_ok hok)), ?_⟩
  simp only [State.imageReady, State.get_objs, State.set_objs]
  simp (disch := (constructor; (repeat refine Words.wr_ok ?_); exact hok; decide)) only
    [Words.rd_wr_apart, Words.rd_wr_eq]
  exact ⟨rfl, rfl⟩

theorem State.checkPassed_reads (hok : s.ok) :
    (s.checkPassed n m).get BT_STATUS_RESULT = 1 ∧ (s.checkPassed n m).get BT_STATUS_STATE = 3 := by
  obtain ⟨hready, hresult, hstate⟩ := State.imageReady_reads (s := s.imageTaken n) (m := m) hok
  exact ⟨(State.firmwareRecord_writes.rd hready (by decide)).trans hresult,
    (State.firmwareRecord_writes.rd hready (by decide)).trans hstate⟩

theorem State.checkPassed_keeps : (s.checkPassed n m).boot.fwIf = BitVec.ofNat 32 n ∧
    (s.checkPassed n m).lanes = s.lanes := by
  obtain ⟨hboot, hlanes⟩ := State.firmwareRecord_keeps (s := (s.imageTaken n).imageReady m) (n := n) (m := m) (a := 0) (b := 1)
  exact ⟨congrArg BootSt.fwIf hboot, hlanes⟩

/-- The state of a check whose time is written, before its result. -/
def State.checkTimed (s : State) (w x : Nat) : State := ({ s with fresh := x } : State).set BT_CHECK_TIME_US w

theorem State.checkDone_complete (hstate : s.get BT_STATUS_STATE = 2) (hall : s.firstMissing = none)
    (hr : r = imageResult s.imageBytes s.boot.length) : ∃ w x, s.checkDone =
      if r = 1 then (s.checkTimed w x).checkPassed (field s.imageBytes 12 4) (field s.imageBytes 20 4)
      else (s.checkTimed w x).checkFailed (field s.imageBytes 12 4) (field s.imageBytes 20 4) r 4 := by
  simp only [State.checkDone, hstate, hall, ← hr]
  by_cases hlong : r = 1 ∨ r = 9
  · rw [if_pos hlong]
    exact ⟨s.checkTime (field s.imageBytes 8 4), s.fresh, rfl⟩
  · rw [if_neg hlong]
    exact ⟨_, _, rfl⟩

/-- The header fields of an image that is not complete take free values at most. -/
theorem State.headerFields_eq : ∃ n m x, s.headerFields = (n, m, { s with fresh := x }) := by
  unfold State.headerFields
  split
  · exact ⟨_, _, s.fresh, rfl⟩
  · exact ⟨_, _, _, rfl⟩

theorem State.checkDone_missing (hstate : s.get BT_STATUS_STATE = 2) (hsome : s.firstMissing.isSome = true) :
    ∃ w x n m, s.checkDone = (s.checkTimed w x).checkFailed n m 2 1 := by
  obtain ⟨n, m, x, hheader⟩ := State.headerFields_eq (s := s)
  simp only [State.checkDone, hstate, hsome, hheader, ne_eq, not_true_eq_false, if_false, if_true]
  exact ⟨_, _, _, _, rfl⟩

/-! Domains start (R276). -/

/-- A domain that is DOWN starts. -/
def State.startDown (s : State) (d : Nat) : State := if s.domState d = 0 then s.wr PW_DOMAIN_STATE d 1 else s

theorem State.startDown_ok (h : s.ok) : (s.startDown d).ok := by
  unfold State.startDown
  split
  · exact State.wr_ok h
  · exact h

theorem State.startDown_domState (h : s.ok) : (s.startDown d).domState e =
    if e = d ∧ s.domState e = 0 then 1 else s.domState e := by
  by_cases hdown : s.domState d = 0
  · have hswitched : ¬(d = 0x21 ∨ d = 0x22) := fun hfix => by simp [State.domState, hfix] at hdown
    rw [State.startDown, if_pos hdown]
    by_cases hed : e = d
    · subst hed
      rw [if_pos ⟨rfl, hdown⟩, State.domState, if_neg hswitched]
      exact State.rd_wr_eq ⟨h, by decide⟩
    · have hread : (s.wr PW_DOMAIN_STATE d 1).rd PW_DOMAIN_STATE e = s.rd PW_DOMAIN_STATE e :=
        State.rd_wr_apart ⟨h, Field.apart_of_sub (by omega) rfl⟩
      rw [if_neg fun hx => hed hx.1, State.domState, hread, State.domState]
  · have hother : ¬(e = d ∧ s.domState e = 0) := fun hx => hdown (hx.1 ▸ hx.2)
    rw [State.startDown, if_neg hdown, if_neg hother]

/-- The image starts every domain that is DOWN. -/
def State.startAll (s : State) (l : List Nat) : State := State.eachIn l (fun d s => s.startDown d) s

theorem State.startAll_domState {l : List Nat} (h : s.ok) : (s.startAll l).domState e =
    if e ∈ l ∧ s.domState e = 0 then 1 else s.domState e := by
  induction l generalizing s with
  | nil => simp [State.startAll, State.eachIn]
  | cons d ds ih =>
    refine (ih (State.startDown_ok h)).trans ?_
    rw [State.startDown_domState h]
    by_cases hed : e = d
    · by_cases hdown : s.domState e = 0 <;> simp [hed, hed ▸ hdown]
    · simp [hed]

theorem State.startAll_keeps {l : List Nat} : ((s.startAll l).pow, (s.startAll l).lanes) = (s.pow, s.lanes) :=
  State.eachIn_kept (fun t => (t.pow, t.lanes)) fun k t => by
    unfold State.startDown
    split <;> rfl

theorem State.startAll_ok {l : List Nat} (h : s.ok) : (s.startAll l).ok := by
  induction l generalizing s with
  | nil => exact h
  | cons d ds ih => exact ih (State.startDown_ok h)

theorem State.domainStart_eq (hstate : s.get BT_STATUS_STATE = 5) (hrun : s.running 0x1C = true)
    (hsrc : s.on CK_STATUS_SRC = true) (hu : u = ({ s with boot := { s.boot with restart := false } } : State).startAll allDomains) :
    s.domainStart = if u.pow.wakes = [] then u.set BT_STATUS_DOMAINS_UP 1 else u := by
  subst hu
  exact if_pos (by simp [hstate, hrun, hsrc])

theorem State.domainStart_idle (h : s.get BT_STATUS_STATE ≠ 5 ∨ s.on CK_STATUS_SRC = false) : s.domainStart = s := by
  refine if_neg ?_
  rcases h with h | h <;> simp [h]

theorem State.domState_set_bt {F : Field} (hF : F.index = 0x1400) (hsub : F.sub = 0) (hd : d < 0x21) (h : s.ok) :
    (s.set F n).domState d = s.domState d := by
  have hpow : PW_DOMAIN_STATE.index = 0x6000 ∧ PW_DOMAIN_STATE.sub = 0 := ⟨rfl, rfl⟩
  have hread : (s.set F n).rd PW_DOMAIN_STATE d = s.rd PW_DOMAIN_STATE d :=
    State.rd_wr_apart ⟨h, Field.apart_of_index (by rw [hF]; decide) (by omega) (by omega)⟩
  simp only [State.domState, hread]

end Sys2Proof.Machine

namespace Sys2Proof

open Machine

/-- Settles O30: the order of the checks of R273, and one state for each command. -/
theorem downloadCommands : Obligations.DownloadCommands := by
  intro s w v hv hadm
  subst hv
  refine ⟨fun hmode => ⟨fun hcmd hstate => ⟨fun hlow hhigh => ?_, fun hlen => ?_⟩, fun hcmd hstate => ?_, fun hcmd hstate => ?_,
    fun hcmd hstate => ?_⟩, fun hcmd hstate => ?_, fun hcmd hstate => ?_, fun hcmd hstate hmode => ?_⟩
  · exact exec_accepted rfl hadm ((State.objectRule_1401 ..).trans (State.wBtCtrl_begin hcmd hstate hmode hlow hhigh)) rfl
  · exact exec_refused_uncounted rfl hadm ((State.objectRule_1401 ..).trans (State.wBtCtrl_range hcmd hstate hmode hlen)) rfl
      (by decide) (by decide)
  · exact exec_accepted rfl hadm ((State.objectRule_1401 ..).trans (State.wBtCtrl_end hcmd hstate hmode)) rfl
  · exact exec_accepted rfl hadm ((State.objectRule_1401 ..).trans (State.wBtCtrl_run hcmd hstate hmode)) rfl
  · exact exec_accepted rfl hadm ((State.objectRule_1401 ..).trans (State.wBtCtrl_abort hcmd hstate hmode)) rfl
  · have hrefused : bootAllowed 2 (s.get BT_STATUS_STATE) = false := by simp [bootAllowed, hstate]
    exact exec_refused_uncounted rfl hadm ((State.objectRule_1401 ..).trans
      (State.wBtCtrl_state (by rw [hcmd]; decide) (hcmd.symm ▸ hrefused))) rfl (by decide) (by decide)
  · have hrefused : bootAllowed 3 (s.get BT_STATUS_STATE) = false := by simp [bootAllowed, hstate]
    exact exec_refused_uncounted rfl hadm ((State.objectRule_1401 ..).trans
      (State.wBtCtrl_state (by rw [hcmd]; decide) (hcmd.symm ▸ hrefused))) rfl (by decide) (by decide)
  · have hallowed : bootAllowed 3 (s.get BT_STATUS_STATE) = true := by rw [hstate]; rfl
    exact exec_refused_uncounted rfl hadm ((State.objectRule_1401 ..).trans
      (State.wBtCtrl_mode (hcmd.symm ▸ hallowed) hmode)) rfl (by decide) (by decide)

/-- Settles O31: a frame's chunks are stored one after another, the check ends by its result, and DOWN domains start. -/
theorem imageAndDomains : Obligations.ImageAndDomains := by
  intro s q f hwf
  have hok : s.ok := (Good.of_wf hwf).objs
  refine ⟨fun hserves hformed hcast hactive hguard => ⟨fun hstate hsession halign hfits => ?_, fun hbad => ?_⟩,
    fun hrun hstate => ⟨fun hall => ?_, fun hsome => ?_⟩, fun hstate => ?_, fun hstate hrun hsrc => ?_, fun h => ?_⟩
  · have himage := State.image_stored hstate hsession halign hfits
    obtain ⟨hobjs, hlength, hlanes⟩ := State.storeFrom_keeps (s := s) (k := f.offset / 256)
      (l := (List.range f.chunks.length).zip f.chunks)
    refine ⟨_, (State.imageFrame_now hserves).trans (congrArg Host.Outcome.next
      ((State.imageFrame_judged hactive hguard hformed hcast himage).trans (if_neg (by decide)))), fun k hk => ?_,
      fun j hj => ?_, hlength, ?_, hlanes⟩
    · have hstored := State.storeFrom_stored (s := s) (k := f.offset / 256) (m := 0) hk
      rw [Nat.zero_add, ← List.range_eq_range'] at hstored
      exact hstored
    · refine State.storeFrom_other fun x hx => ?_
      have hrange := List.of_mem_zip hx |>.1
      rw [List.mem_range] at hrange
      omega
    · rw [State.reportChunks_reads (State.ok_of_objs hok hobjs), ← hstate]
      exact State.rd_congr hobjs ..
  · obtain ⟨st, himage, hst⟩ := State.image_refused hbad
    exact (State.imageFrame_now hserves).trans (congrArg Host.Outcome.next
      ((State.imageFrame_judged hactive hguard hformed hcast himage).trans (if_pos hst)))
  · obtain ⟨w, x, hdone⟩ := State.checkDone_complete hstate hall rfl
    have htimed : Words.ok (s.checkTimed w x).objs := Words.wr_ok hok
    have hboot : (s.checkTimed w x).boot = s.boot := rfl
    have hlanes : (s.checkTimed w x).lanes = s.lanes := rfl
    refine ⟨_, congrArg Host.Outcome.next (if_pos hrun), ?_⟩
    rw [hdone]
    generalize s.checkTimed w x = t at htimed hboot hlanes
    by_cases hpass : imageResult s.imageBytes s.boot.length = 1
    · obtain ⟨hresult, hready⟩ := State.checkPassed_reads (n := field s.imageBytes 12 4) (m := field s.imageBytes 20 4) htimed
      obtain ⟨hfw, hsame⟩ := State.checkPassed_keeps (s := t) (n := field s.imageBytes 12 4) (m := field s.imageBytes 20 4)
      simp only [hpass, if_true]
      exact ⟨hresult, hready, hfw, hsame.trans hlanes⟩
    · have hlt := imageResult_le (img := s.imageBytes) (len := s.boot.length)
      obtain ⟨hresult, hfailed⟩ := State.checkFailed_reads (n := field s.imageBytes 12 4) (m := field s.imageBytes 20 4)
        htimed (r := imageResult s.imageBytes s.boot.length) (st := 4) (by omega) (by decide)
      obtain ⟨hfw, hsame⟩ := State.checkFailed_keeps (s := t) (n := field s.imageBytes 12 4) (m := field s.imageBytes 20 4)
        (r := imageResult s.imageBytes s.boot.length) (st := 4)
      simp only [hpass, if_false]
      exact ⟨hresult, hfailed, (congrArg BootSt.fwIf (hfw.trans hboot)), hsame.trans hlanes⟩
  · obtain ⟨w, x, n, m, hdone⟩ := State.checkDone_missing hstate hsome
    have htimed : Words.ok (s.checkTimed w x).objs := Words.wr_ok hok
    have hboot : (s.checkTimed w x).boot = s.boot := rfl
    have hlanes : (s.checkTimed w x).lanes = s.lanes := rfl
    refine ⟨_, congrArg Host.Outcome.next (if_pos hrun), ?_⟩
    rw [hdone]
    generalize s.checkTimed w x = t at htimed hboot hlanes
    obtain ⟨hresult, hfailed⟩ := State.checkFailed_reads (n := n) (m := m) htimed (r := 2) (st := 1) (by decide) (by decide)
    obtain ⟨hkept, hsame⟩ := State.checkFailed_keeps (s := t) (n := n) (m := m) (r := 2) (st := 1)
    exact ⟨hfailed, hresult, hkept.trans hboot, hsame.trans hlanes⟩
  · have hidle : s.checkDone = s := if_pos hstate
    exact congrArg Host.Outcome.next (by rw [hidle, ite_self])
  · obtain ⟨u, hu⟩ : ∃ u, u = ({ s with boot := { s.boot with restart := false } } : State).startAll allDomains := ⟨_, rfl⟩
    have hrestart : ({ s with boot := { s.boot with restart := false } } : State).ok := hok
    have hdom : ∀ d < 0x21, u.domState d = if s.domState d = 0 then 1 else s.domState d := fun d hd => by
      rw [hu, State.startAll_domState hrestart]
      have hmem : d ∈ allDomains := List.mem_range.mpr hd
      simp only [hmem, true_and]
      rfl
    obtain ⟨hpow, hlanes⟩ := Prod.mk.inj (State.startAll_keeps (s := { s with boot := { s.boot with restart := false } })
      (l := allDomains))
    have huok : u.ok := hu ▸ State.startAll_ok hrestart
    rw [← hu] at hpow hlanes
    have heq := State.domainStart_eq hstate hrun hsrc hu
    clear hu
    refine ⟨_, rfl, ?_⟩
    rw [heq]
    by_cases hwakes : u.pow.wakes = []
    · rw [if_pos hwakes]
      refine ⟨fun _ => State.on_iff.mpr (State.rd_wr_eq ⟨huok, by decide⟩), fun d hd => ?_, hlanes⟩
      rw [State.domState_set_bt rfl rfl hd huok, hdom d hd]
    · rw [if_neg hwakes]
      exact ⟨fun h => absurd (congrArg PowSt.wakes hpow ▸ h) hwakes, hdom, hlanes⟩
  · exact congrArg Host.Outcome.next (State.domainStart_idle h)

end Sys2Proof
end

section
/-! SUPPORT. Mode requests, mode changes and the steps of DORMANT entry and exit (chapter 11). -/

namespace Sys2Proof.Machine


variable {s t u : State} {cs : List Instr} {v : Word} {n m k d e req st new cause result : Nat}

/-! MD_REQUEST (R277, R281). -/

/-- The state on which an accepted request stands: one not yet in effect counts as refused. -/
def State.askedAgain (s : State) : State := if s.modeAsked then s.bump MD_REFUSED_COUNT else s

theorem State.askMode_eq {x : Option (Nat × Nat × Nat)} : s.askMode req x =
    (stOk, { s.askedAgain.set MD_REQUEST_REQ req with mode := { s.mode with next := x } }) := by
  have hmode : s.askedAgain.mode = s.mode := by
    unfold State.askedAgain
    split <;> rfl
  exact congrArg (Prod.mk stOk) (congrArg (fun y : ModeSt =>
    ({ s.askedAgain.set MD_REQUEST_REQ req with mode := { y with next := x } } : State)) hmode)

theorem State.wMdRequest_entering (h : s.on MD_MODE_ENTERING = true) : s.wMdRequest v = s.refuseMode stState := by
  simp [State.wMdRequest, h]

theorem State.wMdRequest_service (h : s.on MD_MODE_ENTERING = false) (hreq : v.bits 3 0 = 2) : s.wMdRequest v =
    if s.modeNow = modeService then s.askMode 2 none
    else if s.modeNow ≠ modeBoot then s.refuseMode stMode
    else if !s.serviceOk then s.refuseMode stState
    else s.askMode 2 (some (modeService, 1, s.frame.ticks + 1)) := by
  simp [State.wMdRequest, h, hreq]

theorem State.wMdRequest_dormant (h : s.on MD_MODE_ENTERING = false) (hreq : v.bits 3 0 = 4) : s.wMdRequest v =
    if s.modeNow ≠ modeService then s.refuseMode stMode
    else if !s.dormantOk then s.refuseMode stState
    else s.askMode 4 (some (modeDormant, 6, s.frame.ticks + 1)) := by
  simp [State.wMdRequest, h, hreq]

/-! A change of mode. -/

/-- The words of a mode change before its record. -/
def State.modeSet (s : State) (new cause : Nat) : State :=
  (((s.set MD_MODE_PRIOR s.modeNow).set MD_MODE_MODE new).set MD_MODE_CAUSE cause).bump MD_CHANGES_COUNT

theorem State.setMode_eq : s.setMode new cause =
    (s.modeSet new cause).post 0x30 0 (payloadOf [(new, 56), (s.modeNow, 48), (cause, 40)]) := rfl

theorem State.modeSet_reads (hok : Words.ok s.objs) (hnew : new < 16) (hcause : cause < 16) :
    (s.modeSet new cause).modeNow = new ∧ (s.modeSet new cause).get MD_MODE_PRIOR = s.modeNow ∧
      (s.modeSet new cause).get MD_MODE_CAUSE = cause ∧
      (s.modeSet new cause).get MD_CHANGES_COUNT = satAdd 32 (s.get MD_CHANGES_COUNT) 1 := by
  simp only [State.modeSet, State.modeNow, State.get_objs, State.set_objs, State.bump_objs]
  simp (disch := (constructor; (repeat refine Words.wr_ok ?_); exact hok; decide)) only
    [Words.rd_wr_apart, Words.rd_wr_eq]
  exact ⟨Nat.mod_eq_of_lt hnew, Nat.mod_eq_of_lt (Words.rd_lt ..), Nat.mod_eq_of_lt hcause, Nat.mod_eq_of_lt satAdd_lt⟩

theorem State.modeSet_ok (h : s.ok) : (s.modeSet new cause).ok :=
  State.wr_ok (State.wr_ok (State.wr_ok (State.wr_ok h)))

theorem State.setMode_reads (hok : s.ok) (hnew : new < 16) (hcause : cause < 16) :
    (s.setMode new cause).modeNow = new ∧ (s.setMode new cause).get MD_MODE_PRIOR = s.modeNow ∧
      (s.setMode new cause).get MD_MODE_CAUSE = cause ∧
      (s.setMode new cause).get MD_CHANGES_COUNT = satAdd 32 (s.get MD_CHANGES_COUNT) 1 := by
  obtain ⟨hmode, hprior, hwhy, hcount⟩ := State.modeSet_reads hok hnew hcause
  have hset := State.modeSet_ok (new := new) (cause := cause) hok
  exact ⟨(State.post_writes.rd hset (by decide)).trans hmode, (State.post_writes.rd hset (by decide)).trans hprior,
    (State.post_writes.rd hset (by decide)).trans hwhy, (State.post_writes.rd hset (by decide)).trans hcount⟩

theorem State.setMode_keeps :
    s.setMode new cause = { s with objs := (s.setMode new cause).objs, ev := (s.setMode new cause).ev } := by
  rw [State.setMode_eq, State.post_keeps]
  rfl

theorem State.setMode_ok (h : s.ok) : (s.setMode new cause).ok := (State.setMode_writes h).1

/-! DORMANT entry begins (Table 11-8 step 1). -/

/-- What the end of commits, of a pending request and of the open block write. -/
def dormantFields : List (Field × Nat) :=
  [(CM_ARMED_STATE, 0), (CM_ARMED_RESULT, 0), (CM_MISSED_COUNT, 0), (SR_STATUS_STATE, 0), (SR_STATUS_BASIS_CHANGED, 0),
    (PW_STATUS_RESULT, 0), (PW_STATUS_PENDING, 0), (PW_COUNTS_COUNT, 4), (EV_STATUS_FILLING, 0)] ++ postFields

theorem State.commitRecord_writes {source time changed gates src flags : Nat} {x : Tally} :
    State.Writes postFields s (s.commitRecord source time x changed gates src flags) := State.postRec_writes

theorem State.endShadow_writes : State.Writes dormantFields s (s.endShadow result) := by
  unfold State.endShadow
  extract_lets t
  have ht : State.Writes dormantFields s t := .set (by decide) (.set (by decide) .refl)
  exact ht.beside rfl

theorem State.missShadow_writes : State.Writes dormantFields s (s.missShadow result) := by
  unfold State.missShadow
  split
  · exact .refl
  · extract_lets t
    have ht : State.Writes dormantFields s t := State.endShadow_writes.bump (by decide)
    exact ht.trans (State.commitRecord_writes.mono (by decide))

theorem State.endRing_writes : State.Writes dormantFields s s.endRing := by
  unfold State.endRing
  extract_lets t
  have ht : State.Writes dormantFields s t := .set (by decide) (.set (by decide) .refl)
  exact ht.beside rfl

/-- A pending power request is superseded. -/
def State.dropPend (s : State) : State :=
  if s.pow.pend.isSome then
    let s := ((s.set PW_STATUS_RESULT 4).set PW_STATUS_PENDING 0).bumpAt PW_COUNTS_COUNT 4
    ({ s with pow := { s.pow with pend := none } } : State)
  else s

theorem State.dropPend_writes : State.Writes dormantFields s s.dropPend := by
  unfold State.dropPend
  split
  · extract_lets t
    have ht : State.Writes dormantFields s t := .bumpAt (by decide) (.set (by decide) (.set (by decide) .refl))
    exact ht.beside rfl
  · exact .refl

theorem State.dropPend_pend : s.dropPend.pow.pend = none := by
  unfold State.dropPend
  split
  · rfl
  · next h => simpa using h

theorem State.sealNow_writes : State.Writes dormantFields s s.sealNow := by
  unfold State.sealNow
  exact .ite (.set (by decide) .refl) .refl

/-- The entry's first step, from the mode set to the commits ended. -/
def State.commitsDisarmed (s : State) : State := ((s.setMode modeDormant 6).set MD_MODE_ENTERING 1 |>.missShadow 3).endRing

/-- DORMANT entry counts its first step. -/
def State.entryBegun (s : State) : State := { s with mode := { s.mode with entry := 1, wake := false } }

theorem State.beginDormant_eq : s.beginDormant = s.commitsDisarmed.dropPend.entryBegun.sealNow := rfl

theorem State.beginDormant_reads (hok : s.ok) :
    s.beginDormant.modeNow = modeDormant ∧ s.beginDormant.on MD_MODE_ENTERING = true := by
  have hmode : (s.setMode modeDormant 6).modeNow = modeDormant := (State.setMode_reads hok (by decide) (by decide)).1
  have hset : (s.setMode modeDormant 6).ok := State.setMode_ok hok
  have hentered : ((s.setMode modeDormant 6).set MD_MODE_ENTERING 1).ok := State.wr_ok hset
  have hwrites : State.Writes dormantFields ((s.setMode modeDormant 6).set MD_MODE_ENTERING 1) s.beginDormant := by
    have hended := (State.missShadow_writes (s := (s.setMode modeDormant 6).set MD_MODE_ENTERING 1) (result := 3)).trans
      State.endRing_writes
    have hbegun : State.Writes dormantFields ((s.setMode modeDormant 6).set MD_MODE_ENTERING 1)
      s.commitsDisarmed.dropPend.entryBegun := (hended.trans State.dropPend_writes).beside rfl
    exact hbegun.trans State.sealNow_writes
  constructor
  · refine (hwrites.rd hentered (by decide)).trans ?_
    exact (State.rd_wr_apart ⟨hset, by decide⟩).trans hmode
  · refine State.on_iff.mpr ((hwrites.rd hentered (by decide)).trans ?_)
    exact State.rd_wr_eq ⟨hset, by decide⟩

theorem State.postRec_beside {r : Rec} {c : Option Nat} :
    ((s.postRec r c).lanes, (s.postRec r c).mode, (s.postRec r c).pow, (s.postRec r c).commit) =
      (s.lanes, s.mode, s.pow, s.commit) := by
  rw [State.postRec_keeps]

/-- A missed shadow commit ends, and changes nothing of the lanes, the mode and the power requests. -/
theorem State.missShadow_beside : (s.missShadow result).commit.shadow = none ∧
    ((s.missShadow result).lanes, (s.missShadow result).mode, (s.missShadow result).pow) = (s.lanes, s.mode, s.pow) := by
  unfold State.missShadow
  split
  · next h => exact ⟨h, rfl⟩
  · next a h =>
    extract_lets t
    have ht : (t.lanes, t.mode, t.pow, t.commit.shadow) = (s.lanes, s.mode, s.pow, none) := rfl
    clear_value t
    have hrec := State.postRec_beside (s := t) (r := { time := t.now, code := 0x10, source := t.get CM_MISSED_COUNT % 2 ^ 16, flags := t.flagsNow, payload := payloadOf [(({} : Tally).hopped, 51), (0, 38), (0, 29), (({} : Tally).notTaken, 16), (if a.trig then 1 else 0, 12), (32 + a.force.toNat, 0)] }) (c := none)
    simp only [Prod.mk.injEq] at ht hrec
    obtain ⟨hl, hm, hp, hc⟩ := hrec
    exact ⟨(congrArg CommitSt.shadow hc).trans ht.2.2.2, by
      simp only [Prod.mk.injEq]
      exact ⟨hl.trans ht.1, hm.trans ht.2.1, hp.trans ht.2.2.1⟩⟩

theorem State.dropPend_beside : (s.dropPend.lanes, s.dropPend.mode, s.dropPend.commit) = (s.lanes, s.mode, s.commit) := by
  unfold State.dropPend
  split <;> rfl

theorem State.sealNow_beside : (s.sealNow.lanes, s.sealNow.mode, s.sealNow.commit, s.sealNow.pow) =
    (s.lanes, s.mode, s.commit, s.pow) := by
  unfold State.sealNow
  split <;> rfl

theorem State.commitsDisarmed_beside : s.commitsDisarmed.commit.shadow = none ∧ s.commitsDisarmed.commit.ring = none ∧
    s.commitsDisarmed.lanes = s.lanes ∧ s.commitsDisarmed.mode = s.mode := by
  obtain ⟨u, hu⟩ : ∃ u, (s.setMode modeDormant 6).set MD_MODE_ENTERING 1 = u := ⟨_, rfl⟩
  have hkept : u.lanes = s.lanes ∧ u.mode = s.mode := by
    subst hu
    have hset := State.setMode_keeps (s := s) (new := modeDormant) (cause := 6)
    exact ⟨(congrArg State.lanes hset :), (congrArg State.mode hset :)⟩
  obtain ⟨hshadow, hbeside⟩ := State.missShadow_beside (s := u) (result := 3)
  simp only [Prod.mk.injEq] at hbeside
  unfold State.commitsDisarmed
  rw [hu]
  exact ⟨hshadow, rfl, hbeside.1.trans hkept.1, hbeside.2.1.trans hkept.2⟩

theorem State.beginDormant_beside : s.beginDormant.commit.shadow = none ∧ s.beginDormant.commit.ring = none ∧
    s.beginDormant.lanes = s.lanes ∧ s.beginDormant.pow.pend = none ∧ s.beginDormant.mode.entry = 1 ∧
    s.beginDormant.mode.next = s.mode.next := by
  obtain ⟨hshadow, hring, hlanes, hmode⟩ := State.commitsDisarmed_beside (s := s)
  have hpend := State.dropPend_pend (s := s.commitsDisarmed)
  have hdrop := State.dropPend_beside (s := s.commitsDisarmed)
  rw [State.beginDormant_eq]
  generalize s.commitsDisarmed = t at *
  have hseal := State.sealNow_beside (s := t.dropPend.entryBegun)
  generalize hx : t.dropPend = x at *
  simp only [Prod.mk.injEq] at hdrop hseal
  obtain ⟨hl, hm, hc, hp⟩ := hseal
  rw [hl, hm, hc, hp]
  refine ⟨?_, ?_, hdrop.1.trans hlanes, hpend, rfl, ?_⟩
  · exact (congrArg CommitSt.shadow hdrop.2.2).trans hshadow
  · exact (congrArg CommitSt.ring hdrop.2.2).trans hring
  · exact (congrArg ModeSt.next hdrop.2.1).trans (congrArg ModeSt.next hmode)

/-! Mode changes at their tick (R277). -/

/-- The change due is taken off. -/
def State.modeTaken (s : State) : State := { s with mode := { s.mode with next := none } }

theorem State.modeChange_due (h : s.mode.next = some (m, cause, k)) (hdue : k ≤ s.frame.ticks) : s.modeChange =
    if cause = 1 then
      (if s.modeTaken.modeNow = modeBoot && s.modeTaken.serviceOk then s.modeTaken.setMode modeService 1
       else s.modeTaken.bump MD_REFUSED_COUNT)
    else if cause = 6 then
      (if s.modeTaken.modeNow = modeService && s.modeTaken.dormantOk then s.modeTaken.beginDormant
       else s.modeTaken.bump MD_REFUSED_COUNT)
    else if cause = 5 then
      (if s.modeTaken.modeNow = modeHoldover && s.modeTaken.on TC_STATUS_LOCK then s.modeTaken.setMode modeService 5
       else s.modeTaken)
    else if cause = 3 then (if s.modeTaken.modeNow = modeSurvey then s.modeTaken.setMode modeService 3 else s.modeTaken)
    else if cause = 10 then
      (if s.modeTaken.modeNow = modeDormant then s.modeTaken.leaveEntry.setMode modeService 10 else s.modeTaken)
    else s.modeTaken := by
  simp only [State.modeChange, h, if_neg (Nat.not_lt.mpr hdue)]
  rfl

section

variable (hdue : k ≤ s.frame.ticks)
include hdue

theorem State.modeChange_service (h : s.mode.next = some (m, 1, k)) : s.modeChange =
    if s.modeTaken.modeNow = modeBoot && s.modeTaken.serviceOk then s.modeTaken.setMode modeService 1
    else s.modeTaken.bump MD_REFUSED_COUNT := State.modeChange_due h hdue

theorem State.modeChange_dormant (h : s.mode.next = some (m, 6, k)) : s.modeChange =
    if s.modeTaken.modeNow = modeService && s.modeTaken.dormantOk then s.modeTaken.beginDormant
    else s.modeTaken.bump MD_REFUSED_COUNT := State.modeChange_due h hdue

theorem State.modeChange_holdoverEnd (h : s.mode.next = some (m, 5, k)) : s.modeChange =
    if s.modeTaken.modeNow = modeHoldover && s.modeTaken.on TC_STATUS_LOCK then s.modeTaken.setMode modeService 5
    else s.modeTaken := State.modeChange_due h hdue

theorem State.modeChange_surveyEnd (h : s.mode.next = some (m, 3, k)) : s.modeChange =
    if s.modeTaken.modeNow = modeSurvey then s.modeTaken.setMode modeService 3 else s.modeTaken :=
  State.modeChange_due h hdue

theorem State.modeChange_entryLeft (h : s.mode.next = some (m, 10, k)) : s.modeChange =
    if s.modeTaken.modeNow = modeDormant then s.modeTaken.leaveEntry.setMode modeService 10 else s.modeTaken :=
  State.modeChange_due h hdue

end

theorem State.modeChange_none (h : s.mode.next = none) : s.modeChange = s := by
  simp only [State.modeChange, h]

theorem State.modeChange_early (h : s.mode.next = some (m, cause, k)) (hdue : s.frame.ticks < k) : s.modeChange = s := by
  simp only [State.modeChange, h, if_pos hdue]

theorem State.leaveEntry_entering (hok : s.ok) : s.leaveEntry.on MD_MODE_ENTERING = false :=
  State.on_false_iff.mpr (by
    have hread : (s.set MD_MODE_ENTERING 0).rd MD_MODE_ENTERING 0 = 0 := State.rd_wr_eq ⟨hok, by decide⟩
    exact fun h => absurd (hread.symm.trans h) (by decide))

/-- The entry left behind with a change of mode. -/
theorem State.leaveEntry_setMode (hok : s.ok) : (s.leaveEntry.setMode modeService 10).modeNow = modeService ∧
    (s.leaveEntry.setMode modeService 10).get MD_MODE_CAUSE = 10 ∧ (s.leaveEntry.setMode modeService 10).mode.entry = 0 ∧
    (s.leaveEntry.setMode modeService 10).on MD_MODE_ENTERING = false ∧
    (s.leaveEntry.setMode modeService 10).lanes = s.lanes := by
  have hentering := State.leaveEntry_entering hok
  have hleft : s.leaveEntry.ok := State.wr_ok (s := s) hok
  have hentry : s.leaveEntry.mode.entry = 0 ∧ s.leaveEntry.lanes = s.lanes := ⟨rfl, rfl⟩
  generalize s.leaveEntry = t at *
  obtain ⟨hmode, -, hcause, -⟩ := State.setMode_reads (s := t) (new := modeService) (cause := 10) hleft (by decide) (by decide)
  have hkeeps := State.setMode_keeps (s := t) (new := modeService) (cause := 10)
  refine ⟨hmode, hcause, (congrArg (·.mode.entry) hkeeps :).trans hentry.1, ?_,
    (congrArg State.lanes hkeeps).trans hentry.2⟩
  have hread : (t.setMode modeService 10).rd MD_MODE_ENTERING 0 = t.rd MD_MODE_ENTERING 0 :=
    State.setMode_writes.rd hleft (by decide)
  exact State.on_false_iff.mpr (hread ▸ State.on_false_iff.mp hentering)

/-! The clock stop of DORMANT (R278), and an exit that follows at once (R279). -/

/-- The state without the clocks, the time base, the port detectors, the free values and the dictionary. -/
def State.besideReady (s : State) : State := { s with objs := [], clocks := {}, fresh := 0, time := {}, pds := [] }

theorem State.set_besideReady {F : Field} : (s.set F n).besideReady = s.besideReady := rfl

theorem State.fallback_besideReady : s.fallback.besideReady = s.besideReady := rfl

theorem State.dsOff_besideReady : s.dsOff.besideReady = s.besideReady := rfl

theorem State.unsetTime_besideReady : s.unsetTime.besideReady = s.besideReady := rfl

theorem State.stopPorts_besideReady : s.stopPorts.besideReady = s.besideReady := rfl

theorem State.setDiv_besideReady : (s.setDiv n m).besideReady = s.besideReady := by
  unfold State.setDiv
  extract_lets u
  exact (State.set_besideReady.trans State.set_besideReady).trans (State.set_besideReady.trans State.set_besideReady)

theorem State.dropTrack_besideReady : s.dropTrack.besideReady = s.besideReady := by
  unfold State.dropTrack
  extract_lets t
  have ht : t.besideReady = s.besideReady := rfl
  clear_value t
  split
  · exact State.setDiv_besideReady.trans ht
  · exact ht

theorem State.clearReady_besideReady : s.clearReady.besideReady = s.besideReady := by
  unfold State.clearReady
  extract_lets +onlyGivenNames was u
  have hu : u.besideReady = s.besideReady := rfl
  clear_value u
  split
  next late v hv =>
  have hv' : v.besideReady = u.besideReady := by
    split at hv <;> cases hv <;> rfl
  extract_lets +onlyGivenNames switched
  have hsw : switched.besideReady = s.besideReady := by
    unfold switched
    split
    · exact (Eq.trans rfl hv').trans hu
    · exact hv'.trans hu
  clear_value switched
  extract_lets _ _ settled back
  have hback : back.besideReady = s.besideReady := by
    have hsettled : settled.besideReady = s.besideReady := Eq.trans rfl hsw
    unfold back
    split
    · exact State.fallback_besideReady.trans hsettled
    · exact hsettled
  clear_value back
  split
  · exact State.stopPorts_besideReady.trans (State.unsetTime_besideReady.trans (State.dsOff_besideReady.trans
      (State.dropTrack_besideReady.trans hback)))
  · exact hback

/-- The frame counter stops. -/
def State.counterStopped (s : State) : State := { s with frame := { s.frame with running := false } }

/-- The output dividers stop. -/
def State.stopDividers (s : State) : State := State.each 6 (fun k s => s.wr TC_OUTDIV_RUNNING k 0) s

/-- The DCO stops, its fine code stored. -/
def State.dcoStopped (s : State) : State :=
  ((s.set TC_DCO_FINE_s01 s.fine).stopDividers.set TC_STATUS_STATE 0).set TC_STATUS_LOCK 0

/-- The clocks are stopped, and the entry is over. -/
def State.clocksStopped (s : State) : State := s.counterStopped.dcoStopped.clearReady.set MD_MODE_ENTERING 0

/-- The device sleeps. -/
def State.sleeping (s : State) : State :=
  { s with mode := { s.mode with entry := 3, wake := false }, timing := { s.timing with phase := 0, commit := none } }

theorem State.clockStop_eq (hmode : s.modeNow = modeDormant) (hentering : s.on MD_MODE_ENTERING = true)
    (hentry : s.mode.entry = 2) :
    s.clockStop = if s.clocksStopped.mode.wake then s.clocksStopped.sleeping.beginExit else s.clocksStopped.sleeping :=
  if_pos (by simp [hmode, hentering, hentry])

theorem State.clockStop_idle (h : s.modeNow ≠ modeDormant ∨ s.mode.entry ≠ 2) : s.clockStop = s := by
  refine if_neg ?_
  rcases h with h | h <;> simp [h]

theorem State.clocksStopped_keeps : s.clocksStopped.frame.running = false ∧ s.clocksStopped.mode = s.mode := by
  have hstopped : s.counterStopped.dcoStopped.frame.running = false ∧ s.counterStopped.dcoStopped.mode = s.mode := ⟨rfl, rfl⟩
  have hready := State.clearReady_besideReady (s := s.counterStopped.dcoStopped)
  unfold State.clocksStopped
  generalize s.counterStopped.dcoStopped = t at *
  exact ⟨(congrArg (·.frame.running) hready :).trans hstopped.1, (congrArg State.mode hready :).trans hstopped.2⟩

/-- What the stop of the output dividers writes. -/
def outdivFields : List (Field × Nat) := (List.range 6).map fun k => (TC_OUTDIV_RUNNING, k)

theorem State.stopDividers_writes : State.Writes outdivFields s s.stopDividers :=
  State.Writes.foldl fun _ k hk => .wr (List.mem_map.mpr ⟨k, hk, rfl⟩) .refl

theorem State.dcoStopped_reads (hok : s.ok) : s.dcoStopped.ok ∧ s.dcoStopped.get TC_STATUS_STATE = 0 ∧
    s.dcoStopped.get TC_DCO_FINE_s01 = s.fine % 65536 := by
  have hfine : (s.set TC_DCO_FINE_s01 s.fine).get TC_DCO_FINE_s01 = s.fine % 65536 := State.rd_wr_eq ⟨hok, by decide⟩
  have hset : (s.set TC_DCO_FINE_s01 s.fine).ok := State.wr_ok hok
  have hdiv := (State.stopDividers_writes hset).1
  have hkept := (State.stopDividers_writes.rd (G := TC_DCO_FINE_s01) (e := 0) hset (by decide)).trans hfine
  unfold State.dcoStopped
  generalize (s.set TC_DCO_FINE_s01 s.fine).stopDividers = u at *
  refine ⟨State.wr_ok (State.wr_ok hdiv), ?_, ?_⟩
  · exact (State.rd_wr_apart ⟨State.wr_ok hdiv, by decide⟩).trans (State.rd_wr_eq ⟨hdiv, by decide⟩)
  · exact (State.rd_wr_apart ⟨State.wr_ok hdiv, by decide⟩).trans ((State.rd_wr_apart ⟨hdiv, by decide⟩).trans hkept)

theorem State.clocksStopped_reads (hok : s.ok) : s.clocksStopped.ok ∧ s.clocksStopped.on MD_MODE_ENTERING = false ∧
    s.clocksStopped.tc = 0 ∧ s.clocksStopped.on TC_STATUS_CLK_READY = false ∧
    s.clocksStopped.get TC_DCO_FINE_s01 = s.fine % 65536 := by
  obtain ⟨hstopped, hstate, hfine⟩ := State.dcoStopped_reads (s := s.counterStopped) hok
  unfold State.clocksStopped
  generalize s.counterStopped.dcoStopped = t at *
  have hoff := State.clearReady_off hstopped
  have hcleared : (t.set TC_STATUS_CLK_READY 0).ok := State.wr_ok hstopped
  have hready : t.clearReady.ok := (State.clearReady_writes hcleared).1
  have hread : ∀ F : Field, TC_STATUS_CLK_READY.apart 0 F 0 = true →
      unreadyFields.all (fun G => G.1.apart G.2 F 0) = true → t.clearReady.rd F 0 = t.rd F 0 := fun F h0 h1 =>
    (State.clearReady_writes.rd hcleared h1).trans (State.rd_wr_apart ⟨hstopped, h0⟩)
  have hstate' := (hread TC_STATUS_STATE (by decide) (by decide)).trans hstate
  have hfine' := (hread TC_DCO_FINE_s01 (by decide) (by decide)).trans hfine
  generalize t.clearReady = x at *
  have hend : (x.set MD_MODE_ENTERING 0).rd MD_MODE_ENTERING 0 = 0 := State.rd_wr_eq ⟨hready, by decide⟩
  have hother : (x.set MD_MODE_ENTERING 0).rd TC_STATUS_CLK_READY 0 = x.rd TC_STATUS_CLK_READY 0 :=
    State.rd_wr_apart ⟨hready, by decide⟩
  refine ⟨State.wr_ok hready, State.on_false_iff.mpr (by rw [hend]; decide), ?_, State.on_false_iff.mpr
    (hother ▸ State.on_false_iff.mp hoff), ?_⟩
  · exact (State.rd_wr_apart ⟨hready, by decide⟩).trans hstate'
  · exact (State.rd_wr_apart ⟨hready, by decide⟩).trans hfine'

theorem State.clocksStopped_good (hg : Good cs s) : Good cs s.clocksStopped := by
  have hcounter : Good cs s.counterStopped := { hg with }
  have hdiv : Good cs (s.counterStopped.set TC_DCO_FINE_s01 s.counterStopped.fine).stopDividers :=
    State.each_good (State.set_good hcounter) fun _ _ h => State.wr_good h
  exact State.set_good (State.clearReady_good (State.set_good (State.set_good hdiv)))

theorem State.sleeping_good (hg : Good cs s) : Good cs s.sleeping := { hg with }

/-- The state without the power requests and the dictionary. -/
def State.besidePower (s : State) : State := { s with objs := [], pow := {} }

/-- The power requests and the page of the domains aside, two states agree. -/
abbrev State.KeepsPower : State → State → Prop := State.Keeps State.besidePower [0x60]

theorem besidePower_words : WordFree State.besidePower := fun _ _ => rfl

theorem State.demanded_keepsPower (hd : d < 256) : s.KeepsPower (s.demanded d cause n) := by
  have hpage : ∀ F : Field, F.index / 256 = 0x60 → F.sub = 0 → F.page d ∈ [0x60] := fun F hF hs => by
    simp only [Field.page, objKey, hs, List.mem_singleton]
    omega
  unfold State.demanded
  refine .ite .refl (.bumpAt besidePower_words (by decide) (.wr besidePower_words (hpage _ rfl rfl)
    (.wr besidePower_words (hpage _ rfl rfl) .refl)))

theorem State.beginWake_keepsPower {target client : Nat} (hd : d < 256) :
    s.KeepsPower (s.beginWake d target cause client) := by
  have hpage : PW_DOMAIN_TRANSIT.page d ∈ [0x60] := by
    have hsub : PW_DOMAIN_TRANSIT.index = 0x6000 ∧ PW_DOMAIN_TRANSIT.sub = 0 := ⟨rfl, rfl⟩
    simp only [Field.page, objKey, hsub, List.mem_singleton]
    omega
  unfold State.beginWake
  extract_lets +onlyGivenNames was transit
  have htransit : s.KeepsPower transit := .wr besidePower_words hpage .refl
  clear_value transit
  split
  · exact (htransit.beside (u := { transit with pow := _ }) rfl rfl).trans (State.demanded_keepsPower hd)
  · split
    · exact (State.Keeps.refl.beside (u := { s with pow := _ }) rfl rfl).trans (State.demanded_keepsPower hd)
    · exact .refl

/-- The domains in NEAP leave it. -/
def State.wakeNeap (s : State) : State :=
  State.eachIn allDomains (fun d s => if s.domState d = 3 then s.beginWake d 1 2 0xFF else s) s

theorem State.wakeNeap_keepsPower : s.KeepsPower s.wakeNeap :=
  .foldl fun t d hd => .ite (State.beginWake_keepsPower (Nat.lt_trans (List.mem_range.mp hd) (by decide))) .refl

/-- The search runs from the stored band. -/
def State.exitBegun (s : State) : State :=
  { s with boot := { s.boot with waking := true }, timing := { s.timing with fromStored := true, phase := 0 }, mode := { s.mode with entry := 0, wake := false } }

theorem State.beginExit_eq : s.beginExit = (s.exitBegun.set TC_STATUS_STATE 1).startSearch.wakeNeap := rfl

theorem State.startSearch_writes : State.Writes [(TC_STATUS_STATE, 0), (TC_STATUS_BW, 0)] s s.startSearch :=
  .ite State.enterPhase_writes .refl

theorem State.startSearch_keeps : s.startSearch.frame = s.frame ∧ s.startSearch.mode = s.mode ∧
    s.startSearch.boot = s.boot := by
  unfold State.startSearch
  split
  · simp [State.enterPhase]
  · exact ⟨rfl, rfl, rfl⟩

theorem State.beginExit_keeps : s.beginExit.frame = s.frame ∧ s.beginExit.mode.entry = 0 ∧ s.beginExit.boot.waking = true := by
  have hbegun : s.exitBegun.frame = s.frame ∧ s.exitBegun.mode.entry = 0 ∧ s.exitBegun.boot.waking = true := ⟨rfl, rfl, rfl⟩
  rw [State.beginExit_eq]
  generalize s.exitBegun = t at *
  have hsearch := State.startSearch_keeps (s := t.set TC_STATUS_STATE 1)
  generalize (t.set TC_STATUS_STATE 1).startSearch = x at *
  have hwake := (State.wakeNeap_keepsPower (s := x)).1
  exact ⟨(congrArg State.frame hwake :).trans (hsearch.1.trans hbegun.1),
    (congrArg (·.mode.entry) hwake :).trans ((congrArg ModeSt.entry hsearch.2.1).trans hbegun.2.1),
    (congrArg (·.boot.waking) hwake :).trans ((congrArg BootSt.waking hsearch.2.2).trans hbegun.2.2)⟩

theorem State.beginExit_rd {F : Field} (hg : Good cs s) (hpage : [0x60].contains (F.page 0) = false)
    (h1 : TC_STATUS_STATE.apart 0 F 0 = true)
    (h2 : [(TC_STATUS_STATE, 0), (TC_STATUS_BW, 0)].all (fun G => G.1.apart G.2 F 0) = true) :
    s.beginExit.rd F 0 = s.rd F 0 := by
  have hend : s.beginExit.ok := (State.beginExit_good hg).objs
  have hok : s.exitBegun.ok := hg.objs
  have hsame : s.exitBegun.rd F 0 = s.rd F 0 := rfl
  rw [State.beginExit_eq] at hend ⊢
  generalize s.exitBegun = t at *
  have hset : (t.set TC_STATUS_STATE 1).ok := State.wr_ok hok
  have hsearch : (t.set TC_STATUS_STATE 1).startSearch.ok := (State.startSearch_writes hset).1
  exact (State.wakeNeap_keepsPower.rd hsearch hend hpage).trans ((State.startSearch_writes.rd hset h2).trans
    ((State.rd_wr_apart ⟨hok, h1⟩).trans hsame))

end Sys2Proof.Machine

namespace Sys2Proof

open Machine

/-- Settles O32: the checks of R277 in order; each change of mode by its cause; the entry's steps leave the mode's own
words, and an exit that follows at once leaves ENTERING and CLK_READY. -/
theorem modes : Obligations.Modes := by
  refine ⟨fun s u w n hadm hn hu => ?_, fun s m due hwf => ?_⟩
  · subst hn
    have hrule := fun x => (State.objectRule_1801 s .clean w.q.port 0 x)
    have hasked : u = s.askedAgain := hu
    subst hasked
    refine ⟨fun hent => ⟨fun hreq hboot hok => ?_, fun hreq hserv => ?_, fun hreq hboot hbad => ?_,
      fun hreq hboot hserv => ?_, fun hreq hserv hok => ?_, fun hreq hserv hbad => ?_, fun hreq hserv => ?_⟩, fun hent => ⟨?_, ?_⟩⟩
    · exact exec_accepted rfl hadm ((hrule _).trans ((State.wMdRequest_service hent hreq).trans (by
        simp only [hboot, hok, State.askMode_eq]; rfl))) rfl
    · exact exec_accepted rfl hadm ((hrule _).trans ((State.wMdRequest_service hent hreq).trans (by
        simp only [hserv, State.askMode_eq]; rfl))) rfl
    · exact exec_refused_uncounted rfl hadm ((hrule _).trans ((State.wMdRequest_service hent hreq).trans (by
        simp only [hboot, hbad]; rfl))) rfl (by decide) (by decide)
    · exact exec_refused_uncounted rfl hadm ((hrule _).trans ((State.wMdRequest_service hent hreq).trans (by
        rw [if_neg hserv, if_pos hboot]; rfl))) rfl (by decide) (by decide)
    · exact exec_accepted rfl hadm ((hrule _).trans ((State.wMdRequest_dormant hent hreq).trans (by
        simp only [hserv, hok, State.askMode_eq]; rfl))) rfl
    · exact exec_refused_uncounted rfl hadm ((hrule _).trans ((State.wMdRequest_dormant hent hreq).trans (by
        simp only [hserv, hbad]; rfl))) rfl (by decide) (by decide)
    · exact exec_refused_uncounted rfl hadm ((hrule _).trans ((State.wMdRequest_dormant hent hreq).trans (by
        rw [if_pos hserv]; rfl))) rfl (by decide) (by decide)
    · exact exec_refused_uncounted rfl hadm ((hrule _).trans (State.wMdRequest_entering hent)) rfl (by decide) (by decide)
    · exact exec_refused_uncounted rfl hadm ((hrule _).trans (State.wMdRequest_entering hent)) rfl (by decide) (by decide)
  · have hg := Good.of_wf hwf
    have hok : s.ok := hg.objs
    have htaken : s.modeTaken.ok := hok
    have hmode : s.modeTaken.modeNow = s.modeNow := rfl
    have hservice : s.modeTaken.serviceOk = s.serviceOk := rfl
    have hdormant : s.modeTaken.dormantOk = s.dormantOk := rfl
    have hlock : s.modeTaken.on TC_STATUS_LOCK = s.on TC_STATUS_LOCK := rfl
    have hcount : s.modeTaken.get MD_CHANGES_COUNT = s.get MD_CHANGES_COUNT := rfl
    have hnext : s.modeTaken.mode.next = none := rfl
    have hlanes : s.modeTaken.lanes = s.lanes := rfl
    have hset : ∀ cause, (s.modeTaken.setMode modeService cause).mode.next = none ∧
        (s.modeTaken.setMode modeService cause).lanes = s.lanes := fun cause => by
      have hkeeps := State.setMode_keeps (s := s.modeTaken) (new := modeService) (cause := cause)
      exact ⟨(congrArg (·.mode.next) hkeeps :), (congrArg State.lanes hkeeps :)⟩
    refine ⟨fun hdue => ⟨fun h hboot hserv => ?_, fun h hbad => ?_, fun h hserv hdorm => ?_, fun h hbad => ?_,
      fun h hhold hl => ?_, fun h hsurvey => ?_, fun h hdorm => ?_⟩, fun h => ?_, fun hdorm hent hentry => ⟨fun hwake => ?_,
      fun hwake => ?_⟩, fun h => congrArg Host.Outcome.next (State.clockStop_idle h)⟩
    · have hchange : s.modeChange = s.modeTaken.setMode modeService 1 :=
        (State.modeChange_service hdue h).trans (if_pos (by simp [hmode, hservice, hboot, hserv]))
      obtain ⟨hnew, hprior, hcause, hchanges⟩ := State.setMode_reads (s := s.modeTaken) (new := modeService) (cause := 1)
        htaken (by decide) (by decide)
      exact ⟨_, congrArg Host.Outcome.next hchange, hnew, hprior.trans (hmode.trans hboot), hcause, (hset 1).1, (hset 1).2,
        hchanges.trans (by rw [hcount])⟩
    · exact congrArg Host.Outcome.next ((State.modeChange_service hdue h).trans (if_neg (by
        rw [hmode, hservice]
        rcases hbad with hbad | hbad <;> simp [hbad])))
    · have hchange : s.modeChange = s.modeTaken.beginDormant :=
        (State.modeChange_dormant hdue h).trans (if_pos (by simp [hmode, hdormant, hserv, hdorm]))
      obtain ⟨hnew, hentering⟩ := State.beginDormant_reads htaken
      obtain ⟨hshadow, hring, hkept, hpend, hentry, hdone⟩ := State.beginDormant_beside (s := s.modeTaken)
      exact ⟨_, congrArg Host.Outcome.next hchange, hnew, hentering, hentry, hdone.trans hnext, hshadow, hring, hpend,
        hkept.trans hlanes⟩
    · exact congrArg Host.Outcome.next ((State.modeChange_dormant hdue h).trans (if_neg (by
        rw [hmode, hdormant]
        rcases hbad with hbad | hbad <;> simp [hbad])))
    · have hchange : s.modeChange = s.modeTaken.setMode modeService 5 :=
        (State.modeChange_holdoverEnd hdue h).trans (if_pos (by simp [hmode, hlock, hhold, hl]))
      obtain ⟨hnew, -, hcause, -⟩ := State.setMode_reads (s := s.modeTaken) (new := modeService) (cause := 5)
        htaken (by decide) (by decide)
      exact ⟨_, congrArg Host.Outcome.next hchange, hnew, hcause, hset 5⟩
    · have hchange : s.modeChange = s.modeTaken.setMode modeService 3 :=
        (State.modeChange_surveyEnd hdue h).trans (if_pos (hmode.trans hsurvey))
      obtain ⟨hnew, -, hcause, -⟩ := State.setMode_reads (s := s.modeTaken) (new := modeService) (cause := 3)
        htaken (by decide) (by decide)
      exact ⟨_, congrArg Host.Outcome.next hchange, hnew, hcause, (hset 3).2⟩
    · have hchange : s.modeChange = s.modeTaken.leaveEntry.setMode modeService 10 :=
        (State.modeChange_entryLeft hdue h).trans (if_pos (hmode.trans hdorm))
      obtain ⟨hnew, hcause, hentry, hentering, hkept⟩ := State.leaveEntry_setMode htaken
      exact ⟨_, congrArg Host.Outcome.next hchange, hnew, hcause, hentry, hentering, hkept.trans hlanes⟩
    · rcases h with h | ⟨h, hearly⟩
      · exact congrArg Host.Outcome.next (State.modeChange_none h)
      · exact congrArg Host.Outcome.next (State.modeChange_early h hearly)
    · obtain ⟨hstopped, hentering, htc, hready, hfine⟩ := State.clocksStopped_reads hok
      obtain ⟨hframe, hkept⟩ := State.clocksStopped_keeps (s := s)
      have hstop := State.clockStop_eq hdorm hent hentry
      generalize s.clocksStopped = t at *
      rw [hkept, hwake] at hstop
      exact ⟨_, congrArg Host.Outcome.next hstop, hframe, rfl, hentering, htc, hready, hfine⟩
    · obtain ⟨hstopped, hentering, -, hready, -⟩ := State.clocksStopped_reads hok
      obtain ⟨hframe, hkept⟩ := State.clocksStopped_keeps (s := s)
      have hstop := State.clockStop_eq hdorm hent hentry
      have hgood : Good s.pending s.clocksStopped := State.clocksStopped_good hg
      generalize s.clocksStopped = t at *
      rw [hkept, hwake] at hstop
      have hsleep : Good s.pending t.sleeping := State.sleeping_good hgood
      obtain ⟨hrun, hentry', hwaking⟩ := State.beginExit_keeps (s := t.sleeping)
      have hent' := State.beginExit_rd (F := MD_MODE_ENTERING) hsleep (by decide) (by decide) (by decide)
      have hready' := State.beginExit_rd (F := TC_STATUS_CLK_READY) hsleep (by decide) (by decide) (by decide)
      exact ⟨_, congrArg Host.Outcome.next hstop, (congrArg FrameSt.running hrun).trans hframe, hentry', hwaking,
        State.on_false_iff.mpr (hent' ▸ State.on_false_iff.mp hentering),
        State.on_false_iff.mpr (hready' ▸ State.on_false_iff.mp hready)⟩

end Sys2Proof
end

section
/-! SUPPORT. Power requests, wakes from sleep and domain resets (chapters 12 and 14). -/

namespace Sys2Proof.Machine


variable {s t u : State} {cs : List Instr} {v w : Word} {n m k d e i j port target cause client new up : Nat} {r : PowReq}

/-! PW_REQUEST (R287, R288). -/

theorem State.wPwReq_mode (hgo : v.bits 31 31 = 1) (h : s.modeNow = modeDormant) : s.wPwReq port v = (stMode, s) := by
  simp [State.wPwReq, hgo, h]

theorem State.wPwReq_state (hgo : v.bits 31 31 = 1) (hmode : s.modeNow ≠ modeDormant)
    (h : s.on MD_MODE_ENTERING = true ∨ s.namedDomains.any (fun d => s.domState d = 0) = true ∨
      s.namedDomains.contains (0x1D + port) = true) : s.wPwReq port v = (stState, s) := by
  unfold State.wPwReq
  dsimp only
  rw [if_neg (by rw [hgo]; decide), if_neg hmode, if_pos (by simpa only [Bool.or_eq_true, or_assoc] using h)]

section

variable (hgo : v.bits 31 31 = 1) (hmode : s.modeNow ≠ modeDormant) (hent : s.on MD_MODE_ENTERING = false)
  (hup : s.namedDomains.any (fun d => s.domState d = 0) = false) (hown : s.namedDomains.contains (0x1D + port) = false)
include hgo hmode hent hup hown

theorem State.wPwReq_range (h : s.namedDomains = [] ∨ s.namedDomains.all (accepts (v.bits 1 0)) = false) :
    s.wPwReq port v = (stRange, s) := by
  unfold State.wPwReq
  dsimp only
  rw [if_neg (by rw [hgo]; decide), if_neg hmode, if_neg (by rw [hent, hup, hown]; decide),
    if_pos (by simpa using h)]

theorem State.wPwReq_queues (hsome : s.namedDomains ≠ []) (hall : s.namedDomains.all (accepts (v.bits 1 0)) = true) :
    s.wPwReq port v = (stOk, s.queuePower ⟨s.namedDomains, v.bits 1 0, s.frame.ticks + 1, false⟩) := by
  unfold State.wPwReq
  dsimp only
  rw [if_neg (by rw [hgo]; decide), if_neg hmode, if_neg (by rw [hent, hup, hown]; decide),
    if_neg (by simpa [hall] using hsome)]

end

theorem State.queuePower_runs (hrun : s.pow.run = none) (hpend : s.pow.pend = none) :
    s.queuePower r = { s.set PW_STATUS_BUSY 1 with pow := { s.pow with run := some r } } := by
  simp [State.queuePower, hrun, hpend]

theorem State.queuePower_pends (hrun : s.pow.run.isSome = true) (hpend : s.pow.pend = none) :
    s.queuePower r = { s.set PW_STATUS_PENDING 1 with pow := { s.pow with pend := some r } } := by
  obtain ⟨x, hx⟩ := Option.isSome_iff_exists.mp hrun
  simp [State.queuePower, hx, hpend]

theorem State.queuePower_supersedes {x : PowReq} (hpend : s.pow.pend = some x) : s.queuePower r =
    { (((s.set PW_STATUS_RESULT 4).bumpAt PW_COUNTS_COUNT 4).set PW_STATUS_PENDING 1) with
      pow := { s.pow with pend := some r } } := by
  simp [State.queuePower, hpend]

/-! A Neap entry that names a domain beyond Table 12-1. -/

/-- The running request names "domain" 0x20000, whose word is that of PW_STATUS. -/
def farNeapState : State :=
  ({ State.reset with pow := { State.reset.pow with run := some ⟨[0x20000], 3, 0, false⟩ } } : State).set PW_STATUS_BUSY 1

theorem farNeapState_wf : Safety.wf farNeapState = true := by decide

/-- The transit bit of that domain stands in PHASE. -/
theorem farNeapState_phase : farNeapState.powerStart.get PW_STATUS_PHASE = 3 := by decide

/-! Wakes (R292 to R294). -/

/-- A field of PW_DOMAIN: object 0x6000 from subindex 0. -/
def Field.ofDomain (F : Field) : Prop := F.index = 0x6000 ∧ F.sub = 0

theorem Field.ofDomain.apart {F G : Field} (hF : F.ofDomain) (hG : G.ofDomain) (h : d ≠ e) : F.apart d G e = true :=
  Field.apart_of_sub (by rw [hF.2, hG.2]; omega) (hF.1.trans hG.1.symm)

theorem Field.ofDomain.apart_counts {G : Field} (hG : G.ofDomain) (he : e < 0x21) : PW_COUNTS_COUNT.apart 5 G e = true :=
  Field.apart_of_index (by rw [hG.1]; decide) (by decide) (by rw [hG.2]; omega)

theorem State.demanded_demand (hcause : cause ≠ 0) : s.demanded d cause client =
    ((s.wr PW_DOMAIN_TARGET d 1).wr PW_DOMAIN_WOKEN_BY d client).bumpAt PW_COUNTS_COUNT 5 := if_neg hcause

/-- What the wake of one domain leaves of another one: its words, the lanes, and the wakes under way. -/
def State.WakesBeside (e : Nat) (s t : State) : Prop :=
  s.ok → t.ok ∧ (∀ F : Field, F.ofDomain → t.rd F e = s.rd F e) ∧ t.lanes = s.lanes ∧
    ∀ x ∈ s.pow.wakes, x.dom = e → x ∈ t.pow.wakes

theorem State.WakesBeside.refl : State.WakesBeside e s s := fun h => ⟨h, fun _ _ => rfl, rfl, fun _ hx _ => hx⟩

theorem State.WakesBeside.trans (h : State.WakesBeside e s t) (h' : State.WakesBeside e t u) : State.WakesBeside e s u :=
  fun hs => by
    obtain ⟨ht, hread, hlanes, hwakes⟩ := h hs
    obtain ⟨hu, hread', hlanes', hwakes'⟩ := h' ht
    exact ⟨hu, fun F hF => (hread' F hF).trans (hread F hF), hlanes'.trans hlanes,
      fun x hx hdom => hwakes' x (hwakes x hx hdom) hdom⟩

theorem State.WakesBeside.wr {F : Field} {x : Nat} (hF : F.ofDomain) (h : d ≠ e) :
    State.WakesBeside e s (s.wr F d x) := fun hs =>
  ⟨State.wr_ok hs, fun _ hG => State.rd_wr_apart ⟨hs, hF.apart hG h⟩, rfl, fun _ hx _ => hx⟩

theorem State.demanded_beside (h : d ≠ e) (he : e < 0x21) : State.WakesBeside e s (s.demanded d cause client) := by
  have hcount : ∀ t : State, State.WakesBeside e t (t.bumpAt PW_COUNTS_COUNT 5) := fun t ht =>
    ⟨State.wr_ok ht, fun _ hG => State.rd_wr_apart ⟨ht, hG.apart_counts he⟩, rfl, fun _ hx _ => hx⟩
  unfold State.demanded
  split
  · exact .refl
  · exact ((State.WakesBeside.wr ⟨rfl, rfl⟩ h).trans (.wr ⟨rfl, rfl⟩ h)).trans (hcount _)

/-- The wakes under way changed, those of domain `e` aside. -/
theorem State.WakesBeside.wakes {x : PowSt} (h : ∀ y ∈ s.pow.wakes, y.dom = e → y ∈ x.wakes) :
    State.WakesBeside e s { s with pow := x } := fun hs => ⟨hs, fun _ _ => rfl, rfl, h⟩

theorem State.beginWake_beside (h : d ≠ e) (he : e < 0x21) : State.WakesBeside e s (s.beginWake d target cause client) := by
  unfold State.beginWake
  extract_lets +onlyGivenNames was transit
  have htransit : State.WakesBeside e s transit := .wr ⟨rfl, rfl⟩ h
  clear_value transit
  split
  · exact (htransit.trans (.wakes fun y hy _ => List.mem_append_left _ hy)).trans (State.demanded_beside h he)
  · split
    · refine (State.WakesBeside.wakes fun y hy hdom => ?_).trans (State.demanded_beside h he)
      exact List.mem_map.mpr ⟨y, hy, if_neg fun hd => h (hd.symm.trans hdom)⟩
    · exact .refl

/-- One step of a demand wake: the domain's wake begins, or waits for the entry's end. -/
def State.demandOne (s : State) (client d : Nat) : State :=
  if s.isolatedNow d then
    (if s.pow.late.any (fun p => p.1 = d) then s
     else { s with pow := { s.pow with late := s.pow.late ++ [(d, client)] } })
  else s.beginWake d 1 1 client

theorem State.demandWake_eq : s.demandWake client d = (domDepends d).foldl (fun s d => s.demandOne client d) (s.demandOne client d) :=
  rfl

theorem State.demandOne_beside (h : d ≠ e) (he : e < 0x21) : State.WakesBeside e s (s.demandOne client d) := by
  unfold State.demandOne
  split
  · split
    · exact .refl
    · exact .wakes fun y hy _ => hy
  · exact State.beginWake_beside h he

theorem domDepends_ne (h : e ∈ domDepends d) : e ≠ d := by
  unfold domDepends at h
  split at h
  · simp only [List.mem_cons, List.not_mem_nil, or_false] at h
    omega
  · simp at h

theorem State.demandWake_beside (hd : d < 0x21) :
    State.WakesBeside d (s.demandOne client d) (s.demandWake client d) := by
  rw [State.demandWake_eq]
  exact List.foldlRecOn (motive := fun t => State.WakesBeside d (s.demandOne client d) t) (domDepends d) _ .refl
    fun t ht x hx => ht.trans (State.demandOne_beside (domDepends_ne hx) hd)

/-- The wake of a sleeping domain begins. -/
def State.wakeBegun (s : State) (d client : Nat) : State :=
  let was := s.domState d
  let s := s.wr PW_DOMAIN_TRANSIT d 1
  let s : State := { s with pow := { s.pow with
    wakes := s.pow.wakes ++ [{ dom := d, fromState := was, target := 1, client := client, cause := 1, up := s.frame.up }] } }
  ((s.wr PW_DOMAIN_TARGET d 1).wr PW_DOMAIN_WOKEN_BY d client).bumpAt PW_COUNTS_COUNT 5

theorem State.demandOne_begins (hiso : s.isolatedNow d = false) (hsleep : s.domState d = 2 ∨ s.domState d = 3)
    (hnone : ∀ x ∈ s.pow.wakes, x.dom ≠ d) : s.demandOne client d = s.wakeBegun d client := by
  have hany : s.pow.wakes.any (fun w => w.dom = d) = false := by simpa using hnone
  have hbegins : (s.domState d = 2 ∨ s.domState d = 3) ∧ ¬ s.pow.wakes.any (fun w => w.dom = d) = true :=
    ⟨hsleep, by rw [hany]; decide⟩
  rw [State.demandOne, if_neg (by rw [hiso]; decide)]
  unfold State.beginWake State.wakeBegun
  dsimp only
  rw [if_pos hbegins]
  rfl

theorem State.wakeBegun_wakes :
    (s.wakeBegun d client).pow.wakes = s.pow.wakes ++ [⟨d, s.domState d, 1, client, 1, s.frame.up⟩] ∧
      (s.wakeBegun d client).lanes = s.lanes := ⟨rfl, rfl⟩

theorem State.wakeBegun_reads (hok : s.ok) (hd : d < 0x21) (hclient : client < 256) :
    (s.wakeBegun d client).ok ∧ (s.wakeBegun d client).rd PW_DOMAIN_TRANSIT d = 1 ∧
      (s.wakeBegun d client).rd PW_DOMAIN_TARGET d = 1 ∧ (s.wakeBegun d client).rd PW_DOMAIN_WOKEN_BY d = client ∧
      (s.wakeBegun d client).rd PW_DOMAIN_STATE d = s.rd PW_DOMAIN_STATE d ∧
      (s.wakeBegun d client).rd PW_COUNTS_COUNT 5 = satAdd 32 (s.rd PW_COUNTS_COUNT 5) 1 := by
  have hdict : Words.ok s.objs := hok
  have hset : ∀ F : Field, F.ofDomain → F.apart d PW_COUNTS_COUNT 5 = true := fun F hF =>
    Field.apart_of_index (by rw [hF.1]; decide) (by rw [hF.2]; omega) (by decide)
  obtain ⟨x, hx⟩ : ∃ x, x = Words.wr (Words.wr (Words.wr s.objs PW_DOMAIN_TRANSIT d 1) PW_DOMAIN_TARGET d 1)
      PW_DOMAIN_WOKEN_BY d client := ⟨_, rfl⟩
  have hxok : Words.ok x := hx ▸ Words.wr_ok (Words.wr_ok (Words.wr_ok hdict))
  have hobjs : (s.wakeBegun d client).objs = (({ s with objs := x } : State).bumpAt PW_COUNTS_COUNT 5).objs := hx ▸ rfl
  have hxs : ({ s with objs := x } : State).ok := hxok
  have hreads : Words.rd x PW_DOMAIN_TRANSIT d = 1 ∧ Words.rd x PW_DOMAIN_TARGET d = 1 ∧
      Words.rd x PW_DOMAIN_WOKEN_BY d = client % 256 ∧ Words.rd x PW_DOMAIN_STATE d = Words.rd s.objs PW_DOMAIN_STATE d ∧
      Words.rd x PW_COUNTS_COUNT 5 = Words.rd s.objs PW_COUNTS_COUNT 5 := by
    rw [hx]
    refine ⟨?_, ?_, Words.rd_wr_eq ⟨Words.wr_ok (Words.wr_ok hdict), by decide⟩, ?_, ?_⟩
    · rw [Words.rd_wr_apart ⟨Words.wr_ok (Words.wr_ok hdict), rfl⟩, Words.rd_wr_apart ⟨Words.wr_ok hdict, rfl⟩,
        Words.rd_wr_eq ⟨hdict, by decide⟩]
      rfl
    · rw [Words.rd_wr_apart ⟨Words.wr_ok (Words.wr_ok hdict), rfl⟩, Words.rd_wr_eq ⟨Words.wr_ok hdict, by decide⟩]
      rfl
    · rw [Words.rd_wr_apart ⟨Words.wr_ok (Words.wr_ok hdict), rfl⟩, Words.rd_wr_apart ⟨Words.wr_ok hdict, rfl⟩,
        Words.rd_wr_apart ⟨hdict, rfl⟩]
    · rw [Words.rd_wr_apart ⟨Words.wr_ok (Words.wr_ok hdict), hset _ ⟨rfl, rfl⟩⟩,
        Words.rd_wr_apart ⟨Words.wr_ok hdict, hset _ ⟨rfl, rfl⟩⟩, Words.rd_wr_apart ⟨hdict, hset _ ⟨rfl, rfl⟩⟩]
  obtain ⟨htransit, htarget, hwoken, hstate, hcount⟩ := hreads
  have hother : ∀ F : Field, F.ofDomain → (s.wakeBegun d client).rd F d = Words.rd x F d := fun F hF =>
    (State.rd_congr hobjs F d).trans (State.rd_wr_apart ⟨hxs, hF.apart_counts hd⟩)
  refine ⟨State.ok_of_objs (State.wr_ok (s := { s with objs := x }) hxs) hobjs, (hother _ ⟨rfl, rfl⟩).trans htransit, (hother _ ⟨rfl, rfl⟩).trans htarget,
    (hother _ ⟨rfl, rfl⟩).trans (hwoken.trans (Nat.mod_eq_of_lt hclient)), (hother _ ⟨rfl, rfl⟩).trans hstate, ?_⟩
  refine (State.rd_congr hobjs _ _).trans ((State.rd_wr_eq ⟨hxs, by decide⟩).trans ?_)
  have hsame : ({ s with objs := x } : State).rd PW_COUNTS_COUNT 5 = s.rd PW_COUNTS_COUNT 5 := hcount
  rw [hsame]
  exact Nat.mod_eq_of_lt satAdd_lt

theorem State.demandOne_waits (hiso : s.isolatedNow d = true) (hlate : ∀ x ∈ s.pow.late, x.1 ≠ d) :
    s.demandOne client d = { s with pow := { s.pow with late := s.pow.late ++ [(d, client)] } } := by
  have hany : s.pow.late.any (fun p => p.1 = d) = false := by simpa using hlate
  rw [State.demandOne, if_pos hiso, if_neg (by rw [hany]; decide)]

theorem State.demandWake_alone (hd : 16 ≤ d) : s.demandWake client d = s.demandOne client d := by
  rw [State.demandWake_eq, domDepends, if_neg (Nat.not_lt.mpr hd)]
  rfl

/-- A switched domain's state is its word's. -/
theorem State.domState_eq (hd : d < 0x21) : s.domState d = s.rd PW_DOMAIN_STATE d := if_neg (by omega)

/-! A wake ends (R289, R292). -/

/-- The state without the force, the port detectors, the power requests, the log and the dictionary. -/
def State.besideWake (s : State) : State := { s with objs := [], force := [], pds := [], pow := {}, ev := {} }

theorem State.gateStops_objs : s.gateStops.objs = s.objs := by
  unfold State.gateStops
  split <;> rfl

theorem State.gateStops_beside : (s.gateStops.pow, s.gateStops.lanes, s.gateStops.svc, s.gateStops.frame) =
    (s.pow, s.lanes, s.svc, s.frame) := by
  unfold State.gateStops
  split <;> rfl

/-- A domain's transition done, before its record. -/
def State.domainMoved (s : State) (d new : Nat) : State := (s.wr PW_DOMAIN_STATE d new).wr PW_DOMAIN_TRANSIT d 0

theorem State.setDomain_eq : ∃ p, s.setDomain d new cause client up =
    if s.domState d = new then s.domainMoved d new else (s.domainMoved d new).post 0x31 d p := ⟨_, rfl⟩

theorem State.setDomain_beside : ((s.setDomain d new cause client up).pow, (s.setDomain d new cause client up).lanes,
    (s.setDomain d new cause client up).svc) = (s.pow, s.lanes, s.svc) := by
  obtain ⟨p, hp⟩ := State.setDomain_eq (s := s) (d := d) (new := new) (cause := cause) (client := client) (up := up)
  rw [hp]
  split
  · rfl
  · rw [State.post_keeps]
    rfl

theorem State.setDomain_reads (hok : s.ok) (hd : d < 0x21) (hnew : new < 4) :
    (s.setDomain d new cause client up).domState d = new ∧
      (s.setDomain d new cause client up).rd PW_DOMAIN_TRANSIT d = 0 := by
  obtain ⟨p, hp⟩ := State.setDomain_eq (s := s) (d := d) (new := new) (cause := cause) (client := client) (up := up)
  have hmoved : (s.domainMoved d new).ok := State.wr_ok (State.wr_ok hok)
  have hstate : (s.domainMoved d new).rd PW_DOMAIN_STATE d = new :=
    (State.rd_wr_apart ⟨State.wr_ok hok, rfl⟩).trans ((State.rd_wr_eq ⟨hok, by decide⟩).trans (Nat.mod_eq_of_lt hnew))
  have htransit : (s.domainMoved d new).rd PW_DOMAIN_TRANSIT d = 0 := State.rd_wr_eq ⟨State.wr_ok hok, by decide⟩
  have hpage : ∀ F : Field, F.ofDomain → Nat.beq (F.page d) 0x26 = false := fun F hF => by
    refine Bool.eq_false_iff.mpr fun h => ?_
    have hsame := Nat.eq_of_beq_eq_true h
    simp only [Field.page, objKey, hF.1, hF.2] at hsame
    omega
  rw [State.domState_eq hd, hp]
  split
  · exact ⟨hstate, htransit⟩
  · exact ⟨(State.rd_post ⟨hmoved, hpage _ ⟨rfl, rfl⟩⟩).trans hstate, (State.rd_post ⟨hmoved, hpage _ ⟨rfl, rfl⟩⟩).trans htransit⟩

/-- The wake of a domain taken off. -/
def State.wakeOff (s : State) (d : Nat) : State :=
  { s with pow := { s.pow with wakes := s.pow.wakes.filter fun x => x.dom ≠ d } }

/-- Then its clock enable comes into force, where it has none of ECLK (R70). -/
def State.wakeTaken (s : State) (d : Nat) : State :=
  (if usesEclk d then s.wakeOff d else (s.wakeOff d).enforce (objKey 0x2210 d)).gateStops

theorem State.wakeTaken_objs : (s.wakeTaken d).objs = s.objs := by
  unfold State.wakeTaken
  rw [State.gateStops_objs]
  split <;> rfl

theorem State.wakeTaken_beside : (s.wakeTaken d).pow.wakes = s.pow.wakes.filter (fun x => x.dom ≠ d) ∧
    (s.wakeTaken d).lanes = s.lanes ∧ (s.wakeTaken d).svc = s.svc := by
  have hgate := State.gateStops_beside (s := if usesEclk d then s.wakeOff d else (s.wakeOff d).enforce (objKey 0x2210 d))
  simp only [Prod.mk.injEq] at hgate
  obtain ⟨hp, hl, hs, -⟩ := hgate
  unfold State.wakeTaken
  rw [hp, hl, hs]
  split <;> exact ⟨rfl, rfl, rfl⟩

theorem State.wakeDone_eq {x : Waking} (hfind : s.pow.wakes.find? (fun w => w.dom = d) = some x) (hready : s.wakeReady d = true) :
    s.wakeDone d = (s.wakeTaken d).setDomain d x.target x.cause x.client x.up := by
  simp only [State.wakeDone, hfind, hready, Bool.not_true, Bool.false_eq_true, if_false]
  rfl

theorem State.wakeDone_waits (h : s.pow.wakes.find? (fun w => w.dom = d) = none ∨ s.wakeReady d = false) :
    s.wakeDone d = s := by
  unfold State.wakeDone
  split
  · rfl
  · next hfind => exact if_pos (by rcases h with h | h <;> simp_all)

/-! Domain resets (R338 to R343). -/

theorem State.wPwDomainReset_range (hgo : v.bits 31 31 = 1) (h : 0x20 < v.bits 5 0) :
    s.wPwDomainReset port v = (stRange, s) := by
  simp [State.wPwDomainReset, hgo, h]

theorem State.wPwDomainReset_mode (hgo : v.bits 31 31 = 1) (hd : v.bits 5 0 ≤ 0x20)
    (h : s.modeNow = modeDormant ∨ s.surveying = true) : s.wPwDomainReset port v = (stMode, s) := by
  simp [State.wPwDomainReset, hgo, Nat.not_lt.mpr hd, h]

section

variable (hgo : v.bits 31 31 = 1) (hd : v.bits 5 0 ≤ 0x20) (hmode : s.modeNow ≠ modeDormant) (hsv : s.surveying = false)
include hgo hd hmode hsv

theorem State.wPwDomainReset_state (h : s.rst.dom.isSome = true ∨ s.on PW_STATUS_BUSY = true ∨ s.domState (v.bits 5 0) = 0 ∨
    v.bits 5 0 = 0x1D + port) : s.wPwDomainReset port v = (stState, s) := by
  unfold State.wPwDomainReset
  dsimp only
  rw [if_neg (by rw [hgo]; decide), if_neg (Nat.not_lt.mpr hd), if_neg (by simp [hmode, hsv]), if_pos ?_]
  rcases h with h | h | h | h <;> simp [h]

theorem State.wPwDomainReset_accepts (hdom : s.rst.dom = none) (hbusy : s.on PW_STATUS_BUSY = false)
    (hup : s.domState (v.bits 5 0) ≠ 0) (hown : v.bits 5 0 ≠ 0x1D + port)
    (hgroup : v.bits 5 0 < 16 → s.groupBusy (v.bits 5 0) = false)
    (harmed : v.bits 5 0 = 0x19 → s.get CM_ARMED_STATE = 0 ∧ s.get SR_STATUS_STATE = 0)
    (hcommit : v.bits 5 0 ≠ 0x19 → (s.runVotes [] (v.bits 5 0)).testBit 2 = false)
    (hcal : (s.runVotes [] (v.bits 5 0)).testBit 3 = false) : s.wPwDomainReset port v =
      (stOk, ({ s.set PW_DOMAIN_RESET_BUSY 1 with rst := { s.rst with dom := some { dom := v.bits 5 0, due := s.frame.ticks + 1, phase := 0, drops := 0 } } } : State).demandWake
        0xFE (v.bits 5 0)) := by
  unfold State.wPwDomainReset
  dsimp only
  rw [if_neg (by rw [hgo]; decide), if_neg (Nat.not_lt.mpr hd), if_neg (by simp [hmode, hsv]), if_neg ?_]
  · rfl
  · simp only [hdom, hbusy, hup, hown, hcal, Option.isSome_none, decide_false, Bool.false_or, Bool.or_false,
      Bool.or_eq_true, Bool.and_eq_true, decide_eq_true_eq, not_or, not_and, Bool.not_eq_true]
    refine ⟨⟨hgroup, fun h19 => ?_⟩, hcommit⟩
    obtain ⟨hshadow, hring⟩ := harmed h19
    simp [hshadow, hring]

end

/-- A domain reset that begins. -/
def State.resetBegun (s : State) (r : DomReset) : State :=
  let q := if 0x10 ≤ r.dom ∧ r.dom < 0x14 then 2 ^ (r.dom - 0x10) else 0
  let s := if r.dom = 0x14 then s.stopPorts else s
  { s with rst := { s.rst with dom := some { r with phase := 1 }, broken := s.rst.broken ||| q } }

section

variable {x : DomReset} (hdom : s.rst.dom = some x)
include hdom

theorem State.domResetStart_eq : s.domResetStart =
    if x.phase = 0 && s.running x.dom && (decide (x.due ≤ s.frame.ticks) || !s.frame.running) then s.resetBegun x else s := by
  simp only [State.domResetStart, hdom]
  rfl

theorem State.domResetRelease_eq : s.domResetRelease =
    if x.phase = 1 then
      let t := (s.resetExtra x.dom).loseDomain x.dom
      { t with rst := { t.rst with dom := some { x with phase := 2 } } }
    else s := by
  simp only [State.domResetRelease, hdom]

theorem State.peerDrop_counts (hphase : 0 < x.phase) : s.peerDrop x.dom =
    { s.bumpAt PW_XING_PEER_RESETS x.dom with rst := { s.rst with dom := some { x with drops := x.drops + 1 } } } := by
  simp [State.peerDrop, hdom, hphase]

theorem State.handshakeDone_eq (hphase : x.phase = 2) : s.handshakeDone x.dom =
    if 1 < x.drops then { s with rst := { s.rst with dom := some { x with drops := x.drops - 1 } } }
    else { (s.bumpAt PW_XING_RESETS x.dom).set PW_DOMAIN_RESET_BUSY 0 with rst := { s.rst with dom := none } } := by
  simp only [State.handshakeDone, hdom, hphase]
  rfl

end

theorem State.resetBegun_keeps {x : DomReset} : (s.resetBegun x).rst.dom = some { x with phase := 1 } ∧
    (s.resetBegun x).objs = s.objs ∧ (s.resetBegun x).lanes = s.lanes := by
  unfold State.resetBegun
  extract_lets q t
  have ht : t.objs = s.objs ∧ t.lanes = s.lanes := by
    unfold t
    split <;> exact ⟨rfl, rfl⟩
  clear_value t
  exact ⟨rfl, ht.1, ht.2⟩

theorem State.resetBegun_stopped {x : DomReset} : (s.resetBegun x).running x.dom = false := by
  have hreset : (s.resetBegun x).inReset x.dom = true := by simp [State.inReset, State.resetBegun_keeps.1]
  simp [State.running, hreset]

theorem State.resetBegun_broken {x : DomReset} (hlow : 0x10 ≤ x.dom) (hhigh : x.dom < 0x14) :
    (s.resetBegun x).monStopped (x.dom - 0x10) = true := by
  have hbroken : (s.resetBegun x).rst.broken.testBit (x.dom - 0x10) = true := by
    unfold State.resetBegun
    extract_lets q t
    have hq : q = 2 ^ (x.dom - 0x10) := if_pos ⟨hlow, hhigh⟩
    have hor : (t.rst.broken ||| q).testBit (x.dom - 0x10) = true := by
      rw [Nat.testBit_or, hq, Nat.testBit_two_pow_self, Bool.or_true]
    exact hor
  simp [State.monStopped, hbroken]

/-! The content that a domain's reset loses. -/

/-- A table rewritten value by value reads so, where the rewriting keeps what is not listed. -/
theorem Table.find_mapVals {α : Type} [DecidableEq α] {dflt : Nat → α} {f : Nat → α → α} {l : Table α} {b : Option Nat}
    (h : Table.wfFrom dflt b l = true) (hk : f k (dflt k) = dflt k) :
    Table.find dflt k (Table.mapVals dflt f l) = f k (Table.find dflt k l) := by
  induction l generalizing b with
  | nil => exact hk.symm
  | cons p ps ih =>
    obtain ⟨q, y⟩ := p
    obtain ⟨-, -, hrest⟩ := (Table.wfFrom_cons dflt).mp h
    have hrest' : Table.wfFrom dflt (some q) (Table.mapVals dflt f ps) = true := Table.wfFrom_mapVals dflt hrest
    have hmap : Table.find dflt k (Table.mapVals dflt f ps) = f k (Table.find dflt k ps) := ih hrest
    unfold Table.mapVals
    by_cases hqk : q = k
    · subst hqk
      have hbelow : Table.find dflt q (Table.mapVals dflt f ps) = dflt q := Table.find_below dflt hrest' (Nat.le_refl q)
      split
      · next hgone => simp [Table.find, hbelow, hgone]
      · simp [Table.find]
    · by_cases hlt : k < q
      · have hbelow : Table.find dflt k (Table.mapVals dflt f ps) = dflt k :=
          Table.find_below dflt hrest' (Nat.le_of_lt hlt)
        split
        · simp [Table.find, hqk, hlt, hbelow, hk]
        · simp [Table.find, hqk, hlt, hk]
      · split
        · simpa [Table.find, hqk, hlt] using hmap
        · simpa [Table.find, hqk, hlt] using hmap

/-- A word's bits outside a mask and inside it. -/
theorem and_not_or_and {x y : Word} : (x &&& ~~~y) ||| (x &&& y) = x := by
  ext b hb
  cases hx : x[b] <;> cases hy : y[b] <;> simp [hx, hy]

/-- A word outside the domain survives, and one inside reads as its lost form. -/
theorem State.loseWords_word {lost : Pers → Bool} {here : Nat → Nat → Bool} (hok : s.ok) (hj : j < 65536) :
    (s.loseWords lost here).word i j = if here i j then objLose lost (objKey i j) (s.word i j) else s.word i j := by
  have hkey : objKey i j / 65536 = i ∧ objKey i j % 65536 = j := by simp only [objKey]; omega
  have hdefault : objLose lost (objKey i j) (objDefault (objKey i j)) = objDefault (objKey i j) := by
    unfold objLose
    split
    · rfl
    · exact and_not_or_and
  refine (Table.find_mapVals (dflt := objDefault) (f := fun k w => if here (k / 65536) (k % 65536) then objLose lost k w else w) hok ?_).trans ?_
  · rw [hkey.1, hkey.2]
    split
    · exact hdefault
    · rfl
  · rw [hkey.1, hkey.2]
    rfl

/-- A word outside a domain is kept. -/
def State.KeepsOutside (d : Nat) (s t : State) : Prop :=
  s.ok → t.ok ∧ ∀ i j, j < 65536 → objDomain i j ≠ some d → t.word i j = s.word i j

theorem State.KeepsOutside.of_objs (h : t.objs = s.objs) : State.KeepsOutside d s t := fun hs =>
  ⟨State.ok_of_objs hs h, fun i j _ _ => by unfold State.word; rw [h]⟩

theorem State.KeepsOutside.refl : State.KeepsOutside d s s := .of_objs rfl

theorem State.KeepsOutside.trans (h : State.KeepsOutside d s t) (h' : State.KeepsOutside d t u) : State.KeepsOutside d s u :=
  fun hs => ⟨(h' (h hs).1).1, fun i j hj hout => ((h' (h hs).1).2 i j hj hout).trans ((h hs).2 i j hj hout)⟩

theorem State.KeepsOutside.set {F : Field} (hF : objDomain F.index F.sub = some d) (hsub : F.sub < 65536) :
    State.KeepsOutside d s (s.set F n) := fun hs =>
  ⟨State.wr_ok hs, fun i j hj hout => State.word_wr_other hs fun hkey => hout (by
    simp only [objKey] at hkey
    rw [show i = F.index by omega, show j = F.sub by omega, hF])⟩

theorem State.loseWords_keeps (hg : Good cs s) :
    State.KeepsOutside d s (s.loseWords isC0 fun i k => objDomain i k = some d) := fun hs =>
  ⟨(State.loseWords_good hg).objs, fun i j hj hout => by
    rw [State.loseWords_word hs hj, if_neg (by simpa using hout)]⟩

theorem State.losePort_objs : (s.losePort n).objs = s.objs := by
  have hport : (s.setPort n {}).objs = s.objs := State.setPort_keeps.1
  unfold State.losePort State.eachIn
  refine Eq.trans ?_ hport
  exact List.foldlRecOn (motive := fun t : State => t.objs = (s.setPort n {}).objs) [2 * n, 2 * n + 1] _ rfl fun t ht k _ => ht

theorem State.loseDrive_keeps : State.KeepsOutside 0x1B s s.loseDrive := by
  have hset : ∀ (t : State) (F : Field), F.index = 0x2100 → F.sub = 0 → State.KeepsOutside 0x1B t (t.set F 0) :=
    fun t F hi hsub => .set (by rw [hi, hsub]; rfl) (by omega)
  have hoff : State.KeepsOutside 0x1B s s.dsOff := by
    unfold State.dsOff
    extract_lets a b
    have ha : State.KeepsOutside 0x1B s a := ((hset _ _ rfl rfl).trans (hset _ _ rfl rfl)).trans (hset _ _ rfl rfl)
    have hb : State.KeepsOutside 0x1B s b := (ha.trans (hset _ _ rfl rfl)).trans (hset _ _ rfl rfl)
    exact hb.trans (.of_objs rfl)
  exact hoff.trans (.of_objs rfl)

/-- The domain's own content beside the dictionary. -/
theorem State.loseDomain_keeps (hg : Good cs s) : State.KeepsOutside d s (s.loseDomain d) := by
  unfold State.loseDomain
  extract_lets t q
  have ht : State.KeepsOutside d s t := State.loseWords_keeps hg
  clear_value t
  refine ht.trans ?_
  split_ifs with _ _ _ _ hevid hfull hdrive
  · exact .of_objs rfl
  · exact .of_objs rfl
  · exact .of_objs rfl
  · exact .of_objs rfl
  · exact .of_objs rfl
  · subst hevid
    exact .trans (.of_objs rfl) (.set rfl (by decide))
  · subst hdrive
    exact State.loseDrive_keeps
  · exact .of_objs State.losePort_objs
  · exact .of_objs rfl
  · exact .of_objs rfl
  · exact .of_objs rfl

/-- The lanes stand in the tile groups alone. -/
theorem State.loseDomain_lanes (hd : 0x10 ≤ d) : (s.loseDomain d).lanes = s.lanes := by
  have hport : ∀ t : State, (t.losePort (d - 0x1D)).lanes = t.lanes := fun t => by
    have hset : (t.setPort (d - 0x1D) {}).lanes = t.lanes := State.setPort_keeps.2.1
    unfold State.losePort State.eachIn
    refine Eq.trans ?_ hset
    exact List.foldlRecOn (motive := fun x : State => x.lanes = (t.setPort (d - 0x1D) {}).lanes)
      [2 * (d - 0x1D), 2 * (d - 0x1D) + 1] _ rfl fun t ht k _ => ht
  have hwords : (s.loseWords isC0 fun i k => objDomain i k = some d).lanes = s.lanes := rfl
  unfold State.loseDomain
  extract_lets t q
  have ht : t.lanes = s.lanes := hwords
  clear_value t
  refine Eq.trans ?_ ht
  rw [if_neg (Nat.not_lt.mpr hd)]
  split_ifs
  · rfl
  · rfl
  · rfl
  · rfl
  · rfl
  · rfl
  · exact hport t
  · rfl
  · rfl
  · rfl

theorem State.resetExtra_keeps : State.KeepsOutside d s (s.resetExtra d) ∧ (s.resetExtra d).lanes = s.lanes := by
  have hlose : s.loseFifo.objs = s.objs ∧ s.loseFifo.lanes = s.lanes := by
    unfold State.loseFifo
    exact List.foldlRecOn (motive := fun t : State => t.objs = s.objs ∧ t.lanes = s.lanes) s.ev.fifo _ ⟨rfl, rfl⟩ fun t ht x _ => ht
  unfold State.resetExtra
  split
  · exact ⟨.of_objs rfl, rfl⟩
  · split
    · exact ⟨.of_objs hlose.1, hlose.2⟩
    · exact ⟨.refl, rfl⟩

/-- SV_STATUS's first word. -/
def svStatusRow : ObjRow := ⟨0x5801, 0, 0,
  [⟨31, 28, .ro, 0, .c0⟩, ⟨27, 24, .ro, 0, .c0⟩, ⟨23, 23, .ro, 0, .c3⟩, ⟨22, 22, .ro, 0, .c0⟩, ⟨15, 0, .ro, 0, .c0⟩]⟩

/-- Of SV_STATUS a domain reset keeps TAP and the reserved bits. -/
theorem objLose_svStatus : objLose isC0 (objKey 0x5801 0) w = w &&& 0x00BF0000#32 := by
  have hrow : objRow (objKey 0x5801 0 / 65536) (objKey 0x5801 0 % 65536) = some svStatusRow := by decide
  have hdefault : objDefault (objKey 0x5801 0) = 0#32 := by decide
  have hmask : BitVec.ofNat 32 (svStatusRow.maskOf fun f => isC0 f.pers) = 0xFF40FFFF#32 := by decide
  simp only [objLose, hrow, hdefault, hmask, BitVec.zero_and, BitVec.or_zero]
  rfl

/-- The survey controller's reset leaves its state at 0. -/
theorem State.loseDomain_survey (hok : s.ok) : (s.loseDomain 0x1F).survey = {} ∧ (s.loseDomain 0x1F).get SV_STATUS_STATE = 0 := by
  have hword : (s.loseDomain 0x1F).word 0x5801 0 = objLose isC0 (objKey 0x5801 0) (s.word 0x5801 0) :=
    (State.loseWords_word (lost := isC0) (here := fun i k => objDomain i k = some 0x1F) hok (i := 0x5801) (j := 0) (by decide)).trans
      (if_pos (by decide))
  refine ⟨rfl, (congrArg (Word.bits · 31 28) (hword.trans objLose_svStatus)).trans ?_⟩
  have hle : (s.word 0x5801 0 &&& 0x00BF0000#32).toNat ≤ 0x00BF0000 := by
    rw [BitVec.toNat_and]
    exact Nat.and_le_right
  have hzero : (s.word 0x5801 0 &&& 0x00BF0000#32).toNat / 2 ^ 28 = 0 := Nat.div_eq_of_lt (by omega)
  simp only [Word.bits, hzero, Nat.zero_mod]

end Sys2Proof.Machine

namespace Sys2Proof

open Machine

/-- Settles O33: the checks of R287 in order, and the slot that an accepted request takes. -/
theorem powerRequests : Obligations.PowerRequests := by
  intro s w x n hadm hgo hn
  subst hn
  have hrule := fun v => State.objectRule_6001 s .clean w.q.port v
  refine ⟨fun hmode hent hup hown => ⟨fun hsome hall => ⟨fun hrun hpend => ?_, fun hrun hpend => ?_, fun hpend => ?_⟩,
    fun hbad => ?_⟩, fun hmode hbad => ?_, fun hmode => ?_⟩
  · exact exec_accepted rfl hadm ((hrule _).trans ((State.wPwReq_queues hgo hmode hent hup hown hsome hall).trans
      (congrArg _ (State.queuePower_runs hrun hpend)))) rfl
  · exact exec_accepted rfl hadm ((hrule _).trans ((State.wPwReq_queues hgo hmode hent hup hown hsome hall).trans
      (congrArg _ (State.queuePower_pends hrun hpend)))) rfl
  · exact exec_accepted rfl hadm ((hrule _).trans ((State.wPwReq_queues hgo hmode hent hup hown hsome hall).trans
      (congrArg _ (State.queuePower_supersedes hpend)))) rfl
  · exact exec_refused_uncounted rfl hadm ((hrule _).trans (State.wPwReq_range hgo hmode hent hup hown hbad)) rfl
      (by decide) (by decide)
  · exact exec_refused_uncounted rfl hadm ((hrule _).trans (State.wPwReq_state hgo hmode hbad)) rfl (by decide) (by decide)
  · exact exec_refused_uncounted rfl hadm ((hrule _).trans (State.wPwReq_mode hgo hmode)) rfl (by decide) (by decide)

/-- Refutes O34: a running request may name "domain" 0x20000, whose transit bit stands in PHASE, so that the entry starts
in phase 3. -/
theorem not_neapEntry : ¬ Obligations.NeapEntry := by
  intro h
  obtain ⟨hstart, -⟩ := h farNeapState ⟨[0x20000], 3, 0, false⟩ 0 0 [] farNeapState_wf rfl
  obtain ⟨hneap, -⟩ := hstart (by decide) (by decide)
  obtain ⟨t, hexec, hphase, -⟩ := hneap rfl
  obtain rfl : farNeapState.powerStart = t := Host.Outcome.next.inj hexec
  exact absurd (farNeapState_phase.symm.trans hphase) (by decide)

/-- Settles O35: the domain's own wake begins first, and those of what it depends on leave it alone. -/
theorem wakesFromSleep : Obligations.WakesFromSleep := by
  intro s d client x hwf hd
  have hok : s.ok := (Good.of_wf hwf).objs
  refine ⟨fun hmode hcause hiso hsleep hnone hclient => ?_, fun hmode hcause hiso hdeps hlate => ?_, fun h => ?_,
    fun hfind htarget hready => ?_, fun h => congrArg (Host.Outcome.next ∘ State.goOn) (State.wakeDone_waits h)⟩
  · have hexec : exec (.domainWake d client) s = .next (s.demandWake client d) :=
      congrArg Host.Outcome.next (if_pos (by simp [hmode, hcause]))
    obtain ⟨hbegun, htransit, htarget, hwoken, hstate, hcount⟩ := State.wakeBegun_reads (s := s) hok hd hclient
    obtain ⟨hwakes, hlanes⟩ := State.wakeBegun_wakes (s := s) (d := d) (client := client)
    have hbegins := State.demandOne_begins (client := client) hiso hsleep hnone
    obtain ⟨-, hread, hkept, hmem⟩ := State.demandWake_beside (s := s) (client := client) hd (hbegins ▸ hbegun)
    rw [hbegins] at hread hkept hmem
    refine ⟨_, hexec, (hread _ ⟨rfl, rfl⟩).trans htransit, (hread _ ⟨rfl, rfl⟩).trans htarget,
      (hread _ ⟨rfl, rfl⟩).trans hwoken, ?_, hkept.trans hlanes, hmem _ (by simp [hwakes]) rfl, fun h16 => ?_⟩
    · rw [State.domState_eq hd, State.domState_eq hd]
      exact (hread _ ⟨rfl, rfl⟩).trans hstate
    · rw [State.demandWake_alone h16, hbegins]
      exact ⟨hwakes, hcount⟩
  · have hexec : exec (.domainWake d client) s = .next (s.demandWake client d) :=
      congrArg Host.Outcome.next (if_pos (by simp [hmode, hcause]))
    rw [hexec, State.demandWake_alone hdeps, State.demandOne_waits hiso hlate]
  · refine congrArg Host.Outcome.next (if_neg ?_)
    rcases h with h | h <;> simp [h]
  · obtain ⟨hwakes, hlanes, hsvc⟩ := State.wakeTaken_beside (s := s) (d := d)
    have htaken : (s.wakeTaken d).ok := State.ok_of_objs hok State.wakeTaken_objs
    obtain ⟨hstate, htransit⟩ := State.setDomain_reads (s := s.wakeTaken d) (d := d) (new := x.target) (cause := x.cause)
      (client := x.client) (up := x.up) htaken hd htarget
    have hbeside := State.setDomain_beside (s := s.wakeTaken d) (d := d) (new := x.target) (cause := x.cause)
      (client := x.client) (up := x.up)
    simp only [Prod.mk.injEq] at hbeside
    obtain ⟨hpow, hl, hs⟩ := hbeside
    refine ⟨_, congrArg (Host.Outcome.next ∘ State.goOn) (State.wakeDone_eq hfind hready), ?_, hstate, htransit, hl.trans hlanes,
      hs.trans hsvc⟩
    rw [hpow, hwakes]

/-- Settles O38: the checks of a request, and each step of the reset by its phase; what the domain loses is its own
objects' words. -/
theorem domainResets : Obligations.DomainResets := by
  intro s w x d hwf
  have hg := Good.of_wf hwf
  have hok : s.ok := hg.objs
  refine ⟨fun hadm hgo hd => ?_, fun hdom => ⟨fun hphase hrun hdue => ?_, fun h => ?_, fun hphase => ?_, fun hphase => ?_,
    fun hphase => ?_, fun hphase hdrops => ?_, fun hphase hdrops => ?_⟩⟩
  · subst hd
    have hrule := fun v => State.objectRule_6012 s .clean w.q.port 0 v
    refine ⟨fun hle hmode hsv => ⟨fun hdom hbusy hup hown hgroup harmed hcommit hcal => ?_, fun hbad => ?_⟩,
      fun hle hbad => ?_, fun hlt => ?_⟩
    · exact exec_accepted rfl hadm ((hrule _).trans (State.wPwDomainReset_accepts hgo hle hmode hsv hdom hbusy hup hown hgroup
        harmed hcommit hcal)) rfl
    · exact exec_refused_uncounted rfl hadm ((hrule _).trans (State.wPwDomainReset_state hgo hle hmode hsv hbad)) rfl
        (by decide) (by decide)
    · exact exec_refused_uncounted rfl hadm ((hrule _).trans (State.wPwDomainReset_mode hgo hle hbad)) rfl
        (by decide) (by decide)
    · exact exec_refused_uncounted rfl hadm ((hrule _).trans (State.wPwDomainReset_range hgo hlt)) rfl (by decide) (by decide)
  · have hbegun : s.domResetStart = s.resetBegun x := (State.domResetStart_eq hdom).trans (if_pos (by
      rcases hdue with hdue | hdue <;> simp [hphase, hrun, hdue]))
    obtain ⟨hfirst, hobjs, hlanes⟩ := State.resetBegun_keeps (s := s) (x := x)
    exact ⟨_, congrArg (Host.Outcome.next ∘ State.goOn) hbegun, hfirst, hobjs, hlanes, State.resetBegun_stopped,
      State.resetBegun_broken⟩
  · have hidle : s.domResetStart = s := (State.domResetStart_eq hdom).trans (if_neg (by
      rcases h with h | ⟨hrun, hearly⟩
      · simp [h]
      · simp [hrun, Nat.not_le.mpr hearly]))
    exact congrArg (Host.Outcome.next ∘ State.goOn) hidle
  · have hreleased := (State.domResetRelease_eq hdom).trans (if_pos hphase)
    obtain ⟨hextra, hextraLanes⟩ := State.resetExtra_keeps (s := s) (d := x.dom)
    have hgood : Good s.pending (s.resetExtra x.dom) := State.resetExtra_good hg
    have houtside := (hextra.trans (State.loseDomain_keeps (d := x.dom) hgood)) hok
    refine ⟨_, congrArg (Host.Outcome.next ∘ State.goOn) hreleased, rfl, fun i j hj hout => houtside.2 i j hj hout,
      fun hlow => (State.loseDomain_lanes hlow).trans hextraLanes, fun h1f => ?_⟩
    rw [h1f] at hgood ⊢
    exact State.loseDomain_survey hgood.objs
  · exact congrArg (Host.Outcome.next ∘ State.goOn) ((State.domResetRelease_eq hdom).trans (if_neg hphase))
  · exact congrArg (Host.Outcome.next ∘ State.goOn) (State.peerDrop_counts hdom hphase)
  · exact congrArg Host.Outcome.next ((State.handshakeDone_eq hdom hphase).trans (if_neg (Nat.not_lt.mpr hdrops)))
  · exact congrArg Host.Outcome.next ((State.handshakeDone_eq hdom hphase).trans (if_pos hdrops))

end Sys2Proof
end

section
/-! SUPPORT. Performance levels (section 12.8): requests, steps by their direction, frequency changes and the regulator's transactions. -/

namespace Sys2Proof.Machine


variable {s t u : State} {v : Word} {n lv mv k a b target : Nat}

/-! PL_REQUEST (R296). -/

theorem State.wPlRequest_mode (h : s.modeNow = modeDormant ∨ s.surveying = true) :
    s.wPlRequest v = s.refuseLevel stMode := if_pos (by simpa using h)

section

variable (hmode : s.modeNow ≠ modeDormant) (hsv : s.surveying = false)
include hmode hsv

theorem State.wPlRequest_state (h : (s.on CK_STATUS_SRC = false ∧ v.bits 1 0 = 2) ∨
    (s.on CK_LINK_CFG_FSEL = true ∧ v.bits 1 0 ≠ 0)) : s.wPlRequest v = s.refuseLevel stState := by
  unfold State.wPlRequest
  dsimp only
  rw [if_neg (by simp [hmode, hsv]), if_pos (by simpa using h)]

variable (hsrc : s.on CK_STATUS_SRC = true ∨ v.bits 1 0 ≠ 2) (hlink : s.on CK_LINK_CFG_FSEL = false ∨ v.bits 1 0 = 0)
include hsrc hlink

theorem State.wPlRequest_judged : s.wPlRequest v =
    if v.bits 1 0 < 3 && !s.allFit s.windows (levelPath s.stepBase (v.bits 1 0)) then s.refuseLevel stBudget
    else if v.bits 1 0 = 3 then s.refuseLevel stRange
    else (stOk, { s with perf := { s.perf with asked := true } }.queueLevel (v.bits 1 0)) := by
  have hallowed : ((!s.on CK_STATUS_SRC && decide (v.bits 1 0 = 2)) || (s.on CK_LINK_CFG_FSEL && decide (v.bits 1 0 ≠ 0))) = false := by
    rcases hsrc with h | h <;> rcases hlink with h' | h' <;> simp [h, h']
  unfold State.wPlRequest
  dsimp only
  rw [if_neg (by simp [hmode, hsv]), if_neg (by rw [hallowed]; decide)]

end

/-! Steps (R297). -/

/-- What a step's start writes. -/
def stepFields : List (Field × Nat) :=
  [(SM_LEVELS_WARN, 0), (SM_LEVELS_RESET, 0)]

theorem State.setLevels_writes : State.Writes stepFields s (s.setLevels mv) :=
  .set (by decide) (.set (by decide) .refl)

theorem State.startVolt_writes : State.Writes stepFields s (s.startVolt lv) := by
  unfold State.startVolt
  extract_lets +onlyGivenNames op busy asked
  have hasked : State.Writes stepFields s asked := State.Writes.refl.beside rfl
  clear_value asked
  exact .ite (hasked.trans State.setLevels_writes) hasked

/-- The regulator's transaction alone is new. -/
theorem State.startVolt_perf : (s.startVolt lv).perf = { s.perf with
    op := some (if s.modeKnown then .writeVout (s.setpoint lv) false else .readMode), retries := 0 } := by
  unfold State.startVolt
  extract_lets +onlyGivenNames op busy asked
  have hasked : asked.perf = { s.perf with
    op := some (if s.modeKnown then .writeVout (s.setpoint lv) false else .readMode), retries := 0 } := by
    unfold asked op
    split <;> rfl
  clear_value asked
  split
  · exact hasked
  · exact hasked

/-- A step from `a` to `b` toward `target` is under way. -/
def State.stepUnderWay (s : State) (a b target : Nat) : State :=
  let s : State := { s with perf := { s.perf with
    step := some (a, b), confirmed := false, settling := false, pend := if b = target then none else some target } }
  ((s.set PL_STATUS_BUSY 1).setB PL_STATUS_PENDING (decide (b ≠ target))).set PL_STATUS_TARGET target

/-- The frequency changes at the second tick from now. -/
def State.frequencyDue (s : State) : State := { s with perf := { s.perf with freqTick := some (s.frame.ticks + 2) } }

theorem State.frequencyDue_get {F : Field} : s.frequencyDue.get F = s.get F := State.rd_congr rfl _ _

theorem State.startStep_eq (hb : b = if a < target then a + 1 else a - 1) (ha : a = s.get PL_STATUS_LEVEL) : s.startStep target =
    if a < b then (s.stepUnderWay a b target).frequencyDue
    else (s.stepUnderWay a b target).startVolt b := by
  subst ha hb
  rfl

theorem State.startStep_up (ha : a = s.get PL_STATUS_LEVEL) (hup : a < n) :
    s.startStep n = (s.stepUnderWay a (a + 1) n).frequencyDue :=
  (State.startStep_eq (if_pos hup).symm ha).trans (if_pos (Nat.lt_add_one a))

theorem State.startStep_down (ha : a = s.get PL_STATUS_LEVEL) (hdown : n < a) :
    s.startStep n = (s.stepUnderWay a (a - 1) n).startVolt (a - 1) :=
  (State.startStep_eq (if_neg hdown.not_gt).symm ha).trans (if_neg (Nat.sub_le a 1).not_gt)

theorem State.stepUnderWay_reads (hok : Words.ok s.objs) : (s.stepUnderWay a b target).ok ∧
    (s.stepUnderWay a b target).get PL_STATUS_BUSY = 1 ∧
    (s.stepUnderWay a b target).get PL_STATUS_LEVEL = s.get PL_STATUS_LEVEL ∧
    (s.stepUnderWay a b target).modeKnown = s.modeKnown := by
  have hstep : (s.stepUnderWay a b target).ok := Words.wr_ok (Words.wr_ok (Words.wr_ok hok))
  refine ⟨hstep, ?_⟩
  unfold State.stepUnderWay
  extract_lets +onlyGivenNames started t
  have ht : t.objs = s.objs := rfl
  have htok : Words.ok t.objs := hok
  clear_value t
  simp only [State.modeKnown, State.get_objs, State.on_objs, State.set_objs, State.setB_objs, ← ht]
  simp (disch := (constructor; (repeat refine Words.wr_ok ?_); exact htok; decide)) only
    [Words.rd_wr_apart, Words.rd_wr_eq]
  exact ⟨rfl, trivial, trivial⟩

/-- The set-points stand in another object. -/
theorem State.stepUnderWay_setpoint (hok : s.ok) (hlv : lv < 4) : (s.stepUnderWay a b target).setpoint lv = s.setpoint lv := by
  have happart : ∀ F : Field, F.index = 0x6100 → F.sub = 0 → F.apart 0 PL_VOUT_MV lv = true := fun F hF hs =>
    Field.apart_of_index (by rw [hF]; decide) (by omega) (by
      have hsub : PL_VOUT_MV.sub = 0 := rfl
      omega)
  unfold State.stepUnderWay
  extract_lets +onlyGivenNames started t
  have ht : t.setpoint lv = s.setpoint lv := rfl
  have htok : t.ok := hok
  clear_value t
  refine Eq.trans ?_ ht
  exact (State.rd_wr_apart ⟨State.wr_ok (State.wr_ok htok), happart _ rfl rfl⟩).trans
    ((State.rd_wr_apart ⟨State.wr_ok htok, happart _ rfl rfl⟩).trans (State.rd_wr_apart ⟨htok, happart _ rfl rfl⟩))

theorem State.stepUnderWay_perf : (s.stepUnderWay a b target).perf.step = some (a, b) := rfl

theorem State.stepUnderWay_frame : (s.stepUnderWay a b target).frame = s.frame := rfl

theorem State.tryStart_done (hpend : s.perf.pend = some n) (hstep : s.perf.step = none) (h : n = s.get PL_STATUS_LEVEL) :
    s.tryStart = { ((s.set PL_STATUS_PENDING 0).set PL_STATUS_RESULT 1).set PL_STATUS_TARGET n with
      perf := { s.perf with pend := none } } := by
  simp only [State.tryStart, hpend]
  exact if_pos (by simp [← h, hstep])

theorem State.tryStart_starts (hpend : s.perf.pend = some n) (hmay : s.mayStart n = true) (h : n ≠ s.get PL_STATUS_LEVEL) :
    s.tryStart = s.startStep n := by
  simp only [State.tryStart, hpend]
  exact (if_neg (by simp [h])).trans (if_pos hmay)

theorem State.tryStart_held (hpend : s.perf.pend = some n) (h : n ≠ s.get PL_STATUS_LEVEL)
    (hmarginal : s.on SM_STATUS_MARGINAL = true) : s.tryStart = s := by
  have hmay : s.mayStart n = false := by simp [State.mayStart, hmarginal]
  simp only [State.tryStart, hpend]
  exact (if_neg (by simp [h])).trans (if_neg (by simp [hmay]))

theorem State.tryStart_done_reads (hok : Words.ok s.objs) (hpend : s.perf.pend = some n) (hstep : s.perf.step = none)
    (h : n = s.get PL_STATUS_LEVEL) :
    s.tryStart.perf.pend = none ∧ s.tryStart.get PL_STATUS_PENDING = 0 ∧ s.tryStart.get PL_STATUS_RESULT = 1 := by
  rw [State.tryStart_done hpend hstep h]
  refine ⟨rfl, ?_⟩
  simp only [State.get_objs, State.set_objs]
  simp (disch := (constructor; (repeat refine Words.wr_ok ?_); exact hok; decide)) only
    [Words.rd_wr_apart, Words.rd_wr_eq]
  exact ⟨rfl, rfl⟩

theorem State.tryStart_up (hok : s.ok) (hpend : s.perf.pend = some n) (hmay : s.mayStart n = true)
    (ha : a = s.get PL_STATUS_LEVEL) (hup : a < n) :
    s.tryStart.perf.step = some (a, a + 1) ∧ s.tryStart.perf.freqTick = some (s.frame.ticks + 2) ∧
      s.tryStart.get PL_STATUS_BUSY = 1 ∧ s.tryStart.get PL_STATUS_LEVEL = a := by
  have hstart := (State.tryStart_starts hpend hmay (ha ▸ hup.ne')).trans (State.startStep_up ha hup)
  obtain ⟨-, hbusy, hlevel, -⟩ := State.stepUnderWay_reads (a := a) (b := a + 1) (target := n) hok
  have hunder := State.stepUnderWay_perf (s := s) (a := a) (b := a + 1) (target := n)
  have hticks := State.stepUnderWay_frame (s := s) (a := a) (b := a + 1) (target := n)
  rw [hstart]
  generalize s.stepUnderWay a (a + 1) n = t at hbusy hlevel hunder hticks ⊢
  exact ⟨hunder, congrArg (fun f : FrameSt => some (f.ticks + 2)) hticks, State.frequencyDue_get.trans hbusy,
    State.frequencyDue_get.trans (hlevel.trans ha.symm)⟩

theorem State.tryStart_down (hok : s.ok) (hpend : s.perf.pend = some n) (hmay : s.mayStart n = true)
    (ha : a = s.get PL_STATUS_LEVEL) (hdown : n < a) :
    s.tryStart.perf.step = some (a, a - 1) ∧
      s.tryStart.perf.op = some (if s.modeKnown then .writeVout (s.setpoint (a - 1)) false else .readMode) ∧
      s.tryStart.get PL_STATUS_BUSY = 1 ∧ s.tryStart.get PL_STATUS_LEVEL = a := by
  have hstart := (State.tryStart_starts hpend hmay (ha ▸ hdown.ne)).trans (State.startStep_down ha hdown)
  obtain ⟨hunderOk, hbusy, hlevel, hknown⟩ := State.stepUnderWay_reads (a := a) (b := a - 1) (target := n) hok
  have hlt : a < 4 := ha ▸ State.rd_lt s PL_STATUS_LEVEL 0
  have hpoint := State.stepUnderWay_setpoint (a := a) (b := a - 1) (target := n) (lv := a - 1) hok (by omega)
  have hunder := State.stepUnderWay_perf (s := s) (a := a) (b := a - 1) (target := n)
  rw [hstart]
  generalize s.stepUnderWay a (a - 1) n = t at hbusy hlevel hunder hknown hpoint hunderOk ⊢
  have hvolt := State.startVolt_perf (s := t) (lv := a - 1)
  rw [hknown, hpoint] at hvolt
  refine ⟨?_, ?_, (State.startVolt_writes.rd hunderOk (by decide)).trans hbusy,
    (State.startVolt_writes.rd hunderOk (by decide)).trans (hlevel.trans ha.symm)⟩
  · rw [hvolt]
    exact hunder
  · rw [hvolt]

/-! A frequency change (R297, R299). -/

theorem State.armsClock_beside : (s.armsClock.perf, s.armsClock.frame) = (s.perf, s.frame) := by
  unfold State.armsClock State.mapArming
  split <;> rfl

/-- The frequency of a level in force, and the change taken off. -/
def State.frequencySet (s : State) (lv : Nat) : State :=
  let s := s.armsClock.setFrequency lv
  { s with perf := { s.perf with freqTick := none, lastTick := some s.frame.ticks } }

theorem State.changeFrequency_eq (hstep : s.perf.step = some (a, b)) (htick : s.perf.freqTick = some n)
    (hdue : n ≤ s.frame.ticks) (htc : s.frame.tc = 0) : s.changeFrequency =
      if a < b then (((s.frequencySet b).perfRecord b a 0 0).setLevels
        ((s.frequencySet b).setpoint b)).startVolt b
      else ((s.frequencySet b).perfRecord b a 0 ((s.frequencySet b).get PL_VOUT_READ_MV)).stepDone := by
  unfold State.changeFrequency
  rw [hstep, htick]
  exact if_neg (by simp [htc, hdue])

theorem State.changeFrequency_early (hstep : s.perf.step = some (a, b)) (htick : s.perf.freqTick = some n)
    (h : s.frame.ticks < n ∨ s.frame.tc ≠ 0) : s.changeFrequency = s := by
  simp only [State.changeFrequency, hstep, htick]
  exact if_pos (by simpa using h)

theorem State.frequencySet_perf : (s.frequencySet lv).perf = { s.perf with freqTick := none, lastTick := some s.frame.ticks } := by
  obtain ⟨hperf, hframe⟩ := Prod.mk.inj (State.armsClock_beside (s := s))
  have hset : (s.frequencySet lv).perf = { s.armsClock.perf with freqTick := none, lastTick := some s.armsClock.frame.ticks } :=
    rfl
  rw [hset, hperf, hframe]

theorem State.frequencySet_reads (hok : s.ok) (hlv : lv < 3) : (s.frequencySet lv).ok ∧
    (s.frequencySet lv).get PL_STATUS_LEVEL = lv ∧ (s.frequencySet lv).rd TC_OUTDIV_RATIO 1 = 2 * tcPerEc lv ∧
    (s.frequencySet lv).rd TC_OUTDIV_RATIO 2 = 4 * tcPerEc lv := by
  have hclock : Words.ok s.armsClock.objs := State.ok_of_objs hok State.armsClock_objs
  unfold State.frequencySet State.setFrequency
  generalize s.armsClock = t at hclock
  refine ⟨Words.wr_ok (Words.wr_ok (Words.wr_ok hclock)), ?_⟩
  simp only [State.rd_objs, State.get_objs, State.wr_objs, State.set_objs]
  simp (disch := (constructor; (repeat refine Words.wr_ok ?_); exact hclock; decide)) only
    [Words.rd_wr_apart, Words.rd_wr_eq]
  have hcycles : 4 * tcPerEc lv < 256 := by
    unfold tcPerEc
    split_ifs <;> decide
  exact ⟨Nat.mod_eq_of_lt (show lv < 4 by omega), Nat.mod_eq_of_lt (show 2 * tcPerEc lv < 256 by omega),
    Nat.mod_eq_of_lt hcycles⟩

/-- What follows a frequency change writes. -/
def changeFields : List (Field × Nat) :=
  stepFields ++ postFields ++ [(PL_COUNTS_COUNT, 0), (PL_STATUS_BUSY, 0), (PL_STATUS_RESULT, 0)]

theorem State.perfRecord_writes {x y z : Nat} : State.Writes postFields s (s.perfRecord x y z mv) := State.post_writes

theorem State.perfRecord_perf {x y z : Nat} : (s.perfRecord x y z mv).perf = s.perf := by
  unfold State.perfRecord
  rw [State.post_keeps]

theorem State.stepDone_writes : State.Writes changeFields s s.stepDone := by
  unfold State.stepDone
  extract_lets +onlyGivenNames c ended d
  have hd : State.Writes changeFields s d :=
    ((State.Writes.refl.bumpAt (F := PL_COUNTS_COUNT) (e := 0) (by decide)).set (F := PL_STATUS_BUSY) (v := 0) (by decide)).beside rfl
  clear_value d
  exact .ite (hd.set (by decide)) hd

theorem State.stepDone_perf : s.stepDone.perf.step = none ∧ s.stepDone.perf.freqTick = none ∧
    s.stepDone.perf.lastTick = s.perf.lastTick := by
  unfold State.stepDone
  extract_lets +onlyGivenNames c ended d
  have hd : d.perf.step = none ∧ d.perf.freqTick = none ∧ d.perf.lastTick = s.perf.lastTick := ⟨rfl, rfl, rfl⟩
  clear_value d
  split
  · exact hd
  · exact hd

theorem State.stepDone_busy (hok : s.ok) : s.stepDone.get PL_STATUS_BUSY = 0 := by
  unfold State.stepDone
  extract_lets +onlyGivenNames c ended d
  have hc : c.ok := State.wr_ok (State.wr_ok hok)
  have hbusy : c.rd PL_STATUS_BUSY 0 = 0 := State.rd_wr_eq ⟨State.wr_ok hok, by decide⟩
  have hd : d.objs = c.objs := rfl
  clear_value d
  have hdok : d.ok := State.ok_of_objs hc hd
  have hdbusy : d.rd PL_STATUS_BUSY 0 = 0 := (State.rd_congr hd _ _).trans hbusy
  split
  · exact (State.rd_wr_apart ⟨hdok, by decide⟩).trans hdbusy
  · exact hdbusy

/-- The rest of a frequency change keeps the level, the ratios and the instant of the change. -/
theorem State.changeFrequency_reads (hok : s.ok) (hstep : s.perf.step = some (a, b)) (htick : s.perf.freqTick = some n)
    (hdue : n ≤ s.frame.ticks) (htc : s.frame.tc = 0) (hb : b < 3) :
    s.changeFrequency.get PL_STATUS_LEVEL = b ∧ s.changeFrequency.rd TC_OUTDIV_RATIO 1 = 2 * tcPerEc b ∧
      s.changeFrequency.rd TC_OUTDIV_RATIO 2 = 4 * tcPerEc b ∧ s.changeFrequency.perf.lastTick = some s.frame.ticks ∧
      s.changeFrequency.perf.freqTick = none ∧
      (b ≤ a → s.changeFrequency.perf.step = none ∧ s.changeFrequency.get PL_STATUS_BUSY = 0) := by
  obtain ⟨hset, hlevel, hratio1, hratio2⟩ := State.frequencySet_reads hok hb
  have hperf := State.frequencySet_perf (s := s) (lv := b)
  rw [State.changeFrequency_eq hstep htick hdue htc]
  generalize s.frequencySet b = t at *
  split
  · next hup =>
    have hwrites : State.Writes changeFields t (((t.perfRecord b a 0 0).setLevels (t.setpoint b)).startVolt b) :=
      ((State.perfRecord_writes.mono (by decide)).trans (State.setLevels_writes.mono (by decide))).trans
        (State.startVolt_writes.mono (by decide))
    have hkept : ((t.perfRecord b a 0 0).setLevels (t.setpoint b)).perf = t.perf :=
      Eq.trans rfl State.perfRecord_perf
    have hvolt := State.startVolt_perf (s := (t.perfRecord b a 0 0).setLevels (t.setpoint b)) (lv := b)
    rw [hkept, hperf] at hvolt
    refine ⟨(hwrites.rd hset (by decide)).trans hlevel, (hwrites.rd hset (by decide)).trans hratio1,
      (hwrites.rd hset (by decide)).trans hratio2, ?_, ?_, fun hdown => absurd hup (Nat.not_lt.mpr hdown)⟩
    · rw [hvolt]
    · rw [hvolt]
  · obtain ⟨x, hx⟩ : ∃ x, x = t.perfRecord b a 0 (t.get PL_VOUT_READ_MV) := ⟨_, rfl⟩
    have hrecord : State.Writes changeFields t x := hx ▸ State.perfRecord_writes.mono (by decide)
    have hkept : x.perf = t.perf := hx ▸ State.perfRecord_perf
    rw [← hx]
    clear hx
    have hwrites := hrecord.trans State.stepDone_writes
    obtain ⟨hnone, hoff, hlast⟩ := State.stepDone_perf (s := x)
    refine ⟨(hwrites.rd hset (by decide)).trans hlevel, (hwrites.rd hset (by decide)).trans hratio1,
      (hwrites.rd hset (by decide)).trans hratio2, ?_, hoff, fun _ => ⟨hnone, State.stepDone_busy (hrecord hset).1⟩⟩
    rw [hlast, hkept, hperf]

/-! The regulator (R298). -/

theorem State.pmbusDone_ack {back : Bool} (h : s.perf.op = some (.writeVout mv back)) : s.pmbusDone .ack = s.gotWrite back := by
  simp only [State.pmbusDone, h]

theorem State.pmbusDone_nack {back : Bool} (h : s.perf.op = some (.writeVout mv back)) (hretry : s.perf.retries < 2) :
    s.pmbusDone .nack = { s with perf := { s.perf with retries := s.perf.retries + 1 } } := by
  have hretried : s.pmbusDone .nack = s.retry 3 := by simp only [State.pmbusDone, h]
  exact hretried.trans (if_pos hretry)

theorem State.gotWrite_perf {back : Bool} : (s.gotWrite back).perf.settling = (!back) ∧
    (s.perf.statusDue = false → (s.gotWrite back).perf.op = none) := by
  refine ⟨rfl, fun hdue => ?_⟩
  have hop : (s.gotWrite back).perf.op = if s.perf.statusDue then some .readStatus else none := rfl
  rw [hop, hdue]
  rfl

end Sys2Proof.Machine

namespace Sys2Proof

open Machine

/-- Settles O36: the checks of R296 in order, a step by its direction, a frequency change with what follows it, and the
regulator's transactions one by one. -/
theorem performanceSteps : Obligations.PerformanceSteps := by
  intro s w v a b n mv x back hwf
  have hok : s.ok := (Good.of_wf hwf).objs
  have hrule := fun y => State.objectRule_6101 s .clean w.q.port 0 y
  refine ⟨fun hadm hv => ⟨fun hmode hsv hsrc hlink => ⟨fun hlt hfit => ?_, fun hlt hfit => ?_, fun h3 => ?_⟩,
    fun hmode hsv hbad => ?_, fun hbad => ?_⟩, fun hpend hmay hstep => ⟨fun hup => ?_, fun hdown => ?_, fun hsame => ?_⟩,
    fun hpend hne hmarginal => congrArg Host.Outcome.next (State.tryStart_held hpend hne hmarginal),
    fun hstep htick hb => ⟨fun hdue htc => ⟨_, rfl, State.changeFrequency_reads hok hstep htick hdue htc hb⟩,
      fun h => congrArg Host.Outcome.next (State.changeFrequency_early hstep htick h)⟩,
    fun hop => ⟨⟨_, congrArg Host.Outcome.next (State.pmbusDone_ack hop), State.gotWrite_perf⟩,
      fun hretry => congrArg Host.Outcome.next (State.pmbusDone_nack hop hretry)⟩, fun hop => ?_, fun hop => ?_,
    fun hop => ?_, fun hop => ?_, fun hsettle => ?_, fun hsettle => ?_⟩
  · subst hv
    have hjudged := State.wPlRequest_judged hmode hsv hsrc hlink
    rw [if_neg (by simp [hfit]), if_neg (by omega)] at hjudged
    exact exec_accepted rfl hadm ((hrule _).trans hjudged) rfl
  · subst hv
    have hjudged := State.wPlRequest_judged hmode hsv hsrc hlink
    rw [if_pos (by simp [hfit, hlt])] at hjudged
    exact exec_refused_uncounted rfl hadm ((hrule _).trans hjudged) rfl (by decide) (by decide)
  · subst hv
    have hjudged := State.wPlRequest_judged hmode hsv hsrc hlink
    rw [if_neg (by simp [h3]), if_pos h3] at hjudged
    exact exec_refused_uncounted rfl hadm ((hrule _).trans hjudged) rfl (by decide) (by decide)
  · subst hv
    exact exec_refused_uncounted rfl hadm ((hrule _).trans (State.wPlRequest_state hmode hsv hbad)) rfl (by decide) (by decide)
  · exact exec_refused_uncounted rfl hadm ((hrule _).trans (State.wPlRequest_mode hbad)) rfl (by decide) (by decide)
  · exact ⟨_, rfl, State.tryStart_up hok hpend hmay rfl hup⟩
  · exact ⟨_, rfl, State.tryStart_down hok hpend hmay rfl hdown⟩
  · exact ⟨_, rfl, State.tryStart_done_reads hok hpend hstep hsame⟩
  · exact congrArg Host.Outcome.next (by simp only [State.pmbusDone, hop])
  · exact congrArg Host.Outcome.next (by simp only [State.pmbusDone, hop])
  · exact congrArg Host.Outcome.next (by simp only [State.pmbusDone, hop])
  · exact congrArg Host.Outcome.next (by simp only [State.pmbusDone, hop])
  · exact ⟨_, congrArg Host.Outcome.next (if_pos hsettle), rfl, rfl, rfl⟩
  · exact congrArg Host.Outcome.next (if_neg (by simp [hsettle]))

end Sys2Proof
end

section
/-! SUPPORT. Frames by object: what an operation writes of the dictionary, named by object numbers, for subindices that are variables. -/

namespace Sys2Proof.Machine


variable {s t u : State} {F G : Field} {e e' v i k lo m x : Nat} {is js : List Nat} {b : Bool}

/-- The dictionary stays in canonical form, and the fields of the objects outside `is` read as before. -/
def State.WritesObjects (is : List Nat) (s t : State) : Prop :=
  s.ok → t.ok ∧ ∀ (G : Field) (e : Nat), G.index ∉ is → G.sub + e < 65536 → t.rd G e = s.rd G e

theorem State.WritesObjects.rd (h : State.WritesObjects is s t) (hs : s.ok) (hG : is.contains G.index = false)
    (he : G.sub + e < 65536) : t.rd G e = s.rd G e := (h hs).2 G e (by simpa using hG) he

theorem State.WritesObjects.get (h : State.WritesObjects is s t) (hs : s.ok)
    (hG : (is.contains G.index || !Nat.blt G.sub 65536) = false) : t.get G = s.get G := by
  obtain ⟨hindex, hsub⟩ := Bool.or_eq_false_iff.mp hG
  exact h.rd hs hindex (Nat.blt_eq.mp (by simpa using hsub))

theorem State.WritesObjects.on (h : State.WritesObjects is s t) (hs : s.ok)
    (hG : (is.contains G.index || !Nat.blt G.sub 65536) = false) : t.on G = s.on G :=
  congrArg (fun n => decide (n = 1)) (h.get hs hG)

theorem State.WritesObjects.refl : State.WritesObjects is s s := fun h => ⟨h, fun _ _ _ _ => rfl⟩

theorem State.WritesObjects.trans (h : State.WritesObjects is s t) (h' : State.WritesObjects is t u) :
    State.WritesObjects is s u := fun hs =>
  ⟨(h' (h hs).1).1, fun G e hG he => ((h' (h hs).1).2 G e hG he).trans ((h hs).2 G e hG he)⟩

theorem State.WritesObjects.mono (hsub : ∀ i ∈ is, i ∈ js) (h : State.WritesObjects is s t) : State.WritesObjects js s t :=
  fun hs => ⟨(h hs).1, fun G e hG he => (h hs).2 G e (fun hi => hG (hsub _ hi)) he⟩

theorem State.WritesObjects.wr (hF : F.index ∈ is) (he : F.sub + e < 65536) (h : State.WritesObjects is s t) :
    State.WritesObjects is s (t.wr F e v) := fun hs =>
  ⟨State.wr_ok (h hs).1, fun G _ hG he' =>
    (State.rd_wr_apart ⟨(h hs).1, Field.apart_of_index (fun hi => hG (hi ▸ hF)) he he'⟩).trans ((h hs).2 G _ hG he')⟩

theorem State.WritesObjects.bumpAt (hF : F.index ∈ is) (he : F.sub + e < 65536) (h : State.WritesObjects is s t) :
    State.WritesObjects is s (t.bumpAt F e) := h.wr hF he

theorem State.WritesObjects.set (hF : F.index ∈ is ∧ F.sub + 0 < 65536) (h : State.WritesObjects is s t) :
    State.WritesObjects is s (t.set F v) := h.wr hF.1 hF.2

theorem State.WritesObjects.setB (hF : F.index ∈ is ∧ F.sub + 0 < 65536) (h : State.WritesObjects is s t) :
    State.WritesObjects is s (t.setB F b) := h.wr hF.1 hF.2

theorem State.WritesObjects.bump (hF : F.index ∈ is ∧ F.sub + 0 < 65536) (h : State.WritesObjects is s t) :
    State.WritesObjects is s (t.bump F) := h.wr hF.1 hF.2

theorem State.WritesObjects.setWord {w : Word} (hi : i ∈ is) (hk : k < 65536) (h : State.WritesObjects is s t) :
    State.WritesObjects is s (t.setWord i k w) := fun hs => by
  refine ⟨State.setWord_ok (h hs).1, fun G e hG he => Eq.trans ?_ ((h hs).2 G e hG he)⟩
  refine State.rd_setWord_apart ⟨(h hs).1, Bool.eq_false_iff.mpr fun hkey => hG ?_⟩
  have hsame := Nat.eq_of_beq_eq_true hkey
  have hindex : G.index = i := by
    simp only [objKey] at hsame
    omega
  exact hindex ▸ hi

theorem State.WritesObjects.put64 (hi : i ∈ is) (hk : k + 1 < 65536) (h : State.WritesObjects is s t) :
    State.WritesObjects is s (t.put64 i k v) := (h.setWord hi (by omega)).setWord hi hk

theorem State.WritesObjects.beside (h : State.WritesObjects is s t) (ho : u.objs = t.objs) : State.WritesObjects is s u :=
  fun hs => ⟨State.ok_of_objs (h hs).1 ho, fun G e hG he => (State.rd_congr ho G e).trans ((h hs).2 G e hG he)⟩

theorem State.WritesObjects.ite {c : Prop} [Decidable c] (ht : State.WritesObjects is s t) (hu : State.WritesObjects is s u) :
    State.WritesObjects is s (if c then t else u) := by
  split <;> assumption

theorem State.WritesObjects.foldl {α : Type} {f : State → α → State} {l : List α}
    (h : ∀ t, ∀ x ∈ l, State.WritesObjects is t (f t x)) : State.WritesObjects is s (l.foldl f s) := by
  induction l generalizing s with
  | nil => exact .refl
  | cons x xs ih =>
    exact (h s x List.mem_cons_self).trans (ih fun t y hy => h t y (List.mem_cons_of_mem _ hy))

theorem State.WritesObjects.setMask (hi : i ∈ is) (hm : lo + m ≤ 65536) (h : State.WritesObjects is s t) :
    State.WritesObjects is s (t.setMask i lo m x) :=
  h.trans (.foldl fun _ _ hk => .setWord hi (by have := List.mem_range.mp hk; omega) .refl)

/-- From a list of fields. -/
theorem State.WritesObjects.of_writes {fs : List (Field × Nat)} (h : State.Writes fs s t)
    (hfs : ∀ p ∈ fs, p.1.index ∈ is ∧ p.1.sub + p.2 < 65536) : State.WritesObjects is s t := fun hs =>
  ⟨(h hs).1, fun _ _ hG he => h.rd hs (List.all_eq_true.mpr fun p hp =>
    Field.apart_of_index (fun hi => hG (hi ▸ (hfs p hp).1)) (hfs p hp).2 he)⟩

end Sys2Proof.Machine
end

section
/-! SUPPORT. A report whose own check masks it: the unit of a memory checker's report names a domain whose state is read in another object. -/

namespace Sys2Proof.Machine


/-- The collector runs, and the next check of source 40 is the last that a pending injection inverts. -/
def injectionState (sev : Nat) : State :=
  let s := (State.reset.set TC_STATUS_CLK_READY 1).wr FC_CFG_SEVERITY 40 sev
  { ((s.set TI_STATUS_PENDING 1).set TI_STATUS_SOURCE 40).set TI_STATUS_REMAINING 1 with rst := { s.rst with held := [] } }

/-- A report of source 40 whose unit stands in "domain" 0x1C010000. The state of that domain is read in TI_STATUS, and the
check that the report itself makes moves it from EBB to DOWN. -/
def farReport : Report := { src := 40, unit := 256 * 0x1C010000, wire := false }

theorem injectionState_wf : Safety.wf (injectionState 1) = true ∧ Safety.wf (injectionState 3) = true := by decide

theorem injectionState_collects : (injectionState 1).collects = true ∧ (injectionState 3).collects = true := by decide

/-- Before its check the report is not masked, and nothing reports source 40. -/
theorem injectionState_unmasked (sev : Nat) (h : sev = 1 ∨ sev = 3) : (injectionState sev).masked 40 farReport.unit = false ∧
    (injectionState sev).sourceBit FC_ACTIVE_BITS 40 = false := by
  rcases h with rfl | rfl <;> decide

end Sys2Proof.Machine

namespace Sys2Proof

open Machine

/-- Refutes O42: a memory checker's report whose unit names "domain" 0x1C010000 is masked by its own check, which ends the
pending injection, and its source is not reported. -/
theorem not_faultReports : ¬ Obligations.FaultReports := by
  intro h
  obtain ⟨hreport, -⟩ := h (injectionState 1) farReport ⟨⟨0, 0, 0, 0, 0, 0, 0, false, false, false, 0, 0⟩, 0, 0, none⟩
    0 0 0 0 0 1 ⟨0, 0, 0, 0, 0⟩ [] injectionState_wf.1
  obtain ⟨hmask, hactive⟩ := injectionState_unmasked 1 (.inl rfl)
  obtain ⟨hopens, -⟩ := hreport injectionState_collects.1 rfl hmask (.inr hactive) (by decide)
  obtain ⟨t, hexec, hsticky, -⟩ := hopens rfl (by decide)
  obtain rfl := Host.Outcome.next.inj hexec
  exact absurd hsticky (by decide)

/-- Refutes O43: the same report at S3 enters no safe state. -/
theorem not_safeStateEntry : ¬ Obligations.SafeStateEntry := by
  intro h
  obtain ⟨hmask, hactive⟩ := injectionState_unmasked 3 (.inr rfl)
  obtain ⟨t, hexec, hentered, -⟩ := h (injectionState 3) farReport injectionState_wf.2 injectionState_collects.2 rfl rfl hmask
    (.inr hactive) (by decide) (by decide)
  obtain rfl := Host.Outcome.next.inj hexec
  exact absurd hentered (by decide)

end Sys2Proof
end

section
/-! SUPPORT. What the ring's events leave alone (R216 to R219, R225): forwarding and own frames, link-up and loopback. -/

namespace Sys2Proof.Machine


variable {s t u : State} {F : Field} {p q e n v up : Nat} {x : RxItem} {f : RxFrame} {h : Hello} {c : Instr} {is : List Nat}

/-! A field of the ring for one of the four pairs stands on page 0x11. -/

/-- An object of the ring. -/
def Field.isRing (F : Field) : Bool := Nat.beq (F.index / 256) 0x11 && Nat.beq F.sub 0

theorem Field.page_of_isRing (hF : F.isRing = true) (hp : p < 4) : F.page p = 0x11 := by
  simp only [Field.isRing, Bool.and_eq_true, Nat.beq_eq] at hF
  simp only [Field.page, objKey]
  omega

/-! Frames and control blocks (R216, R217): the words of page 0x11 and the pairs. -/

/-- The state without the words and the pairs. -/
def State.besidePairs (s : State) : State := { s with objs := [], pairs := [] }

abbrev State.KeepsPairs : State → State → Prop := State.Keeps State.besidePairs [0x11]

theorem besidePairs_words : WordFree State.besidePairs := fun _ _ => rfl

/-- The words and the pairs of another state. -/
def State.withPairs (s t : State) : State := { s with objs := t.objs, pairs := t.pairs }

theorem State.Keeps.eq_pairs (hk : State.KeepsPairs s t) : t = { s with objs := t.objs, pairs := t.pairs } :=
  calc t = t.besidePairs.withPairs t := rfl
    _ = s.besidePairs.withPairs t := by rw [hk.1]

theorem State.Keeps.bumpRing (hF : F.isRing = true) (hp : p < 4) (hk : State.KeepsPairs s t) :
    State.KeepsPairs s (t.bumpAt F p) :=
  hk.bumpAt besidePairs_words (by rw [Field.page_of_isRing hF hp]; decide)

theorem State.Keeps.pair {y : PairSt} (hk : State.KeepsPairs s t) : State.KeepsPairs s (t.setPair p y) := hk

/-- What forwards leaves the other pages. -/
theorem State.keepsPairs_of_besideForwarding (h : t.besideForwarding = s.besideForwarding) : State.KeepsPairs s t := by
  refine ⟨congrArg (fun u : State => { u with objs := [] }) h, fun n hn => ?_⟩
  have hpage : ∀ u : State, Words.page n u.besideForwarding.objs = Words.page n u.objs := fun u => by
    simp only [Words.page, State.besideForwarding, List.filter_filter]
    refine List.filter_congr fun w _ => ?_
    simp only [forwardObjects, List.mem_cons, List.not_mem_nil, or_false] at hn ⊢
    by_cases hw : w.1 / 2 ^ 24 = n
    · simp only [hw, decide_true, Bool.true_and, decide_eq_true_eq]
      omega
    · rw [decide_eq_false hw, Bool.false_and]
  rw [← hpage t, ← hpage s, h]

theorem State.pass_keepsPairs (hp : p < 4) : State.KeepsPairs s (s.pass p x) :=
  State.keepsPairs_of_besideForwarding (State.pass_besideForwarding hp)

theorem State.sendItem_keepsPairs (hp : p < 4) : State.KeepsPairs s (s.sendItem p up x) :=
  State.keepsPairs_of_besideForwarding (State.sendItem_besideForwarding hp)

theorem State.flCount_keepsPairs (hF : F.isRing = true) (hp : p < 4) : State.KeepsPairs s (s.flCount F p) :=
  .ite .refl (.bumpRing hF hp .refl)

theorem State.passFrame_keepsPairs {b : Bool} (hp : p < 4) : State.KeepsPairs s (s.passFrame p b f) :=
  .ite (State.flCount_keepsPairs rfl hp) (State.pass_keepsPairs hp)

theorem State.passControl_keepsPairs {y : BitVec 56} (hp : p < 4) : State.KeepsPairs s (s.passControl p n y) :=
  have hpass := State.pass_keepsPairs (s := s) (x := .control n y) hp
  .ite .refl (.ite (.ite .refl hpass) (.ite (State.flCount_keepsPairs rfl hp) (.ite .refl (.ite (.ite .refl hpass)
    (.ite hpass (hpass.trans (State.flCount_keepsPairs rfl hp)))))))

theorem State.forwardFrame_keepsPairs (hp : p < 4) : State.KeepsPairs s (s.forwardFrame p n f) := by
  unfold State.forwardFrame
  extract_lets good mine checked known
  have hchecked : State.KeepsPairs s checked := .ite .refl (State.flCount_keepsPairs rfl hp)
  have hknown : State.KeepsPairs checked known := .ite .refl (State.flCount_keepsPairs rfl hp)
  exact .ite hchecked ((hchecked.trans hknown).trans (State.passFrame_keepsPairs hp))

theorem State.countSync_keepsPairs (hp : p < 4) : State.KeepsPairs s (s.countSync p n) :=
  .ite .refl (.wr besidePairs_words (by rw [Field.page_of_isRing rfl hp]; decide) .refl)

theorem State.forwardItem_keepsPairs (hp : p < 4) : State.KeepsPairs s (s.forwardItem p x) := by
  match x with
  | .control _ _ => exact State.passControl_keepsPairs hp
  | .badSync _ none => exact State.countSync_keepsPairs hp
  | .badSync _ (some f) => exact (State.countSync_keepsPairs hp).trans (State.forwardFrame_keepsPairs hp)
  | .frame f => exact State.forwardFrame_keepsPairs hp

theorem State.forward_keepsPairs (hp : p < 4) : State.KeepsPairs s (s.forward p x) :=
  .ite (.ite .refl (State.pass_keepsPairs hp)) (State.forwardItem_keepsPairs hp)

theorem State.sendHead_keepsPairs (hp : p < 4) : State.KeepsPairs s (s.sendHead p up) := by
  unfold State.sendHead
  split
  · exact .refl
  · exact (State.Keeps.pair .refl).trans (State.sendItem_keepsPairs hp)

theorem State.sendOwn_keepsPairs (hp : p < 4) : State.KeepsPairs s (s.sendOwn p up) := by
  unfold State.sendOwn
  split
  · exact .refl
  · next f fs hown =>
    exact .ite (((State.keepsPairs_of_besideForwarding (State.cut_besideForwarding hp)).trans
      (State.keepsPairs_of_besideForwarding State.occupy_besideForwarding)).pair) .refl

theorem State.transmit_keepsPairs (hp : p < 4) : State.KeepsPairs s (s.transmit p) :=
  .ite .refl ((State.sendHead_keepsPairs hp).trans (State.sendOwn_keepsPairs hp))

/-! Link-up and loopback (R218, R219, R225): the latencies measured and the log's entry with them. -/

/-- The state without the words, the pairs, the log and the count of free values. -/
def State.besideLinks (s : State) : State := { s with objs := [], pairs := [], ev := {}, fresh := 0 }

abbrev State.KeepsLinks : State → State → Prop := State.Keeps State.besideLinks [0x11, 0x24, 0x26]

theorem besideLinks_words : WordFree State.besideLinks := fun _ _ => rfl

theorem besideLinks_records : RecordFree State.besideLinks := fun _ _ _ => rfl

/-- The words, the pairs, the log and the count of free values of another state. -/
def State.withLinks (s t : State) : State := { s with objs := t.objs, pairs := t.pairs, ev := t.ev, fresh := t.fresh }

theorem State.Keeps.eq_links (hk : State.KeepsLinks s t) :
    t = { s with objs := t.objs, pairs := t.pairs, ev := t.ev, fresh := t.fresh } :=
  calc t = t.besideLinks.withLinks t := rfl
    _ = s.besideLinks.withLinks t := by rw [hk.1]

theorem State.Keeps.wrLink (hF : F.isRing = true) (hp : p < 4) (hk : State.KeepsLinks s t) : State.KeepsLinks s (t.wr F p v) :=
  hk.wr besideLinks_words (by rw [Field.page_of_isRing hF hp]; decide)

theorem State.Keeps.links (hk : State.KeepsLinks s t) (hu : u.besideLinks = t.besideLinks) (ho : u.objs = t.objs) :
    State.KeepsLinks s u := hk.beside hu ho

theorem State.setPair_keepsLinks {y : PairSt} : State.KeepsLinks s (s.setPair p y) := State.Keeps.refl.links rfl rfl

theorem State.linkRecord_keepsLinks {event version us : Nat} : State.KeepsLinks s (s.linkRecord p event version us) :=
  .ite .refl (.post besideLinks_records (by decide) .refl)

theorem State.measureLatency_keepsLinks (hp : p < 4) : State.KeepsLinks s (s.measureLatency (portOf p)) := by
  have hpage : ∀ k, k < 8 → objKey 0x2405 k / 2 ^ 24 ∈ [0x11, 0x24, 0x26] := fun k hk => by
    have h24 : objKey 0x2405 k / 2 ^ 24 = 0x24 := by
      simp only [objKey]
      omega
    rw [h24]
    decide
  have hport : portOf p < 2 := by
    unfold portOf
    omega
  exact .ite .refl (((State.Keeps.refl.links (u := { s with fresh := s.fresh + 2 }) rfl rfl).setWord besideLinks_words
    (hpage _ (by omega))).setWord besideLinks_words (hpage _ (by omega)))

theorem State.sinceLost_keepsLinks : State.KeepsLinks s (s.sinceLost p).2 := by
  unfold State.sinceLost
  split
  · exact .refl
  · exact State.Keeps.refl.links rfl rfl

theorem State.linkUp_keepsLinks (hp : p < 4) : State.KeepsLinks s (s.linkUp p v) := by
  unfold State.linkUp
  extract_lets up agreed pair told measured
  have hup : State.KeepsLinks s up := .wrLink rfl hp (.wrLink rfl hp .refl)
  have hagreed : State.KeepsLinks up agreed := .wrLink rfl hp (.wrLink rfl hp .refl)
  have htold : State.KeepsLinks agreed told := State.setPair_keepsLinks
  have hmeasured : State.KeepsLinks told measured := State.measureLatency_keepsLinks hp
  have hsince : State.KeepsLinks measured (measured.sinceLost p).2 := State.sinceLost_keepsLinks
  have hall := (((hup.trans hagreed).trans htold).trans hmeasured).trans hsince
  clear_value measured
  generalize measured.sinceLost p = since at hall ⊢
  obtain ⟨us, ended⟩ := since
  exact hall.trans State.linkRecord_keepsLinks

theorem State.bothAgreed_keepsLinks (hp : p < 4) : State.KeepsLinks s (s.bothAgreed p) :=
  .ite (State.linkUp_keepsLinks hp) .refl

theorem State.hello_keepsLinks (hp : p < 4) : State.KeepsLinks s (s.hello p h) := by
  unfold State.hello
  refine .ite .refl ?_
  extract_lets peer x v y heard
  have hpeer : State.KeepsLinks s peer := .wrLink rfl hp (.wrLink rfl hp .refl)
  refine .ite ?_ ((hpeer.trans State.setPair_keepsLinks).trans (State.bothAgreed_keepsLinks hp))
  have hnoted : State.KeepsLinks s (peer.setPair p { y with noVersion := x.noVersion || decide (3 ≤ x.hellos) }) :=
    hpeer.trans State.setPair_keepsLinks
  exact .ite (hnoted.trans State.linkRecord_keepsLinks) hnoted

theorem State.sendHello_keepsLinks (hp : p < 4) : State.KeepsLinks s (s.sendHello p) := by
  unfold State.sendHello
  refine .ite .refl ?_
  extract_lets x told asked sent
  have hsent : State.KeepsLinks s sent := State.setPair_keepsLinks.trans State.setPair_keepsLinks
  exact hsent.trans (State.bothAgreed_keepsLinks hp)

theorem State.sendBreak_keepsLinks : State.KeepsLinks s (s.sendBreak p n) := .ite .refl (State.Keeps.refl.links rfl rfl)

theorem State.loopEngage_keepsLinks (hp : p < 4) : State.KeepsLinks s (s.loopEngage p) := by
  unfold State.loopEngage
  refine .ite ?_ .refl
  extract_lets looped
  have hmoved : State.KeepsLinks s (s.moveStream p) := State.Keeps.refl.links rfl rfl
  have hlooped : State.KeepsLinks s looped := (hmoved.wrLink rfl hp).wrLink rfl hp
  exact (hlooped.trans State.sendBreak_keepsLinks).trans State.linkRecord_keepsLinks

theorem State.loopRelease_keepsLinks (hp : p < 4) : State.KeepsLinks s (s.loopRelease p) := by
  unfold State.loopRelease
  refine .ite ?_ .refl
  extract_lets sent
  have hsent : State.KeepsLinks s sent := State.sendBreak_keepsLinks
  exact (hsent.wrLink rfl hp).trans State.linkRecord_keepsLinks

theorem exec_keepsPairs (hp : p < 4) (hc : c ∈ [Instr.frameForward p x, .ownFrameTransmit p]) (h : exec c s = .next t) :
    State.KeepsPairs s t := by
  simp only [List.mem_cons, List.not_mem_nil, or_false] at hc
  rcases hc with rfl | rfl <;> obtain rfl := Host.Outcome.next.inj h
  · exact .ite (State.forward_keepsPairs hp) .refl
  · exact State.transmit_keepsPairs hp

theorem exec_keepsLinks (hp : p < 4) (hc : c ∈ [Instr.helloSend p, .helloReceive p h, .loopEngage p, .loopRelease p])
    (he : exec c s = .next t) : State.KeepsLinks s t := by
  simp only [List.mem_cons, List.not_mem_nil, or_false] at hc
  rcases hc with rfl | rfl | rfl | rfl <;> obtain rfl := Host.Outcome.next.inj he
  · exact State.sendHello_keepsLinks hp
  · exact State.hello_keepsLinks hp
  · exact State.loopEngage_keepsLinks hp
  · exact State.loopRelease_keepsLinks hp

end Sys2Proof.Machine

namespace Sys2Proof

open Machine

/-- Settles O57: what each event does is followed operation by operation, on the pages of the ring and of the log. -/
theorem frameRing : Obligations.FrameRing := by
  intro s t c p x h hwf hp he
  have hs := (Good.of_wf hwf).objs
  have ht := (Good.exec (Good.of_wf hwf) he).objs
  refine ⟨fun hc => ?_, fun hc => ?_⟩
  · have hkeeps := exec_keepsPairs hp hc he
    exact ⟨hkeeps.eq_pairs, hkeeps.pages hs ht⟩
  · have hkeeps := exec_keepsLinks hp hc he
    exact ⟨hkeeps.eq_links, hkeeps.pages hs ht⟩

end Sys2Proof
end

section
/-! SUPPORT. Lane operations on one lane: heater currents measured (R98, R99), learned values (R156), Tide Table entries replaced. -/

namespace Sys2Proof.Machine


variable {s : State} {e o c i j ua : Nat} {n : Int} {l : Lane} {en : BitVec 128}

/-! One lane replaced. -/

theorem State.lane_setLane_same (h : Table.wf (fun _ => ({} : Lane)) s.lanes = true) : (s.setLane e l).lane e = l :=
  (State.lane_setLane h).trans (if_pos rfl)

theorem State.lane_setLane_other (h : Table.wf (fun _ => ({} : Lane)) s.lanes = true) (ho : o ≠ e) :
    (s.setLane e l).lane o = s.lane o := (State.lane_setLane h).trans (if_neg ho)

/-! A heater current measured (R98, R99). -/

section

variable (hoff : (s.lane e).st ≠ .off) (hh : (s.lane e).h ≠ 0) (hused : s.htrUsed e = true)
include hoff hh hused

theorem State.heaterMeasure_driven : s.heaterMeasure e ua =
    let t := s.setLane e { s.lane e with on := some ua }
    if ua < 1500 then
      (if (s.lane e).htrOpen then t else (t.faultLane e fun l => { l with htrOpen := true }).raise (32 + quadOf e) e)
    else if 30000 < ua then (t.faultLane e fun l => { l with htrShort := true }).raise (32 + quadOf e) e
    else t.setLane e { t.lane e with cap := some (12000 * 65536 / ua) } := if_neg (by simp [hoff, hh, hused])

theorem State.heaterMeasure_open (hopen : (s.lane e).htrOpen = false) (hua : ua < 1500) : s.heaterMeasure e ua =
    ((s.setLane e { s.lane e with on := some ua }).faultLane e fun l => { l with htrOpen := true }).raise (32 + quadOf e) e := by
  rw [State.heaterMeasure_driven hoff hh hused]
  exact (if_pos hua).trans (if_neg (by simp [hopen]))

theorem State.heaterMeasure_short (hua : 30000 < ua) : s.heaterMeasure e ua =
    ((s.setLane e { s.lane e with on := some ua }).faultLane e fun l => { l with htrShort := true }).raise (32 + quadOf e) e := by
  rw [State.heaterMeasure_driven hoff hh hused]
  exact (if_neg (by omega)).trans (if_pos hua)

theorem State.heaterMeasure_cap (hlow : 1500 ≤ ua) (hhigh : ua ≤ 30000) : s.heaterMeasure e ua =
    (s.setLane e { s.lane e with on := some ua }).setLane e
      { (s.setLane e { s.lane e with on := some ua }).lane e with cap := some (12000 * 65536 / ua) } := by
  rw [State.heaterMeasure_driven hoff hh hused]
  exact (if_neg (by omega)).trans (if_neg (by omega))

end

theorem State.heaterMeasure_idle (h : (s.lane e).st = .off ∨ (s.lane e).h = 0 ∨ s.htrUsed e = false) :
    s.heaterMeasure e ua = s := if_pos (by simpa [or_assoc] using h)

/-! Learning (R156). -/

theorem State.learnEnd_formed (hc : s.context e = some c) (hmay : s.mayLearn = true) (htrack : (s.lane e).st = .track)
    (hwins : s.get SV_LEARN_WINDOWS ≤ (s.lane e).learnWins) (hpos : 0 < (s.lane e).learnWins) :
    s.learnEnd e = s.setLane e { s.lane e with
      learned := some (c, entryValue (s.entry (32 * e + c)) +
        roundDiv ((s.lane e).learnSum - entryValue (s.entry (32 * e + c)) * ((s.lane e).learnWins * s.window : Nat))
          ((s.lane e).learnWins * s.window * 2 ^ s.get SV_LEARN_SHIFT))
      learnWins := 0, learnSum := 0 } := by
  simp only [State.learnEnd, hc]
  exact if_pos (by simp [hmay, htrack, hwins, hpos])

theorem State.learnEnd_idle (h : s.mayLearn = false ∨ (s.lane e).st ≠ .track) : s.learnEnd e = s := by
  unfold State.learnEnd
  split
  · rfl
  · exact if_neg (by rcases h with h | h <;> simp [h])

/-- The learned value has been stored in the entry in force. -/
def State.learnedStored (s : State) (e c : Nat) (n : Int) : State :=
  (((s.writeEntry (32 * e + c) (s.learnedEntry e (s.entry (32 * e + c)) n)).bump SV_LEARNED_COUNT).bumpGen).setLane e
    { s.lane e with learned := none }

theorem State.learnedWrite_stored (hc : s.context e = some c) (hmay : s.mayLearn = true)
    (hl : (s.lane e).learned = some (c, n)) (hslack : s.frame.slack = true) : s.learnedWrite e = s.learnedStored e c n := by
  simp only [State.learnedWrite, hl, hc]
  exact if_pos (by simp [hmay, hslack])

theorem State.learnedWrite_idle (h : s.mayLearn = false ∨ s.frame.slack = false ∨ (s.lane e).learned = none) :
    s.learnedWrite e = s := by
  unfold State.learnedWrite
  dsimp only
  split
  · next hl _ =>
    refine if_neg ?_
    rcases h with h | h | h
    · simp [h]
    · simp [h]
    · exact absurd (h.symm.trans hl) (by simp)
  · rfl

/-! Tide Table entries. -/

/-- A change of the arming under way leaves the words, the lanes and the Tide Table. -/
theorem State.mapArming_beside {f : Arm → Arm} : (s.mapArming f).objs = s.objs ∧ (s.mapArming f).lanes = s.lanes ∧
    (s.mapArming f).commit.tide = s.commit.tide := by
  unfold State.mapArming
  split <;> exact ⟨rfl, rfl, rfl⟩

theorem State.writeEntry_beside : (s.writeEntry i en).objs = s.objs ∧ (s.writeEntry i en).lanes = s.lanes ∧
    (s.writeEntry i en).commit.tide = (s.setEntry i en).commit.tide := State.mapArming_beside

theorem State.entry_writeEntry (h : Table.wf (fun _ => (0 : BitVec 128)) s.commit.tide = true) :
    (s.writeEntry i en).entry j = if j = i then en else s.entry j := by
  obtain ⟨-, -, htide⟩ := State.writeEntry_beside (s := s) (i := i) (en := en)
  unfold State.entry
  rw [htide]
  unfold State.setEntry
  split
  · next hj => exact hj ▸ Table.find_put_same _ h
  · next hj => exact Table.find_put_other _ h hj

theorem State.learnedStored_reads (hok : Words.ok s.objs) (hlanes : Table.wf (fun _ => ({} : Lane)) s.lanes = true)
    (htide : Table.wf (fun _ => (0 : BitVec 128)) s.commit.tide = true) :
    (s.learnedStored e c n).get SV_TT_GEN_COUNT = (s.get SV_TT_GEN_COUNT + 1) % 2 ^ 32 ∧
      ((s.learnedStored e c n).lane e).learned = none ∧
      ∀ i, (s.learnedStored e c n).entry i =
        if i = 32 * e + c then s.learnedEntry e (s.entry (32 * e + c)) n else s.entry i := by
  have hentry : ∀ i, _ := fun i => State.entry_writeEntry (s := s) (i := 32 * e + c) (j := i)
    (en := s.learnedEntry e (s.entry (32 * e + c)) n) htide
  obtain ⟨hobjs, hkept, -⟩ := State.writeEntry_beside (s := s) (i := 32 * e + c)
    (en := s.learnedEntry e (s.entry (32 * e + c)) n)
  unfold State.learnedStored
  generalize s.writeEntry (32 * e + c) (s.learnedEntry e (s.entry (32 * e + c)) n) = t at hobjs hkept hentry
  refine ⟨?_, congrArg Lane.learned (State.lane_setLane_same ((congrArg _ hkept).trans hlanes)), hentry⟩
  simp only [State.bumpGen, State.get_objs, State.setLane_objs, State.set_objs, State.bump_objs, hobjs]
  simp (disch := (constructor; (repeat refine Words.wr_ok ?_); exact hok; decide)) only
    [Words.rd_wr_apart, Words.rd_wr_eq]
  rfl

end Sys2Proof.Machine

namespace Sys2Proof

open Machine

/-- Settles O12: the current's range decides; a fault of the lane is then the shared operation's. -/
theorem laneFaults : Obligations.LaneFaults := by
  intro s e ua hwf he
  have hlanes := (Good.of_wf hwf).lanes
  have he' : e % 4096 = e := Nat.mod_eq_of_lt he
  have hheater : exec (.heaterCurrentMeasure e ua) s = .next (s.heaterMeasure e ua) :=
    congrArg (fun k => Host.Outcome.next (s.heaterMeasure k ua)) he'
  have heo : exec (.eoComplianceFault e) s = .next (s.eoFault e) := congrArg (fun k => Host.Outcome.next (s.eoFault k)) he'
  rw [hheater, heo]
  refine ⟨fun hoff hh hused => ⟨fun hlow hhigh => ?_, fun hopen hua => ?_, fun hua => ?_⟩, fun h => ?_,
    fun hoff hfault hused hkick => ?_, fun hkick => ?_⟩
  · refine ⟨_, congrArg Host.Outcome.next (State.heaterMeasure_cap hoff hh hused hlow hhigh), ?_⟩
    have hon : Table.wf (fun _ => ({} : Lane)) (s.setLane e { s.lane e with on := some ua }).lanes = true :=
      (State.setLane_good (Good.of_wf hwf)).lanes
    rw [State.lane_setLane_same hon, State.lane_setLane_same hlanes]
    exact ⟨rfl, rfl, rfl, rfl, fun o ho => (State.lane_setLane_other hon ho).trans (State.lane_setLane_other hlanes ho)⟩
  · exact congrArg Host.Outcome.next (State.heaterMeasure_open hoff hh hused hopen hua)
  · exact congrArg Host.Outcome.next (State.heaterMeasure_short hoff hh hused hua)
  · exact congrArg Host.Outcome.next (State.heaterMeasure_idle h)
  · exact congrArg Host.Outcome.next (if_neg (by simp [hoff, hfault, hused, hkick]))
  · exact congrArg Host.Outcome.next (if_pos (by simp [hkick]))

/-- Settles O13: the conditions decide, and the entry written reads back. -/
theorem learning : Obligations.Learning := by
  intro s e c n hwf he hc
  have hg := Good.of_wf hwf
  have he' : e % 4096 = e := Nat.mod_eq_of_lt he
  have hend : exec (.learnIntervalEnd e) s = .next (s.learnEnd e) := congrArg (fun k => Host.Outcome.next (s.learnEnd k)) he'
  have hwrite : exec (.learnedWrite e) s = .next (s.learnedWrite e) :=
    congrArg (fun k => Host.Outcome.next (s.learnedWrite k)) he'
  rw [hend, hwrite]
  refine ⟨fun hmay htrack hwins hpos => ?_, fun hmay hl hslack => ?_, fun h => congrArg Host.Outcome.next (State.learnEnd_idle h),
    fun h => congrArg Host.Outcome.next (State.learnedWrite_idle h)⟩
  · refine ⟨_, congrArg Host.Outcome.next (State.learnEnd_formed hc hmay htrack hwins hpos), rfl, rfl, ?_⟩
    rw [State.lane_setLane_same hg.lanes]
    exact ⟨rfl, rfl⟩
  · obtain ⟨hgen, hlearned, hentry⟩ := State.learnedStored_reads (e := e) (c := c) (n := n) hg.objs hg.lanes hg.tide
    exact ⟨_, congrArg Host.Outcome.next (State.learnedWrite_stored hc hmay hl hslack),
      (hentry _).trans (if_pos rfl), fun i hi => (hentry i).trans (if_neg hi), hlearned, hgen⟩

end Sys2Proof
end

section
/-! SUPPORT. Lane commands (R80, R102): the value that a command's code forms, and each command's checks in order. -/

namespace Sys2Proof.Machine


variable {s : State} {q : Rq} {e k : Nat} {v : Word} {ecc : EccOutcome}

/-! The value of a lane command. -/

/-- LP_CMD has one field, CMD. -/
theorem lpCmd_row {r : ObjRow} (h : objRow 0x4000 e = some r) : r = ⟨0x4000, 0x0, 0xFFF, [⟨2, 0, .rwg, 0, .c1⟩]⟩ := by
  have hrows : ∀ r ∈ objPage 0x40, r.index = 0x4000 → r = ⟨0x4000, 0x0, 0xFFF, [⟨2, 0, .rwg, 0, .c1⟩]⟩ := by decide
  have hfind : (objPage 0x40).find? (fun r => r.index = 0x4000 ∧ r.subLo ≤ e ∧ e ≤ r.subHi) = some r := h
  have hfound := List.find?_some hfind
  simp only [decide_eq_true_eq] at hfound
  obtain ⟨hindex, -⟩ := hfound
  exact hrows r (List.mem_of_find?_eq_some hfind) hindex

theorem Word.and_low3 {a c : Word} : ((a &&& ~~~7#32) ||| (c &&& 7#32)) &&& 7#32 = c &&& 7#32 := by
  refine BitVec.eq_of_getLsbD_eq fun i _ => ?_
  simp only [BitVec.getLsbD_and, BitVec.getLsbD_or, BitVec.getLsbD_not]
  cases (7#32).getLsbD i <;> simp

/-- A lane command's value is its code. -/
theorem valueOf_lpCmd (hadm : Safety.admits s (cmdWrite q k) 0x4000 e = true) (hk : k < 8) :
    (Safety.valueOf s (cmdWrite q k) 0x4000 e).bits 2 0 = k := by
  obtain ⟨-, -, -, ⟨r, hr⟩, -, -, -⟩ := Safety.admits_iff.mp hadm
  obtain rfl := lpCmd_row hr
  have hmask : BitVec.allOnes 32 &&& 7#32 = 7#32 := by decide
  have hvalue : Safety.valueOf s (cmdWrite q k) 0x4000 e =
      ((s.view 0x4000 e &&& ~~~(BitVec.allOnes 32 &&& 7#32)) ||| (BitVec.ofNat 32 k &&& (BitVec.allOnes 32 &&& 7#32))) &&& 7#32 := by
    unfold Safety.valueOf
    rw [hr]
    rfl
  have hcode : ∀ k < 8, Word.bits (BitVec.ofNat 32 k &&& 7#32) 2 0 = k := by decide
  rw [hvalue, hmask, Word.and_low3, hcode k hk]

/-! The rule that each command runs. -/

theorem State.cmdOff_rule (hadm : Safety.admits s (cmdWrite q 0) 0x4000 e = true) (hv : v = Safety.valueOf s (cmdWrite q 0) 0x4000 e) :
    s.objectRule ecc q.port 0x4000 e v = s.cmdOff e v := by
  rw [State.objectRule_4000, State.wLpCmd, hv, valueOf_lpCmd hadm (by decide)]
  rfl

theorem State.cmdPark_rule (hadm : Safety.admits s (cmdWrite q 1) 0x4000 e = true) (hv : v = Safety.valueOf s (cmdWrite q 1) 0x4000 e) :
    s.objectRule ecc q.port 0x4000 e v = s.cmdPark e v := by
  rw [State.objectRule_4000, State.wLpCmd, hv, valueOf_lpCmd hadm (by decide)]
  rfl

theorem State.cmdRun_rule (hadm : Safety.admits s (cmdWrite q 2) 0x4000 e = true) (hv : v = Safety.valueOf s (cmdWrite q 2) 0x4000 e) :
    s.objectRule ecc q.port 0x4000 e v = s.cmdRun e v ecc := by
  rw [State.objectRule_4000, State.wLpCmd, hv, valueOf_lpCmd hadm (by decide)]
  rfl

theorem State.cmdCoast_rule (hadm : Safety.admits s (cmdWrite q 3) 0x4000 e = true) (hv : v = Safety.valueOf s (cmdWrite q 3) 0x4000 e) :
    s.objectRule ecc q.port 0x4000 e v = s.cmdCoast e v := by
  rw [State.objectRule_4000, State.wLpCmd, hv, valueOf_lpCmd hadm (by decide)]
  rfl

theorem State.cmdResume_rule (hadm : Safety.admits s (cmdWrite q 4) 0x4000 e = true) (hv : v = Safety.valueOf s (cmdWrite q 4) 0x4000 e) :
    s.objectRule ecc q.port 0x4000 e v = s.cmdResume e v := by
  rw [State.objectRule_4000, State.wLpCmd, hv, valueOf_lpCmd hadm (by decide)]
  rfl

theorem State.cmdClear_rule (hadm : Safety.admits s (cmdWrite q 5) 0x4000 e = true) (hv : v = Safety.valueOf s (cmdWrite q 5) 0x4000 e) :
    s.objectRule ecc q.port 0x4000 e v = s.cmdClear e v := by
  rw [State.objectRule_4000, State.wLpCmd, hv, valueOf_lpCmd hadm (by decide)]
  rfl

/-! CMD OFF (R80, R102). -/

section

variable (hact : (s.lane e).act = none) (hsv : s.surveying = false)
include hact hsv

theorem State.cmdOff_accepted (hst : (s.lane e).st ≠ .off) : s.cmdOff e v = s.deferCmd e v .off :=
  (if_neg (by simp [hact, hst])).trans (if_neg (by simp [hsv]))

end

theorem State.cmdOff_survey (hact : (s.lane e).act = none) (hst : (s.lane e).st ≠ .off) (hsv : s.surveying = true) :
    s.cmdOff e v = (stMode, s) := (if_neg (by simp [hact, hst])).trans (if_pos hsv)

theorem State.cmdOff_off (hst : (s.lane e).st = .off) : s.cmdOff e v = (stState, s) := if_pos (by simp [hst])

/-! The commands of a lane whose driver the profile uses. -/

section

variable (huse : s.htrUsed e = true ∨ s.eoUsed e = true)
include huse

theorem State.driven_of_used : ¬ (!s.htrUsed e && !s.eoUsed e) = true := by
  rcases huse with h | h <;> simp [h]

theorem State.cmdPark_state (h : (s.lane e).act ≠ none ∨ (s.lane e).st = .park ∨ (s.lane e).st = .fault) :
    s.cmdPark e v = (stState, s) :=
  (if_neg (State.driven_of_used huse)).trans (if_pos (by simpa [Option.isSome_iff_ne_none, or_assoc] using h))

theorem State.cmdCoast_state (h : (s.lane e).st.listens = false) : s.cmdCoast e v = (stState, s) :=
  (if_neg (State.driven_of_used huse)).trans (if_pos (by simp [h]))

theorem State.cmdResume_state (h : (s.lane e).hostCoast = false) : s.cmdResume e v = (stState, s) :=
  (if_neg (State.driven_of_used huse)).trans (if_pos (by simp [h]))

theorem State.cmdClear_state (h : (s.lane e).st ≠ .fault ∨ (s.lane e).openPersists = true) :
    s.cmdClear e v = (stState, s) :=
  (if_neg (State.driven_of_used huse)).trans (if_pos (by rcases h with h | h <;> simp [h]))

variable (hact : (s.lane e).act = none) (hsv : s.surveying = false)
include hact hsv

theorem State.cmdPark_driven (hpark : (s.lane e).st ≠ .park) (hfault : (s.lane e).st ≠ .fault) : s.cmdPark e v =
    if (s.lane e).st = .off then (if s.laneFits e then s.deferCmd e v .park else (stBudget, s)) else s.takeCmd e v .park :=
  (if_neg (State.driven_of_used huse)).trans ((if_neg (by simp [hact, hpark, hfault])).trans (if_neg (by simp [hsv])))

theorem State.cmdCoast_accepted (h : (s.lane e).st.listens = true) :
    s.cmdCoast e v = s.takeCmd e v (if (s.lane e).cmd = some .park then .park else .coast) :=
  (if_neg (State.driven_of_used huse)).trans ((if_neg (by simp [hact, h])).trans (if_neg (by simp [hsv])))

theorem State.cmdResume_accepted (hst : (s.lane e).st = .coast) (hhost : (s.lane e).hostCoast = true) : s.cmdResume e v =
    (stOk, (s.setLane e { s.lane e with hostCoast := false, resume := true }).setWord 0x4000 e v) :=
  (if_neg (State.driven_of_used huse)).trans ((if_neg (by simp [hact, hst, hhost])).trans (if_neg (by simp [hsv])))

/-- A lane whose fault flags and terms an accepted CLEAR has cleared. -/
def Lane.cleared (l : Lane) : Lane :=
  { l with htrOpen := false, htrShort := false, eoComp := false, memErr := false, integ := 0, prop := 0 }

theorem State.cmdClear_accepted (hst : (s.lane e).st = .fault) (hopen : (s.lane e).openPersists = false) : s.cmdClear e v =
    (s.setLane e (s.lane e).cleared).takeCmd e v .park :=
  (if_neg (State.driven_of_used huse)).trans ((if_neg (by simp [hact, hst, hopen])).trans (if_neg (by simp [hsv])))

end

theorem State.cmdPark_unused (hhtr : s.htrUsed e = false) (heo : s.eoUsed e = false) : s.cmdPark e v = (stProfile, s) :=
  if_pos (by simp [hhtr, heo])

/-! CMD RUN. -/

theorem State.cmdRun_unused (hhtr : s.htrUsed e = false) : s.cmdRun e v ecc = (stProfile, s) := if_pos (by simp [hhtr])

section

variable (hhtr : s.htrUsed e = true) (hact : (s.lane e).act = none) (hsv : s.surveying = false)
include hhtr hact hsv

theorem State.cmdRun_judged (hst : (s.lane e).st = .off ∨ (s.lane e).st = .park)
    (hfits : (s.lane e).st = .off → s.laneFits e = true) : s.cmdRun e v ecc =
    if s.rd LP_MON_ASSIGNED e = 0 then (stRouting, s)
    else if (s.lane e).st = .off then (s.fetchEntry e ecc).deferCmd e v .acquire
    else (s.fetchEntry e ecc).takeCmd e v .acquire := by
  refine (if_neg (by simp [hhtr])).trans ((if_neg ?_).trans ((if_neg (by simp [hsv])).trans (if_neg ?_)))
  · rcases hst with h | h <;> simp [hact, h]
  · rcases hst with h | h
    · simp [h, hfits h]
    · simp [h]

end

/-! A stray bit in a detector's configuration. -/

/-- PORTDET runs, and an unused bit of port 0's PD_CFG reads 1. -/
def strayState : State := (portAState.wr PW_DOMAIN_STATE 0x14 1).setWord 0x4C00 0 0x40000000#32

theorem strayState_wf : Safety.wf strayState = true := by decide

theorem strayState_admits : Safety.admits strayState (portAWrite 0x00020200#32) 0x4C00 0 = true := by decide

end Sys2Proof.Machine

namespace Sys2Proof

open Machine

/-- Settles O10: each command's checks in order, on the value that its code forms. -/
theorem laneCommands : Obligations.LaneCommands := by
  refine ⟨fun s q e ecc hwf hsv hact => ⟨fun hadm hst => ?_, fun hadm huse hpark hfault => ⟨fun hst hfits => ?_, fun hst => ?_⟩,
    fun hadm hhtr hassigned => ⟨fun hst => ?_, fun hst hfits => ?_⟩, fun hadm huse hst => ?_, fun hadm huse hst hhost => ?_,
    fun hadm huse hst hopen => ?_⟩, fun s q e ecc hwf => ⟨fun hadm => ⟨fun hst => ?_, fun hact hst hsv => ?_⟩,
    fun hadm => ⟨fun hhtr heo => ?_, fun huse h => ?_, fun huse hact hst hsv hfits => ?_⟩, fun hadm => ⟨fun hhtr => ?_,
    fun hhtr hact hst hsv hassigned => ?_⟩, fun hadm huse h => ?_, fun hadm huse h => ?_, fun hadm huse h => ?_⟩⟩
  · exact exec_accepted rfl hadm ((State.cmdOff_rule hadm rfl).trans (State.cmdOff_accepted hact hsv hst)) rfl
  · exact exec_accepted rfl hadm ((State.cmdPark_rule hadm rfl).trans ((State.cmdPark_driven huse hact hsv hpark hfault).trans
      ((if_pos hst).trans (if_pos hfits)))) rfl
  · exact exec_accepted rfl hadm ((State.cmdPark_rule hadm rfl).trans ((State.cmdPark_driven huse hact hsv hpark hfault).trans
      (if_neg hst))) rfl
  · exact exec_accepted rfl hadm ((State.cmdRun_rule hadm rfl).trans ((State.cmdRun_judged hhtr hact hsv (.inr hst)
      (by simp [hst])).trans ((if_neg (by omega)).trans (if_neg (by simp [hst]))))) rfl
  · exact exec_accepted rfl hadm ((State.cmdRun_rule hadm rfl).trans ((State.cmdRun_judged hhtr hact hsv (.inl hst)
      fun _ => hfits).trans ((if_neg (by omega)).trans (if_pos hst)))) rfl
  · exact exec_accepted rfl hadm ((State.cmdCoast_rule hadm rfl).trans (State.cmdCoast_accepted huse hact hsv hst)) rfl
  · exact exec_accepted rfl hadm ((State.cmdResume_rule hadm rfl).trans (State.cmdResume_accepted huse hact hsv hst hhost)) rfl
  · have hlanes := (Good.of_wf hwf).lanes
    have hcleared : Table.wf (fun _ => ({} : Lane)) (s.setLane e (s.lane e).cleared).lanes = true :=
      (State.setLane_good (Good.of_wf hwf)).lanes
    refine ⟨_, exec_accepted rfl hadm ((State.cmdClear_rule hadm rfl).trans
      (State.cmdClear_accepted huse hact hsv hst hopen)) rfl, rfl, ?_⟩
    rw [State.lane_setLane_same hcleared, State.lane_setLane_same hlanes]
    exact ⟨rfl, hst, rfl, rfl, rfl, rfl, fun o ho =>
      (State.lane_setLane_other hcleared ho).trans (State.lane_setLane_other hlanes ho)⟩
  · exact exec_refused_uncounted rfl hadm ((State.cmdOff_rule hadm rfl).trans (State.cmdOff_off hst)) rfl (by decide) (by decide)
  · exact exec_refused_uncounted rfl hadm ((State.cmdOff_rule hadm rfl).trans (State.cmdOff_survey hact hst hsv)) rfl
      (by decide) (by decide)
  · exact exec_refused_uncounted rfl hadm ((State.cmdPark_rule hadm rfl).trans (State.cmdPark_unused hhtr heo)) rfl
      (by decide) (by decide)
  · exact exec_refused_uncounted rfl hadm ((State.cmdPark_rule hadm rfl).trans (State.cmdPark_state huse h)) rfl
      (by decide) (by decide)
  · exact exec_refused_uncounted rfl hadm ((State.cmdPark_rule hadm rfl).trans ((State.cmdPark_driven huse hact hsv
      (by simp [hst]) (by simp [hst])).trans ((if_pos hst).trans (if_neg (by simp [hfits]))))) rfl (by decide) (by decide)
  · exact exec_refused_uncounted rfl hadm ((State.cmdRun_rule hadm rfl).trans (State.cmdRun_unused hhtr)) rfl
      (by decide) (by decide)
  · exact exec_refused_uncounted rfl hadm ((State.cmdRun_rule hadm rfl).trans ((State.cmdRun_judged hhtr hact hsv (.inr hst)
      (by simp [hst])).trans (if_pos hassigned))) rfl (by decide) (by decide)
  · exact exec_refused_uncounted rfl hadm ((State.cmdCoast_rule hadm rfl).trans (State.cmdCoast_state huse h)) rfl
      (by decide) (by decide)
  · exact exec_refused_uncounted rfl hadm ((State.cmdResume_rule hadm rfl).trans (State.cmdResume_state huse h)) rfl
      (by decide) (by decide)
  · exact exec_refused_uncounted rfl hadm ((State.cmdClear_rule hadm rfl).trans (State.cmdClear_state huse h)) rfl
      (by decide) (by decide)

/-- Refutes O11: a write to PD_CFG stores the value formed, without an unused bit that read 1, where `store` keeps it. -/
theorem not_laneWrites : ¬ Obligations.LaneWrites := by
  intro h
  obtain ⟨-, -, -, -, hconfig⟩ := h strayState (portAWrite 0x00020200#32) 0 strayState_wf
  obtain ⟨haccepted, -⟩ := hconfig strayState_admits
  obtain ⟨-, hword⟩ := haccepted (by decide)
  exact absurd hword (by decide)

end Sys2Proof
end

section
/-! SUPPORT. A survey whose participants' words overlap: the baseline of one is the aggressor word of another. -/

namespace Sys2Proof.Machine


/-- The baseline stage of a survey is over. Participant 786432 is 12 · 65536: its first aggressor word stands in the
baseline word of participant 0. -/
def aliasedSurvey : State :=
  { State.reset.set SV_STATUS_STATE 3 with
    frame := { State.reset.frame with ticks := 1000000 }
    survey := { parts := [0, 786432], gather := [(0, { sum := 65536, n := 1 })] } }

theorem aliasedSurvey_wf : Safety.wf aliasedSurvey = true := by decide

theorem aliasedSurvey_over : aliasedSurvey.stageOver 3 = true := by decide

/-- No participant's slot is valid before the baselines are written. -/
theorem aliasedSurvey_groups : aliasedSurvey.aggressorGroups = [] := by decide

end Sys2Proof.Machine

namespace Sys2Proof

open Machine

/-- Refutes O16: the baseline of participant 0 is 4096, bit 12 of its word, which makes the first slot of participant 786432
valid; the groups that follow are not those of the state before. -/
theorem not_survey : ¬ Obligations.Survey := by
  intro h
  obtain ⟨-, -, -, -, -, -, hbaseline, -⟩ := h.2 aliasedSurvey 0 [] aliasedSurvey_wf
  obtain ⟨u, hexec, -, hgroups, -⟩ := hbaseline aliasedSurvey_over
  obtain rfl := Host.Outcome.next.inj hexec
  exact absurd (hgroups.trans aliasedSurvey_groups) (by decide)

end Sys2Proof
end

section
/-! SUPPORT. Light detectors (R177 to R179): a change of level, crossings, the start to capture, and the entry of a capture into the FIFO. -/

namespace Sys2Proof.Machine


variable {s : State} {p o q bin ua lasts : Nat} {x : PdSt} {c : Capture} {level : Bool}

/-! One port's detector replaced. -/

theorem State.pd_setPd_same (h : Table.wf (fun _ => ({} : PdSt)) s.pds = true) : (s.setPd p x).pd p = x :=
  (State.pd_setPd h).trans (if_pos rfl)

theorem State.pd_setPd_other (h : Table.wf (fun _ => ({} : PdSt)) s.pds = true) (ho : o ≠ p) :
    (s.setPd p x).pd o = s.pd o := (State.pd_setPd h).trans (if_neg ho)

/-! A change of level (R179). -/

/-- The edge counted, at the new level. -/
def State.edgeCounted (s : State) (p : Nat) (level : Bool) : State :=
  (s.wr PD_EDGES_COUNT p (s.rd PD_EDGES_COUNT p + 1)).wr PD_STATUS_LEVEL p level.toNat

theorem State.edge_merged (h : (s.pd p).wait.isSome = true) : s.edge p bin level =
    ((s.edgeCounted p level).bump TS_MERGED_COUNT).setPd p { s.pd p with merges := (s.pd p).merges + 1 } := by
  obtain ⟨c, hc⟩ := Option.isSome_iff_exists.mp h
  unfold State.edge
  extract_lets t u x
  split
  · rfl
  · next hn => exact absurd (hc.symm.trans hn) (by simp)

theorem State.edge_captured (h : (s.pd p).wait = none) :
    ∃ c, s.edge p bin level = (s.edgeCounted p level).setPd p { s.pd p with wait := some c } := by
  unfold State.edge
  extract_lets t u x
  have hx : x.wait = none := h
  rw [hx]
  exact ⟨_, rfl⟩

theorem State.edge_ev : (s.edge p bin level).ev = s.ev := by
  cases h : (s.pd p).wait with
  | some c => rw [State.edge_merged (by rw [h]; rfl)]; rfl
  | none =>
    obtain ⟨c, hc⟩ := State.edge_captured (bin := bin) (level := level) h
    rw [hc]; rfl

theorem State.edge_lanes : (s.edge p bin level).lanes = s.lanes := by
  cases h : (s.pd p).wait with
  | some c => rw [State.edge_merged (by rw [h]; rfl)]; rfl
  | none =>
    obtain ⟨c, hc⟩ := State.edge_captured (bin := bin) (level := level) h
    rw [hc]; rfl

theorem State.rd_edgeCounted (hok : s.ok) (hp : p < 256) :
    (s.edgeCounted p level).rd PD_STATUS_LEVEL p = level.toNat ∧
      (s.edgeCounted p level).rd PD_EDGES_COUNT p = (s.rd PD_EDGES_COUNT p + 1) % 2 ^ 32 := by
  have hset : (s.wr PD_EDGES_COUNT p (s.rd PD_EDGES_COUNT p + 1)).ok := State.wr_ok hok
  constructor
  · refine (State.rd_wr_eq ⟨hset, by decide⟩).trans ?_
    cases level <;> rfl
  · refine (State.rd_wr_apart ⟨hset, Field.apart_of_index (by decide) ?_ ?_⟩).trans (State.rd_wr_eq ⟨hok, by decide⟩)
    · exact (show 0 + p < 65536 by omega)
    · exact (show 0 + p < 65536 by omega)


/-! Crossings (R177). -/

theorem State.crossing_leaving {lit : Bool} (hactive : s.pdActive p = true) (hlevel : s.rd PD_STATUS_LEVEL p = lit.toNat)
    (hleaves : if lit then ua ≤ 2 * (s.pd p).field PD_CFG_TH_OFF else 2 * (s.pd p).field PD_CFG_TH_ON ≤ ua) : s.crossing p bin ua lasts =
      if (s.pd p).field PD_CFG_DWELL ≤ lasts then (s.setPd p { s.pd p with input := ua }).edge p bin (!lit)
      else s.glitch p := by
  have hlit : decide (s.rd PD_STATUS_LEVEL p = 1) = lit := by rw [hlevel]; cases lit <;> rfl
  unfold State.crossing
  extract_lets x level leaves
  refine (if_neg (by simp [hactive])).trans ((if_pos ?_).trans ?_)
  · cases lit <;> simpa [leaves, level, hlevel] using hleaves
  · have hl : (decide level) = lit := hlit
    rw [hl]

theorem State.crossing_idle (h : s.pdActive p = false) :
    s.crossing p bin ua lasts = s.setPd p { s.pd p with input := ua } := if_pos (by simp [h])


/-- A lasting crossing: the input moved, the edge counted at the other level. -/
theorem State.crossing_lasting {lit : Bool} (hwf : Safety.wf s = true) (hp : p < 256) (hactive : s.pdActive p = true)
    (hlevel : s.rd PD_STATUS_LEVEL p = lit.toNat)
    (hleaves : if lit then ua ≤ 2 * (s.pd p).field PD_CFG_TH_OFF else 2 * (s.pd p).field PD_CFG_TH_ON ≤ ua)
    (hlasts : (s.pd p).field PD_CFG_DWELL ≤ lasts) :
    let t := s.crossing p bin ua lasts
    t.rd PD_STATUS_LEVEL p = 1 - lit.toNat ∧ t.rd PD_EDGES_COUNT p = (s.rd PD_EDGES_COUNT p + 1) % 2 ^ 32 ∧
      (t.pd p).input = ua ∧ (t.pd p).wait.isSome = true ∧
      ((s.pd p).wait ≠ none → (t.pd p).wait = (s.pd p).wait ∧ (t.pd p).merges = (s.pd p).merges + 1) ∧
      t.ev = s.ev ∧ t.lanes = s.lanes := by
  intro t
  have ht : t = (s.setPd p { s.pd p with input := ua }).edge p bin (!lit) :=
    (State.crossing_leaving hactive hlevel hleaves).trans (if_pos hlasts)
  have hgood := Good.of_wf hwf
  obtain ⟨u, hu⟩ : ∃ u, s.setPd p { s.pd p with input := ua } = u := ⟨_, rfl⟩
  rw [hu] at ht
  have hok : u.ok := hu ▸ hgood.objs
  have hpds : Table.wf (fun _ => ({} : PdSt)) u.pds = true := hu ▸ Table.wf_put _ hgood.pds
  have hpd : u.pd p = { s.pd p with input := ua } := hu ▸ State.pd_setPd_same hgood.pds
  have hcount : u.rd PD_EDGES_COUNT p = s.rd PD_EDGES_COUNT p := hu ▸ rfl
  obtain ⟨hlev, hedges⟩ := State.rd_edgeCounted (level := !lit) hok hp
  have hnot : (!lit).toNat = 1 - lit.toNat := by cases lit <;> rfl
  have hev : t.ev = s.ev := ht ▸ State.edge_ev.trans (hu ▸ rfl)
  have hlanes : t.lanes = s.lanes := ht ▸ State.edge_lanes.trans (hu ▸ rfl)
  have hcok : (u.edgeCounted p (!lit)).ok := State.wr_ok (State.wr_ok hok)
  rw [hcount] at hedges
  cases hw : (s.pd p).wait with
  | none =>
    obtain ⟨c, hc⟩ := State.edge_captured (s := u) (p := p) (bin := bin) (level := !lit) (by rw [hpd]; exact hw)
    have hat : t.pd p = { u.pd p with wait := some c } := by
      rw [ht, hc]
      exact State.pd_setPd_same hpds
    have hobjs : t.objs = (u.edgeCounted p (!lit)).objs := by rw [ht, hc]; rfl
    refine ⟨(State.rd_congr hobjs _ _).trans (hlev.trans hnot), (State.rd_congr hobjs _ _).trans hedges, ?_, ?_,
      fun h => absurd rfl h, hev, hlanes⟩
    · rw [hat, hpd]
    · rw [hat]; rfl
  | some c =>
    have hedge := State.edge_merged (s := u) (p := p) (bin := bin) (level := !lit) (by rw [hpd, hw]; rfl)
    have hat : t.pd p = { u.pd p with merges := (u.pd p).merges + 1 } := by
      rw [ht, hedge]
      exact State.pd_setPd_same hpds
    have hobjs : t.objs = ((u.edgeCounted p (!lit)).bump TS_MERGED_COUNT).objs := by rw [ht, hedge]; rfl
    have hkept : State.WritesObjects [0x2501] (u.edgeCounted p (!lit)) t :=
      (State.WritesObjects.refl.bump (by decide)).beside hobjs
    refine ⟨(hkept.rd hcok (by decide) (show 0 + p < 65536 by omega)).trans (hlev.trans hnot),
      (hkept.rd hcok (by decide) (show 0 + p < 65536 by omega)).trans hedges, ?_, ?_, fun _ => ⟨?_, ?_⟩, hev, hlanes⟩
    all_goals rw [hat, hpd]
    all_goals simp [hw]

/-- A short crossing is a glitch. -/
theorem State.crossing_short {lit : Bool} (hwf : Safety.wf s = true) (hp : p < 256) (hactive : s.pdActive p = true)
    (hlevel : s.rd PD_STATUS_LEVEL p = lit.toNat)
    (hleaves : if lit then ua ≤ 2 * (s.pd p).field PD_CFG_TH_OFF else 2 * (s.pd p).field PD_CFG_TH_ON ≤ ua)
    (hlasts : lasts < (s.pd p).field PD_CFG_DWELL) :
    let t := s.crossing p bin ua lasts
    t.rd PD_STATUS_LEVEL p = s.rd PD_STATUS_LEVEL p ∧ t.rd PD_EDGES_COUNT p = s.rd PD_EDGES_COUNT p ∧
      (t.pd p).wait = (s.pd p).wait ∧ (t.pd p).merges = (s.pd p).merges + 1 := by
  intro t
  have ht : t = s.glitch p := (State.crossing_leaving hactive hlevel hleaves).trans (if_neg (by omega))
  have hgood := Good.of_wf hwf
  have hat : t.pd p = { s.pd p with merges := (s.pd p).merges + 1 } := ht ▸ State.pd_setPd_same hgood.pds
  have hkept : State.WritesObjects [0x4C04, 0x2501] s t := by
    rw [ht]
    exact ((State.WritesObjects.refl.bumpAt (F := PD_GLITCHES_COUNT) (by decide) (show 0 + p < 65536 by omega)).bump
      (F := TS_MERGED_COUNT) (by decide)).beside rfl
  refine ⟨hkept.rd hgood.objs (by decide) (show 0 + p < 65536 by omega),
    hkept.rd hgood.objs (by decide) (show 0 + p < 65536 by omega), ?_, ?_⟩
  all_goals rw [hat]

/-! A start to capture (R178). -/

theorem State.lightLevel_starts (hwf : Safety.wf s = true) (hactive : s.pdActive p = true)
    (hstarted : (s.pd p).started = false) (hwait : (s.pd p).wait = none) :
    let t := s.lightLevel p
    (t.pd p).started = true ∧ t.rd PD_STATUS_LEVEL p = (s.startLevel p).toNat ∧ (t.pd p).wait.isSome = true ∧
      t.ev = s.ev := by
  intro t
  have hgood := Good.of_wf hwf
  obtain ⟨c, ht⟩ : ∃ c, t = (s.wr PD_STATUS_LEVEL p (s.startLevel p).toNat).setPd p
      { s.pd p with started := true, wait := some c } := ⟨_, if_pos (by simp [hactive, hstarted, hwait])⟩
  have hat : t.pd p = { s.pd p with started := true, wait := some c } := ht ▸ State.pd_setPd_same hgood.pds
  refine ⟨by rw [hat], ?_, by rw [hat]; rfl, ht ▸ rfl⟩
  have hlevel : (s.wr PD_STATUS_LEVEL p (s.startLevel p).toNat).rd PD_STATUS_LEVEL p = (s.startLevel p).toNat :=
    (State.rd_wr_eq ⟨hgood.objs, by decide⟩).trans (by cases s.startLevel p <;> rfl)
  exact ht ▸ hlevel

theorem State.lightLevel_idle (h : s.pdActive p = false ∨ (s.pd p).started = true) : s.lightLevel p = s :=
  if_neg (by rcases h with h | h <;> simp [h])


/-! A waiting capture enters the FIFO (R179). -/

theorem State.postRec_tookUp {r : Rec} {cross : Option Nat} :
    (s.postRec r cross).ev.tookUp = s.ev.tookUp ∧ (s.postRec r cross).ev.took = s.ev.took := by
  unfold State.postRec
  split
  · split
    · unfold State.enqueue
      extract_lets u
      rw [State.raiseTo_keeps]
      exact ⟨rfl, rfl⟩
    · split <;> exact ⟨rfl, rfl⟩
  · exact ⟨rfl, rfl⟩

/-- The quadrants that have had their record of this tc. -/
def State.tookNow (s : State) : Nat := if s.ev.tookUp = s.frame.up then s.ev.took else 0

/-- The record of port `p`'s capture is posted, and its quadrant has had its record of this tc. -/
def State.lightPosted (s : State) (q p : Nat) (c : Capture) : State :=
  ({ s with ev := { s.ev with tookUp := s.frame.up, took := s.tookNow ||| 2 ^ q } } : State).postRec
    ((s.pd p).lightRec p c) (some c.crossUp)

theorem State.takeLight_taken (hnext : s.nextLight q = some p) (hfree : s.tookNow.testBit q = false)
    (hwait : (s.pd p).wait = some c) : s.takeLight q =
      if s.recording && !s.fifoRoom c.code then
        ((s.lightPosted q p c).bumpAt PD_LOST_COUNT p).setPd p { s.pd p with wait := none }
      else
        (if (s.lightPosted q p c).recording then (s.lightPosted q p c).bump TS_LIGHT_RECORDS_COUNT
          else s.lightPosted q p c).setPd p { s.pd p with wait := none, merges := 0, posted := some c.level } := by
  unfold State.takeLight
  extract_lets used
  rw [hnext]
  refine (if_neg (Bool.eq_false_iff.mp hfree)).trans ?_
  simp only [hwait]
  rfl

theorem State.takeLight_busy (hnext : s.nextLight q = some p) (hbusy : s.tookNow.testBit q = true) : s.takeLight q = s := by
  unfold State.takeLight
  extract_lets used
  rw [hnext]
  exact if_pos hbusy

theorem State.lightPosted_frame : (s.lightPosted q p c).pds = s.pds ∧ (s.lightPosted q p c).ev.tookUp = s.frame.up ∧
    (s.lightPosted q p c).ev.took = s.tookNow ||| 2 ^ q := by
  unfold State.lightPosted
  generalize ht : ({ s with ev := { s.ev with tookUp := s.frame.up, took := s.tookNow ||| 2 ^ q } } : State) = t
  obtain ⟨hup, htook⟩ := State.postRec_tookUp (s := t) (r := (s.pd p).lightRec p c) (cross := some c.crossUp)
  exact ⟨(congrArg State.pds State.postRec_keeps).trans (ht ▸ rfl), hup.trans (ht ▸ rfl), htook.trans (ht ▸ rfl)⟩

theorem State.lightPosted_writes : State.WritesObjects [0x260A, 0x260B] s (s.lightPosted q p c) := by
  unfold State.lightPosted
  generalize ht : ({ s with ev := { s.ev with tookUp := s.frame.up, took := s.tookNow ||| 2 ^ q } } : State) = t
  have hposted : State.WritesObjects [0x260A, 0x260B] t (t.postRec ((s.pd p).lightRec p c) (some c.crossUp)) :=
    .of_writes State.postRec_writes (by decide)
  exact (State.WritesObjects.refl.beside (ht ▸ rfl)).trans hposted

theorem State.takeLight_takes (hwf : Safety.wf s = true) (hp : p < 256) (hnext : s.nextLight q = some p)
    (hfree : s.tookNow.testBit q = false) (hwait : (s.pd p).wait = some c) :
    let t := s.takeLight q
    (t.pd p).wait = none ∧ t.ev.tookUp = s.frame.up ∧ t.ev.took = s.tookNow ||| 2 ^ q ∧ (∀ o, o ≠ p → t.pd o = s.pd o) ∧
      (s.recording = true → s.fifoRoom c.code = false → t.rd PD_LOST_COUNT p =
        satAdd (PD_LOST_COUNT.hi + 1 - PD_LOST_COUNT.lo) (s.rd PD_LOST_COUNT p) 1) := by
  intro t
  have hgood := Good.of_wf hwf
  have ht : t = _ := State.takeLight_taken hnext hfree hwait
  obtain ⟨hpds, hup, htook⟩ := State.lightPosted_frame (s := s) (q := q) (p := p) (c := c)
  have hwrites := State.lightPosted_writes (s := s) (q := q) (p := p) (c := c)
  generalize s.lightPosted q p c = u at *
  have hother : ∀ (v : State) (x : PdSt) (o : Nat), v.pds = s.pds → o ≠ p → (v.setPd p x).pd o = s.pd o :=
    fun v x o hv ho => (State.pd_setPd_other (hv ▸ hgood.pds) ho).trans (congrArg (fun l => Table.find _ o l) hv)
  by_cases hfull : (s.recording && !s.fifoRoom c.code) = true
  · rw [if_pos hfull] at ht
    have hat : t.pd p = { s.pd p with wait := none } := ht ▸ State.pd_setPd_same (hpds ▸ hgood.pds)
    refine ⟨by rw [hat], ht ▸ hup, ht ▸ htook, fun o ho => ht ▸ hother _ _ o hpds ho, fun _ _ => ?_⟩
    have hlost : t.rd PD_LOST_COUNT p = satAdd 32 (u.rd PD_LOST_COUNT p) 1 % 2 ^ 32 :=
      (State.rd_congr (ht ▸ rfl) _ _).trans (State.rd_wr_eq ⟨(hwrites hgood.objs).1, by decide⟩)
    rw [hlost, hwrites.rd hgood.objs (by decide) (show 0 + p < 65536 by omega)]
    exact Nat.mod_eq_of_lt satAdd_lt
  · rw [if_neg hfull] at ht
    have hfill : ∀ (v : State), v.pds = s.pds → v.ev = u.ev →
        t = v.setPd p { s.pd p with wait := none, merges := 0, posted := some c.level } →
        (t.pd p).wait = none ∧ t.ev.tookUp = s.frame.up ∧ t.ev.took = s.tookNow ||| 2 ^ q ∧ (∀ o, o ≠ p → t.pd o = s.pd o) := by
      intro v hv hev h
      have hat : t.pd p = { s.pd p with wait := none, merges := 0, posted := some c.level } :=
        h ▸ State.pd_setPd_same (hv ▸ hgood.pds)
      exact ⟨by rw [hat], h ▸ hev ▸ hup, h ▸ hev ▸ htook, fun o ho => h ▸ hother _ _ o hv ho⟩
    have hlost : s.recording = true → s.fifoRoom c.code = false → t.rd PD_LOST_COUNT p =
        satAdd (PD_LOST_COUNT.hi + 1 - PD_LOST_COUNT.lo) (s.rd PD_LOST_COUNT p) 1 :=
      fun hrec hroom => absurd (by rw [hrec, hroom]; rfl) hfull
    split at ht
    · obtain ⟨hnone, hnow, htaken, hrest⟩ := hfill (u.bump TS_LIGHT_RECORDS_COUNT) hpds rfl ht
      exact ⟨hnone, hnow, htaken, hrest, hlost⟩
    · obtain ⟨hnone, hnow, htaken, hrest⟩ := hfill _ hpds rfl ht
      exact ⟨hnone, hnow, htaken, hrest, hlost⟩

theorem State.tookNow_free (h : s.ev.tookUp ≠ s.frame.up ∨ s.ev.took.testBit q = false) :
    s.tookNow.testBit q = false := by
  unfold State.tookNow
  split
  · next hup => exact h.resolve_left (not_not_intro hup)
  · exact Nat.zero_testBit q

theorem exec_lightCrossing (hp : p < 256) :
    exec (.lightCrossing p bin ua lasts) s = .next (s.crossing p (bin % 32) ua lasts) :=
  congrArg (fun k => Host.Outcome.next (s.crossing k (bin % 32) ua lasts)) (Nat.mod_eq_of_lt hp)

theorem exec_lightLevel (hp : p < 256) : exec (.lightLevel p) s = .next (s.lightLevel p) :=
  congrArg (fun k => Host.Outcome.next (s.lightLevel k)) (Nat.mod_eq_of_lt hp)

theorem exec_lightRecordEnqueue (hq : q < 4) : exec (.lightRecordEnqueue q) s = .next (s.takeLight q) :=
  congrArg (fun k => Host.Outcome.next (s.takeLight k)) (Nat.mod_eq_of_lt hq)

end Sys2Proof.Machine

namespace Sys2Proof

open Machine

/-- Settles O19: a lasting crossing is the edge of the port with its input moved; a capture leaves its port as it is
posted, which touches no other port. -/
theorem lightAtThePorts : Obligations.LightAtThePorts := by
  unfold Obligations.LightAtThePorts
  intro s p bin ua lasts quad c lit hwf hp
  refine ⟨fun hactive hlevel hleaves => ⟨fun hlasts => ?_, fun hlasts => ?_⟩, fun hidle => ⟨?_, ?_⟩,
    fun hactive hstarted hwait => ?_, fun hstarted => ?_, fun hq hnext hwait => ⟨fun hfree => ?_, fun hup hbit => ?_⟩⟩
  · exact ⟨_, exec_lightCrossing hp, State.crossing_lasting hwf hp hactive hlevel hleaves hlasts⟩
  · exact ⟨_, exec_lightCrossing hp, State.crossing_short hwf hp hactive hlevel hleaves hlasts⟩
  · exact (exec_lightCrossing hp).trans (congrArg _ (State.crossing_idle hidle))
  · exact (exec_lightLevel hp).trans (congrArg _ (State.lightLevel_idle (.inl hidle)))
  · exact ⟨_, exec_lightLevel hp, State.lightLevel_starts hwf hactive hstarted hwait⟩
  · exact (exec_lightLevel hp).trans (congrArg _ (State.lightLevel_idle (.inr hstarted)))
  · exact ⟨_, exec_lightRecordEnqueue hq, State.takeLight_takes hwf hp hnext (State.tookNow_free hfree) hwait⟩
  · refine (exec_lightRecordEnqueue hq).trans (congrArg _ (State.takeLight_busy hnext ?_))
    exact (congrArg (fun n => Nat.testBit n quad) (if_pos hup)).trans hbit

end Sys2Proof
end

section
/-! SUPPORT. The ring time exchange and authorised steps (R164 to R166, R172): each rule's branches. -/

namespace Sys2Proof.Machine


variable {s : State} {x : MarkMeas} {m : Mark} {d : Dreq} {ds : List Dreq} {y : Dresp} {v : Word}
  {id t3 frame seq t4 : Nat}

/-! Authorised steps (R172). -/

theorem State.wStepAuth_go (hgo : v.bits 0 0 = 1) (hcancel : v.bits 1 1 = 0) (hid : v.bits 15 8 = id) :
    s.wStepAuth v = s.authorise id := by
  subst hid
  exact (if_neg (by simp [hcancel])).trans (if_pos hgo)

theorem State.wStepAuth_cancel (hgo : v.bits 0 0 = 0) (hcancel : v.bits 1 1 = 1) :
    s.wStepAuth v = s.withdrawStep :=
  (if_neg (by simp [hgo])).trans ((if_neg (by simp [hgo])).trans (if_pos hcancel))

theorem State.authorise_mode (hmode : s.modeNow ≠ modeService) : s.authorise id = (stMode, s) := if_pos hmode

theorem State.authorise_state (hmode : s.modeNow = modeService)
    (h : s.on TB_JUMP_PENDING_VALID = false ∨ s.on SM_STATUS_MARGINAL = true ∨ s.time.step ≠ none) :
    s.authorise id = (stState, s) :=
  (if_neg (not_not_intro hmode)).trans (if_pos (by rcases h with h | h | h <;> simp [h, Option.isSome_iff_ne_none]))

section

variable (hmode : s.modeNow = modeService) (hvalid : s.on TB_JUMP_PENDING_VALID = true)
  (hmargin : s.on SM_STATUS_MARGINAL = false) (hstep : s.time.step = none)
include hmode hvalid hmargin hstep

theorem State.authorise_range (h : id ≠ s.get TB_JUMP_PENDING_JUMP_ID ∨ s.stepWords.1 < s.frame.frame + 3 ∨
    600000 < (s.time.delta - s.stepWords.2 * 1000000).natAbs) : s.authorise id = (stRange, s) :=
  (if_neg (not_not_intro hmode)).trans ((if_neg (by simp [hvalid, hmargin, hstep])).trans (if_pos h))

theorem State.authorise_schedules (hid : id = s.get TB_JUMP_PENDING_JUMP_ID)
    (hlater : s.frame.frame + 3 ≤ s.stepWords.1)
    (hnear : (s.time.delta - s.stepWords.2 * 1000000).natAbs ≤ 600000) :
    s.authorise id = (stOk, { (s.set TB_STATUS_STEP_SCHEDULED 1).set TB_STATUS_STEP_CANCELLED 0 with
      time := { s.time with step := some s.stepWords } }) :=
  (if_neg (not_not_intro hmode)).trans ((if_neg (by simp [hvalid, hmargin, hstep])).trans
    (if_neg (not_or.mpr ⟨not_not_intro hid, not_or.mpr ⟨Nat.not_lt.mpr hlater, Nat.not_lt.mpr hnear⟩⟩)))

end

/-! Marks (R164, R166, R51). -/

/-- The exchange that a mark opens. -/
def State.opened (s : State) (x : MarkMeas) : Mark :=
  { frame := x.frame, t1 := x.t1, t2 := x.t2, atFrame := s.frame.frame, tick := s.frame.ticks }

theorem State.markReceive_idle (h : s.acting = false ∨ s.on TC_STATUS_CLK_READY = false) : s.markReceive x = s :=
  if_pos (by rcases h with h | h <;> simp [h])

section

variable (hacting : s.acting = true) (hready : s.on TC_STATUS_CLK_READY = true)
include hacting hready

theorem State.markReceive_timing (hport : x.port % 2 = s.timingPort) : s.markReceive x =
    { (s.setB TB_STATUS_SERVER_UNSET x.unset).setB TB_STATUS_SERVER_COAST x.coast with
      time := { s.time with mark := (if x.unset then none else some (s.opened x)) } } :=
  (if_neg (by simp [hacting, hready])).trans (if_pos hport)

theorem State.markReceive_trims (hport : x.port % 2 ≠ s.timingPort) (htc : s.tc = 5)
    (htrim : s.on TC_CONTROL_TRIM_EN = true) : s.markReceive x =
      { s with timing := { s.timing with
        trimFirst := some (s.timing.trimFirst.getD (s.frame.ticks * 96000 + x.t2, x.frame * 96000 + x.t1))
        trimLast := if s.timing.trimFirst.isNone then none
          else some (s.frame.ticks * 96000 + x.t2, x.frame * 96000 + x.t1) } } :=
  (if_neg (by simp [hacting, hready])).trans ((if_neg hport).trans (if_pos (by
    simp only [Bool.and_eq_true, decide_eq_true_eq]
    exact ⟨htc, htrim⟩)))

theorem State.markReceive_other (hport : x.port % 2 ≠ s.timingPort)
    (h : s.tc ≠ 5 ∨ s.on TC_CONTROL_TRIM_EN = false) : s.markReceive x = s :=
  (if_neg (by simp [hacting, hready])).trans ((if_neg hport).trans (if_neg (by
    simp only [Bool.and_eq_true, decide_eq_true_eq]
    rintro ⟨htc, htrim⟩
    exact h.elim (absurd htc) (fun hoff => absurd (hoff.symm.trans htrim) (by decide)))))

theorem exec_dreqReceive : exec (.dreqReceive frame seq t4) s = .next (s.sendCtl (2 * s.timingPort + 1) 0x32
    (BitVec.ofNat 56 (seq % 256 + s.frame.frame % 2 ^ 16 * 2 ^ 8 + t4 % 2 ^ 24 * 2 ^ 24 + s.timeBits * 2 ^ 48))) :=
  congrArg Host.Outcome.next (if_pos (by simp [hacting, hready]))

/-- A mark on the timing port tells of the server. -/
theorem State.markReceive_server (hok : s.ok) (hport : x.port % 2 = s.timingPort) :
    (s.markReceive x).get TB_STATUS_SERVER_UNSET = x.unset.toNat ∧
      (s.markReceive x).get TB_STATUS_SERVER_COAST = x.coast.toNat ∧ (s.markReceive x).timing = s.timing := by
  have ht := State.markReceive_timing hacting hready hport
  have hobjs : (s.markReceive x).objs = ((s.setB TB_STATUS_SERVER_UNSET x.unset).setB TB_STATUS_SERVER_COAST x.coast).objs := by
    rw [ht]
  have hunset : (s.setB TB_STATUS_SERVER_UNSET x.unset).ok := State.wr_ok hok
  refine ⟨(State.rd_congr hobjs _ _).trans ?_, (State.rd_congr hobjs _ _).trans ?_, by rw [ht]; rfl⟩
  · refine ((State.rd_wr_apart ⟨hunset, by decide⟩).trans (State.rd_wr_eq ⟨hok, by decide⟩)).trans ?_
    cases x.unset <;> rfl
  · refine (State.rd_wr_eq ⟨hunset, by decide⟩).trans ?_
    cases x.coast <;> rfl

end

theorem exec_dreqReceive_idle (h : s.acting = false ∨ s.on TC_STATUS_CLK_READY = false) :
    exec (.dreqReceive frame seq t4) s = .next s :=
  congrArg Host.Outcome.next (if_neg (by rcases h with h | h <;> simp [h]))

/-! Requests and responses (R164, R165). -/

theorem State.dreqSend_sends (hmark : s.time.mark = some m) (hacting : s.acting = true) (hdue : s.time.due = true)
    (htick : m.tick = s.frame.ticks) : s.dreqSend t3 =
      ({ s with time := { s.time with
        seq := (s.time.seq + 1) % 256, due := false, mark := none,
        dreqs := s.time.dreqs ++
          [{ seq := (s.time.seq + 1) % 256, mark := m, t3 := t3, sentTick := s.frame.ticks }] } } : State).sendCtl
      (2 * s.timingPort) 0x31 (BitVec.ofNat 56 (m.frame % 2 ^ 32 + (s.time.seq + 1) % 256 * 2 ^ 32)) := by
  unfold State.dreqSend
  rw [hmark]
  exact if_pos (by simp [hacting, hdue, htick])

theorem State.dreqSend_idle (h : s.time.mark = none ∨ s.time.due = false) : s.dreqSend t3 = s := by
  unfold State.dreqSend
  split
  · rfl
  · next m hmark =>
    have hdue := h.resolve_left (by simp [hmark])
    exact if_neg (by simp [hdue])

/-- An answered DREQ is no longer waited for. -/
def State.answered (s : State) (d : Dreq) : State :=
  { s with time := { s.time with dreqs := s.time.dreqs.erase d, lost := 0 } }

/-- What the exchange measures. -/
def State.exchange (s : State) (d : Dreq) (y : Dresp) : Int × Int :=
  exchangeOf ((d.mark.frame * 96000 + d.mark.t1 : Nat) : Int) ((d.mark.atFrame * 96000 + d.mark.t2 : Nat) : Int)
    ((d.mark.atFrame * 96000 + d.t3 : Nat) : Int) ((serverFrame d.mark.frame y.frame16 * 96000 + y.t4 : Nat) : Int)
    (s.rdI TB_ASYM_ASYM s.timingPort)

theorem State.drespReceive_of (h : s.time.dreqs.find? (fun d => d.seq = y.seq % 256) = some d) :
    s.drespReceive y = if s.delayFits (s.exchange d y).1 then
      (s.answered d).acceptExchange (s.exchange d y).1 (s.exchange d y).2 else (s.answered d).discardExchange := by
  unfold State.drespReceive
  rw [h]
  rfl

theorem State.delayFits_iff {n : Int} : s.delayFits n = true ↔ s.time.delays.length < 16 ∨
    (16 * n - s.time.delays.sum).natAbs ≤ 16 * 96 * s.get TB_XCHG_OUTLIER := by
  simp [State.delayFits]

theorem State.drespReceive_none (h : s.time.dreqs.find? (fun d => d.seq = y.seq % 256) = none) :
    s.drespReceive y = s := by
  unfold State.drespReceive
  rw [h]

theorem State.drespTimeout_of (h : s.time.dreqs = d :: ds) : s.drespTimeout =
    if d.sentTick + 2 ≤ s.frame.ticks then ({ s with time := { s.time with dreqs := ds } } : State).loseExchange
    else s := by
  unfold State.drespTimeout
  rw [h]

theorem State.drespTimeout_none (h : s.time.dreqs = []) : s.drespTimeout = s := by
  unfold State.drespTimeout
  rw [h]

end Sys2Proof.Machine

namespace Sys2Proof

open Machine

/-- Settles O18: each step of the exchange is one branch of its rule, and an authorised step is answered by the first
of its three checks that fails. -/
theorem timeOverTheRing : Obligations.TimeOverTheRing := by
  unfold Obligations.TimeOverTheRing
  have hrule : ∀ (s : State) (ecc : EccOutcome) (port : Nat) (v : Word),
      s.objectRule ecc port 0x2411 0 v = s.wStepAuth v := fun s ecc port v => State.objectRule_2411 s ecc port v
  refine ⟨fun s q id _ => ⟨?_, ?_⟩, fun s x m d ds y t3 frame seq t4 hwf => ⟨?_, ?_, ?_, ?_, ?_, ?_, ?_, ?_, ?_⟩⟩
  · rintro v rfl hadm hgo hcancel hid
    have hgives : ∀ st t, s.authorise (id % 256) = (st, t) →
        s.objectRule .clean q.port 0x2411 0 (Safety.valueOf s (cmdWrite q (1 + 256 * (id % 256))) 0x2411 0) = (st, t) :=
      fun st t h => (hrule ..).trans ((State.wStepAuth_go hgo hcancel hid).trans h)
    refine ⟨fun hmode hvalid hmargin hstep => ⟨fun hjump hlater hnear => ?_, fun hbad => ?_⟩, fun hmode hbad => ?_,
      fun hmode => ?_⟩
    · exact exec_accepted rfl hadm (hgives _ _ (State.authorise_schedules hmode hvalid hmargin hstep hjump hlater hnear)) rfl
    · exact exec_refused_uncounted rfl hadm (hgives _ _ (State.authorise_range hmode hvalid hmargin hstep hbad)) rfl
        (by decide) (by decide)
    · exact exec_refused_uncounted rfl hadm (hgives _ _ (State.authorise_state hmode hbad)) rfl (by decide) (by decide)
    · exact exec_refused_uncounted rfl hadm (hgives _ _ (State.authorise_mode hmode)) rfl (by decide) (by decide)
  · rintro v rfl hadm hgo hcancel
    exact exec_accepted rfl hadm ((hrule ..).trans (State.wStepAuth_cancel hgo hcancel)) rfl
  · intro hacting hready
    refine ⟨fun hport => ?_, fun hport htc htrim => ?_, fun hport h => ?_⟩
    · have ht := State.markReceive_timing hacting hready hport
      obtain ⟨hunset, hcoast, hkept⟩ := State.markReceive_server hacting hready (Good.of_wf hwf).objs hport
      exact ⟨_, rfl, congrArg (fun t => t.time.mark) ht, hunset, hcoast, hkept⟩
    · have ht := State.markReceive_trims hacting hready hport htc htrim
      refine ⟨_, congrArg Host.Outcome.next ht, rfl, rfl, fun hfirst => ?_, fun hfirst => ?_⟩
      · simp [hfirst]
      · obtain ⟨f, hf⟩ := Option.ne_none_iff_exists'.mp hfirst
        simp [hf]
    · exact congrArg Host.Outcome.next (State.markReceive_other hacting hready hport h)
  · exact fun h => ⟨congrArg Host.Outcome.next (State.markReceive_idle h), exec_dreqReceive_idle h⟩
  · exact fun hmark hacting hdue htick => congrArg Host.Outcome.next (State.dreqSend_sends hmark hacting hdue htick)
  · exact fun h => congrArg Host.Outcome.next (State.dreqSend_idle h)
  · exact exec_dreqReceive
  · rintro z u hfind rfl rfl
    have ht := State.drespReceive_of hfind
    refine ⟨fun hfits => ?_, fun hlong hfar => ?_⟩
    · exact congrArg Host.Outcome.next (ht.trans (if_pos (State.delayFits_iff.mpr hfits)))
    · exact congrArg Host.Outcome.next (ht.trans (if_neg fun hfits => by
        rcases State.delayFits_iff.mp hfits with h | h
        · omega
        · exact absurd h (Nat.not_le.mpr hfar)))
  · exact fun h => congrArg Host.Outcome.next (State.drespReceive_none h)
  · intro h
    have ht := State.drespTimeout_of h
    exact ⟨fun hold => congrArg Host.Outcome.next (ht.trans (if_pos hold)),
      fun hnew => congrArg Host.Outcome.next (ht.trans (if_neg (by omega)))⟩
  · exact fun h => congrArg Host.Outcome.next (State.drespTimeout_none h)

end Sys2Proof
end

section
/-! SUPPORT. The commit engine (R113 to R122): CM_ARM, an arming's completion, a ring arming's start, and a trigger commit. -/

namespace Sys2Proof.Machine


variable {s t u : State} {a b : Arm} {v : Word} {trig force : Bool} {f e : Nat} {xs : List LaneEcc}

/-! CM_ARM (R113, R114, R116). -/

theorem State.wCmArm_go (hgo : v.bits 0 0 = 1) (hdis : v.bits 2 2 = 0) (hsync : v.bits 4 4 = 0)
    (htrig : v.bits 1 1 = trig.toNat) (hforce : v.bits 3 3 = force.toNat) : s.wCmArm v = s.armGo trig force := by
  have hbit : ∀ b : Bool, decide (b.toNat = 1) = b := by decide
  simp only [State.wCmArm, hgo, hdis, hsync, htrig, hforce, hbit]

theorem State.wCmArm_disarm (hgo : v.bits 0 0 = 0) (hdis : v.bits 2 2 = 1) (hsync : v.bits 4 4 = 0) :
    s.wCmArm v = s.armDisarm := by
  simp only [State.wCmArm, hgo, hdis, hsync]

theorem State.wCmArm_sync (hgo : v.bits 0 0 = 0) (hdis : v.bits 2 2 = 0) (hsync : v.bits 4 4 = 1) :
    s.wCmArm v = s.shadowSync := by
  simp only [State.wCmArm, hgo, hdis, hsync]

theorem State.armGo_mode (hservice : s.modeNow ≠ modeService) (hholdover : s.modeNow ≠ modeHoldover) :
    s.armGo trig force = (stMode, s) := if_pos ⟨hservice, hholdover⟩

section

variable (hmode : s.modeNow = modeService ∨ s.modeNow = modeHoldover)
include hmode

theorem State.armGo_state (h : s.get CM_ARMED_STATE ≠ 0) : s.armGo trig force = (stState, s) :=
  (if_neg (by rintro ⟨hs, hh⟩; exact hmode.elim hs hh)).trans (if_pos h)

theorem State.armGo_range (h : s.get CM_ARMED_STATE = 0) (hnear : s.get64 0x5203 0 < s.frame.frame + 3) :
    s.armGo false force = (stRange, s) :=
  (if_neg (by rintro ⟨hs, hh⟩; exact hmode.elim hs hh)).trans ((if_neg (not_not_intro h)).trans
    (if_pos (by simpa using hnear)))

/-- The arming that GO forms. -/
def State.goArm (s : State) (trig force : Bool) : Arm :=
  s.newArm s.shadowBits (s.get64 0x5203 0) trig force [] [] (decide (s.get SR_STATUS_STATE = 1))

/-- The state in which GO's arming begins. -/
def State.goArmed (s : State) (trig force : Bool) : State :=
  { s.set CM_ARMED_STATE 1 with commit := { s.commit with shadow := some (s.goArm trig force) } }

theorem State.armGo_arms (h : s.get CM_ARMED_STATE = 0) (hlater : trig = true ∨ s.frame.frame + 3 ≤ s.get64 0x5203 0) :
    s.armGo trig force = (stOk, (s.goArmed trig force).armWakes (s.goArm trig force)) :=
  (if_neg (by rintro ⟨hs, hh⟩; exact hmode.elim hs hh)).trans ((if_neg (not_not_intro h)).trans
    (if_neg (by rcases hlater with h | h <;> simp [h])))

end

theorem State.goArmed_reads (hok : s.ok) : (s.goArmed trig force).get CM_ARMED_STATE = 1 :=
  (State.rd_congr rfl _ _).trans (State.rd_wr_eq (s := s) (F := CM_ARMED_STATE) (e := 0) ⟨hok, by decide⟩)

theorem State.endShadow_reads (hok : s.ok) : (s.endShadow f).get CM_ARMED_STATE = 0 ∧
    (s.endShadow f).get CM_ARMED_RESULT = f % 16 := by
  have hset : (s.set CM_ARMED_STATE 0).ok := State.wr_ok hok
  have hobjs : (s.endShadow f).objs = ((s.set CM_ARMED_STATE 0).set CM_ARMED_RESULT f).objs := rfl
  exact ⟨(State.rd_congr hobjs _ _).trans ((State.rd_wr_apart ⟨hset, by decide⟩).trans (State.rd_wr_eq ⟨hok, by decide⟩)),
    (State.rd_congr hobjs _ _).trans (State.rd_wr_eq ⟨hset, by decide⟩)⟩

/-! An arming completes (R115). -/

theorem State.armComplete_shadow (h : s.shadowArming = some a) (hready : s.armReady a = true) :
    s.armComplete xs = s.shadowArmed a xs := by
  simp only [State.armComplete, h, hready, if_true]

theorem State.armComplete_ring (h : s.shadowArming = none) (hring : s.ringArming = some a) (hready : s.armReady a = true) :
    s.armComplete xs = s.ringArmed a xs := by
  simp only [State.armComplete, h, hring, hready, if_true]

theorem State.armComplete_none (h : s.shadowArming = none) (hring : s.ringArming = none) : s.armComplete xs = s := by
  simp only [State.armComplete, h, hring]

/-- The shadow arming is armed, its fetches clean. -/
def State.armedClean (s : State) (a : Arm) : State :=
  { (s.set CM_ARMED_STATE (if a.trig then 3 else 2)).set CM_ARMED_ARM_NS (s.armNs a) with
    commit := { s.commit with shadow := some { a with bad := [] } } }

/-- No arming waits: nothing starts. -/
theorem State.startWaiting_none (hshadow : s.commit.shadow.all (fun a => !a.waits) = true)
    (hring : s.commit.ring.all (fun r => !r.waits) = true) : s.startWaiting = s := by
  have hs : s.startShadow = s := by
    unfold State.startShadow
    split
    · next a h =>
      rw [h] at hshadow
      exact if_neg (by simpa using fun hw => absurd hw (by simpa using hshadow))
    · rfl
  unfold State.startWaiting
  rw [hs]
  unfold State.startRing
  split
  · next r h =>
    rw [h] at hring
    exact if_neg (by simpa using fun hw => absurd hw (by simpa using hring))
  · rfl

theorem State.shadowArmed_clean (h : s.shadowArming = some a)
    (hring : s.commit.ring = none ∨ s.ringArming.isSome = true) : s.shadowArmed a [] = s.armedClean a := by
  obtain ⟨hshadow, harming⟩ := Option.filter_eq_some_iff.mp h
  have hwaits : a.waits = false := by
    simp only [Bool.and_eq_true, Bool.not_eq_true'] at harming
    exact harming.2
  have hstart : s.shadowArmed a [] = (s.armedClean a).startWaiting := by
    have hsome : s.commit.shadow.isSome = true := by rw [hshadow]; rfl
    exact congrArg State.startWaiting (if_pos hsome)
  refine hstart.trans (State.startWaiting_none ?_ ?_)
  · simp [State.armedClean, hwaits]
  · rcases hring with hnone | hsome
    · simp [State.armedClean, hnone]
    · obtain ⟨r, hr⟩ := Option.isSome_iff_exists.mp hsome
      obtain ⟨hring, hrun⟩ := Option.filter_eq_some_iff.mp hr
      simp only [Bool.and_eq_true, Bool.not_eq_true'] at hrun
      simp [State.armedClean, hring, hrun.2]

theorem State.armNs_le : s.armNs a ≤ 0xFFFF := Nat.min_le_right ..

theorem State.armedClean_reads (hok : s.ok) : (s.armedClean a).get CM_ARMED_STATE = (if a.trig then 3 else 2) ∧
    (s.armedClean a).get CM_ARMED_ARM_NS = s.armNs a := by
  have hset : (s.set CM_ARMED_STATE (if a.trig then 3 else 2)).ok := State.wr_ok hok
  have hobjs : (s.armedClean a).objs =
    ((s.set CM_ARMED_STATE (if a.trig then 3 else 2)).set CM_ARMED_ARM_NS (s.armNs a)).objs := rfl
  constructor
  · refine (State.rd_congr hobjs _ _).trans ((State.rd_wr_apart ⟨hset, by decide⟩).trans ((State.rd_wr_eq ⟨hok, by decide⟩).trans ?_))
    cases a.trig <;> rfl
  · refine (State.rd_congr hobjs _ _).trans ((State.rd_wr_eq ⟨hset, by decide⟩).trans (Nat.mod_eq_of_lt ?_))
    exact Nat.lt_of_le_of_lt State.armNs_le (by decide)

/-! A ring arming begins (R121, R122). -/

/-- The state in which a ring commit's arming begins. -/
def State.ringArmBegun (s : State) : State := (s.set SR_STATUS_STATE 1).set SR_STATUS_BASIS_CHANGED 0

theorem State.ringArmStart_starts (hring : s.commit.ring = none) (hnext : s.ringNext = some f)
    (hmode : s.modeNow = modeService ∨ s.modeNow = modeHoldover) (hnear : f ≤ s.frame.frame + 3)
    (hlater : s.frame.frame < f) : s.ringArmStart =
      ({ s.ringArmBegun with commit := { s.ringArmBegun.commit with
          ring := some (s.ringArm f s.shadowArming.isSome) } } : State).armWakes (s.ringArm f s.shadowArming.isSome) := by
  unfold State.ringArmStart
  rw [hring, hnext]
  exact if_pos (by simp [hmode, hnear, hlater])

theorem State.ringArmStart_none (hnext : s.ringNext = none) : s.ringArmStart = s := by
  unfold State.ringArmStart
  rw [hnext]
  cases s.commit.ring <;> rfl

theorem State.ringArmBegun_reads (hok : s.ok) : s.ringArmBegun.get SR_STATUS_STATE = 1 ∧
    s.ringArmBegun.get SR_STATUS_BASIS_CHANGED = 0 := by
  have hset : (s.set SR_STATUS_STATE 1).ok := State.wr_ok hok
  exact ⟨(State.rd_wr_apart ⟨hset, by decide⟩).trans (State.rd_wr_eq ⟨hok, by decide⟩), State.rd_wr_eq ⟨hset, by decide⟩⟩


/-! A trigger commit (R119). -/

theorem State.setMask_frame {index lo n m : Nat} : (s.setMask index lo n m).frame = s.frame := by
  have hfold : ∀ (l : List Nat) (t : State), (l.foldl (fun t k =>
      t.setWord index (lo + k) (BitVec.ofNat 32 (m / 2 ^ (32 * k)))) t).frame = t.frame := by
    intro l
    induction l with
    | nil => exact fun _ => rfl
    | cons k l ih => exact fun t => ih _
  exact hfold _ s

/-- The frame counter stands, and of the dictionary the objects `is` alone are written. -/
def State.CommitKeeps (is : List Nat) (s t : State) : Prop := t.frame = s.frame ∧ State.WritesObjects is s t

theorem State.eoEdge_keeps {en : BitVec 128} {changes up : Bool} {at_ : Nat} :
    (s.eoEdge e en changes up at_).frame = s.frame ∧ (s.eoEdge e en changes up at_).objs = s.objs := by
  unfold State.eoEdge
  extract_lets l
  split <;> exact ⟨rfl, rfl⟩

/-- A trigger commit leaves a lane's terms for the next frame head: it writes no object. -/
theorem State.commitLane_trigger {changed new skipped edge : Nat} {st : State × Tally} (htrig : a.trig = true) :
    (State.commitLane a changed new skipped edge st e).1.frame = st.1.frame ∧
      (State.commitLane a changed new skipped edge st e).1.objs = st.1.objs := by
  obtain ⟨s, t⟩ := st
  unfold State.commitLane
  dsimp only
  split
  · exact ⟨rfl, rfl⟩
  split
  · exact ⟨rfl, rfl⟩
  · exact ⟨rfl, rfl⟩
  · by_cases haff : s.affected a e = true
    · obtain ⟨hframe, hobjs⟩ := State.eoEdge_keeps (s := s.setContext e (some (a.context e))) (e := e) (en := a.entry e)
        (changes := changed.testBit e) (up := new.testBit e) (at_ := edge)
      simp only [if_pos haff]
      exact ⟨hframe, hobjs⟩
    · simp only [if_neg haff]
      exact ⟨trivial, trivial⟩

theorem State.commitLanes_trigger {changed new skipped edge : Nat} {st : State × Tally} {es : List Nat}
    (htrig : a.trig = true) :
    (es.foldl (State.commitLane a changed new skipped edge) st).1.frame = st.1.frame ∧
      (es.foldl (State.commitLane a changed new skipped edge) st).1.objs = st.1.objs := by
  induction es generalizing st with
  | nil => exact ⟨rfl, rfl⟩
  | cons e es ih =>
    obtain ⟨hframe, hobjs⟩ := State.commitLane_trigger (e := e) (changed := changed) (new := new) (skipped := skipped)
      (edge := edge) (st := st) htrig
    exact ⟨ih.1.trans hframe, ih.2.trans hobjs⟩

theorem State.commitLanes_of_eq {changed new skipped edge : Nat} {x y : Tally} {es : List Nat} (htrig : a.trig = true)
    (h : es.foldl (State.commitLane a changed new skipped edge) (s, x) = (t, y)) : t.frame = s.frame ∧ t.objs = s.objs := by
  have hfold := State.commitLanes_trigger (es := es) (changed := changed) (new := new) (skipped := skipped)
    (edge := edge) (st := (s, x)) htrig
  rw [h] at hfold
  exact hfold

theorem State.CommitKeeps.beside {is : List Nat} (h : State.CommitKeeps is s t) (hframe : u.frame = t.frame)
    (hobjs : u.objs = t.objs) : State.CommitKeeps is s u := ⟨hframe.trans h.1, h.2.beside hobjs⟩

theorem State.CommitKeeps.moveGates {is : List Nat} {changed at_ : Nat} (h : State.CommitKeeps is s t) :
    State.CommitKeeps is s (t.moveGates changed at_) := h.beside rfl rfl

theorem State.CommitKeeps.setMask {is : List Nat} {i lo m x : Nat} (hi : i ∈ is) (hm : lo + m ≤ 65536)
    (h : State.CommitKeeps is s t) : State.CommitKeeps is s (t.setMask i lo m x) :=
  ⟨State.setMask_frame.trans h.1, h.2.setMask hi hm⟩

theorem State.commitRecord_frame {source time changed gates src flags : Nat} {x : Tally} :
    (s.commitRecord source time x changed gates src flags).frame = s.frame := by
  unfold State.commitRecord
  rw [State.postRec_keeps]

/-- A commit counted, at its frame. -/
theorem State.commitCounted_reads {n : Nat} (hok : s.ok) :
    ((s.bump CM_COMMITS_COUNT).put64 0x5207 0 n).frame = s.frame ∧ ((s.bump CM_COMMITS_COUNT).put64 0x5207 0 n).ok ∧
    ((s.bump CM_COMMITS_COUNT).put64 0x5207 0 n).get CM_COMMITS_COUNT =
      satAdd (CM_COMMITS_COUNT.hi + 1 - CM_COMMITS_COUNT.lo) (s.get CM_COMMITS_COUNT) 1 := by
  have hcounted : (s.bump CM_COMMITS_COUNT).ok := State.wr_ok hok
  have hkept : State.WritesObjects [0x5207] (s.bump CM_COMMITS_COUNT) ((s.bump CM_COMMITS_COUNT).put64 0x5207 0 n) :=
    .put64 (by decide) (by decide) .refl
  refine ⟨(State.put64_frame ..).trans (State.bump_frame ..), (hkept hcounted).1, (hkept.get hcounted (by decide)).trans ?_⟩
  exact (State.rd_wr_eq ⟨hok, by decide⟩).trans (Nat.mod_eq_of_lt satAdd_lt)

/-- What a trigger commit leaves: the frame counter as it stood, its execution in CM_ARMED, and one more commit. -/
def State.Triggered (s t : State) : Prop :=
  t.frame = s.frame ∧ t.get CM_ARMED_STATE = 0 ∧ t.get CM_ARMED_RESULT = 1 ∧
    t.get CM_COMMITS_COUNT = satAdd (CM_COMMITS_COUNT.hi + 1 - CM_COMMITS_COUNT.lo) (s.get CM_COMMITS_COUNT) 1

/-- What happens beside the frame counter, CM_ARMED and the count of commits leaves a trigger commit as it is. -/
theorem State.Triggered.keeps (h : State.Triggered s t) (hframe : u.frame = t.frame)
    (hwrites : State.WritesObjects [0x5109, 0x260A, 0x260B] t u) (hok : t.ok) : State.Triggered s u := by
  obtain ⟨hf, hstate, hresult, hcount⟩ := h
  exact ⟨hframe.trans hf, (hwrites.get hok (by decide)).trans hstate, (hwrites.get hok (by decide)).trans hresult,
    (hwrites.get hok (by decide)).trans hcount⟩

/-- The end of a shadow commit's execution in CM_ARMED. -/
theorem State.armedCleared_triggered {c : CommitSt} (hframe : t.frame = s.frame) (hok : t.ok)
    (hcount : t.get CM_COMMITS_COUNT = satAdd (CM_COMMITS_COUNT.hi + 1 - CM_COMMITS_COUNT.lo) (s.get CM_COMMITS_COUNT) 1) :
    State.Triggered s ((({ t with commit := c } : State).set CM_ARMED_STATE 0).set CM_ARMED_RESULT 1) ∧
      ((({ t with commit := c } : State).set CM_ARMED_STATE 0).set CM_ARMED_RESULT 1).ok := by
  generalize hu : ({ t with commit := c } : State) = u
  have huok : u.ok := hu ▸ hok
  have hset : (u.set CM_ARMED_STATE 0).ok := State.wr_ok huok
  refine ⟨⟨?_, ?_, ?_, ?_⟩, State.wr_ok hset⟩
  · exact Eq.trans (hu ▸ rfl) hframe
  · exact (State.rd_wr_apart ⟨hset, by decide⟩).trans (State.rd_wr_eq ⟨huok, by decide⟩)
  · exact State.rd_wr_eq ⟨hset, by decide⟩
  · refine (State.rd_wr_apart ⟨hset, by decide⟩).trans ((State.rd_wr_apart ⟨huok, by decide⟩).trans (Eq.trans ?_ hcount))
    exact State.rd_congr (hu ▸ rfl) _ _

theorem State.execCommit_trigger {superseded : Bool} (hok : s.ok) (htrig : a.trig = true) :
    State.Triggered s (s.execCommit a 1 superseded) := by
  unfold State.execCommit
  iterate 9 (extract_lets +onlyGivenNames x; clear_value x)
  extract_lets +onlyGivenNames elements
  have helements : State.CommitKeeps [0x5204] s elements := ⟨State.setMask_frame, .setMask (by decide) (by decide) .refl⟩
  clear_value elements
  extract_lets +onlyGivenNames t0
  clear_value t0
  split
  rename_i lanes counts heq
  have hlanes : State.CommitKeeps [0x5204] s lanes := by
    obtain ⟨hframe, hobjs⟩ := State.commitLanes_of_eq htrig heq
    exact ⟨hframe.trans helements.1, helements.2.beside hobjs⟩
  clear heq
  extract_lets +onlyGivenNames gold gnew v sf u
  have hgates : State.CommitKeeps [0x5204] s v := (hlanes.setMask (by decide) (by decide)).moveGates
  have hu : State.CommitKeeps [0x5204] s u := by
    rw [show u = _ from if_neg (by decide)]
    exact hgates.beside rfl rfl
  clear_value u v sf gnew gold
  clear hgates hlanes
  extract_lets +onlyGivenNames basis counted dated src armed executed
  have hdated : dated.frame = s.frame ∧ dated.ok ∧ dated.get CM_COMMITS_COUNT =
      satAdd (CM_COMMITS_COUNT.hi + 1 - CM_COMMITS_COUNT.lo) (s.get CM_COMMITS_COUNT) 1 := by
    obtain ⟨hframe, hdatedOk, hcount⟩ := State.commitCounted_reads (n := counted.frame.frame) (hu.2 hok).1
    exact ⟨hframe.trans hu.1, hdatedOk, hcount.trans (congrArg (fun n => satAdd 32 n 1) (hu.2.get hok (by decide)))⟩
  clear_value dated
  have hexecuted : State.Triggered s executed ∧ executed.ok := by
    rw [show executed = _ from if_neg (by decide)]
    exact State.armedCleared_triggered hdated.1 hdated.2.1 hdated.2.2
  clear_value executed
  extract_lets +onlyGivenNames pulse pulsed flags
  have hpulsed : pulsed.frame = executed.frame ∧ pulsed.objs = executed.objs := by
    unfold pulsed
    split <;> exact ⟨rfl, rfl⟩
  have hpulsedOk : pulsed.ok := State.ok_of_objs hexecuted.2 hpulsed.2
  refine (hexecuted.1.keeps hpulsed.1 (State.WritesObjects.refl.beside hpulsed.2) hexecuted.2).keeps ?_ ?_ hpulsedOk
  · exact State.commitRecord_frame
  · exact .of_writes State.commitRecord_writes (by decide)

theorem State.markBasis_keeps : State.CommitKeeps [0x5109] s (s.markBasis a) := by
  unfold State.markBasis
  split
  · split
    · exact ⟨rfl, .set (by decide) .refl⟩
    · exact ⟨rfl, .refl⟩
  · exact ⟨rfl, .refl⟩

theorem State.trigEdge_executes (hshadow : s.commit.shadow = some a) (htrig : a.trig = true)
    (harmed : s.get CM_ARMED_STATE = 3) (hen : s.on CM_TRIG_IN_EN = true) : s.trigEdge =
      { (s.markBasis a).execCommit a 1 false with
        commit := { ((s.markBasis a).execCommit a 1 false).commit with shadow := none } } := by
  unfold State.trigEdge
  rw [hshadow]
  exact if_pos (by simp [htrig, harmed, hen])

theorem State.trigEdge_triggers (hok : s.ok) (hshadow : s.commit.shadow = some a) (htrig : a.trig = true)
    (harmed : s.get CM_ARMED_STATE = 3) (hen : s.on CM_TRIG_IN_EN = true) :
    s.trigEdge.commit.shadow = none ∧ State.Triggered s s.trigEdge := by
  rw [State.trigEdge_executes hshadow htrig harmed hen]
  obtain ⟨hframe, hbasis⟩ := State.markBasis_keeps (s := s) (a := a)
  obtain ⟨hf, hstate, hresult, hcount⟩ := State.execCommit_trigger (superseded := false) (hbasis hok).1 htrig
  generalize (s.markBasis a).execCommit a 1 false = t at *
  exact ⟨rfl, hf.trans hframe, (State.rd_congr rfl _ _).trans hstate, (State.rd_congr rfl _ _).trans hresult,
    (State.rd_congr rfl _ _).trans (hcount.trans (congrArg (fun n => satAdd 32 n 1) (hbasis.get hok (by decide))))⟩

theorem State.trigEdge_ignored (h : s.commit.shadow.map Arm.trig ≠ some true ∨ s.get CM_ARMED_STATE ≠ 3 ∨
    s.on CM_TRIG_IN_EN = false) : s.trigEdge = s.bump CM_TRIG_IGNORED_COUNT := by
  unfold State.trigEdge
  split
  · next a ha =>
    refine if_neg fun hall => ?_
    simp only [Bool.and_eq_true, decide_eq_true_eq] at hall
    obtain ⟨⟨htrig, harmed⟩, hen⟩ := hall
    rcases h with h | h | h
    · exact h (by rw [ha]; exact congrArg some htrig)
    · exact h harmed
    · exact absurd (h.symm.trans hen) (by decide)
  · rfl

end Sys2Proof.Machine

namespace Sys2Proof

open Machine

/-- Settles O14: CM_ARM's rule is one of three by its bits, an armed commit keeps its arming, and a trigger commit
writes no object of a lane. -/
theorem commits : Obligations.Commits := by
  unfold Obligations.Commits
  have hrule : ∀ (s : State) (ecc : EccOutcome) (port : Nat) (v : Word),
      s.objectRule ecc port 0x5201 0 v = s.wCmArm v := fun s ecc port v => State.objectRule_5201 s ecc port 0 v
  refine ⟨fun s q trig force hwf => ⟨?_, ?_, ?_⟩, fun s a f xs hwf => ⟨?_, ?_, ?_, ?_, ?_, ?_, ?_⟩⟩
  · rintro v rfl hadm hgo hdis hsync htrig hforce
    have hgives : ∀ st t, s.armGo trig force = (st, t) → s.objectRule .clean q.port 0x5201 0
        (Safety.valueOf s (cmdWrite q (1 + 2 * trig.toNat + 8 * force.toNat)) 0x5201 0) = (st, t) :=
      fun st t h => (hrule ..).trans ((State.wCmArm_go hgo hdis hsync htrig hforce).trans h)
    refine ⟨fun hmode hstate hlater => ?_, fun hmode hstate hframe hnear => ?_, fun hmode hstate => ?_,
      fun hservice hholdover => ?_⟩
    · refine ⟨s.goArm trig force, s.goArmed trig force,
        exec_accepted rfl hadm (hgives _ _ (State.armGo_arms hmode hstate hlater)) rfl, rfl, rfl, rfl, rfl, rfl, rfl, ?_,
        State.goArmed_reads (Good.of_wf hwf).objs, rfl, rfl⟩
      exact decide_eq_true_iff
    · subst hframe
      exact exec_refused_uncounted rfl hadm (hgives _ _ (State.armGo_range hmode hstate hnear)) rfl (by decide) (by decide)
    · exact exec_refused_uncounted rfl hadm (hgives _ _ (State.armGo_state hmode hstate)) rfl (by decide) (by decide)
    · exact exec_refused_uncounted rfl hadm (hgives _ _ (State.armGo_mode hservice hholdover)) rfl (by decide) (by decide)
  · intro hadm hgo hdis hsync
    have hgives : ∀ st t, s.armDisarm = (st, t) →
        s.objectRule .clean q.port 0x5201 0 (Safety.valueOf s (cmdWrite q 4) 0x5201 0) = (st, t) :=
      fun st t h => (hrule ..).trans ((State.wCmArm_disarm hgo hdis hsync).trans h)
    refine ⟨fun hstate => ⟨?_, rfl, State.endShadow_reads (Good.of_wf hwf).objs⟩, fun hstate => ?_⟩
    · exact exec_accepted rfl hadm (hgives _ _ (if_neg hstate)) rfl
    · exact exec_refused_uncounted rfl hadm (hgives _ _ (if_pos hstate)) rfl (by decide) (by decide)
  · intro hadm hgo hdis hsync
    exact exec_accepted rfl hadm ((hrule ..).trans (State.wCmArm_sync hgo hdis hsync)) rfl
  · exact fun h hready => congrArg Host.Outcome.next (State.armComplete_shadow h hready)
  · intro h hready hring
    obtain ⟨hstate, hns⟩ := State.armedClean_reads (a := a) (Good.of_wf hwf).objs
    exact ⟨_, congrArg Host.Outcome.next ((State.armComplete_shadow h hready).trans (State.shadowArmed_clean h hring)),
      hstate, hns, rfl⟩
  · exact fun h hring hready => congrArg Host.Outcome.next (State.armComplete_ring h hring hready)
  · exact fun h hring => congrArg Host.Outcome.next (State.armComplete_none h hring)
  · intro hring hnext hmode hnear hlater
    obtain ⟨hstate, hbasis⟩ := State.ringArmBegun_reads (Good.of_wf hwf).objs
    exact ⟨s.ringArm f s.shadowArming.isSome, s.ringArmBegun,
      congrArg (Host.Outcome.next ∘ State.voteRose) (State.ringArmStart_starts hring hnext hmode hnear hlater),
      rfl, rfl, rfl, rfl, hstate, hbasis, rfl, rfl⟩
  · exact fun hnext => congrArg (Host.Outcome.next ∘ State.voteRose) (State.ringArmStart_none hnext)
  · intro hrun
    have hexec : exec .trigInEdge s = .next s.trigEdge := congrArg Host.Outcome.next (if_pos hrun)
    refine ⟨fun hshadow htrig harmed hen => ?_, fun h => hexec.trans (congrArg _ (State.trigEdge_ignored h))⟩
    exact ⟨_, hexec, State.trigEdge_triggers (Good.of_wf hwf).objs hshadow htrig harmed hen⟩

end Sys2Proof
end

section
/-! SUPPORT. Schedule rings, the Tide Table window, neighbours and aggressors (R107 to R111, R120, R126): each write's branches. -/

namespace Sys2Proof.Machine


variable {s : State} {v : Word} {e i index : Nat} {ecc : EccOutcome}

/-! Schedule rings (R120). -/

/-- The last activation that waits for an element, 0 where none does. -/
def State.ringLast (s : State) (e : Nat) : Nat := ((s.ringOf e).getLast?.map RingEntry.frame).getD 0

/-- The activation that a push names. -/
def State.pushed (s : State) (v : Word) : RingEntry :=
  { frame := s.get64 0x5100 0, next := decide (v.bits 9 9 = 1), ovr := if v.bits 8 8 = 1 then some (v.bits 4 0) else none }

theorem State.ringLast_any : ((s.ringOf e).getLast?.map RingEntry.frame).any (fun g => i ≤ g) = true ↔
    s.ringOf e ≠ [] ∧ i ≤ s.ringLast e := by
  unfold State.ringLast
  cases h : (s.ringOf e).getLast? with
  | none => simp [List.getLast?_eq_none_iff.mp h]
  | some r =>
    have hne : s.ringOf e ≠ [] := fun hnil => by simp [hnil] at h
    simp [hne]

/-- Too near, not later than the last, or an override of the other state (R120). -/
def State.pushBad (s : State) (v : Word) : Prop :=
  s.get64 0x5100 0 < s.frame.frame + 4 ∨
    (s.ringOf (v.bits 27 16) ≠ [] ∧ s.get64 0x5100 0 ≤ s.ringLast (v.bits 27 16)) ∨ (v.bits 8 8 = 1 ∧ v.bits 4 4 ≠ v.bits 9 9)

theorem State.wSrPush_range (h : s.pushBad v) : s.wSrPush v = (stRange, s) := by
  refine if_pos ?_
  by_cases hnear : s.get64 0x5100 0 < s.frame.frame + 4
  · simp [hnear]
  · have hlast := State.ringLast_any (s := s) (e := v.bits 27 16) (i := s.get64 0x5100 0)
    rcases h.resolve_left hnear with h | ⟨hovr, hother⟩
    · simp [hlast.mpr h]
    · simp [hovr, hother]

theorem State.wSrPush_fits (hlater : s.frame.frame + 4 ≤ s.get64 0x5100 0)
    (hlast : s.ringLast (v.bits 27 16) < s.get64 0x5100 0) (hovr : v.bits 8 8 = 1 → v.bits 4 4 = v.bits 9 9) :
    s.wSrPush v = if 8 ≤ (s.ringOf (v.bits 27 16)).length then (stState, s)
      else (stOk, s.setRing (v.bits 27 16) (s.ringOf (v.bits 27 16) ++ [s.pushed v])) := by
  have hfit : (s.get64 0x5100 0 < s.frame.frame + 4 ||
      ((s.ringOf (v.bits 27 16)).getLast?.map RingEntry.frame).any (fun g => s.get64 0x5100 0 ≤ g) ||
      (decide (v.bits 8 8 = 1) && decide (v.bits 4 4 ≠ v.bits 9 9))) = false := by
    rw [Bool.or_eq_false_iff, Bool.or_eq_false_iff]
    refine ⟨⟨decide_eq_false (by omega), Bool.eq_false_iff.mpr fun h => ?_⟩, ?_⟩
    · exact absurd (State.ringLast_any.mp h).2 (by omega)
    · by_cases hov : v.bits 8 8 = 1
      · simp [hov, hovr hov]
      · simp [hov]
  exact if_neg (Bool.eq_false_iff.mp hfit)

/-! The Tide Table window (R107 to R109). -/

theorem State.checked_idle (h : s.on TI_STATUS_PENDING = false) : s.checked i ecc = (ecc, s) :=
  if_neg (by simp [h])

theorem State.windowRead_clean (h : s.on TI_STATUS_PENDING = false) : s.windowRead .clean = (stOk,
    (s.setMask 0x5001 0 4 (s.entry (s.get TT_WIN_INDEX_INDEX)).toNat).windowDone (s.get TT_WIN_INDEX_INDEX) 0) := by
  unfold State.windowRead
  rw [State.checked_idle h]
  rfl

theorem State.windowRead_corrected (h : s.on TI_STATUS_PENDING = false) : s.windowRead .corrected = (stOk,
    ((s.bump TT_ECC_CORRECTED_COUNT).setMask 0x5001 0 4 (s.entry (s.get TT_WIN_INDEX_INDEX)).toNat).windowDone
      (s.get TT_WIN_INDEX_INDEX) 1) := by
  unfold State.windowRead
  rw [State.checked_idle h]
  rfl

theorem State.wTtWinCmd_read (hwrite : v.bits 1 1 = 0) (hread : v.bits 0 0 = 1) : s.wTtWinCmd v ecc = s.windowRead ecc := by
  simp only [State.wTtWinCmd, hwrite, hread]

theorem State.wTtWinCmd_write (hwrite : v.bits 1 1 = 1) (hread : v.bits 0 0 = 0) : s.wTtWinCmd v ecc = s.windowWrite := by
  simp only [State.wTtWinCmd, hwrite, hread]

theorem State.windowWrite_stores (h : s.windowRefusal = none) : s.windowWrite = (stOk,
    (((s.writeEntry (s.get TT_WIN_INDEX_INDEX) s.windowEntry).bumpGen).unlearn (s.get TT_WIN_INDEX_INDEX)).windowDone
      (s.get TT_WIN_INDEX_INDEX) 0) := by
  unfold State.windowWrite
  rw [h]

theorem State.windowWrite_refused (h : s.windowRefusal = some i) : s.windowWrite = (i, s) := by
  unfold State.windowWrite
  rw [h]

theorem State.windowRefusal_none (hmargin : s.on SM_STATUS_MARGINAL = false) (hmode : s.modeNow ≠ modeSurvey)
    (hsource : entrySource s.windowEntry ≤ 3) : s.windowRefusal = none :=
  (if_neg (by simp [hmargin])).trans ((if_neg hmode).trans (if_neg (by omega)))

theorem State.windowRefusal_some (h : (s.on SM_STATUS_MARGINAL = true ∧ i = stState) ∨
    (s.on SM_STATUS_MARGINAL = false ∧ s.modeNow = modeSurvey ∧ i = stMode) ∨
    (s.on SM_STATUS_MARGINAL = false ∧ s.modeNow ≠ modeSurvey ∧ 3 < entrySource s.windowEntry ∧ i = stRange)) :
    s.windowRefusal = some i ∧ refuses i = true := by
  rcases h with ⟨hmargin, rfl⟩ | ⟨hmargin, hmode, rfl⟩ | ⟨hmargin, hmode, hsource, rfl⟩
  · exact ⟨if_pos hmargin, rfl⟩
  · exact ⟨(if_neg (by simp [hmargin])).trans (if_pos hmode), rfl⟩
  · exact ⟨(if_neg (by simp [hmargin])).trans ((if_neg hmode).trans (if_pos hsource)), rfl⟩

theorem State.countRefused_window (h : v.bits 1 1 = 1) : s.countRefused i 0x5002 0 v = s.bump TT_WRITES_REFUSED_COUNT :=
  if_pos ⟨rfl, rfl, h⟩

/-! Neighbours and aggressors (R111, R126). -/

section

variable (hsurvey : s.surveying = false)
include hsurvey

theorem State.wTtNeigh_self (h : (Machine.neighbours v).contains e = true) : s.wTtNeigh index e v = (stRange, s) :=
  (if_neg (by simp [hsurvey])).trans (if_pos (by simp only [h, Bool.true_or]))

theorem State.wTtNeigh_defers (h : (Machine.neighbours v).contains e = false)
    (hnodup : (Machine.neighbours v ++ Machine.neighbours (s.word (if index = 0x5010 then 0x5011 else 0x5010) e)).Nodup) :
    s.wTtNeigh index e v = (stDeferred, s.defer index e v) :=
  (if_neg (by simp [hsurvey])).trans (if_neg (by simp only [h, hnodup, decide_true]; decide))

theorem State.wXt_self (hlo : 0x5400 ≤ index) (hhi : index ≤ 0x540B) (hvalid : v.bits 12 12 = 1)
    (hself : v.bits 27 16 = e) : s.wXt index e v = (stRange, s) :=
  (if_neg (by simp [hsurvey])).trans (if_pos ⟨hlo, hhi, hvalid, hself⟩)

theorem State.wXt_defers (hhi : index ≤ 0x540B) (h : v.bits 12 12 = 0 ∨ v.bits 27 16 ≠ e) :
    s.wXt index e v = (stDeferred, s.defer index e v) := by
  refine (if_neg (by simp [hsurvey])).trans ((if_neg ?_).trans (if_neg (by omega)))
  rintro ⟨-, -, hvalid, hself⟩
  exact h.elim (fun h0 => absurd (h0.symm.trans hvalid) (by decide)) (fun hother => hother hself)

end

end Sys2Proof.Machine

namespace Sys2Proof

open Machine

/-- Settles O15: each write is one branch of its object's rule; a refused WRITE of the window is counted with its
answer, and an entry written is the one entry that changes. -/
theorem schedulesAndTables : Obligations.SchedulesAndTables := by
  unfold Obligations.SchedulesAndTables
  refine ⟨fun s w e => ⟨?_, ?_, ?_⟩, fun s w q hi j e st hwf => ⟨?_, ?_, ?_, ?_⟩⟩
  · rintro v last rfl rfl hadm
    have hgives : ∀ st t, s.wSrPush (Safety.valueOf s w 0x5101 0) = (st, t) →
        s.objectRule .clean w.q.port 0x5101 0 (Safety.valueOf s w 0x5101 0) = (st, t) :=
      fun st t h => (State.objectRule_5101 ..).trans h
    refine ⟨fun hlater hlast hovr => ⟨fun hroom => ?_, fun hfull => ?_⟩, fun hbad => ?_⟩
    · exact exec_accepted rfl hadm (hgives _ _ ((State.wSrPush_fits hlater hlast hovr).trans (if_neg (by omega)))) rfl
    · exact exec_refused_uncounted rfl hadm (hgives _ _ ((State.wSrPush_fits hlater hlast hovr).trans (if_pos hfull))) rfl
        (by decide) (by decide)
    · exact exec_refused_uncounted rfl hadm (hgives _ _ (State.wSrPush_range hbad)) rfl (by decide) (by decide)
  · intro hadm hgo
    exact exec_accepted rfl hadm ((State.objectRule_5105 ..).trans (congrArg (Prod.mk stOk) (if_pos hgo))) rfl
  · intro hadm hgo
    exact exec_accepted rfl hadm ((State.objectRule_5106 ..).trans (congrArg (Prod.mk stOk) (if_pos hgo))) rfl
  · intro hadm hwrite hread hidle
    exact ⟨exec_accepted rfl hadm ((State.objectRule_5002 ..).trans
        ((State.wTtWinCmd_read hwrite hread).trans (State.windowRead_clean hidle))) rfl,
      exec_accepted rfl hadm ((State.objectRule_5002 ..).trans
        ((State.wTtWinCmd_read hwrite hread).trans (State.windowRead_corrected hidle))) rfl⟩
  · intro hadm hwrite hread
    refine ⟨fun hmargin hmode hsource => ⟨?_, fun i => State.entry_writeEntry (Good.of_wf hwf).tide⟩, fun hbad => ?_⟩
    · exact exec_accepted rfl hadm ((State.objectRule_5002 ..).trans ((State.wTtWinCmd_write hwrite hread).trans
        (State.windowWrite_stores (State.windowRefusal_none hmargin hmode hsource)))) rfl
    · obtain ⟨hrefusal, hst⟩ := State.windowRefusal_some hbad
      refine (exec_refused rfl hadm ((State.objectRule_5002 ..).trans ((State.wTtWinCmd_write hwrite hread).trans
        (State.windowWrite_refused hrefusal))) hst).trans ?_
      exact congrArg (fun t => Host.Outcome.next (State.answerWrite t q 0x5002 0 st)) (State.countRefused_window hwrite)
  · rintro i hi' hadm hsurvey
    have hindex : i ≠ 0x5002 ∧ i ≠ 0x7101 := by cases hi <;> simp [hi']
    have hrow : Safety.writeRow (.neighbourWrite hi e w) = some (i, e, w) := by rw [hi']; rfl
    have hrule : ∀ v, s.objectRule .clean w.q.port i e v = s.wTtNeigh i e v := by
      cases hi
      · exact hi' ▸ State.objectRule_5010 s _ _ _
      · exact hi' ▸ State.objectRule_5011 s _ _ _
    refine ⟨fun hother hnodup => ?_, fun hself => ?_⟩
    · exact exec_accepted hrow hadm ((hrule _).trans (State.wTtNeigh_defers hsurvey hother hnodup)) rfl
    · exact exec_refused_uncounted hrow hadm ((hrule _).trans (State.wTtNeigh_self hsurvey hself)) rfl hindex.1 hindex.2
  · intro hj hadm hsurvey
    have hrule : ∀ v, s.objectRule .clean w.q.port (0x5400 + j) e v = s.wXt (0x5400 + j) e v :=
      fun v => State.objectRule_aggressor s .clean w.q.port e v (by omega)
    refine ⟨fun hother => ?_, fun hvalid hself => ?_⟩
    · exact exec_accepted rfl hadm ((hrule _).trans (State.wXt_defers hsurvey (by omega) hother)) rfl
    · exact exec_refused_uncounted rfl hadm ((hrule _).trans (State.wXt_self hsurvey (by omega) (by omega) hvalid hself)) rfl
        (by omega) (by omega)

end Sys2Proof
end

section
/-! SUPPORT. Calibration runs (R150 to R152, R155): queueing, a run's begin and end, host corrections. -/

namespace Sys2Proof.Machine


variable {s t : State} {u i k : Nat} {is : List Nat} {v : Word} {xs : List Int} {r : CalRun}

/-- A whole word of an object outside those written. -/
theorem State.WritesObjects.word (h : State.WritesObjects is s t) (hs : s.ok) (hi : is.contains i = false) (hk : k < 65536) :
    t.word i k = s.word i k := by
  have hrd := h.rd (G := ⟨i, k, 31, 0⟩) (e := 0) hs hi hk
  have hword : ∀ x : State, x.rd ⟨i, k, 31, 0⟩ 0 = (x.word i k).toNat := fun x => by
    simpa [State.rd, Word.bits] using Nat.mod_eq_of_lt (x.word i k).isLt
  exact BitVec.eq_of_toNat_eq ((hword t).symm.trans (hrd.trans (hword s)))

theorem State.WritesObjects.setBoth (hi : i ∈ is) (hk : k < 65536) (h : State.WritesObjects is s t) :
    State.WritesObjects is s (t.setBoth i k v) := (h.setWord hi hk).beside rfl

/-! Queueing (R150). -/

theorem State.calCheck_checks (hrun : s.frame.running = true) (hdelta : s.get SV_TEMP_DELTA_DELTA ≠ 0) :
    s.calCheck = (calUnits.filter s.unitStale).foldl State.queueUnit s := if_neg (by simp [hrun, hdelta])

theorem State.calCheck_idle (h : s.frame.running = false ∨ s.get SV_TEMP_DELTA_DELTA = 0) : s.calCheck = s :=
  if_pos (by rcases h with h | h <;> simp [h])

theorem State.queueUnit_queues (hqueue : s.cal.queue.contains u = false) (hruns : s.unitRuns u = false) :
    s.queueUnit u = { s with cal := { s.cal with queue := s.cal.queue ++ [u] } } :=
  if_neg (by rw [hqueue, hruns]; decide)

theorem State.queueUnit_known (h : s.cal.queue.contains u = true ∨ s.unitRuns u = true) : s.queueUnit u = s :=
  if_pos ((Bool.or_eq_true ..).mpr h)

theorem State.wSvCalReq_unit (hall : v.bits 15 15 = 0) (hunit : v.bits 8 0 ≤ 383) :
    s.wSvCalReq v = (stOk, s.queueUnit (v.bits 8 0)) := (if_neg (by omega)).trans (if_neg (by omega))

theorem State.wSvCalReq_range (hall : v.bits 15 15 = 0) (hunit : 383 < v.bits 8 0) : s.wSvCalReq v = (stRange, s) :=
  (if_neg (by omega)).trans (if_pos hunit)

/-! A run begins (R150). -/

/-- The monitors of a unit whose run begins hold and are flagged. -/
def State.holdMonitors (s : State) (u : Nat) : State :=
  (if u < 128 then (List.range 8).map fun j => 8 * u + j else []).foldl
    (fun s m => (s.wr MN_STATUS_CAL_STALE m 1).setMon m { s.mon m with cal := true }) s

theorem State.holdMonitors_keeps : (s.holdMonitors u).cal = s.cal ∧ (s.holdMonitors u).frame = s.frame ∧
    State.WritesObjects [0x4801] s (s.holdMonitors u) := by
  have hfold : ∀ (ms : List Nat) (t : State), (∀ m ∈ ms, m < 1024) →
      (ms.foldl (fun s m => (s.wr MN_STATUS_CAL_STALE m 1).setMon m { s.mon m with cal := true }) t).cal = t.cal ∧
      (ms.foldl (fun s m => (s.wr MN_STATUS_CAL_STALE m 1).setMon m { s.mon m with cal := true }) t).frame = t.frame ∧
      State.WritesObjects [0x4801] t
        (ms.foldl (fun s m => (s.wr MN_STATUS_CAL_STALE m 1).setMon m { s.mon m with cal := true }) t) := by
    intro ms
    induction ms with
    | nil => exact fun t _ => ⟨rfl, rfl, .refl⟩
    | cons m ms ih =>
      intro t hms
      have hm : m < 1024 := hms m List.mem_cons_self
      obtain ⟨hcal, hframe, hwrites⟩ := ih ((t.wr MN_STATUS_CAL_STALE m 1).setMon m { t.mon m with cal := true })
        fun n hn => hms n (List.mem_cons_of_mem m hn)
      refine ⟨hcal, hframe, State.WritesObjects.trans ?_ hwrites⟩
      exact (State.WritesObjects.refl.wr (F := MN_STATUS_CAL_STALE) (by decide) (show 0 + m < 65536 by omega)).beside rfl
  refine hfold _ s fun m hm => ?_
  split at hm
  · next hu =>
    obtain ⟨j, hj, rfl⟩ := List.mem_map.mp hm
    have := List.mem_range.mp hj
    omega
  · exact absurd hm List.not_mem_nil

/-- A run's monitors are of another object than the sensors, however high the unit's number. -/
theorem State.unitSensor_holdMonitors (hok : s.ok) : (s.holdMonitors u).unitSensor u = s.unitSensor u := by
  by_cases hu : u < 128
  · refine congrArg (signedOf 12) ?_
    refine State.holdMonitors_keeps.2.2.rd hok ?_ (show 0 + 0 < 65536 by decide)
    simp [Field.tile, TH_TILE_TEMP_TEMP]
    omega
  · unfold State.holdMonitors
    rw [if_neg hu]
    rfl

theorem State.beginRun_reads (hok : s.ok) : (s.beginRun u false).cal.queue = s.cal.queue.filter (fun x => x ≠ u) ∧
    (s.beginRun u false).cal.runs =
      s.cal.runs ++ [{ unit := u, start := s.frame.ticks, temp := s.unitSensor u, survey := false }] := by
  obtain ⟨hcal, hframe, -⟩ := State.holdMonitors_keeps (s := s) (u := u)
  have hruns : (s.beginRun u false).cal.runs = (s.holdMonitors u).cal.runs ++
    [{ unit := u, start := (s.holdMonitors u).frame.ticks, temp := (s.holdMonitors u).unitSensor u, survey := false }] := rfl
  have hqueue : (s.beginRun u false).cal.queue = (s.holdMonitors u).cal.queue.filter (fun x => x ≠ u) := rfl
  rw [hcal] at hqueue
  rw [hcal, hframe, State.unitSensor_holdMonitors hok] at hruns
  exact ⟨hqueue, hruns⟩

/-! A run ends (R150 to R152). -/

theorem State.applyRun_keeps (hu : u < 384) : State.WritesObjects [0x5830, 0x5831] s (s.applyRun u xs) := by
  unfold State.applyRun
  split
  · exact .foldl fun t j hj => .setBoth (by decide) (by have := List.mem_range.mp hj; omega) .refl
  · exact .foldl fun t j hj => .setBoth (by decide) (by have := List.mem_range.mp hj; omega) .refl

/-- What a run's end leaves of the state beside the dictionary and the corrections in force. -/
def State.besideRun (s : State) : CalSt × Table Lane × FrameSt := (s.cal, s.lanes, s.frame)

theorem State.besideRun_each {f : Nat → State → State} {n : Nat} (hf : ∀ j t, (f j t).besideRun = t.besideRun) :
    (State.each n f s).besideRun = s.besideRun := by
  have hfold : ∀ (l : List Nat) (t : State), (l.foldl (fun t j => f j t) t).besideRun = t.besideRun := by
    intro l
    induction l with
    | nil => exact fun _ => rfl
    | cons j l ih => exact fun t => (ih (f j t)).trans (hf j t)
  exact hfold _ s

theorem State.applyRun_beside : (s.applyRun u xs).besideRun = s.besideRun := by
  unfold State.applyRun
  split
  · exact State.besideRun_each fun _ _ => rfl
  · exact State.besideRun_each fun _ _ => rfl

/-- The run counted and dated. -/
def State.runCounted (s : State) (u : Nat) : State :=
  let s := s.bumpAt SV_RUNS_COUNT u
  (s.wr SV_LAST_RUN_LO_FRAME u s.frame.frame).wr SV_LAST_RUN_HI_FRAME u (s.frame.frame / 2 ^ 32)

/-- The run over, its temperature kept. -/
def State.runOver (s : State) (u : Nat) (temp : Int) : State :=
  let s := s.setBoth 0x5823 u (BitVec.ofNat 32 (2 ^ 31 + toBits 12 temp))
  { s with cal := { s.cal with
    runs := s.cal.runs.filter fun x => x.unit ≠ u, clear := s.cal.clear ++ [u] } }

/-- The run's record posted. -/
def State.runPosted (s : State) (u : Nat) (temp : Int) : State :=
  s.postRec {
    time := (s.frame.frame + 1) * 768000, code := 0x61, source := u, flags := s.flagsNow
    payload := payloadOf [(s.rd SV_RUNS_COUNT u, 32), (toBits 12 temp, 0)] } none

theorem State.calEnd_due (h : s.cal.runs.find? (fun r => r.unit = u) = some r)
    (hdue : r.start + runLength u - 1 ≤ s.frame.ticks) :
    s.calEnd u xs = (((s.applyRun u xs).runCounted u).runOver u r.temp).runPosted u r.temp := by
  unfold State.calEnd
  rw [h]
  refine (if_neg (by omega)).trans ?_
  generalize s.applyRun u xs = t
  rfl

theorem State.calEnd_early (h : s.cal.runs.find? (fun r => r.unit = u) = some r)
    (hearly : s.frame.ticks < r.start + runLength u - 1) : s.calEnd u xs = s := by
  unfold State.calEnd
  rw [h]
  exact if_pos hearly

theorem State.runCounted_reads (hok : s.ok) (hu : u < 384) : (s.runCounted u).ok ∧ (s.runCounted u).rd SV_RUNS_COUNT u =
    satAdd (SV_RUNS_COUNT.hi + 1 - SV_RUNS_COUNT.lo) (s.rd SV_RUNS_COUNT u) 1 := by
  have hcounted : (s.bumpAt SV_RUNS_COUNT u).ok := State.wr_ok hok
  have hdated : State.WritesObjects [0x5821, 0x5822] (s.bumpAt SV_RUNS_COUNT u) (s.runCounted u) :=
    (State.WritesObjects.refl.wr (F := SV_LAST_RUN_LO_FRAME) (by decide) (show 0 + u < 65536 by omega)).wr
      (F := SV_LAST_RUN_HI_FRAME) (by decide) (show 0 + u < 65536 by omega)
  refine ⟨(hdated hcounted).1, (hdated.rd hcounted (by decide) (show 0 + u < 65536 by omega)).trans ?_⟩
  exact (State.rd_wr_eq ⟨hok, by decide⟩).trans (Nat.mod_eq_of_lt satAdd_lt)

theorem State.runOver_reads {temp : Int} (hok : s.ok) (hu : u < 384) : (s.runOver u temp).ok ∧
    (s.runOver u temp).rd SV_RUNS_COUNT u = s.rd SV_RUNS_COUNT u ∧
    (s.runOver u temp).word 0x5823 u = BitVec.ofNat 32 (2 ^ 31 + toBits 12 temp) := by
  have hwrites : State.WritesObjects [0x5823] s (s.runOver u temp) :=
    (State.WritesObjects.refl.setBoth (by decide) (by omega)).beside rfl
  exact ⟨(hwrites hok).1, hwrites.rd hok (by decide) (show 0 + u < 65536 by omega),
    (State.word_congr rfl _ _).trans (State.word_setWord_same hok)⟩

theorem State.runPosted_keeps {temp : Int} : (s.runPosted u temp).cal = s.cal ∧ (s.runPosted u temp).lanes = s.lanes ∧
    State.WritesObjects [0x260A, 0x260B] s (s.runPosted u temp) := by
  refine ⟨?_, ?_, .of_writes State.postRec_writes (by decide)⟩
  all_goals
    unfold State.runPosted
    rw [State.postRec_keeps]

theorem State.calEnd_ends (hok : s.ok) (h : s.cal.runs.find? (fun r => r.unit = u) = some r)
    (hdue : r.start + runLength u - 1 ≤ s.frame.ticks) :
    let t := s.calEnd u xs
    t.cal.runs = s.cal.runs.filter (fun x => x.unit ≠ u) ∧ t.cal.clear = s.cal.clear ++ [u] ∧ t.lanes = s.lanes ∧
      (u < 384 → t.rd SV_RUNS_COUNT u = satAdd (SV_RUNS_COUNT.hi + 1 - SV_RUNS_COUNT.lo) (s.rd SV_RUNS_COUNT u) 1 ∧
        t.word 0x5823 u = BitVec.ofNat 32 (2 ^ 31 + toBits 12 r.temp)) := by
  intro t
  have ht : t = _ := State.calEnd_due h hdue
  have hbeside := State.applyRun_beside (s := s) (u := u) (xs := xs)
  have hcal : (s.applyRun u xs).cal = s.cal := congrArg Prod.fst hbeside
  have hlanes : (s.applyRun u xs).lanes = s.lanes := congrArg (fun p => p.2.1) hbeside
  have hkept := fun hu => State.applyRun_keeps (s := s) (u := u) (xs := xs) hu
  generalize s.applyRun u xs = applied at *
  obtain ⟨hpcal, hplanes, hposted⟩ := State.runPosted_keeps (s := (applied.runCounted u).runOver u r.temp) (u := u) (temp := r.temp)
  refine ⟨?_, ?_, ?_, fun hu => ?_⟩
  · rw [ht, hpcal, ← hcal]; rfl
  · rw [ht, hpcal, ← hcal]; rfl
  · rw [ht, hplanes, ← hlanes]; rfl
  · obtain ⟨hcounted, hcount⟩ := State.runCounted_reads (s := applied) (u := u) (hkept hu hok).1 hu
    obtain ⟨hover, hrd, hword⟩ := State.runOver_reads (temp := r.temp) hcounted hu
    rw [ht]
    refine ⟨?_, (hposted.word hover (by decide) (by omega)).trans hword⟩
    rw [hposted.rd hover (by decide) (show 0 + u < 65536 by omega), hrd, hcount,
      (hkept hu).rd hok (by decide) (show 0 + u < 65536 by omega)]

/-! Starts and host corrections (R150, R155). -/

theorem State.calStart_runs (h : s.mayRun u = true) (hclock : s.clocked (unitDomain u) = true) :
    s.calStart u = (s.beginRun u false).voteRose := (if_neg (by simp [h])).trans (if_pos hclock)

theorem State.calStart_wakes (h : s.mayRun u = true) (hclock : s.clocked (unitDomain u) = false) :
    s.calStart u = s.demandWake 3 (unitDomain u) := (if_neg (by simp [h])).trans (if_neg (by simp [hclock]))

theorem State.calStart_idle (h : s.mayRun u = false) : s.calStart u = s := if_pos (by simp [h])

theorem State.objectRule_correction {ecc : EccOutcome} {port : Nat} (h : i = 0x5823 ∨ i = 0x5830 ∨ i = 0x5831) :
    s.objectRule ecc port i k v = s.wCorrection i k v := by
  rcases h with rfl | rfl | rfl
  · exact State.objectRule_5823 ..
  · exact State.objectRule_5830 ..
  · exact State.objectRule_5831 ..

end Sys2Proof.Machine

namespace Sys2Proof

open Machine

/-- Settles O17: a queue takes a unit that it does not hold; a run's end writes its corrections, its count and its
temperature in objects of their own. -/
theorem calibrationRuns : Obligations.CalibrationRuns := by
  unfold Obligations.CalibrationRuns
  intro s w u index sub xs r hwf
  have hok := (Good.of_wf hwf).objs
  refine ⟨fun hrun hdelta => ?_, fun h => ?_, ?_, fun hmay => ⟨fun hclock => ⟨?_, ?_⟩, fun hclock => ?_⟩, fun hmay => ?_,
    fun hfind => ⟨fun hdue => ?_, fun hearly => ?_⟩, fun hindex hadm => ?_⟩
  · exact congrArg Host.Outcome.next (State.calCheck_checks hrun hdelta)
  · exact congrArg Host.Outcome.next (State.calCheck_idle h)
  · rintro v rfl hadm
    have hgives : ∀ st t, s.wSvCalReq (Safety.valueOf s w 0x5824 0) = (st, t) →
        s.objectRule .clean w.q.port 0x5824 0 (Safety.valueOf s w 0x5824 0) = (st, t) :=
      fun st t h => (State.objectRule_5824 ..).trans h
    refine ⟨fun hall hunit hqueue hruns => ?_, fun hall hunit h => ?_, fun hall => ?_, fun hall hunit => ?_⟩
    · exact exec_accepted rfl hadm (hgives _ _ ((State.wSvCalReq_unit hall hunit).trans
        (congrArg (Prod.mk stOk) (State.queueUnit_queues hqueue hruns)))) rfl
    · exact exec_accepted rfl hadm (hgives _ _ ((State.wSvCalReq_unit hall hunit).trans
        (congrArg (Prod.mk stOk) (State.queueUnit_known h)))) rfl
    · exact exec_accepted rfl hadm (hgives _ _ (if_pos hall)) rfl
    · exact exec_refused_uncounted rfl hadm (hgives _ _ (State.wSvCalReq_range hall hunit)) rfl (by decide) (by decide)
  · exact congrArg Host.Outcome.next (State.calStart_runs hmay hclock)
  · exact State.beginRun_reads hok
  · exact congrArg Host.Outcome.next (State.calStart_wakes hmay hclock)
  · exact congrArg Host.Outcome.next (State.calStart_idle hmay)
  · exact ⟨_, rfl, State.calEnd_ends hok hfind hdue⟩
  · exact congrArg Host.Outcome.next (State.calEnd_early hfind hearly)
  · refine ⟨fun hruns => ?_, fun hruns => ?_⟩
    · exact exec_accepted rfl hadm ((State.objectRule_correction hindex).trans (if_neg (by simp [hruns]))) rfl
    · exact exec_refused_uncounted rfl hadm ((State.objectRule_correction hindex).trans (if_pos hruns)) rfl
        (by omega) (by omega)

end Sys2Proof
end

section
/-! SUPPORT. What a report writes, object by object (R304, R310, R315), and what it leaves of the Fatal state (R319). -/

namespace Sys2Proof.Machine


variable {s t u : State} {is : List Nat} {F : Field} {e k src unit sev : Nat} {b : Bool}

/-! What a report writes, by object (R304, R310, R315, R319). -/

/-- The objects a fault reaction may write: mode, event counts, commits, survey, calibration, collector, safe state. -/
def reactionObjects : List Nat :=
  [0x1800, 0x1802, 0x260A, 0x260B, 0x5109, 0x5202, 0x5206, 0x5801, 0x5841, 0x7000, 0x7001, 0x7003, 0x7004, 0x7100, 0x7102,
   0x7103]

theorem State.WritesObjects.setSourceBit (hF : F.index ∈ is) (he : F.sub + src / 32 < 65536)
    (h : State.WritesObjects is s t) : State.WritesObjects is s (t.setSourceBit F src b) := h.wr hF he

theorem State.WritesObjects.fields {fs : List (Field × Nat)} (h : State.WritesObjects is s t) (h' : State.Writes fs t u)
    (hfs : ∀ p ∈ fs, p.1.index ∈ is ∧ p.1.sub + p.2 < 65536) : State.WritesObjects is s u := h.trans (.of_writes h' hfs)

theorem State.surveyCut_writes {result : Nat} : State.WritesObjects [0x5801] s (s.surveyCut result) := by
  unfold State.surveyCut
  split
  · exact State.WritesObjects.refl.beside rfl
  · extract_lets t
    have ht : State.WritesObjects [0x5801] s t := .set (by decide) (.set (by decide) (.set (by decide) .refl))
    exact ht.beside rfl

theorem State.abandonCal_writes : State.WritesObjects [0x5841] s s.abandonCal := by
  unfold State.abandonCal
  extract_lets us t
  have ht : State.WritesObjects [0x5841] s t := .wr (by decide) (by decide) .refl
  exact ht.beside rfl

theorem State.commitRecord_objects {source time changed gates src flags : Nat} {x : Tally} :
    State.WritesObjects [0x260A, 0x260B] s (s.commitRecord source time x changed gates src flags) :=
  .of_writes State.commitRecord_writes (by decide)

theorem State.missShadow_objects {result : Nat} :
    State.WritesObjects [0x5202, 0x5206, 0x260A, 0x260B] s (s.missShadow result) := by
  unfold State.missShadow
  split
  · exact .refl
  · extract_lets t
    have hended : State.WritesObjects [0x5202, 0x5206, 0x260A, 0x260B] s (s.endShadow result) := by
      unfold State.endShadow
      extract_lets u
      have hu : State.WritesObjects [0x5202, 0x5206, 0x260A, 0x260B] s u := .set (by decide) (.set (by decide) .refl)
      exact hu.beside rfl
    have ht : State.WritesObjects [0x5202, 0x5206, 0x260A, 0x260B] s t := hended.bump (by decide)
    exact ht.trans (State.commitRecord_objects.mono (by decide))

theorem State.endRing_objects : State.WritesObjects [0x5109] s s.endRing := by
  unfold State.endRing
  extract_lets t
  have ht : State.WritesObjects [0x5109] s t := .set (by decide) (.set (by decide) .refl)
  exact ht.beside rfl

theorem State.setMode_objects {new cause : Nat} : State.WritesObjects [0x1800, 0x1802, 0x260A, 0x260B] s (s.setMode new cause) :=
  .of_writes State.setMode_writes (by decide)

theorem State.enterSafe_writes : State.WritesObjects reactionObjects s (s.enterSafe src) := by
  unfold State.enterSafe
  split
  · exact .refl
  · extract_lets +onlyGivenNames marked parked dark
    have hmarked : State.WritesObjects reactionObjects s marked := .set (by decide) (.set (by decide) .refl)
    have hdark : State.WritesObjects reactionObjects s dark :=
      hmarked.beside (State.assertFlt_objs.trans State.safeLanes_objs)
    clear_value dark
    extract_lets +onlyGivenNames _ released missed ended
    have hreleased : State.WritesObjects reactionObjects s released := hdark.beside rfl
    have hmissed : State.WritesObjects reactionObjects released missed :=
      (State.missShadow_objects.mono (by decide)).trans (State.endRing_objects.mono (by decide))
    have hended : State.WritesObjects reactionObjects missed ended :=
      (State.surveyCut_writes.mono (by decide)).trans (State.abandonCal_writes.mono (by decide))
    have hall := hreleased.trans (hmissed.trans hended)
    clear_value ended missed
    extract_lets
    split
    · exact hall.beside rfl
    · refine State.WritesObjects.trans ?_
        (State.WritesObjects.mono (is := [0x1800, 0x1802, 0x260A, 0x260B]) (by decide) State.setMode_objects)
      exact hall.beside rfl

theorem State.setFatal_writes : State.WritesObjects [0x7102, 0x7103] s (s.setFatal src) := by
  unfold State.setFatal
  split
  · exact .refl
  · extract_lets t
    have ht : State.WritesObjects [0x7102, 0x7103] s t := .set (by decide) (.set (by decide) (.set (by decide) .refl))
    exact (ht.set (by decide)).bumpAt (by decide) (by decide)

theorem State.reactSafe_writes : State.WritesObjects reactionObjects s (s.reactSafe src sev) := by
  unfold State.reactSafe
  split
  · exact .refl
  · split
    · split
      · have hcounted : State.WritesObjects reactionObjects s (s.bumpAt SF_COUNTS_COUNT 0) := .bumpAt (by decide) (by decide) .refl
        exact hcounted.trans State.enterSafe_writes
      · exact State.WritesObjects.refl.beside rfl
    · extract_lets t
      have ht : State.WritesObjects reactionObjects s t :=
        (State.enterSafe_writes.trans (State.setFatal_writes.mono (by decide))).set (by decide)
      exact ht.beside rfl

theorem State.react_writes : State.WritesObjects reactionObjects s (s.react src unit sev) := by
  unfold State.react
  extract_lets +onlyGivenNames degraded act _ due contained
  have hdegraded : State.WritesObjects reactionObjects s degraded := .ite (.set (by decide) .refl) .refl
  have hdue : State.WritesObjects reactionObjects s due := .ite hdegraded (hdegraded.beside rfl)
  have hcontained : State.WritesObjects reactionObjects s contained := .ite hdue (hdue.set (by decide))
  exact hcontained.trans State.reactSafe_writes

theorem State.captureFirst_objects {f : FaultRec} : State.WritesObjects [0x7000] s (s.captureFirst f) := by
  unfold State.captureFirst
  split
  · exact .refl
  · extract_lets valid wire seconds fraction
    have hvalid : State.WritesObjects [0x7000] s valid := .set (by decide) (.set (by decide) (.set (by decide) .refl))
    have hwire : State.WritesObjects [0x7000] s wire := .set (by decide) (.setB (by decide) (.setB (by decide) hvalid))
    have hseconds : State.WritesObjects [0x7000] s seconds := .put64 (by decide) (by decide) (.set (by decide) hwire)
    have hfraction : State.WritesObjects [0x7000] s fraction := .set (by decide) (.set (by decide) hseconds)
    exact .set (by decide) (.setMask (by decide) (by decide) hfraction)

theorem State.captureFirst_writes {f : FaultRec} : State.WritesObjects reactionObjects s (s.captureFirst f) :=
  State.captureFirst_objects.mono (by decide)

theorem State.followFirst_writes {f : FaultRec} : State.WritesObjects reactionObjects s (s.followFirst f) :=
  .ite (.set (by decide) (.set (by decide) .refl)) .refl

theorem State.countReport_writes {r : Report} (hr : r.src < 128) :
    State.WritesObjects [0x7003, 0x7004] s (s.countReport r) := by
  unfold State.countReport
  extract_lets t
  have ht : State.WritesObjects [0x7003, 0x7004] s t :=
    .bumpAt (by decide) (show 0 + r.src < 65536 by omega)
      (.setSourceBit (by decide) (show 0 + r.src / 32 < 65536 by omega) .refl)
  exact .ite (ht.beside rfl) ht

theorem State.openWindow_writes {rs : List Report} : State.WritesObjects reactionObjects s (s.openWindow rs) := by
  unfold State.openWindow
  split
  · exact .refl
  · extract_lets +onlyGivenNames sev f
    split
    extract_lets +onlyGivenNames reacted shown
    have hreacted : State.WritesObjects reactionObjects s reacted := State.captureFirst_writes.trans State.react_writes
    have hshown : State.WritesObjects reactionObjects s shown := .set (by decide) (.set (by decide) (.set (by decide) hreacted))
    exact hshown.beside rfl

theorem State.mergeReport_writes {w : Window} {r : Report} : State.WritesObjects reactionObjects s (s.mergeReport w r) := by
  unfold State.mergeReport
  extract_lets +onlyGivenNames sev up act _ f
  split
  extract_lets +onlyGivenNames w' u v
  have hu : State.WritesObjects reactionObjects s u := .ite State.react_writes .refl
  have hv : State.WritesObjects reactionObjects s v := .set (by decide) (hu.trans State.followFirst_writes)
  exact hv.beside rfl

theorem reportKept_lt {rs : List Report} {r : Report} {f : Report → Bool}
    (hr : r ∈ rs.filter fun r => !reservedSource r.src && f r) : r.src < 128 := by
  have hlt : reservedSource r.src = false := by simpa using (Bool.and_eq_true_iff.mp (List.mem_filter.mp hr).2).1
  simp [reservedSource] at hlt
  omega

theorem State.reportNow_writes {rs : List Report} : State.WritesObjects reactionObjects s (s.reportNow rs) := by
  unfold State.reportNow
  extract_lets accepted u
  have hu : State.WritesObjects reactionObjects s u :=
    .foldl fun t r hr => (State.countReport_writes (reportKept_lt hr)).mono (by decide)
  split
  · exact hu.trans State.openWindow_writes
  · refine hu.trans (.foldl fun t r _ => ?_)
    split
    · exact State.mergeReport_writes
    · exact .refl

theorem State.report_writes {rs : List Report} : State.WritesObjects reactionObjects s (s.report rs) :=
  .ite State.reportNow_writes .refl

theorem State.raiseLevels_writes {l : List (Nat × Nat)} (hl : ∀ p ∈ l, p.1 < 128) :
    State.WritesObjects (0x7007 :: reactionObjects) s (s.raiseLevels l) := by
  unfold State.raiseLevels
  split
  · exact .refl
  · extract_lets new t
    have ht : State.WritesObjects (0x7007 :: reactionObjects) s t := .foldl fun v p hp =>
      .setSourceBit (by decide) (show 0 + p.1 / 32 < 65536 by have := hl p (List.mem_filter.mp hp).1; omega) .refl
    exact ht.trans (State.report_writes.mono (by decide))

/-! In the Fatal state reports move neither the safe state nor the mode (R315, R319). -/

/-- The safe state stays at FATAL, and the mode as it is. -/
def State.StaysFatal (s t : State) : Prop :=
  s.ok → s.get SF_STATE_STATE = 2 → t.ok ∧ t.get SF_STATE_STATE = 2 ∧ t.modeNow = s.modeNow

theorem State.StaysFatal.refl : State.StaysFatal s s := fun hok h => ⟨hok, h, rfl⟩

theorem State.StaysFatal.trans (h : State.StaysFatal s t) (h' : State.StaysFatal t u) : State.StaysFatal s u := by
  intro hok hs
  obtain ⟨htok, ht, hmode⟩ := h hok hs
  obtain ⟨huok, hu, hmode'⟩ := h' htok ht
  exact ⟨huok, hu, hmode'.trans hmode⟩

theorem State.StaysFatal.of_writes (h : State.WritesObjects is s t) (his : (is.contains 0x7100 || is.contains 0x1800) = false) :
    State.StaysFatal s t := by
  intro hok hs
  obtain ⟨hsafe, hmode⟩ := Bool.or_eq_false_iff.mp his
  exact ⟨(h hok).1, (h.rd hok hsafe (by decide)).trans hs, h.rd hok hmode (by decide)⟩

theorem State.StaysFatal.ite {c : Prop} [Decidable c] (ht : State.StaysFatal s t) (hu : State.StaysFatal s u) :
    State.StaysFatal s (if c then t else u) := by
  split <;> assumption

theorem State.StaysFatal.beside (h : State.StaysFatal s t) (ho : u.objs = t.objs) : State.StaysFatal s u := by
  intro hok hs
  obtain ⟨htok, ht, hmode⟩ := h hok hs
  exact ⟨State.ok_of_objs htok ho, (State.rd_congr ho _ _).trans ht, (State.rd_congr ho _ _).trans hmode⟩

theorem State.StaysFatal.foldl {α : Type} {f : State → α → State} {l : List α} (h : ∀ t, ∀ x ∈ l, State.StaysFatal t (f t x)) :
    State.StaysFatal s (l.foldl f s) := by
  induction l generalizing s with
  | nil => exact .refl
  | cons x xs ih => exact (h s x List.mem_cons_self).trans (ih fun t y hy => h t y (List.mem_cons_of_mem _ hy))

/-- FATAL set again. -/
theorem State.setFatalState_stays (h : State.StaysFatal s t) : State.StaysFatal s (t.set SF_STATE_STATE 2) := by
  intro hok hs
  obtain ⟨htok, ht, hmode⟩ := h hok hs
  exact ⟨State.wr_ok htok, State.rd_wr_eq ⟨htok, by decide⟩, (State.rd_wr_apart ⟨htok, by decide⟩).trans hmode⟩

theorem State.reactSafe_staysFatal : State.StaysFatal s (s.reactSafe src sev) := by
  intro hok hs
  have hentered : s.enterSafe src = s := if_pos (by omega)
  have hfatal : State.StaysFatal s ((s.setFatal src).set SF_STATE_STATE 2) :=
    State.setFatalState_stays (.of_writes State.setFatal_writes rfl)
  refine State.StaysFatal.trans (t := s) .refl ?_ hok hs
  unfold State.reactSafe
  rw [hentered, if_neg (show ¬ s.get SF_STATE_STATE = 0 by omega)]
  exact .ite .refl (.ite (State.StaysFatal.refl.beside rfl) (hfatal.beside rfl))

theorem State.react_staysFatal : State.StaysFatal s (s.react src unit sev) := by
  unfold State.react
  extract_lets +onlyGivenNames degraded act _ due contained
  have hdegraded : State.WritesObjects [0x7001] s degraded := .ite (.set (by decide) .refl) .refl
  have hdue : State.WritesObjects [0x7001] s due := .ite hdegraded (hdegraded.beside rfl)
  have hcontained : State.WritesObjects [0x7001] s contained := .ite hdue (hdue.set (by decide))
  exact (State.StaysFatal.of_writes hcontained rfl).trans State.reactSafe_staysFatal

theorem State.openWindow_staysFatal {rs : List Report} : State.StaysFatal s (s.openWindow rs) := by
  unfold State.openWindow
  split
  · exact .refl
  · extract_lets +onlyGivenNames sev f
    split
    extract_lets +onlyGivenNames reacted shown
    have hreacted : State.StaysFatal s reacted := (State.StaysFatal.of_writes State.captureFirst_objects rfl).trans State.react_staysFatal
    have hshown : State.WritesObjects [0x7001] reacted shown := .set (by decide) (.set (by decide) (.set (by decide) .refl))
    exact (hreacted.trans (.of_writes hshown rfl)).beside rfl

theorem State.mergeReport_staysFatal {w : Window} {r : Report} : State.StaysFatal s (s.mergeReport w r) := by
  unfold State.mergeReport
  extract_lets +onlyGivenNames sev up act _ f
  split
  extract_lets +onlyGivenNames w' u v
  have hu : State.StaysFatal s u := .ite State.react_staysFatal .refl
  have hv : State.WritesObjects [0x7000, 0x7001] u v := .set (by decide) (.ite (.set (by decide) (.set (by decide) .refl)) .refl)
  exact (hu.trans (.of_writes hv rfl)).beside rfl

theorem State.reportNow_staysFatal {rs : List Report} : State.StaysFatal s (s.reportNow rs) := by
  unfold State.reportNow
  extract_lets accepted u
  have hu : State.StaysFatal s u := .foldl fun t r hr => .of_writes (State.countReport_writes (reportKept_lt hr)) rfl
  split
  · exact hu.trans State.openWindow_staysFatal
  · refine hu.trans (.foldl fun t r _ => ?_)
    split
    · exact State.mergeReport_staysFatal
    · exact .refl

theorem State.raiseLevels_staysFatal {l : List (Nat × Nat)} (hl : ∀ p ∈ l, p.1 < 128) :
    State.StaysFatal s (s.raiseLevels l) := by
  unfold State.raiseLevels
  split
  · exact .refl
  · extract_lets new t
    have ht : State.WritesObjects [0x7007] s t := .foldl fun v p hp =>
      .setSourceBit (by decide) (show 0 + p.1 / 32 < 65536 by have := hl p (List.mem_filter.mp hp).1; omega) .refl
    exact (State.StaysFatal.of_writes ht rfl).trans (.ite State.reportNow_staysFatal .refl)

theorem State.standing_lt : ∀ p ∈ s.standing, p.1 < 128 := by
  intro p hp
  unfold State.standing at hp
  simp only [List.mem_append] at hp
  rcases hp with ((hp | hp) | hp) | hp
  all_goals
    split at hp
    · rw [List.mem_singleton.mp hp]; decide
    · exact absurd hp List.not_mem_nil

/-- What a sampling of the collector writes. -/
theorem State.collectorSamples_writes : State.WritesObjects (0x7007 :: reactionObjects) s s.collectorSamples := by
  unfold State.collectorSamples
  split
  · extract_lets raised ended
    have hraised : State.WritesObjects (0x7007 :: reactionObjects) s raised := State.raiseLevels_writes State.standing_lt
    have hended : State.WritesObjects (0x7007 :: reactionObjects) s ended :=
      .ite (.setSourceBit (by decide) (by decide) hraised) hraised
    exact hended.beside rfl
  · exact .refl

theorem State.collectorSamples_staysFatal : State.StaysFatal s s.collectorSamples := by
  unfold State.collectorSamples
  split
  · extract_lets raised ended
    have hraised : State.StaysFatal s raised := State.raiseLevels_staysFatal State.standing_lt
    have hcleared : State.WritesObjects [0x7007] raised (raised.endCause 3) := .setSourceBit (by decide) (by decide) .refl
    have hended : State.StaysFatal s ended := .ite (hraised.trans (.of_writes hcleared rfl)) hraised
    exact hended.beside rfl
  · exact .refl

theorem State.report_nil : s.report [] = s := by
  unfold State.report State.reportNow
  split
  · simp only [List.filter_nil, List.foldl_nil]
    split
    · rfl
    · rfl
  · rfl

theorem State.raiseLevels_nil : s.raiseLevels [] = s := by
  unfold State.raiseLevels
  split
  · rfl
  · exact State.report_nil

/-- With no cause standing the collector's sampling reports nothing. -/
theorem State.collectorSamples_quiet (h : s.standing = []) :
    ∃ hold, s.collectorSamples = { s with safe := { s.safe with latchHold := hold } } := by
  have hlatch : s.safe.latchHold = false := by
    refine Bool.eq_false_iff.mpr fun hset => ?_
    unfold State.standing at h
    rw [hset] at h
    simp at h
  unfold State.collectorSamples
  rw [h, State.raiseLevels_nil]
  split
  · refine ⟨false, ?_⟩
    have hended : (if (s.safe.latchHold && !s.safe.inLow) = true then s.endCause 3 else s) = s := if_neg (by simp [hlatch])
    dsimp only
    rw [hended]
  · exact ⟨s.safe.latchHold, rfl⟩

end Sys2Proof.Machine
end

section
/-! SUPPORT. Device resets (R330 to R337): what an assertion leaves, the loss of the latch, and a release with and without the latch found set. -/

namespace Sys2Proof.Machine


variable {s t : State} {kind d src unit : Nat} {x : Straps} {b : Bool}

/-! The assertion of a device reset (R330, Table 14-4). -/

/-- What a device reset leaves: no lane, every gate dark, FLT asserted, the frame counter stopped. -/
structure State.DeviceReset (held : List Nat) (s t : State) : Prop where
  held : t.rst.held = held
  lanes : t.lanes = []
  dark : t.safe.dark = BitVec.allOnes 256
  hold : t.safe.hold = true
  flt : t.safe.flt = true
  running : t.frame.running = false
  up : t.frame.up = s.frame.up
  rail : t.rst.rail = s.rst.rail
  ringPort : t.rst.ringPort = s.rst.ringPort
  ringDue : t.rst.ringDue = none
  brown : t.supply.brown = none

/-- The reset's own state and the tc count, which the loss of content leaves alone. -/
def State.besideLoss (s : State) : ResetSt × FrameSt := (s.rst, s.frame)

theorem State.besideLoss_foldl {α : Type} {f : State → α → State} {l : List α} (hf : ∀ t a, (f t a).besideLoss = t.besideLoss) :
    (l.foldl f s).besideLoss = s.besideLoss := by
  induction l generalizing s with
  | nil => rfl
  | cons a l ih => exact ih.trans (hf s a)

theorem State.resetLog_besideLoss : (s.resetLog b).besideLoss = s.besideLoss := by
  unfold State.resetLog
  dsimp only
  split
  · cases s.ev.keyQueue with
    | some q => rfl
    | none => cases s.ev.keyNext <;> rfl
  · rfl

theorem State.DeviceReset.dark_pins {held : List Nat} {a : Nat} (h : t.rst.held = held) (hlanes : t.lanes = [])
    (hhold : t.safe.hold = true) (hflt : t.safe.flt = true) (hrunning : t.frame.running = false)
    (hup : t.frame.up = s.frame.up) (hrail : t.rst.rail = s.rst.rail) (hport : t.rst.ringPort = s.rst.ringPort)
    (hdue : t.rst.ringDue = none) (hbrown : t.supply.brown = none) :
    State.DeviceReset held s ((t.darken a).showPins b) :=
  ⟨h, hlanes, rfl, hhold, hflt, hrunning, hup, hrail, hport, hdue, hbrown⟩

theorem State.deviceLoss_reset : State.DeviceReset s.rst.held s (s.deviceLoss kind) := by
  unfold State.deviceLoss
  extract_lets +onlyGivenNames alert forced gated logged lost blank dark
  have hlost : lost.besideLoss = s.besideLoss := by
    have hforced : forced.besideLoss = s.besideLoss := State.besideLoss_foldl fun _ _ => rfl
    have hgated : gated.besideLoss = forced.besideLoss := State.besideLoss_foldl fun _ _ => rfl
    exact (State.resetLog_besideLoss (s := gated)).trans (hgated.trans hforced)
  clear_value lost
  have hrst : lost.rst = s.rst := congrArg Prod.fst hlost
  have hframe : lost.frame = s.frame := congrArg Prod.snd hlost
  have hheld : lost.rst.held = s.rst.held := congrArg ResetSt.held hrst
  have hup : lost.frame.up = s.frame.up := congrArg FrameSt.up hframe
  have hrail : lost.rst.rail = s.rst.rail := congrArg ResetSt.rail hrst
  have hport : lost.rst.ringPort = s.rst.ringPort := congrArg ResetSt.ringPort hrst
  exact .dark_pins hheld rfl rfl rfl rfl hup hrail hport rfl rfl

/-- What happens beside the parts that a device reset clears. -/
theorem State.DeviceReset.beside {held : List Nat} {u : State} (h : State.DeviceReset held s t) (hlanes : u.lanes = t.lanes)
    (hdark : u.safe.dark = t.safe.dark) (hhold : u.safe.hold = t.safe.hold) (hflt : u.safe.flt = t.safe.flt)
    (hframe : u.frame = t.frame) (hrst : u.rst = t.rst) (hsupply : u.supply = t.supply) : State.DeviceReset held s u :=
  ⟨hrst ▸ h.held, hlanes.trans h.lanes, hdark.trans h.dark, hhold.trans h.hold, hflt.trans h.flt, hframe ▸ h.running,
    hframe ▸ h.up, hrst ▸ h.rail, hrst ▸ h.ringPort, hrst ▸ h.ringDue, hsupply ▸ h.brown⟩

/-- The kind that asserts joins those that hold the device. -/
theorem State.DeviceReset.joined (h : State.DeviceReset s.rst.held s t) :
    State.DeviceReset (kind :: s.rst.held) s { t with rst := { t.rst with held := kind :: t.rst.held } } :=
  ⟨congrArg (kind :: ·) h.held, h.lanes, h.dark, h.hold, h.flt, h.running, h.up, h.rail, h.ringPort, h.ringDue, h.brown⟩

theorem State.assertReset_reset : State.DeviceReset (kind :: s.rst.held) s (s.assertReset kind) := by
  unfold State.assertReset
  extract_lets _ found lost
  have hfound : found.rst.held = s.rst.held ∧ found.frame = s.frame ∧ found.rst.rail = s.rst.rail ∧
      found.rst.ringPort = s.rst.ringPort := by
    unfold found
    split <;> exact ⟨rfl, rfl, rfl, rfl⟩
  obtain ⟨hheld, hframe, hrail, hport⟩ := hfound
  have h := State.deviceLoss_reset (s := found) (kind := kind)
  refine State.DeviceReset.joined ⟨h.held.trans hheld, h.lanes, h.dark, h.hold, h.flt, h.running,
    h.up.trans (congrArg FrameSt.up hframe), h.rail.trans hrail, h.ringPort.trans hport, h.ringDue, h.brown⟩

theorem State.loseLatch_keeps : s.loseLatch = { s with objs := s.loseLatch.objs, force := s.loseLatch.force } := by
  unfold State.loseLatch
  split <;> rfl

theorem State.DeviceReset.loseLatch {held : List Nat} (h : State.DeviceReset held s t) :
    State.DeviceReset held s t.loseLatch := by
  rw [State.loseLatch_keeps]
  exact h.beside rfl rfl rfl rfl rfl rfl rfl

theorem State.DeviceReset.of_congr {held : List Nat} {u : State} (h : State.DeviceReset held u t) (hframe : u.frame.up = s.frame.up)
    (hrst : u.rst.rail = s.rst.rail) (hport : u.rst.ringPort = s.rst.ringPort) : State.DeviceReset held s t :=
  ⟨h.held, h.lanes, h.dark, h.hold, h.flt, h.running, h.up.trans hframe, h.rail.trans hrst, h.ringPort.trans hport, h.ringDue, h.brown⟩

theorem State.DeviceReset.vaon {held : List Nat} (h : State.DeviceReset held s t) :
    State.DeviceReset held s { t with safe := { t.safe with vaonLow := b } } := h.beside rfl rfl rfl rfl rfl rfl rfl

theorem State.DeviceReset.bump {held : List Nat} {F : Field} (h : State.DeviceReset held s t) :
    State.DeviceReset held s (t.bump F) := h.beside rfl rfl rfl rfl rfl rfl rfl

theorem State.coldReset_reset : State.DeviceReset (1 :: s.rst.held) s s.coldReset := by
  have hfree : State.DeviceReset (1 :: s.rst.held) s (s.freeBit.2.assertReset kindCold) :=
    (State.assertReset_reset (s := s.freeBit.2) (kind := 1)).of_congr rfl rfl rfl
  exact hfree.vaon.loseLatch

theorem State.pinReset_reset : State.DeviceReset (3 :: s.rst.held) s s.pinReset := State.assertReset_reset.bump

theorem State.ringReset_reset (h : s.rst.ringDue = some d) :
    State.DeviceReset (4 :: s.rst.held) (s.passTo d) s.ringReset := by
  unfold State.ringReset
  rw [h]
  exact (State.assertReset_reset (s := s.passTo d) (kind := 4)).bump

theorem State.ringReset_none (h : s.rst.ringDue = none) : s.ringReset = s := by
  unfold State.ringReset
  rw [h]

/-! VGATE (R265, R319, R337). -/

/-- The latched row of SF_FATAL. -/
def fatalRow : ObjRow := ⟨0x7102, 0x0, 0x0, [⟨31, 31, .ro, 0, .latch⟩, ⟨6, 0, .ro, 0, .latch⟩]⟩

/-- Of SF_FATAL the loss of the latch keeps the reserved bits alone. -/
theorem objLose_fatal {w : Word} : objLose (fun p => p = .latch) (objKey 0x7102 0) w = w &&& 0x7FFFFF80#32 := by
  have hrow : objRow (objKey 0x7102 0 / 65536) (objKey 0x7102 0 % 65536) = some fatalRow := by decide
  have hdefault : objDefault (objKey 0x7102 0) = 0#32 := by decide
  have hmask : BitVec.ofNat 32 (fatalRow.maskOf fun f => f.pers = .latch) = 0x8000007F#32 := by decide
  simp only [objLose, hrow, hdefault, hmask, BitVec.zero_and, BitVec.or_zero]
  rfl

theorem State.loseLatch_lost (hok : s.ok) (hvaon : s.safe.vaonLow = true) (hvgate : s.safe.vgate = false) :
    s.loseLatch.on SF_FATAL_LATCHED = false := by
  have hlost : s.loseLatch = s.loseWords (fun p => p = .latch) fun _ _ => true := if_pos (by simp [hvaon, hvgate])
  have hword : s.loseLatch.word 0x7102 0 = s.word 0x7102 0 &&& 0x7FFFFF80#32 := by
    rw [hlost, State.loseWords_word hok (by decide), if_pos rfl, objLose_fatal]
  refine State.on_false_iff.mpr fun hset => ?_
  have hle : (s.word 0x7102 0 &&& 0x7FFFFF80#32).toNat ≤ 0x7FFFFF80 := by
    rw [BitVec.toNat_and]
    exact Nat.and_le_right
  have hzero : s.loseLatch.get SF_FATAL_LATCHED = 0 := by
    refine (congrArg (Word.bits · 31 31) hword).trans ?_
    have hdiv : (s.word 0x7102 0 &&& 0x7FFFFF80#32).toNat / 2 ^ 31 = 0 := Nat.div_eq_of_lt (by omega)
    simp only [Word.bits, hdiv, Nat.zero_mod]
  exact absurd (hzero.symm.trans hset) (by decide)

theorem State.loseLatch_kept (h : s.safe.vaonLow = false) : s.loseLatch = s := if_neg (by simp [h])

/-- The supply of the gates has gone. -/
def State.gatesUnpowered (s : State) : State := { s with safe := { s.safe with vgate := false, latchHold := false } }

theorem State.vgateCross_down : s.vgateCross false = s.gatesUnpowered.loseLatch := rfl

theorem State.vgateCross_sampled (h : s.safe.sampled = true ∨ s.rst.held ≠ []) :
    s.vgateCross true = { s with safe := { s.safe with vgate := true } } := by
  unfold State.vgateCross
  exact (if_pos rfl).trans (if_pos (by rcases h with h | h <;> simp [h]))

theorem State.vgateCross_samples (hsampled : s.safe.sampled = false) (hheld : s.rst.held = []) :
    s.vgateCross true = ({ s with safe := { s.safe with vgate := true } } : State).samplePol s.safe.pin.toNat := by
  unfold State.vgateCross
  exact (if_pos rfl).trans (if_neg (by simp [hsampled, hheld]))

theorem State.samplePol_reads {level : Nat} (hok : s.ok) : (s.samplePol level).safe.vgate = s.safe.vgate ∧
    (s.samplePol level).safe.sampled = s.safe.vgate ∧ (s.samplePol level).get ID_STRAPS_SAFEPOL = level % 2 ∧
    (s.samplePol level).lanes = s.lanes := by
  refine ⟨rfl, rfl, ?_, rfl⟩
  refine (State.rd_wr_eq (F := ID_STRAPS_SAFEPOL) (e := 0) ⟨hok, by decide⟩).trans ?_
  exact Nat.mod_mod _ 2

/-! The release (R333, R334). -/

/-- The words of a run of subindices that one value fills. -/
theorem State.each_setWord_reads {i lo n : Nat} {v : Word} (hok : s.ok) (hn : lo + n ≤ 65536) :
    (State.each n (fun k s => s.setWord i (lo + k) v) s).ok ∧
      ∀ k, k < n → (State.each n (fun k s => s.setWord i (lo + k) v) s).word i (lo + k) = v := by
  induction n with
  | zero => exact ⟨hok, fun k hk => absurd hk (Nat.not_lt_zero k)⟩
  | succ n ih =>
    have hsucc : State.each (n + 1) (fun k s => s.setWord i (lo + k) v) s =
        (State.each n (fun k s => s.setWord i (lo + k) v) s).setWord i (lo + n) v := by
      simp [State.each, List.range_succ]
    obtain ⟨hprior, hwords⟩ := ih (by omega)
    rw [hsucc]
    refine ⟨State.setWord_ok hprior, fun k hk => ?_⟩
    rw [State.word_setWord hprior]
    split
    · rfl
    · next hne => exact hwords k (by
        rcases Nat.lt_succ_iff_lt_or_eq.mp hk with h | rfl
        · exact h
        · exact absurd rfl hne)

theorem State.each_setWord_beside {i lo n : Nat} {v : Word} : State.each n (fun k s => s.setWord i (lo + k) v) s =
    { s with objs := (State.each n (fun k s => s.setWord i (lo + k) v) s).objs } := by
  have hfold : ∀ (l : List Nat) (t : State), l.foldl (fun t k => t.setWord i (lo + k) v) t =
      { t with objs := (l.foldl (fun t k => t.setWord i (lo + k) v) t).objs } := by
    intro l
    induction l with
    | nil => exact fun _ => rfl
    | cons k l ih => exact fun t => ih _
  exact hfold _ s

theorem State.each_setWord_writes {i lo n : Nat} {v : Word} (hn : lo + n ≤ 65536) :
    State.WritesObjects [i] s (State.each n (fun k s => s.setWord i (lo + k) v) s) :=
  .foldl fun _ k hk => .setWord (by simp) (by have := List.mem_range.mp hk; omega) .refl

/-- The straps as latched, ADDR aside. -/
def strapFields : List (Field × Nat) :=
  [(ID_STRAPS_TPORT, 0), (ID_STRAPS_REFDIV, 0), (ID_STRAPS_PROF, 0), (ID_STRAPS_SAFEPOL, 0), (FL_ADDR_ADDR, 0),
    (TC_REF_PORT_SEL, 0), (TC_REF_PORT_STRAP, 0), (TC_REF_REFDIV_STRAP, 0), (TC_REF_STRAP_BAD, 0), (SV_STATUS_TAP, 0)]

theorem State.sampleStraps_writes : State.Writes strapFields (s.set ID_STRAPS_ADDR x.addr) (s.sampleStraps x) := by
  unfold State.sampleStraps
  extract_lets latched polled ported
  have hlatched : State.Writes strapFields (s.set ID_STRAPS_ADDR x.addr) latched :=
    .set (by decide) (.set (by decide) (.set (by decide) .refl))
  have hsampled : State.Writes strapFields (s.set ID_STRAPS_ADDR x.addr) (latched.samplePol x.safepol) :=
    (hlatched.beside (u := { latched with safe := { latched.safe with pin := decide (x.safepol % 2 = 1), sampled := latched.safe.vgate } }) rfl).set
      (by decide)
  have hpolled : State.Writes strapFields (s.set ID_STRAPS_ADDR x.addr) polled := .set (by decide) (.set (by decide) hsampled)
  have hported : State.Writes strapFields (s.set ID_STRAPS_ADDR x.addr) ported := .set (by decide) (.set (by decide) hpolled)
  exact .set (by decide) (.setB (by decide) hported)

theorem State.sampleStraps_addr (hok : s.ok) : (s.sampleStraps x).ok ∧
    (s.sampleStraps x).get ID_STRAPS_ADDR = x.addr % 2 ^ (ID_STRAPS_ADDR.hi + 1 - ID_STRAPS_ADDR.lo) := by
  have hset : (s.set ID_STRAPS_ADDR x.addr).ok := State.wr_ok hok
  exact ⟨(State.sampleStraps_writes hset).1,
    (State.sampleStraps_writes.rd hset (by decide)).trans (State.rd_wr_eq ⟨hok, by decide⟩)⟩

/-- What a release leaves alone beside the dictionary. -/
def State.besideRelease (s : State) : Table Lane × Bool × Bool × Bool × SupplySt × FaultSt :=
  (s.lanes, s.safe.hold, s.safe.inLow, s.safe.latchHold, s.supply, s.fault)

/-- The timing loop and the gates as a release leaves them. -/
def State.gatesClosed (s : State) (kind : Nat) : State :=
  State.each 8 (fun k s => s.setWord 0x5204 (0x80 + k) 0xFFFFFFFF) ((s.strapDivider kind).set TC_STATUS_STATE 1)

/-- The cause of the reset told, at the levels of level 1. -/
def State.causeTold (s : State) (kind : Nat) : State := (s.setLevels (s.setpoint 1)).resetCause kind

/-- No reset holds the device. -/
def State.letGo (s : State) : State :=
  { s with
    safe := { s.safe with vaonLow := false }
    rst := { s.rst with held := [], rail := 0, ringPort := 0 } }

/-- The straps latched where the kind says so. -/
def State.strapped (s : State) (x : Straps) (kind : Nat) : State := if kind ≤ kindBrown then s.sampleStraps x else s

/-- The kind of the reset that a release ends. -/
def State.resetKind (s : State) : Nat := s.rst.held.foldl min kindRing

/-- The device in BOOT, before the collector looks. -/
def State.released (s : State) (x : Straps) : State :=
  ((((s.strapped x s.resetKind).gatesClosed s.resetKind).causeTold s.resetKind).letGo).enterBoot

/-- A Fatal latch found set reports. -/
def State.fatalFound (s : State) : State :=
  if s.on SF_FATAL_LATCHED then s.reportNow [{ src := 2, unit := unitDevice, wire := false }] else s

theorem State.objs_besideRelease {o : Table Word} : ({ s with objs := o } : State).besideRelease = s.besideRelease := rfl

theorem State.records_besideRelease {o : Table Word} {l : EvSt} :
    ({ s with objs := o, ev := l } : State).besideRelease = s.besideRelease := rfl

theorem State.post_besideRelease {code src payload : Nat} : (s.post code src payload).besideRelease = s.besideRelease := by
  rw [State.post_keeps, State.records_besideRelease]

theorem State.post_rst {code src payload : Nat} : (s.post code src payload).rst = s.rst := by
  rw [State.post_keeps]

theorem State.set_besideRelease {F : Field} {v : Nat} : (s.set F v).besideRelease = s.besideRelease := rfl

theorem State.setDiv_besideRelease {pre ratio : Nat} : (s.setDiv pre ratio).besideRelease = s.besideRelease := rfl

theorem State.release_eq : s.release x = (s.released x).fatalFound.collectorSamples := rfl

theorem State.setDiv_objects {pre ratio : Nat} : State.WritesObjects [0x2000, 0x2003] s (s.setDiv pre ratio) := by
  unfold State.setDiv
  extract_lets t
  have ht : State.WritesObjects [0x2000, 0x2003] s t := .set (by decide) (.set (by decide) .refl)
  exact .set (by decide) (.set (by decide) ht)

theorem State.strapDivider_writes : State.WritesObjects [0x2000, 0x2003, 0x2004] s (s.strapDivider kind) := by
  unfold State.strapDivider
  extract_lets pre t n
  have ht : State.WritesObjects [0x2000, 0x2003, 0x2004] s t := State.setDiv_objects.mono (by decide)
  exact .ite ht (.set (by decide) (.set (by decide) (.set (by decide) ht)))

/-- The nominal divider staged. -/
def State.dividerStaged (s : State) (pre : Nat) (n : Nat × Nat) : State :=
  ((s.set TC_DIV_NEXT_PRESCALE pre).set TC_DIV_NEXT_NINT n.1).set TC_DIV_NEXT_FRAC n.2

theorem State.dividerStaged_besideRelease {pre : Nat} {n : Nat × Nat} :
    (s.dividerStaged pre n).besideRelease = s.besideRelease := rfl

/-- The divider of a pre-scaler in force, and staged but in a ring reset. -/
def State.dividerOf (s : State) (kind pre : Nat) : State :=
  if kind = kindRing then s.setDiv pre (nominalRatio pre)
  else (s.setDiv pre (nominalRatio pre)).dividerStaged pre (nominalDiv pre)

theorem State.strapDivider_eq : s.strapDivider kind = s.dividerOf kind (s.get TC_REF_REFDIV_STRAP % 3) := rfl

theorem State.strapDivider_beside : (s.strapDivider kind).besideRelease = s.besideRelease := by
  rw [State.strapDivider_eq, State.dividerOf]
  split
  · exact State.setDiv_besideRelease
  · rw [State.dividerStaged_besideRelease, State.setDiv_besideRelease]

theorem State.gatesClosed_reads (hok : s.ok) : State.WritesObjects [0x2000, 0x2003, 0x2004, 0x5204] s (s.gatesClosed kind) ∧
    (s.gatesClosed kind).get TC_STATUS_STATE = 1 ∧ (s.gatesClosed kind).besideRelease = s.besideRelease ∧
    ∀ k, k < 8 → (s.gatesClosed kind).word 0x5204 (0x80 + k) = 0xFFFFFFFF := by
  unfold State.gatesClosed
  have hdiv : State.WritesObjects [0x2000, 0x2003, 0x2004, 0x5204] s ((s.strapDivider kind).set TC_STATUS_STATE 1) :=
    .set (by decide) (State.strapDivider_writes.mono (by decide))
  have hstate : ((s.strapDivider kind).set TC_STATUS_STATE 1).get TC_STATUS_STATE = 1 :=
    State.rd_wr_eq ⟨(State.strapDivider_writes hok).1, by decide⟩
  have hbeside : ((s.strapDivider kind).set TC_STATUS_STATE 1).besideRelease = s.besideRelease :=
    State.set_besideRelease.trans State.strapDivider_beside
  generalize (s.strapDivider kind).set TC_STATUS_STATE 1 = t at *
  have hgates : State.WritesObjects [0x5204] t (State.each 8 (fun k s => s.setWord 0x5204 (0x80 + k) 0xFFFFFFFF) t) :=
    State.each_setWord_writes (by decide)
  refine ⟨hdiv.trans (hgates.mono (by decide)), (hgates.get (hdiv hok).1 (by decide)).trans hstate, ?_,
    (State.each_setWord_reads (hdiv hok).1 (by decide)).2⟩
  rw [State.each_setWord_beside, State.objs_besideRelease]
  exact hbeside

theorem State.resetCause_beside : (s.resetCause kind).besideRelease = s.besideRelease := by
  unfold State.resetCause
  simp only [State.set_besideRelease]

theorem State.resetCause_reads (hok : s.ok) (hkind : kind ≤ 4) : (s.resetCause kind).get MD_RESET_CAUSE_KIND = kind ∧
    (s.resetCause kind).get MD_RESET_CAUSE_FATAL_SEEN = s.get SF_FATAL_LATCHED ∧
    State.WritesObjects [0x1803] s (s.resetCause kind) := by
  unfold State.resetCause
  extract_lets t u
  have hkindOk : (s.set MD_RESET_CAUSE_KIND kind).ok := State.wr_ok hok
  have hkindSet : (s.set MD_RESET_CAUSE_KIND kind).get MD_RESET_CAUSE_KIND = kind :=
    (State.rd_wr_eq ⟨hok, by decide⟩).trans (Nat.mod_eq_of_lt (Nat.lt_of_le_of_lt hkind (by decide)))
  have hseen : t.get MD_RESET_CAUSE_FATAL_SEEN = s.get SF_FATAL_LATCHED :=
    (State.rd_wr_eq ⟨hkindOk, by decide⟩).trans (Nat.mod_eq_of_lt (Words.rd_lt ..))
  have hrest : State.Writes [(MD_RESET_CAUSE_RAIL, 0), (MD_RESET_CAUSE_RING_PORT, 0)] t
    (u.set MD_RESET_CAUSE_RING_PORT (if kind = kindRing then u.rst.ringPort else 0)) := .set (by decide) (.set (by decide) .refl)
  have htok : t.ok := State.wr_ok hkindOk
  refine ⟨(hrest.rd htok (by decide)).trans ((State.rd_wr_apart ⟨hkindOk, by decide⟩).trans hkindSet),
    (hrest.rd htok (by decide)).trans hseen, ?_⟩
  exact .set (by decide) (.set (by decide) (.set (by decide) (.set (by decide) .refl)))

theorem State.causeTold_reads (hok : s.ok) (hkind : kind ≤ 4) : State.WritesObjects [0x7811, 0x1803] s (s.causeTold kind) ∧
    (s.causeTold kind).get MD_RESET_CAUSE_KIND = kind ∧
    (s.causeTold kind).get MD_RESET_CAUSE_FATAL_SEEN = s.get SF_FATAL_LATCHED ∧
    (s.causeTold kind).besideRelease = s.besideRelease := by
  unfold State.causeTold
  have hlevels : State.WritesObjects [0x7811] s (s.setLevels (s.setpoint 1)) := .set (by decide) (.set (by decide) .refl)
  have hbeside : (s.setLevels (s.setpoint 1)).besideRelease = s.besideRelease := by
    simp only [State.setLevels, State.set_besideRelease]
  have hlatch : (s.setLevels (s.setpoint 1)).get SF_FATAL_LATCHED = s.get SF_FATAL_LATCHED := hlevels.get hok (by decide)
  have htok := (hlevels hok).1
  generalize s.setLevels (s.setpoint 1) = t at *
  obtain ⟨hkindSet, hseen, hcause⟩ := State.resetCause_reads htok hkind
  exact ⟨(hlevels.mono (by decide)).trans (hcause.mono (by decide)), hkindSet, hseen.trans hlatch,
    State.resetCause_beside.trans hbeside⟩

/-- BOOT entered from a mode, by cause 0. -/
def State.bootSet (s : State) (old : Nat) : State :=
  ((s.set MD_MODE_MODE modeBoot).set MD_MODE_PRIOR old).set MD_MODE_CAUSE 0

/-- The change of mode counted and recorded. -/
def State.bootCounted (s : State) (old : Nat) : State :=
  (s.bump MD_CHANGES_COUNT).post 0x30 0 (payloadOf [(modeBoot, 56), (old, 48)])

theorem State.enterBoot_eq : s.enterBoot = (s.bootSet s.rst.mode).bootCounted s.rst.mode := rfl

theorem State.bootSet_reads {old : Nat} (hok : s.ok) : State.WritesObjects [0x1800] s (s.bootSet old) ∧
    (s.bootSet old).modeNow = modeBoot ∧ (s.bootSet old).get MD_MODE_CAUSE = 0 ∧
    (s.bootSet old).besideRelease = s.besideRelease ∧ (s.bootSet old).rst = s.rst := by
  have hboot : (s.set MD_MODE_MODE modeBoot).ok := State.wr_ok hok
  have hprior : ((s.set MD_MODE_MODE modeBoot).set MD_MODE_PRIOR old).ok := State.wr_ok hboot
  exact ⟨.set (by decide) (.set (by decide) (.set (by decide) .refl)),
    (State.rd_wr_apart ⟨hprior, by decide⟩).trans ((State.rd_wr_apart ⟨hboot, by decide⟩).trans (State.rd_wr_eq ⟨hok, by decide⟩)),
    State.rd_wr_eq ⟨hprior, by decide⟩, rfl, rfl⟩

theorem State.bump_besideRelease {F : Field} : (s.bump F).besideRelease = s.besideRelease := rfl

theorem State.bootCounted_beside {old : Nat} : (s.bootCounted old).besideRelease = s.besideRelease ∧
    (s.bootCounted old).rst = s.rst := by
  unfold State.bootCounted
  exact ⟨State.post_besideRelease.trans State.bump_besideRelease, State.post_rst.trans (State.bump_rst ..)⟩

theorem State.bootCounted_writes {old : Nat} : State.WritesObjects [0x1802, 0x260A, 0x260B] s (s.bootCounted old) := by
  have hbumped : State.WritesObjects [0x1802, 0x260A, 0x260B] s (s.bump MD_CHANGES_COUNT) := .bump (by decide) .refl
  exact hbumped.trans (.of_writes State.post_writes (by decide))

/-- BOOT as a release enters it. -/
theorem State.enterBoot_writes (hok : s.ok) : State.WritesObjects [0x1800, 0x1802, 0x260A, 0x260B] s s.enterBoot := by
  rw [State.enterBoot_eq]
  exact ((State.bootSet_reads hok).1.mono (by decide)).trans (State.bootCounted_writes.mono (by decide))

theorem State.enterBoot_reads (hok : s.ok) : s.enterBoot.modeNow = modeBoot ∧ s.enterBoot.get MD_MODE_CAUSE = 0 ∧
    s.enterBoot.besideRelease = s.besideRelease ∧ s.enterBoot.rst = s.rst := by
  rw [State.enterBoot_eq]
  obtain ⟨hset, hmode, hcause, hbeside, hrst⟩ := State.bootSet_reads (old := s.rst.mode) hok
  obtain ⟨hcbeside, hcrst⟩ := State.bootCounted_beside (s := s.bootSet s.rst.mode) (old := s.rst.mode)
  have hcounted := State.bootCounted_writes (s := s.bootSet s.rst.mode) (old := s.rst.mode)
  have htok := (hset hok).1
  exact ⟨(hcounted.get htok (by decide)).trans hmode, (hcounted.get htok (by decide)).trans hcause, hcbeside.trans hbeside,
    hcrst.trans hrst⟩

theorem State.letGo_besideRelease : s.letGo.besideRelease = s.besideRelease := rfl

theorem State.setB_besideRelease {F : Field} {b : Bool} : (s.setB F b).besideRelease = s.besideRelease := rfl

theorem State.samplePol_besideRelease {level : Nat} : (s.samplePol level).besideRelease = s.besideRelease := rfl

theorem State.sampleStraps_besideRelease : (s.sampleStraps x).besideRelease = s.besideRelease := by
  simp only [State.sampleStraps, State.set_besideRelease, State.setB_besideRelease, State.samplePol_besideRelease]

/-- The objects that a release writes before the collector looks. -/
def releaseObjects : List Nat :=
  [0x1003, 0x1102, 0x2002, 0x5801, 0x2000, 0x2003, 0x2004, 0x5204, 0x7811, 0x1803, 0x1800, 0x1802, 0x260A, 0x260B]

theorem State.strapped_writes : State.WritesObjects [0x1003, 0x1102, 0x2002, 0x5801] s (s.strapped x kind) := by
  have hset : State.WritesObjects [0x1003, 0x1102, 0x2002, 0x5801] s (s.set ID_STRAPS_ADDR x.addr) := .set (by decide) .refl
  exact .ite (hset.trans (.of_writes State.sampleStraps_writes (by decide))) .refl

theorem State.strapped_beside : (s.strapped x kind).besideRelease = s.besideRelease := by
  unfold State.strapped
  split
  · exact State.sampleStraps_besideRelease
  · rfl

theorem foldl_min_le (l : List Nat) (n : Nat) : l.foldl min n ≤ n := by
  induction l generalizing n with
  | nil => exact Nat.le_refl n
  | cons k l ih => exact Nat.le_trans (ih (min n k)) (Nat.min_le_left n k)

theorem State.released_writes (hok : s.ok) : State.WritesObjects releaseObjects s (s.released x) := by
  unfold State.released
  have hstraps := State.strapped_writes (s := s) (x := x) (kind := s.resetKind)
  have hkind : s.resetKind ≤ 4 := foldl_min_le ..
  generalize s.resetKind = kind at *
  generalize s.strapped x kind = t at *
  obtain ⟨hgates, -⟩ := State.gatesClosed_reads (kind := kind) (hstraps hok).1
  generalize t.gatesClosed kind = u at *
  obtain ⟨hcause, -⟩ := State.causeTold_reads (hgates (hstraps hok).1).1 hkind
  generalize u.causeTold kind = v at *
  have hv : State.WritesObjects releaseObjects s v :=
    ((hstraps.mono (by decide)).trans (hgates.mono (by decide))).trans (hcause.mono (by decide))
  have hlet : State.WritesObjects releaseObjects s v.letGo := hv.beside rfl
  exact hlet.trans ((State.enterBoot_writes (hlet hok).1).mono (by decide))

/-- BOOT entered, with no reset that holds the device. -/
theorem State.letGo_reads (hok : s.ok) : State.WritesObjects [0x1800, 0x1802, 0x260A, 0x260B] s s.letGo.enterBoot ∧
    s.letGo.enterBoot.rst.held = [] ∧ s.letGo.enterBoot.modeNow = modeBoot ∧ s.letGo.enterBoot.get MD_MODE_CAUSE = 0 ∧
    s.letGo.enterBoot.besideRelease = s.besideRelease := by
  have hlet : s.letGo.objs = s.objs ∧ s.letGo.rst.held = [] ∧ s.letGo.besideRelease = s.besideRelease := ⟨rfl, rfl, rfl⟩
  generalize s.letGo = t at *
  obtain ⟨hobjs, hheld, hbeside⟩ := hlet
  have htok : t.ok := State.ok_of_objs hok hobjs
  obtain ⟨hmode, hcause, hbbeside, hrst⟩ := State.enterBoot_reads htok
  exact ⟨(State.WritesObjects.refl.beside hobjs).trans (State.enterBoot_writes htok), (congrArg ResetSt.held hrst).trans hheld,
    hmode, hcause, hbbeside.trans hbeside⟩

theorem State.released_reads (hok : s.ok) : (s.released x).rst.held = [] ∧ (s.released x).modeNow = modeBoot ∧
    (s.released x).get MD_MODE_CAUSE = 0 ∧ (s.released x).get MD_RESET_CAUSE_KIND = s.resetKind ∧
    (s.released x).get MD_RESET_CAUSE_FATAL_SEEN = s.get SF_FATAL_LATCHED ∧ (s.released x).get TC_STATUS_STATE = 1 ∧
    (s.released x).besideRelease = s.besideRelease ∧
    (s.resetKind ≤ 2 → (s.released x).get ID_STRAPS_ADDR = x.addr % 2 ^ (ID_STRAPS_ADDR.hi + 1 - ID_STRAPS_ADDR.lo)) ∧
    (∀ k, k < 8 → (s.released x).word 0x5204 (0x80 + k) = 0xFFFFFFFF) := by
  unfold State.released
  have hstraps := State.strapped_writes (s := s) (x := x) (kind := s.resetKind)
  have hsbeside := State.strapped_beside (s := s) (x := x) (kind := s.resetKind)
  have hkind : s.resetKind ≤ 4 := foldl_min_le ..
  have haddr : s.resetKind ≤ 2 → (s.strapped x s.resetKind).get ID_STRAPS_ADDR =
      x.addr % 2 ^ (ID_STRAPS_ADDR.hi + 1 - ID_STRAPS_ADDR.lo) := fun hle => by
    unfold State.strapped
    rw [if_pos (show s.resetKind ≤ kindBrown from hle)]
    exact (State.sampleStraps_addr hok).2
  have hlatched : (s.strapped x s.resetKind).get SF_FATAL_LATCHED = s.get SF_FATAL_LATCHED := hstraps.get hok (by decide)
  have htok := (hstraps hok).1
  generalize s.resetKind = kind at *
  generalize s.strapped x kind = t at *
  obtain ⟨hgates, htc, hgbeside, hwords⟩ := State.gatesClosed_reads (kind := kind) htok
  have hglatch : (t.gatesClosed kind).get SF_FATAL_LATCHED = t.get SF_FATAL_LATCHED := hgates.get htok (by decide)
  have hgaddr : (t.gatesClosed kind).get ID_STRAPS_ADDR = t.get ID_STRAPS_ADDR := hgates.get htok (by decide)
  have huok := (hgates htok).1
  generalize t.gatesClosed kind = u at *
  obtain ⟨hcause, hkindSet, hseen, hcbeside⟩ := State.causeTold_reads huok hkind
  have hctc : (u.causeTold kind).get TC_STATUS_STATE = u.get TC_STATUS_STATE := hcause.get huok (by decide)
  have hcaddr : (u.causeTold kind).get ID_STRAPS_ADDR = u.get ID_STRAPS_ADDR := hcause.get huok (by decide)
  have hcwords : ∀ k, k < 8 → (u.causeTold kind).word 0x5204 (0x80 + k) = u.word 0x5204 (0x80 + k) :=
    fun k hk => hcause.word huok (by decide) (by omega)
  have hvok := (hcause huok).1
  generalize u.causeTold kind = v at *
  obtain ⟨hlet, hheld, hmode, hmcause, hbbeside⟩ := State.letGo_reads hvok
  generalize v.letGo.enterBoot = w at *
  refine ⟨hheld, hmode, hmcause, (hlet.get hvok (by decide)).trans hkindSet, ?_, ?_, ?_, ?_, ?_⟩
  · exact (hlet.get hvok (by decide)).trans (hseen.trans (hglatch.trans hlatched))
  · exact (hlet.get hvok (by decide)).trans (hctc.trans htc)
  · exact hbbeside.trans (hcbeside.trans (hgbeside.trans hsbeside))
  · exact fun hle => (hlet.get hvok (by decide)).trans (hcaddr.trans (hgaddr.trans (haddr hle)))
  · exact fun k hk => (hlet.word hvok (by decide) (by omega)).trans ((hcwords k hk).trans (hwords k hk))

/-! A Fatal latch found set (R319). -/

/-- The safe state's entry ends with the change of mode. -/
theorem State.enterSafe_setsMode (hok : s.ok) (h : s.get SF_STATE_STATE = 0) :
    ∃ u : State, u.ok ∧ s.enterSafe src = if u.modeNow = modeSafe then u else u.setMode modeSafe 8 := by
  unfold State.enterSafe
  rw [if_neg (not_not_intro h)]
  extract_lets +onlyGivenNames marked parked dark
  have hmarked : State.WritesObjects reactionObjects s marked := .set (by decide) (.set (by decide) .refl)
  have hdark : State.WritesObjects reactionObjects s dark :=
    hmarked.beside (State.assertFlt_objs.trans State.safeLanes_objs)
  clear_value dark
  extract_lets +onlyGivenNames _ released missed ended
  have hreleased : State.WritesObjects reactionObjects s released := hdark.beside rfl
  have hmissed : State.WritesObjects reactionObjects released missed :=
    (State.missShadow_objects.mono (by decide)).trans (State.endRing_objects.mono (by decide))
  have hended : State.WritesObjects reactionObjects missed ended :=
    (State.surveyCut_writes.mono (by decide)).trans (State.abandonCal_writes.mono (by decide))
  have hall := hreleased.trans (hmissed.trans hended)
  clear_value ended missed
  extract_lets _ modeLeft
  exact ⟨modeLeft, State.ok_of_objs (hall hok).1 rfl, rfl⟩

theorem State.enterSafe_mode (hok : s.ok) (h : s.get SF_STATE_STATE = 0) : (s.enterSafe src).modeNow = modeSafe := by
  obtain ⟨u, huok, heq⟩ := State.enterSafe_setsMode (src := src) hok h
  rw [heq]
  split
  · next hmode => exact hmode
  · exact State.setMode_modeNow huok (by decide)

/-- The safe state at FATAL in mode SAFE. -/
def State.Fatal (s : State) : Prop := s.ok ∧ s.get SF_STATE_STATE = 2 ∧ s.modeNow = modeSafe

theorem State.Fatal.stays (h : s.Fatal) (hstays : State.StaysFatal s t) : t.Fatal := by
  obtain ⟨hok, hsafe, hmode⟩ := h
  obtain ⟨htok, htsafe, htmode⟩ := hstays hok hsafe
  exact ⟨htok, htsafe, htmode.trans hmode⟩

theorem State.Fatal.of_writes {is : List Nat} (h : s.Fatal) (hwrites : State.WritesObjects is s t)
    (his : (is.contains 0x7100 || is.contains 0x1800) = false) : t.Fatal := h.stays (.of_writes hwrites his)

theorem State.Fatal.beside (h : s.Fatal) (hobjs : t.objs = s.objs) : t.Fatal := h.stays (State.StaysFatal.refl.beside hobjs)

theorem State.reactSafe_fatal (hok : s.ok) (h : s.get SF_STATE_STATE = 0) : 
    (s.reactSafe src 4).Fatal := by
  have hentered := State.enterSafe_mode (src := src) hok h
  have heok := (State.enterSafe_writes (src := src) hok).1
  have hfatal := State.setFatal_writes (s := s.enterSafe src) (src := src)
  have hobjs : (s.reactSafe src 4).objs = (((s.enterSafe src).setFatal src).set SF_STATE_STATE 2).objs := rfl
  generalize s.enterSafe src = t at *
  have hfok := (hfatal heok).1
  refine ⟨State.ok_of_objs (State.wr_ok hfok) hobjs, (State.rd_congr hobjs _ _).trans (State.rd_wr_eq ⟨hfok, by decide⟩),
    (State.rd_congr hobjs _ _).trans ?_⟩
  exact (State.rd_wr_apart ⟨hfok, by decide⟩).trans ((hfatal.rd heok (by decide) (by decide)).trans hentered)

theorem State.react_fatal (hok : s.ok) (h : s.get SF_STATE_STATE = 0) : 
    (s.react src unit 4).Fatal := by
  unfold State.react
  extract_lets +onlyGivenNames degraded act _ due contained
  have hdegraded : State.WritesObjects [0x7001] s degraded := .ite (.set (by decide) .refl) .refl
  have hdue : State.WritesObjects [0x7001] s due := .ite hdegraded (hdegraded.beside rfl)
  have hcontained : State.WritesObjects [0x7001] s contained := .ite hdue (hdue.set (by decide))
  exact State.reactSafe_fatal (hcontained hok).1 ((hcontained.get hok (by decide)).trans h)

/-- The report of the latch. -/
def fatalReport : Report := { src := 2, unit := unitDevice, wire := false }

theorem State.openWindow_fatal (hok : s.ok) (h : s.get SF_STATE_STATE = 0) (hsev : s.rd FC_CFG_SEVERITY 2 = 4) :
    (s.openWindow [fatalReport]).Fatal := by
  have htaken : s.taken fatalReport = 4 := hsev
  have hopener : s.opener [fatalReport] = some fatalReport := rfl
  unfold State.openWindow
  split
  · next hnone => exact absurd (hopener.symm.trans hnone) (by simp)
  · next r hr =>
    obtain rfl : fatalReport = r := Option.some.inj (hopener.symm.trans hr)
    extract_lets +onlyGivenNames sev f
    split
    extract_lets +onlyGivenNames reacted shown
    have hsev4 : sev = 4 := htaken
    clear_value f sev
    have hcaptured := State.captureFirst_objects (s := s) (f := f)
    have hreacted : reacted.Fatal := by
      unfold reacted
      rw [hsev4]
      exact State.react_fatal (hcaptured hok).1 ((hcaptured.get hok (by decide)).trans h)
    clear_value reacted
    have hshown : State.WritesObjects [0x7001] reacted shown := .set (by decide) (.set (by decide) (.set (by decide) .refl))
    exact (hreacted.of_writes hshown rfl).beside rfl

theorem State.reportNow_fatal (hok : s.ok) (h : s.get SF_STATE_STATE = 0) (hsev : s.rd FC_CFG_SEVERITY 2 = 4)
    (hwindow : s.fault.window = none) : (s.reportNow [fatalReport]).Fatal := by
  have hcounted := State.countReport_writes (s := s) (r := fatalReport) (by decide)
  have hkept : (s.countReport fatalReport).fault.window = none := by
    unfold State.countReport
    extract_lets t
    split <;> exact hwindow
  have heq : s.reportNow [fatalReport] = (s.countReport fatalReport).openWindow [fatalReport] := by
    unfold State.reportNow
    have hfilter : ([fatalReport].filter fun r => !reservedSource r.src && !s.masked r.src r.unit) = [fatalReport] := rfl
    rw [hfilter]
    simp only [List.foldl_cons, List.foldl_nil, hkept]
  rw [heq]
  exact State.openWindow_fatal (hcounted hok).1 ((hcounted.get hok (by decide)).trans h)
    ((hcounted.rd hok (by decide) (by decide)).trans hsev)

/-! The release as a whole. -/

theorem State.rst_of_besideReaction (h : t.besideReaction = s.besideReaction) : t.rst = s.rst := by
  have hrst := congrArg State.rst h
  exact hrst

theorem State.report_besideReaction {rs : List Report} : (s.report rs).besideReaction = s.besideReaction := by
  unfold State.report
  split
  · exact State.reportNow_besideReaction
  · rfl

theorem State.raiseLevels_besideReaction {l : List (Nat × Nat)} : (s.raiseLevels l).besideReaction = s.besideReaction := by
  unfold State.raiseLevels
  split
  · rfl
  · exact State.report_besideReaction.trans (State.foldl_besideReaction fun _ _ => rfl)

theorem State.collectorSamples_besideReaction : s.collectorSamples.besideReaction = s.besideReaction := by
  have hraised := State.raiseLevels_besideReaction (s := s) (l := s.standing)
  unfold State.collectorSamples
  split
  · generalize s.raiseLevels s.standing = t at *
    by_cases hend : (t.safe.latchHold && !t.safe.inLow) = true
    · simp only [if_pos hend]
      exact hraised
    · simp only [if_neg hend]
      exact hraised
  · rfl

theorem State.standing_congr (hbeside : t.besideRelease = s.besideRelease) (halert : t.on SM_STATUS_ALERT = s.on SM_STATUS_ALERT) :
    t.standing = s.standing := by
  have hin : t.safe.inLow = s.safe.inLow := congrArg (fun p => p.2.2.1) hbeside
  have hlatch : t.safe.latchHold = s.safe.latchHold := congrArg (fun p => p.2.2.2.1) hbeside
  have hsupply : t.supply = s.supply := congrArg (fun p => p.2.2.2.2.1) hbeside
  unfold State.standing
  rw [hin, hlatch, hsupply, halert]

/-- With no latch found set and no cause standing a release is quiet. -/
theorem State.release_quiet (hok : s.ok) (hlatch : s.on SF_FATAL_LATCHED = false) (hstanding : s.standing = []) :
    ∃ hold, s.release x = { s.released x with safe := { (s.released x).safe with latchHold := hold } } := by
  have hwrites := State.released_writes (x := x) hok
  obtain ⟨-, -, -, -, -, -, hbeside, -⟩ := State.released_reads (x := x) hok
  have hfound : (s.released x).fatalFound = s.released x :=
    if_neg (by rw [hwrites.on hok (by decide), hlatch]; decide)
  rw [State.release_eq, hfound]
  exact State.collectorSamples_quiet ((State.standing_congr hbeside (hwrites.on hok (by decide))).trans hstanding)

/-- A release that finds the latch set ends in SAFE, at FATAL. -/
theorem State.release_fatal (hok : s.ok) (hlatch : s.on SF_FATAL_LATCHED = true) (hwindow : s.fault.window = none)
    (hsev : s.rd FC_CFG_SEVERITY 2 = 4) (hsafe : s.get SF_STATE_STATE = 0) : (s.release x).Fatal ∧
    (s.release x).rst.held = [] ∧ (s.release x).on MD_RESET_CAUSE_FATAL_SEEN = true := by
  have hwrites := State.released_writes (x := x) hok
  obtain ⟨hheld, -, -, -, hseen, -, hbeside, -⟩ := State.released_reads (x := x) hok
  rw [State.release_eq]
  have hrok := (hwrites hok).1
  have hrlatch : (s.released x).on SF_FATAL_LATCHED = true := (hwrites.on hok (by decide)).trans hlatch
  have hrwindow : (s.released x).fault.window = none := (congrArg (fun p => p.2.2.2.2.2.window) hbeside).trans hwindow
  have hrsev := (hwrites.rd (G := FC_CFG_SEVERITY) (e := 2) hok (by decide) (by decide)).trans hsev
  have hrsafe := (hwrites.get (G := SF_STATE_STATE) hok (by decide)).trans hsafe
  have hrseen := hseen.trans (State.on_iff.mp hlatch)
  generalize s.released x = t at *
  have hfound : t.fatalFound = t.reportNow [fatalReport] := if_pos hrlatch
  have hfatal := State.reportNow_fatal hrok hrsafe hrsev hrwindow
  have hreport := State.reportNow_writes (s := t) (rs := [fatalReport])
  have hkept : (t.reportNow [fatalReport]).rst = t.rst :=
    State.rst_of_besideReaction State.reportNow_besideReaction
  rw [hfound]
  have hsampled := State.collectorSamples_writes (s := t.reportNow [fatalReport])
  refine ⟨hfatal.stays State.collectorSamples_staysFatal, ?_, State.on_iff.mpr ?_⟩
  · rw [State.rst_of_besideReaction State.collectorSamples_besideReaction, hkept, hheld]
  · exact (hsampled.get hfatal.1 (by decide)).trans ((hreport.get hrok (by decide)).trans hrseen)

/-- What a quiet release leaves. -/
theorem State.release_boots (hok : s.ok) (hlatch : s.on SF_FATAL_LATCHED = false) (hstanding : s.standing = []) :
    (s.release x).rst.held = [] ∧ (s.release x).modeNow = modeBoot ∧ (s.release x).get MD_MODE_CAUSE = 0 ∧
    (s.release x).get MD_RESET_CAUSE_KIND = s.resetKind ∧ (s.release x).tc = 1 ∧ (s.release x).lanes = s.lanes ∧
    (s.release x).safe.hold = s.safe.hold ∧
    (s.resetKind ≤ 2 → (s.release x).get ID_STRAPS_ADDR = x.addr % 2 ^ (ID_STRAPS_ADDR.hi + 1 - ID_STRAPS_ADDR.lo)) ∧
    (∀ k, k < 8 → (s.release x).word 0x5204 (0x80 + k) = 0xFFFFFFFF) := by
  obtain ⟨hold, heq⟩ := State.release_quiet (x := x) hok hlatch hstanding
  obtain ⟨hheld, hmode, hcause, hkind, -, htc, hbeside, haddr, hwords⟩ := State.released_reads (x := x) hok
  have hlanes : (s.released x).lanes = s.lanes := congrArg Prod.fst hbeside
  have hhold : (s.released x).safe.hold = s.safe.hold := congrArg (fun p => p.2.1) hbeside
  rw [heq]
  generalize s.released x = t at *
  exact ⟨hheld, (State.rd_congr rfl _ _).trans hmode, (State.rd_congr rfl _ _).trans hcause, (State.rd_congr rfl _ _).trans hkind,
    (State.rd_congr rfl _ _).trans htc, hlanes, hhold, fun hle => (State.rd_congr rfl _ _).trans (haddr hle),
    fun k hk => (State.word_congr rfl _ _).trans (hwords k hk)⟩

/-! The pin reset (R332). -/

/-- A pulse counts from 100 ns on; between 40 ns and 100 ns a free choice is made. -/
theorem exec_pinReset {width : Nat} : exec (.pinReset width) s =
    .next (if decide (100 ≤ width) || (decide (40 ≤ width) && s.freeBit.1) then
      (if width < 40 ∨ 100 ≤ width then s else s.freeBit.2).pinReset
      else if width < 40 ∨ 100 ≤ width then s else s.freeBit.2) := rfl

theorem exec_pinReset_taken {width : Nat} (h : 100 ≤ width) : exec (.pinReset width) s = .next s.pinReset := by
  rw [exec_pinReset, if_pos (by simp [h]), if_pos (.inr h)]

theorem exec_pinReset_short {width : Nat} (h : width < 40) : exec (.pinReset width) s = .next s := by
  rw [exec_pinReset, if_neg (by simp [show ¬ 100 ≤ width by omega, show ¬ 40 ≤ width by omega]), if_pos (.inl h)]

theorem exec_pinReset_between {width : Nat} (hlow : 40 ≤ width) (hhigh : width < 100) : exec (.pinReset width) s =
    .next (if s.freeBit.1 then s.freeBit.2.pinReset else s.freeBit.2) := by
  have htaken : (decide (100 ≤ width) || (decide (40 ≤ width) && s.freeBit.1)) = s.freeBit.1 := by
    simp [hlow, show ¬ 100 ≤ width by omega]
  have hpassed : ¬ (width < 40 ∨ 100 ≤ width) := by omega
  rw [exec_pinReset, htaken, if_neg hpassed]

end Sys2Proof.Machine

namespace Sys2Proof

open Machine

/-- Settles O47: an assertion builds the state anew but for what its kind keeps, and a release writes its words before the
collector looks; a latch found set makes the collector's report the safe state's entry. -/
theorem deviceResets : Obligations.DeviceResets := by
  unfold Obligations.DeviceResets
  intro s width d x hwf
  have hok := (Good.of_wf hwf).objs
  refine ⟨?_, fun hwidth => ?_, exec_pinReset_short, fun hlow hhigh => ?_, fun hdue => ?_, fun hdue => ?_, fun hheld => ?_,
    fun hheld hlatch hstanding => ?_, fun hheld hlatch hwindow hsev hsafe => ?_, fun h => ?_, fun hsampled hheld => ?_, ?_⟩
  · have h := State.coldReset_reset (s := s)
    exact ⟨_, rfl, h.held, h.lanes, h.dark, h.hold, h.flt, h.running⟩
  · have h := State.pinReset_reset (s := s)
    exact ⟨_, exec_pinReset_taken hwidth, h.held, h.lanes, h.dark, h.hold, h.flt, h.running⟩
  · rw [exec_pinReset_between hlow hhigh]
    cases s.freeBit.1 with
    | false => exact .inl rfl
    | true =>
      have h := State.pinReset_reset (s := s.freeBit.2)
      exact .inr ⟨_, rfl, h.held, h.lanes⟩
  · have h := State.ringReset_reset hdue
    exact ⟨_, rfl, h.held, h.ringDue, h.lanes, h.ringPort, h.hold, h.flt, h.up⟩
  · exact congrArg Host.Outcome.next (State.ringReset_none hdue)
  · exact congrArg Host.Outcome.next (if_pos hheld)
  · exact ⟨_, congrArg Host.Outcome.next (if_neg hheld), State.release_boots hok hlatch hstanding⟩
  · obtain ⟨⟨-, hfatal, hmode⟩, hreleased, hseen⟩ := State.release_fatal (x := x) hok hlatch hwindow hsev hsafe
    exact ⟨_, congrArg Host.Outcome.next (if_neg hheld), hreleased, hmode, hfatal, hseen⟩
  · exact congrArg Host.Outcome.next (State.vgateCross_sampled h)
  · obtain ⟨hvgate, hset, hpol, hlanes⟩ :=
      State.samplePol_reads (s := { s with safe := { s.safe with vgate := true } }) (level := s.safe.pin.toNat) hok
    refine ⟨_, congrArg Host.Outcome.next (State.vgateCross_samples hsampled hheld), hvgate, hset, hpol.trans ?_, hlanes⟩
    cases s.safe.pin <;> rfl
  · have hkept := State.loseLatch_keeps (s := s.gatesUnpowered)
    refine ⟨_, congrArg Host.Outcome.next State.vgateCross_down, ?_, ?_, ?_, fun hvaon => ?_, fun hvaon => ?_⟩
    · rw [hkept]; rfl
    · rw [hkept]; rfl
    · rw [hkept]; rfl
    · exact State.loseLatch_lost (s := s.gatesUnpowered) hok hvaon rfl
    · rw [State.loseLatch_kept (s := s.gatesUnpowered) hvaon]
      rfl

end Sys2Proof
end

section
/-! SUPPORT. The supply monitor, the temperature sensors and the regulator's alert (section 13.7). -/

namespace Sys2Proof.Machine


variable {s t u : State} {x : RailSt} {b : Bool} {r lowest n : Nat}

/-! The two rails of the monitor. -/

theorem State.setRail_same : (s.setRail r x).rail r = x := by
  simp only [State.setRail, State.rail]
  split <;> rfl

theorem State.setRail_other (hr : r < 2) : (s.setRail r x).rail (1 - r) = s.rail (1 - r) := by
  obtain rfl | rfl : r = 0 ∨ r = 1 := by omega
  · rfl
  · rfl

/-- A rail replaced leaves the rest of the device alone. -/
theorem State.setRail_keeps : s.setRail r x = { s with supply := (s.setRail r x).supply } := by
  unfold State.setRail
  split <;> rfl

theorem State.setRail_recoverUp : (s.setRail r x).supply.recoverUp = s.supply.recoverUp := by
  unfold State.setRail
  split <;> rfl

theorem State.setLow_keeps : s.setLow r b = { s with objs := (s.setLow r b).objs } := by
  unfold State.setLow
  split <;> rfl

theorem State.setLow_rail {k : Nat} : (s.setLow r b).rail k = s.rail k := by
  rw [State.setLow_keeps]
  rfl

theorem State.setLow_writes : State.WritesObjects [0x7810] s (s.setLow r b) :=
  .ite (.setB (by decide) .refl) (.setB (by decide) .refl)

theorem State.setRail_writes {is : List Nat} (h : State.WritesObjects is s t) : State.WritesObjects is s (t.setRail r x) := by
  rw [State.setRail_keeps]
  exact h.beside rfl

theorem State.setRail_lanes : (s.setRail r x).lanes = s.lanes := by
  rw [State.setRail_keeps]

theorem State.setLow_lanes : (s.setLow r b).lanes = s.lanes := by
  rw [State.setLow_keeps]

/-- What tells that a rail is below its warning level. -/
def State.tellsLow (s : State) (r : Nat) : Bool := if r = 0 then s.on SM_STATUS_VCORE_LOW else s.on SM_STATUS_VTIME_LOW

theorem State.setLow_tells (hok : s.ok) : (s.setLow r true).tellsLow r = true := by
  unfold State.setLow State.tellsLow
  split
  · exact State.on_iff.mpr (State.rd_wr_eq ⟨hok, by decide⟩)
  · exact State.on_iff.mpr (State.rd_wr_eq ⟨hok, by decide⟩)

theorem State.tellsLow_congr (h : t.objs = s.objs) : t.tellsLow r = s.tellsLow r := by
  simp only [State.tellsLow, State.on, State.rd_congr h]

theorem State.warningCross_eq (h : (s.rail r).low = false) : s.warningCross r lowest =
    (s.setLow r true).setRail r { low := true, crossUp := s.frame.up, dip := false, lowest := lowest } := if_neg (by simp [h])

theorem State.warningCross_low (h : (s.rail r).low = true) : s.warningCross r lowest = s := if_pos h

theorem State.warningCross_reads (hok : s.ok) (hr : r < 2) (h : (s.rail r).low = false) :
    (s.warningCross r lowest).rail r = { low := true, crossUp := s.frame.up, dip := false, lowest := lowest } ∧
      (s.warningCross r lowest).rail (1 - r) = s.rail (1 - r) ∧ (s.warningCross r lowest).tellsLow r = true ∧
      (s.warningCross r lowest).lanes = s.lanes := by
  rw [State.warningCross_eq h]
  refine ⟨State.setRail_same, (State.setRail_other hr).trans State.setLow_rail, ?_, State.setRail_lanes.trans State.setLow_lanes⟩
  rw [State.setRail_keeps]
  exact (State.tellsLow_congr rfl).trans (State.setLow_tells hok)

/-! A dip (R323). -/

theorem State.cancelStep_step : s.cancelStep.time.step = none := by
  unfold State.cancelStep
  split
  · assumption
  · rfl

/-- What a dip stops, up to the suspension of phase steps. -/
def State.dipStops (s : State) : State := ((s.set SM_STATUS_MARGINAL 1).abandonCal).cancelStep

theorem State.dipStops_writes : State.WritesObjects [0x5841, 0x2401, 0x2407] (s.set SM_STATUS_MARGINAL 1) s.dipStops :=
  (State.abandonCal_writes.mono (by decide)).trans (.of_writes State.cancelStep_writes (by decide))

/-- The state beside the dictionary, the time base, the calibrations and the lanes, which a dip's stops leave alone. -/
def State.besideStops (s : State) : State := { s with objs := [], time := {}, cal := {}, lanes := [] }

theorem State.dipStops_reads (hok : s.ok) : s.dipStops.ok ∧ s.dipStops.on SM_STATUS_MARGINAL = true ∧ s.dipStops.cal.runs = [] ∧
    s.dipStops.time.step = none ∧ s.dipStops.besideStops = s.besideStops := by
  have hset : (s.set SM_STATUS_MARGINAL 1).ok := State.wr_ok hok
  refine ⟨(State.dipStops_writes hset).1, (State.dipStops_writes.on hset (by decide)).trans ?_, ?_, State.cancelStep_step, ?_⟩
  · exact State.on_iff.mpr (State.rd_wr_eq ⟨hok, by decide⟩)
  · exact congrArg (fun t => t.cal.runs) (State.cancelStep_besideTime (s := (s.set SM_STATUS_MARGINAL 1).abandonCal))
  · exact congrArg (fun t : State => { t with cal := {}, lanes := [] })
      (State.cancelStep_besideTime (s := (s.set SM_STATUS_MARGINAL 1).abandonCal))

theorem State.setMarginal_eq :
    s.setMarginal = (s.dipStops.set TB_STATUS_SUSPENDED 1).mapLanes fun _ l => l.unlearn := rfl

theorem State.setMarginal_writes : State.WritesObjects [0x7810, 0x5841, 0x2401, 0x2407] s s.setMarginal := by
  rw [State.setMarginal_eq]
  have hset : State.WritesObjects [0x7810, 0x5841, 0x2401, 0x2407] s (s.set SM_STATUS_MARGINAL 1) := .set (by decide) .refl
  have h : State.WritesObjects [0x7810, 0x5841, 0x2401, 0x2407] s (s.dipStops.set TB_STATUS_SUSPENDED 1) :=
    .set (by decide) (hset.trans (State.dipStops_writes.mono (by decide)))
  exact h.beside rfl

theorem State.setMarginal_reads (hok : s.ok) : s.setMarginal.on SM_STATUS_MARGINAL = true ∧
    s.setMarginal.on TB_STATUS_SUSPENDED = true ∧ s.setMarginal.cal.runs = [] ∧ s.setMarginal.time.step = none ∧
    s.setMarginal.besideStops = s.besideStops := by
  obtain ⟨hstops, hmarginal, hruns, hstep, hbeside⟩ := State.dipStops_reads hok
  rw [State.setMarginal_eq]
  generalize s.dipStops = t at *
  refine ⟨?_, State.on_iff.mpr (State.rd_wr_eq ⟨hstops, by decide⟩), hruns, hstep, hbeside⟩
  exact State.on_iff.mpr ((State.rd_wr_apart (F := TB_STATUS_SUSPENDED) ⟨hstops, by decide⟩).trans (State.on_iff.mp hmarginal))

/-- The dip told in its rail and its count, the device's time at the dip's instant. -/
def State.dipTold (s : State) (r lowest : Nat) : State :=
  ((s.passTo ((s.rail r).crossUp + 300)).setRail r
    { s.rail r with dip := true, lowest := min (s.rail r).lowest lowest }).bumpAt SM_COUNTS_COUNT (1 + 3 * r)

/-- What the dip has stopped, before source 8 or 9 is reported. -/
def State.dipMarked (s : State) (r lowest : Nat) : State :=
  { (s.dipTold r lowest).setMarginal with
    supply := { (s.dipTold r lowest).setMarginal.supply with recoverUp := none }
    time := { (s.dipTold r lowest).setMarginal.time with resume := false } }

theorem State.dipQualify_eq (hlow : (s.rail r).low = true) (hdip : (s.rail r).dip = false) (hheld : s.rst.held = []) :
    s.dipQualify r lowest = (s.dipMarked r lowest).raiseLevel (8 + r) unitDevice := if_neg (by simp [hlow, hdip, hheld])

theorem State.dipQualify_none (h : (s.rail r).low = false ∨ (s.rail r).dip = true ∨ s.rst.held ≠ []) :
    s.dipQualify r lowest = s := if_pos (by rcases h with h | h | h <;> simp [h])

theorem State.dipTold_reads (hok : s.ok) :
    (s.dipTold r lowest).ok ∧ (s.dipTold r lowest).rail r = { s.rail r with dip := true, lowest := min (s.rail r).lowest lowest } ∧
      (s.dipTold r lowest).frame.up = max s.frame.up ((s.rail r).crossUp + 300) ∧
      (s.dipTold r lowest).rd SM_COUNTS_COUNT (1 + 3 * r) =
        satAdd (SM_COUNTS_COUNT.hi + 1 - SM_COUNTS_COUNT.lo) (s.rd SM_COUNTS_COUNT (1 + 3 * r)) 1 := by
  have hrail := State.setRail_same (s := s.passTo ((s.rail r).crossUp + 300)) (r := r)
    (x := { s.rail r with dip := true, lowest := min (s.rail r).lowest lowest })
  have hkept := State.setRail_keeps (s := s.passTo ((s.rail r).crossUp + 300)) (r := r)
    (x := { s.rail r with dip := true, lowest := min (s.rail r).lowest lowest })
  unfold State.dipTold
  generalize (s.passTo ((s.rail r).crossUp + 300)).setRail r
    { s.rail r with dip := true, lowest := min (s.rail r).lowest lowest } = t at *
  have hobjs : t.objs = s.objs := by rw [hkept]; rfl
  have hup : t.frame.up = max s.frame.up ((s.rail r).crossUp + 300) := by rw [hkept]; rfl
  have htok : t.ok := State.ok_of_objs hok hobjs
  have hcount : t.rd SM_COUNTS_COUNT (1 + 3 * r) = s.rd SM_COUNTS_COUNT (1 + 3 * r) := State.rd_congr hobjs _ _
  refine ⟨State.wr_ok htok, hrail, hup, (State.rd_wr_eq ⟨htok, by decide⟩).trans ?_⟩
  rw [hcount]
  exact Nat.mod_eq_of_lt satAdd_lt

/-- A dip is marked and counted in its rail, and stops what Table 13-10 names. -/
structure State.DipMarks (s u : State) (r lowest : Nat) : Prop where
  marginal : u.on SM_STATUS_MARGINAL = true
  dip : (u.rail r).dip = true
  lowest : (u.rail r).lowest = min (s.rail r).lowest lowest
  recoverUp : u.supply.recoverUp = none
  suspended : u.on TB_STATUS_SUSPENDED = true
  runs : u.cal.runs = []
  step : u.time.step = none
  resume : u.time.resume = false
  up : u.frame.up = max s.frame.up ((s.rail r).crossUp + 300)
  count : u.rd SM_COUNTS_COUNT (1 + 3 * r) =
    satAdd (SM_COUNTS_COUNT.hi + 1 - SM_COUNTS_COUNT.lo) (s.rd SM_COUNTS_COUNT (1 + 3 * r)) 1

theorem State.dipMarked_marks (hok : s.ok) (hr : r < 2) : State.DipMarks s (s.dipMarked r lowest) r lowest := by
  obtain ⟨htold, hrail, hup, hcount⟩ := State.dipTold_reads (lowest := lowest) hok
  obtain ⟨hmarginal, hsuspended, hruns, hstep, hbeside⟩ := State.setMarginal_reads htold
  have hkept := (State.setMarginal_writes (s := s.dipTold r lowest)).rd (G := SM_COUNTS_COUNT) (e := 1 + 3 * r) htold (by decide)
    (show 0 + (1 + 3 * r) < 65536 by omega)
  unfold State.dipMarked
  generalize s.dipTold r lowest = t at *
  generalize t.setMarginal = u at *
  have hsupply := congrArg (fun v : State => v.supply) hbeside
  have hurail : u.rail r = t.rail r := congrArg (fun x : SupplySt => if r = 0 then x.vcore else x.vtime) hsupply
  have hmarked : ({ u with supply := { u.supply with recoverUp := none }, time := { u.time with resume := false } } : State).rail r =
      u.rail r := rfl
  exact {
    marginal := hmarginal
    dip := by rw [hmarked, hurail, hrail]
    lowest := by rw [hmarked, hurail, hrail]
    recoverUp := rfl
    suspended := hsuspended
    runs := hruns
    step := hstep
    resume := rfl
    up := (congrArg (fun v : State => v.frame.up) hbeside).trans hup
    count := (State.rd_congr rfl _ _).trans (hkept.trans hcount) }

/-! The recovery of a rail (R323). -/

/-- The rail above its warning level again, and its reset-level cause ended. -/
def State.railUp (s : State) (r : Nat) : State := ((s.setLow r false).setRail r {}).endCause (5 + r)

/-- The end of a dip of `ns` nanoseconds and the lowest reading `low`: its cause, its record and its words. -/
def State.dipOver (s : State) (r ns low : Nat) : State :=
  let s := (s.endCause (8 + r)).post 0x42 r (payloadOf [(ns, 32), ((s.endCause (8 + r)).railSetpoint r % 65536, 16), (low, 0)])
  let s := (s.setWord 0x7812 (2 * r) (BitVec.ofNat 32 ns)).setWord 0x7812 (2 * r + 1) (BitVec.ofNat 32 low)
  { s with supply := { s.supply with recoverUp := some s.frame.up } }

theorem State.supplyRecover_high (h : (s.rail r).low = false) : s.supplyRecover r lowest = s := if_pos (by simp [h])

theorem State.supplyRecover_dip (hlow : (s.rail r).low = true) (hdip : (s.rail r).dip = true) :
    s.supplyRecover r lowest =
      (s.railUp r).dipOver r ((s.railUp r).nsSince (s.rail r).crossUp) (min (s.rail r).lowest lowest % 65536) :=
  (if_neg (by simp [hlow])).trans (if_pos hdip)

theorem State.railUp_rst : (s.railUp r).rst = s.rst := by
  unfold State.railUp State.endCause State.setSourceBit
  rw [State.setRail_keeps, State.setLow_keeps]
  rfl

theorem State.supplyRecover_glitch (hlow : (s.rail r).low = true) (hdip : (s.rail r).dip = false) :
    s.supplyRecover r lowest = if s.rst.held = [] then (s.railUp r).bumpAt SM_COUNTS_COUNT (3 * r) else s.railUp r := by
  refine (if_neg (by simp [hlow])).trans ((if_neg (by simp [hdip])).trans ?_)
  exact congrArg (fun l => if l = [] then (s.railUp r).bumpAt SM_COUNTS_COUNT (3 * r) else s.railUp r)
    (congrArg ResetSt.held State.railUp_rst)

theorem State.railUp_reads (hok : s.ok) (hr : r < 2) : (s.railUp r).ok ∧ (s.railUp r).rail r = {} ∧ (s.railUp r).frame = s.frame ∧
    (s.railUp r).lanes = s.lanes := by
  have hlow : (s.setLow r false).ok := (State.setLow_writes hok).1
  have hkept := State.setLow_keeps (s := s) (r := r) (b := false)
  unfold State.railUp
  generalize s.setLow r false = t at *
  have hsame := State.setRail_same (s := t) (r := r) (x := {})
  have hrail := State.setRail_keeps (s := t) (r := r) (x := {})
  generalize t.setRail r {} = u at *
  have huok : u.ok := State.ok_of_objs hlow (by rw [hrail])
  have hbeside : u.frame = s.frame ∧ u.lanes = s.lanes := by
    rw [hrail]
    dsimp only
    rw [hkept]
    exact ⟨rfl, rfl⟩
  exact ⟨(State.WritesObjects.setSourceBit (is := [FC_ACTIVE_BITS.index]) (by decide) (show 0 + (5 + r) / 32 < 65536 by omega)
    .refl huok).1, hsame, hbeside⟩

theorem State.dipOver_reads {ns low : Nat} (hok : s.ok) (hr : r < 2) : (s.dipOver r ns low).rail r = s.rail r ∧
    (s.dipOver r ns low).supply.recoverUp = some s.frame.up ∧
    (s.dipOver r ns low).word 0x7812 (2 * r) = BitVec.ofNat 32 ns ∧
    (s.dipOver r ns low).word 0x7812 (2 * r + 1) = BitVec.ofNat 32 low ∧ (s.dipOver r ns low).lanes = s.lanes := by
  unfold State.dipOver
  have hended : (s.endCause (8 + r)).ok := (State.WritesObjects.setSourceBit (is := [FC_ACTIVE_BITS.index]) (by decide)
    (show 0 + (8 + r) / 32 < 65536 by omega) .refl hok).1
  have hbeside : (s.endCause (8 + r)).supply = s.supply ∧ (s.endCause (8 + r)).frame = s.frame ∧ (s.endCause (8 + r)).lanes = s.lanes :=
    ⟨rfl, rfl, rfl⟩
  generalize s.endCause (8 + r) = e at *
  obtain ⟨hsupply, hframe, hlanes⟩ := hbeside
  extract_lets t u
  have hkept : t = _ := State.post_keeps
  have htok : t.ok := (State.post_writes hended).1
  have htbeside : t.supply = s.supply ∧ t.frame = s.frame ∧ t.lanes = s.lanes := by
    rw [hkept]
    exact ⟨hsupply, hframe, hlanes⟩
  clear_value t
  obtain ⟨htsupply, htframe, htlanes⟩ := htbeside
  have hfirst := State.setWord_ok (i := 0x7812) (k := 2 * r) (v := BitVec.ofNat 32 ns) htok
  have hrail : t.rail r = s.rail r := congrArg (fun x : SupplySt => if r = 0 then x.vcore else x.vtime) htsupply
  refine ⟨hrail, congrArg (fun f => some f.up) htframe, ?_, ?_, htlanes⟩
  · refine (State.word_congr rfl _ _).trans ((State.word_setWord hfirst).trans ((if_neg ?_).trans (State.word_setWord_same htok)))
    obtain rfl | rfl : r = 0 ∨ r = 1 := by omega
    · decide
    · decide
  · exact (State.word_congr rfl _ _).trans (State.word_setWord_same hfirst)

/-! The end of SUPPLY_MARGINAL and the reset level (R322, R323). -/

theorem State.marginalClear_due {d : Nat} (hup : s.supply.recoverUp = some d) (hdue : d + 30000 ≤ s.frame.up)
    (hcore : s.supply.vcore.dip = false) (htime : s.supply.vtime.dip = false) (hmarginal : s.on SM_STATUS_MARGINAL = true) :
    s.marginalClear = { s.set SM_STATUS_MARGINAL 0 with
      supply := { s.supply with recoverUp := none }, time := { s.time with resume := true } } := by
  unfold State.marginalClear
  rw [hup]
  exact if_pos (by simp [hdue, hcore, htime, hmarginal])

theorem State.marginalClear_early {d : Nat} (hup : s.supply.recoverUp = some d) (hearly : s.frame.up < d + 30000) :
    s.marginalClear = s := by
  unfold State.marginalClear
  rw [hup]
  exact if_neg (by simp [hearly])

theorem State.marginalClear_none (h : s.supply.recoverUp = none ∨ s.supply.vcore.dip = true ∨ s.supply.vtime.dip = true) :
    s.marginalClear = s := by
  unfold State.marginalClear
  rcases h with h | h | h
  · rw [h]
    rfl
  · exact if_neg (by simp [h])
  · exact if_neg (by simp [h])

/-- The brownout reset due on the collector's path, in a state that has counted the reset level. -/
def State.brownSet (s : State) (r : Nat) : State :=
  { s with supply := { s.supply with brown := some (s.frame.up + s.pathTc 64, r) } }

theorem State.pathTc_of_writes {is : List Nat} (h : State.WritesObjects is s t) (hok : s.ok) (his : is.contains TC_STATUS_CLK_READY.index = false) :
    t.pathTc n = s.pathTc n := by
  have hready : t.on TC_STATUS_CLK_READY = s.on TC_STATUS_CLK_READY :=
    h.on hok (Bool.or_eq_false_iff.mpr ⟨his, by decide⟩)
  unfold State.pathTc
  rw [hready]

theorem State.resetLevel_held (h : s.rst.held.contains 1 = true ∨ s.rst.held.contains 2 = true ∨ s.supply.brown.isSome = true) :
    s.resetLevel r = s :=
  if_pos (by simpa only [Bool.or_eq_true, or_assoc] using h)

/-- A rail found at its reset level has fallen below its warning level too. -/
def State.crossed (s : State) (r : Nat) : State := if (s.rail r).low then s else s.warningCross r (s.rail r).lowest

theorem State.resetLevel_eq (hcold : s.rst.held.contains 1 = false) (hbrown : s.rst.held.contains 2 = false)
    (hnone : s.supply.brown = none) :
    s.resetLevel r = (((s.crossed r).bumpAt SM_COUNTS_COUNT (2 + 3 * r)).brownSet r).raiseLevel (5 + r) unitDevice :=
  if_neg (by rw [hcold, hbrown, hnone]; decide)

theorem State.brownSet_counted (hok : s.ok) (hr : r < 2) : ((s.bumpAt SM_COUNTS_COUNT (2 + 3 * r)).brownSet r) =
    { s.bumpAt SM_COUNTS_COUNT (2 + 3 * r) with supply := { s.supply with brown := some (s.frame.up + s.pathTc 64, r) } } := by
  have hcount : State.WritesObjects [0x7813] s (s.bumpAt SM_COUNTS_COUNT (2 + 3 * r)) :=
    .bumpAt (by decide) (show 0 + (2 + 3 * r) < 65536 by omega) .refl
  unfold State.brownSet
  rw [State.pathTc_of_writes hcount hok (by decide)]
  rfl

theorem State.warningCross_writes : State.WritesObjects [0x7810] s (s.warningCross r lowest) :=
  .ite .refl (State.setRail_writes State.setLow_writes)

theorem State.crossed_reads (hok : s.ok) (hr : r < 2) (h : (s.rail r).low = false) :
    ((((s.crossed r).bumpAt SM_COUNTS_COUNT (2 + 3 * r)).brownSet r).rail r).low = true ∧
    (((s.crossed r).bumpAt SM_COUNTS_COUNT (2 + 3 * r)).brownSet r).supply.brown = some (s.frame.up + s.pathTc 64, r) ∧
    (((s.crossed r).bumpAt SM_COUNTS_COUNT (2 + 3 * r)).brownSet r).lanes = s.lanes := by
  have hcross : s.crossed r = s.warningCross r (s.rail r).lowest := if_neg (by simp [h])
  obtain ⟨hrail, -, -, hlanes⟩ := State.warningCross_reads (lowest := (s.rail r).lowest) hok hr h
  have hwrites := State.warningCross_writes (s := s) (r := r) (lowest := (s.rail r).lowest)
  have hup : (s.warningCross r (s.rail r).lowest).frame = s.frame := by
    rw [State.warningCross_eq h, State.setRail_keeps]
    dsimp only
    rw [State.setLow_keeps]
  rw [hcross]
  generalize s.warningCross r (s.rail r).lowest = t at *
  have hpath := State.pathTc_of_writes (n := 64) hwrites hok (by decide)
  rw [State.brownSet_counted (hwrites hok).1 hr, hpath, hup]
  exact ⟨congrArg RailSt.low hrail, rfl, hlanes⟩

theorem State.brownReset_due {d : Nat} (h : s.supply.brown = some (d, r)) :
    s.brownReset = ({ s.passTo d with rst := { (s.passTo d).rst with rail := r + 1 } } : State).assertReset kindBrown := by
  unfold State.brownReset
  rw [h]

theorem State.brownReset_none (h : s.supply.brown = none) : s.brownReset = s := by
  unfold State.brownReset
  rw [h]

/-! A temperature conversion (R325). -/

theorem State.rdI_wrI {F : Field} {e : Nat} {v : Int} (h : s.ok ∧ F.fits = true) (hlo : -2 ^ (F.hi - F.lo) ≤ v)
    (hhi : v < 2 ^ (F.hi - F.lo)) : (s.wrI F e v).rdI F e = v := by
  have hle : F.lo ≤ F.hi := by simpa using (Bool.and_eq_true_iff.mp h.2).1
  have hwidth : F.hi + 1 - F.lo - 1 = F.hi - F.lo := by omega
  unfold State.rdI State.wrI
  rw [State.rd_wr_eq h, Nat.mod_eq_of_lt (toBits_lt ..), signedOf_toBits (by omega) (by rwa [hwidth]) (by rwa [hwidth])]

/-- A reading stored at its sensor, before the highest reading of the device. -/
def State.sensorStored (s : State) (k : Nat) (v : Int) : State :=
  if k < 64 then
    let s := s.wrI (TH_TILE_TEMP_TEMP.tile k) 0 v
    if newHighest (s.rdI (TH_TILE_MAX_TEMP.tile k) 0) v then s.wrI (TH_TILE_MAX_TEMP.tile k) 0 v else s
  else s.setI TH_TIME_TEMP_TEMP v

/-- The highest reading of the device follows. -/
def State.maxFollows (s : State) (k : Nat) (v : Int) : State :=
  if newHighest (s.getI TH_MAX_TEMP) v then (s.setI TH_MAX_TEMP v).set TH_MAX_SENSOR k else s

theorem State.storeTemp_eq {k : Nat} {v : Int} : s.storeTemp k v = (s.sensorStored k v).maxFollows k v := rfl

/-- A sensor's temperature. -/
def State.sensorTemp (s : State) (k : Nat) : Int :=
  if k < 64 then s.rdI (TH_TILE_TEMP_TEMP.tile k) 0 else s.getI TH_TIME_TEMP_TEMP

/-- The objects that store the reading of a sensor. -/
def sensorObjects (k : Nat) : List Nat := [0xA020 + 0x40 * k, 0xA021 + 0x40 * k, 0x7800]

theorem State.sensorStored_writes {k : Nat} {v : Int} : State.WritesObjects (sensorObjects k) s (s.sensorStored k v) := by
  unfold State.sensorStored
  have htile : State.WritesObjects (sensorObjects k) s (s.wrI (TH_TILE_TEMP_TEMP.tile k) 0 v) :=
    .wr List.mem_cons_self (show 0 + 0 < 65536 by decide) .refl
  refine .ite ?_ (.wr (List.mem_cons_of_mem _ (List.mem_cons_of_mem _ List.mem_cons_self)) (by decide) .refl)
  exact .ite (htile.wr (List.mem_cons_of_mem _ List.mem_cons_self) (show 0 + 0 < 65536 by decide)) htile

theorem State.sensorStored_temp {k : Nat} {v : Int} (hok : s.ok) (hlo : -2048 ≤ v) (hhi : v ≤ 2047) :
    (s.sensorStored k v).sensorTemp k = v := by
  unfold State.sensorStored State.sensorTemp
  split
  · have htemp : (s.wrI (TH_TILE_TEMP_TEMP.tile k) 0 v).rdI (TH_TILE_TEMP_TEMP.tile k) 0 = v :=
      State.rdI_wrI ⟨hok, rfl⟩ hlo (show v < 2048 by omega)
    have hstored : (s.wrI (TH_TILE_TEMP_TEMP.tile k) 0 v).ok := State.wr_ok hok
    dsimp only
    split
    · refine Eq.trans (congrArg (signedOf 12) (State.rd_wr_apart ⟨hstored, ?_⟩)) htemp
      refine Field.apart_of_index ?_ (show 0 + 0 < 65536 by decide) (show 0 + 0 < 65536 by decide)
      show 0xA021 + 0x40 * k ≠ 0xA020 + 0x40 * k
      omega
    · exact htemp
  · exact State.rdI_wrI ⟨hok, rfl⟩ hlo (show v < 2048 by omega)

theorem State.maxFollows_writes {k : Nat} {v : Int} : State.WritesObjects [0x7802] s (s.maxFollows k v) :=
  .ite (.set (by decide) (.wr (by decide) (by decide) .refl)) .refl

theorem State.maxFollows_max {k : Nat} {v : Int} (hok : s.ok) (hlo : -2048 ≤ v) (hhi : v ≤ 2047) :
    (s.maxFollows k v).getI TH_MAX_TEMP = if s.getI TH_MAX_TEMP = 0 then v else max v (s.getI TH_MAX_TEMP) := by
  have hstored : ((s.setI TH_MAX_TEMP v).set TH_MAX_SENSOR k).getI TH_MAX_TEMP = v :=
    (congrArg (signedOf 12) (State.rd_wr_apart (F := TH_MAX_SENSOR) ⟨State.wr_ok hok, by decide⟩)).trans
      (State.rdI_wrI ⟨hok, by decide⟩ hlo (show v < 2048 by omega))
  unfold State.maxFollows newHighest
  by_cases hnone : s.getI TH_MAX_TEMP = 0
  · rw [if_pos (by simp [hnone]), if_pos hnone, hstored]
  · rw [if_neg hnone]
    by_cases hless : s.getI TH_MAX_TEMP < v
    · rw [if_pos (by simp [hless]), hstored, max_eq_left (by omega)]
    · rw [if_neg (by simp [hless, hnone]), max_eq_right (by omega)]

theorem sensorObjects_apart {k i : Nat} (hlo : i < 0xA020) (hi : i ≠ 0x7800) : (sensorObjects k).contains i = false := by
  simp only [sensorObjects, List.contains_eq_mem, List.mem_cons, List.not_mem_nil, or_false, decide_eq_false_iff_not]
  omega

theorem State.sensorTemp_of_writes {is : List Nat} {k : Nat} (h : State.WritesObjects is s t) (hok : s.ok)
    (hsensors : ∀ i, i = 0x7800 ∨ 0xA020 ≤ i → is.contains i = false) : t.sensorTemp k = s.sensorTemp k := by
  unfold State.sensorTemp
  split
  · refine congrArg (signedOf 12) (h.rd hok (hsensors _ (.inr ?_)) (show 0 + 0 < 65536 by decide))
    show 0xA020 ≤ 0xA020 + 0x40 * k
    omega
  · exact congrArg (signedOf 12) (h.rd hok (hsensors _ (.inl rfl)) (by decide))

theorem State.storeTemp_reads {k : Nat} {v : Int} (hok : s.ok) (hlo : -2048 ≤ v) (hhi : v ≤ 2047) :
    (s.storeTemp k v).ok ∧ (s.storeTemp k v).sensorTemp k = v ∧
      (s.storeTemp k v).getI TH_MAX_TEMP = (if s.getI TH_MAX_TEMP = 0 then v else max v (s.getI TH_MAX_TEMP)) ∧
      (s.storeTemp k v).get TH_LIMITS_CRIT = s.get TH_LIMITS_CRIT ∧
      (s.storeTemp k v).get TH_LIMITS_WARN = s.get TH_LIMITS_WARN := by
  have hwrites := State.sensorStored_writes (s := s) (k := k) (v := v)
  have htemp := State.sensorStored_temp (k := k) hok hlo hhi
  rw [State.storeTemp_eq]
  generalize s.sensorStored k v = t at *
  have htok : t.ok := (hwrites hok).1
  have hfollows := State.maxFollows_writes (s := t) (k := k) (v := v)
  have hheld : t.getI TH_MAX_TEMP = s.getI TH_MAX_TEMP :=
    congrArg (signedOf 12) (hwrites.rd hok (sensorObjects_apart (by decide) (by decide)) (by decide))
  have hlimit : ∀ G : Field, G.index = 0x7801 → G.sub = 0 → (t.maxFollows k v).get G = s.get G := fun G hi hsub =>
    have hsensor : (sensorObjects k).contains G.index = false := hi ▸ sensorObjects_apart (by decide) (by decide)
    have hmost : [0x7802].contains G.index = false := by rw [hi]; decide
    have hword : G.sub + 0 < 65536 := by rw [hsub]; decide
    (hfollows.rd htok hmost hword).trans (hwrites.rd hok hsensor hword)
  refine ⟨(hfollows htok).1, ?_, hheld ▸ State.maxFollows_max htok hlo hhi, hlimit _ rfl rfl, hlimit _ rfl rfl⟩
  refine (State.sensorTemp_of_writes hfollows htok fun i hi => ?_).trans htemp
  simp only [List.contains_eq_mem, List.mem_singleton, decide_eq_false_iff_not]
  omega

/-- The sensors that report after new readings. -/
def State.heated (s : State) (xs : List (Nat × Int)) : State :=
  { s with fault := { s.fault with
    crit := hotSensors (s.get TH_LIMITS_CRIT) s.fault.crit xs, warm := hotSensors (s.get TH_LIMITS_WARN) s.fault.warm xs } }

/-- The causes of sources 7 and 10 end where no sensor reports. -/
def State.cooled (s : State) : State :=
  let t := if s.fault.crit = [] then s.endCause 7 else s
  if s.fault.warm = [] then t.endCause 10 else t

/-- The causes of sources 7 and 10 that begin, one sensor each. -/
def hotCauses (crit warm : List Nat) : List (Nat × Nat) :=
  ((crit.take 1).map fun k => (7, k)) ++ ((warm.take 1).map fun k => (10, k))

/-- Readings taken to the collector, and to the frequency estimate where the timing sensor is among them. -/
def State.judged (s : State) (k : Nat) : State :=
  if k = 64 then (s.raiseLevels (hotCauses s.fault.crit s.fault.warm)).followFerr
  else s.raiseLevels (hotCauses s.fault.crit s.fault.warm)

theorem State.cooled_fault : s.cooled.fault = s.fault := by
  unfold State.cooled
  dsimp only
  split
  · split <;> rfl
  · split <;> rfl

theorem State.cooled_lanes : s.cooled.lanes = s.lanes := by
  unfold State.cooled
  dsimp only
  split
  · split <;> rfl
  · split <;> rfl

theorem State.cooled_writes : State.WritesObjects [0x7007] s s.cooled := by
  unfold State.cooled
  extract_lets t
  have ht : State.WritesObjects [0x7007] s t := .ite (.setSourceBit (by decide) (by decide) .refl) .refl
  exact .ite (ht.setSourceBit (by decide) (by decide)) ht

theorem State.convert_one {k : Nat} {v : Int} (hk : k < 65) (hlo : -2048 ≤ v) (hhi : v ≤ 2047) :
    s.convert [(k, v)] = ((s.storeTemp k v).heated [(k, v)]).cooled.judged k := by
  have hclamp : clampInt (-2048) 2047 v = v := by
    unfold clampInt
    omega
  have hreadings : (([(k, v)] : List (Nat × Int)).filter fun p => p.1 < 65).map (fun p => (p.1, clampInt (-2048) 2047 p.2)) = [(k, v)] := by
    simp [hk, hclamp]
  unfold State.convert
  rw [hreadings]
  unfold State.judged
  rw [State.cooled_fault]
  have hsensor : ([(k, v)].any fun p => decide (p.1 = 64)) = decide (k = 64) := Bool.or_false _
  simp only [hsensor, decide_eq_true_eq]
  rfl

theorem hotCauses_lt {crit warm : List Nat} : ∀ p ∈ hotCauses crit warm, p.1 < 128 := by
  intro p hp
  simp only [hotCauses, List.mem_append, List.mem_map] at hp
  obtain ⟨_, _, rfl⟩ | ⟨_, _, rfl⟩ := hp
  · exact Nat.lt_of_lt_of_le (by decide : 7 < 128) (Nat.le_refl _)
  · exact Nat.lt_of_lt_of_le (by decide : 10 < 128) (Nat.le_refl _)

theorem State.judgeFerr_writes : State.WritesObjects reactionObjects s s.judgeFerr := by
  unfold State.judgeFerr
  extract_lets lim
  have hraised : State.WritesObjects reactionObjects s ({ s with timing := { s.timing with ferrRaised := true } } : State) :=
    State.WritesObjects.refl.beside rfl
  exact .ite (hraised.trans State.report_writes) .refl

theorem State.followFerr_writes : State.WritesObjects (0x2012 :: reactionObjects) s s.followFerr :=
  .ite ((State.WritesObjects.set (F := TC_COAST_FERR_EST) (by decide) .refl).trans (State.judgeFerr_writes.mono (by decide))) .refl

theorem State.judgeFerr_sensors : s.judgeFerr.fault.crit = s.fault.crit ∧ s.judgeFerr.fault.warm = s.fault.warm := by
  unfold State.judgeFerr
  dsimp only
  split
  · have h := State.report_besideReaction (s := { s with timing := { s.timing with ferrRaised := true } })
      (rs := [{ src := 17, unit := unitDevice, wire := false }])
    have hcrit := congrArg (fun t : State => t.fault.crit) h
    have hwarm := congrArg (fun t : State => t.fault.warm) h
    exact ⟨hcrit, hwarm⟩
  · exact ⟨rfl, rfl⟩

theorem State.followFerr_sensors : s.followFerr.fault.crit = s.fault.crit ∧ s.followFerr.fault.warm = s.fault.warm := by
  unfold State.followFerr
  split
  · exact State.judgeFerr_sensors
  · exact ⟨rfl, rfl⟩

theorem State.raiseLevels_sensors {l : List (Nat × Nat)} :
    (s.raiseLevels l).fault.crit = s.fault.crit ∧ (s.raiseLevels l).fault.warm = s.fault.warm := by
  have h := State.raiseLevels_besideReaction (s := s) (l := l)
  have hcrit := congrArg (fun t : State => t.fault.crit) h
  have hwarm := congrArg (fun t : State => t.fault.warm) h
  exact ⟨hcrit, hwarm⟩

theorem State.judged_sensors {k : Nat} : (s.judged k).fault.crit = s.fault.crit ∧ (s.judged k).fault.warm = s.fault.warm := by
  obtain ⟨hcrit, hwarm⟩ := State.raiseLevels_sensors (s := s) (l := hotCauses s.fault.crit s.fault.warm)
  unfold State.judged
  split
  · exact ⟨State.followFerr_sensors.1.trans hcrit, State.followFerr_sensors.2.trans hwarm⟩
  · exact ⟨hcrit, hwarm⟩

/-- The objects that the collector and the estimate write. -/
def judgedObjects : List Nat := 0x2012 :: 0x7007 :: reactionObjects

theorem State.judged_writes {k : Nat} : State.WritesObjects judgedObjects s (s.judged k) := by
  have hraised : State.WritesObjects judgedObjects s (s.raiseLevels (hotCauses s.fault.crit s.fault.warm)) :=
    (State.raiseLevels_writes hotCauses_lt).mono (by decide)
  exact .ite (hraised.trans (State.followFerr_writes.mono (by decide))) hraised

theorem State.judged_quiet {k : Nat} (hcrit : s.fault.crit = []) (hwarm : s.fault.warm = []) (hk : k < 64) : s.judged k = s := by
  unfold State.judged
  rw [if_neg (by omega), hcrit, hwarm]
  exact State.raiseLevels_nil

/-- What one conversion of one sensor leaves (R325). -/
structure State.Converts (s u : State) (k : Nat) (v : Int) : Prop where
  temp : u.sensorTemp k = v
  max : u.getI TH_MAX_TEMP = if s.getI TH_MAX_TEMP = 0 then v else max v (s.getI TH_MAX_TEMP)
  crit : u.fault.crit = hotSensors (s.get TH_LIMITS_CRIT) s.fault.crit [(k, v)]
  warm : u.fault.warm = hotSensors (s.get TH_LIMITS_WARN) s.fault.warm [(k, v)]
  lanes : u.fault.crit = [] → u.fault.warm = [] → k < 64 → u.lanes = s.lanes

theorem State.storeTemp_beside {k : Nat} {v : Int} : (s.storeTemp k v).fault = s.fault ∧ (s.storeTemp k v).lanes = s.lanes := by
  have hsensor : (s.sensorStored k v).fault = s.fault ∧ (s.sensorStored k v).lanes = s.lanes := by
    unfold State.sensorStored
    dsimp only
    split
    · split <;> exact ⟨rfl, rfl⟩
    · exact ⟨rfl, rfl⟩
  rw [State.storeTemp_eq]
  unfold State.maxFollows
  split
  · exact hsensor
  · exact hsensor

theorem State.convert_converts {k : Nat} {v : Int} (hok : s.ok) (hk : k < 65) (hlo : -2048 ≤ v) (hhi : v ≤ 2047) :
    State.Converts s (s.convert [(k, v)]) k v := by
  rw [State.convert_one hk hlo hhi]
  obtain ⟨hstored, htemp, hmax, hlimCrit, hlimWarn⟩ := State.storeTemp_reads (k := k) hok hlo hhi
  obtain ⟨hfault, hlanes⟩ := State.storeTemp_beside (s := s) (k := k) (v := v)
  have hheat : ((s.storeTemp k v).heated [(k, v)]).fault.crit = hotSensors (s.get TH_LIMITS_CRIT) s.fault.crit [(k, v)] ∧
      ((s.storeTemp k v).heated [(k, v)]).fault.warm = hotSensors (s.get TH_LIMITS_WARN) s.fault.warm [(k, v)] := by
    unfold State.heated
    dsimp only
    rw [hlimCrit, hlimWarn, hfault]
    exact ⟨rfl, rfl⟩
  have hobjs : ((s.storeTemp k v).heated [(k, v)]).objs = (s.storeTemp k v).objs := rfl
  have hheatLanes : ((s.storeTemp k v).heated [(k, v)]).lanes = s.lanes := hlanes
  generalize (s.storeTemp k v).heated [(k, v)] = h at *
  have hhok : h.ok := State.ok_of_objs hstored hobjs
  have hcool := State.cooled_writes (s := h)
  have hcoolFault := State.cooled_fault (s := h)
  have hcoolLanes := State.cooled_lanes (s := h)
  generalize h.cooled = c at *
  have hc : State.WritesObjects judgedObjects h (c.judged k) := (hcool.mono (by decide)).trans State.judged_writes
  obtain ⟨hcrit, hwarm⟩ := State.judged_sensors (s := c) (k := k)
  rw [hcoolFault] at hcrit hwarm
  refine ⟨?_, ?_, hcrit.trans hheat.1, hwarm.trans hheat.2, fun hquiet hcold hk => ?_⟩
  · refine (State.sensorTemp_of_writes hc hhok fun i hi => ?_).trans ?_
    · simp only [judgedObjects, reactionObjects, List.contains_eq_mem, List.mem_cons, List.not_mem_nil, or_false,
        decide_eq_false_iff_not]
      omega
    · simp only [State.sensorTemp, State.rdI, State.getI, State.rd_congr hobjs]
      exact htemp
  · exact (congrArg (signedOf 12) ((hc.get (G := TH_MAX_TEMP) hhok (by decide)).trans (State.rd_congr hobjs _ _))).trans hmax
  · rw [State.judged_quiet (by rw [hcoolFault, ← hcrit, hquiet]) (by rw [hcoolFault, ← hwarm, hcold]) hk]
    exact hcoolLanes.trans hheatLanes

/-! The regulator's alert (R326). -/

theorem State.pmbusAlert_none {status : Nat} (h : s.on SM_STATUS_ALERT = true ∨ s.rst.held ≠ []) : s.pmbusAlert status = s :=
  if_pos (by rcases h with h | h <;> simp [h])

theorem State.pmbusAlert_eq {status : Nat} (hu : u = (s.set SM_STATUS_ALERT 1).raiseLevel 12 unitDevice)
    (hclear : s.on SM_STATUS_ALERT = false) (hheld : s.rst.held = []) :
    s.pmbusAlert status = if u.perf.op.isSome || !u.perf.asked then { u with perf := { u.perf with statusDue := true } }
      else u.set SM_ALERT_STATUS_WORD (status % 65536) := by
  subst hu
  exact if_neg (by simp [hclear, hheld])

end Sys2Proof.Machine

namespace Sys2Proof
open Machine

/-- Settles O46: each command of the supply monitor, the temperature sensors and the regulator's alert is one function of
the model; a report that ends it writes no reading and no sensor list. -/
theorem supplyAndTemperature : Obligations.SupplyAndTemperature := by
  intro s r lowest status t k v hwf hr
  have hok : s.ok := (Good.of_wf hwf).objs
  have hrail : r % 2 = r := Nat.mod_eq_of_lt hr
  have hcross : exec (.supplyWarningCross r lowest) s = .next (s.warningCross r lowest) :=
    congrArg (fun r => Host.Outcome.next (s.warningCross r lowest)) hrail
  have hdipped : exec (.supplyDipQualify r lowest) s = .next (s.dipQualify r lowest) :=
    congrArg (fun r => Host.Outcome.next (s.dipQualify r lowest)) hrail
  have hrecover : exec (.supplyRecover ⟨r, lowest⟩) s = .next (s.supplyRecover r lowest) :=
    congrArg (fun r => Host.Outcome.next (s.supplyRecover r lowest)) hrail
  have hreset : exec (.supplyResetLevel r) s = .next (s.resetLevel r) :=
    congrArg (fun r => Host.Outcome.next (s.resetLevel r)) hrail
  refine ⟨fun hlow => ⟨_, hcross, State.warningCross_reads hok hr hlow⟩,
    fun hlow => hcross.trans (congrArg _ (State.warningCross_low hlow)), fun hlow hdip hheld => ?_,
    fun h => hdipped.trans (congrArg _ (State.dipQualify_none h)),
    fun hlow hdip => hrecover.trans (congrArg _ (State.supplyRecover_glitch hlow hdip)), fun hlow hdip => ?_,
    fun hlow => hrecover.trans (congrArg _ (State.supplyRecover_high hlow)), fun hup hdue hcore htime hmarginal => ?_,
    fun hup hearly => congrArg Host.Outcome.next (State.marginalClear_early hup hearly),
    fun h => congrArg Host.Outcome.next (State.marginalClear_none h), fun hcold hbrown hnone => ⟨fun hlow => ?_, fun hlow => ?_⟩,
    fun h => hreset.trans (congrArg _ (State.resetLevel_held h)), fun hbrown => ?_,
    fun hnone => congrArg Host.Outcome.next (State.brownReset_none hnone), fun hheld hk hlo hhi => ?_,
    fun l hheld => congrArg Host.Outcome.next (if_neg hheld), fun u hu hclear hheld => ⟨fun h => ?_, fun hop hasked => ?_⟩,
    fun h => congrArg Host.Outcome.next (State.pmbusAlert_none h)⟩
  · have h := State.dipMarked_marks (lowest := lowest) hok hr
    exact ⟨_, hdipped.trans (congrArg _ (State.dipQualify_eq hlow hdip hheld)), h.marginal, h.dip, h.lowest, h.recoverUp,
      h.suspended, h.runs, h.step, h.resume, h.up, h.count⟩
  · obtain ⟨hupOk, huprail, hupframe, huplanes⟩ := State.railUp_reads hok hr
    obtain ⟨hkept, hrecovered, hns, hleast, hlanes⟩ := State.dipOver_reads (s := s.railUp r)
      (ns := (s.railUp r).nsSince (s.rail r).crossUp) (low := min (s.rail r).lowest lowest % 65536) hupOk hr
    have hsince : (s.railUp r).nsSince (s.rail r).crossUp = s.nsSince (s.rail r).crossUp :=
      congrArg (fun f : FrameSt => min ((2 * (f.up - (s.rail r).crossUp) + 3) / 6) 0xFFFFFFFF) hupframe
    exact ⟨_, hrecover.trans (congrArg _ (State.supplyRecover_dip hlow hdip)), hkept.trans huprail,
      hrecovered.trans (congrArg (fun f => some f.up) hupframe), hns.trans (congrArg (BitVec.ofNat 32) hsince), hleast,
      hlanes.trans huplanes⟩
  · refine ⟨_, congrArg Host.Outcome.next (State.marginalClear_due hup hdue hcore htime hmarginal), ?_, rfl, rfl, rfl⟩
    refine State.on_false_iff.mpr fun hset => ?_
    have hcleared : (s.set SM_STATUS_MARGINAL 0).rd SM_STATUS_MARGINAL 0 = 0 := State.rd_wr_eq ⟨hok, by decide⟩
    exact absurd (hcleared.symm.trans ((State.rd_congr rfl _ _).trans hset)) (by decide)
  · refine hreset.trans (congrArg Host.Outcome.next ((State.resetLevel_eq hcold hbrown hnone).trans ?_))
    have hstay : s.crossed r = s := if_pos hlow
    rw [hstay, State.brownSet_counted hok hr]
  · exact ⟨_, hreset.trans (congrArg _ (State.resetLevel_eq hcold hbrown hnone)), State.crossed_reads hok hr hlow⟩
  · have h := State.assertReset_reset (kind := kindBrown)
      (s := ({ s.passTo t with rst := { (s.passTo t).rst with rail := r + 1 } } : State))
    exact ⟨_, congrArg Host.Outcome.next (State.brownReset_due hbrown), h.held, h.rail, h.lanes, h.brown, h.dark, h.up⟩
  · have h := State.convert_converts hok hk hlo hhi
    exact ⟨_, congrArg Host.Outcome.next (if_pos hheld), h.temp, h.max, h.crit, h.warm, h.lanes⟩
  · refine congrArg Host.Outcome.next ((State.pmbusAlert_eq hu hclear hheld).trans (if_pos ?_))
    simpa using h
  · refine congrArg Host.Outcome.next ((State.pmbusAlert_eq hu hclear hheld).trans (if_neg ?_))
    simp [hop, hasked]

end Sys2Proof
end

section
/-! SUPPORT. FC_CLEAR and TI_INJECT (R312, R314, R327). -/

namespace Sys2Proof.Machine


variable {s t : State} {F : Field} {src n k : Nat} {b : Bool} {v : Word}

/-! Bits by source (R304). -/

/-- A field that fills its words, one bit a source. -/
def Field.isWord (F : Field) : Bool := Nat.beq F.lo 0 && Nat.beq F.hi 31

/-- The word of a source's bit, the bit set or cleared. -/
def setBitOf (w src : Nat) (b : Bool) : Nat := if b then w ||| 2 ^ (src % 32) else w ^^^ (w &&& 2 ^ (src % 32))

theorem setBitOf_testBit {w : Nat} {i : Nat} (hi : i < 32) :
    (setBitOf w src b % 2 ^ 32).testBit i = if i = src % 32 then b else w.testBit i := by
  have hpow : (2 ^ (src % 32)).testBit i = decide (src % 32 = i) := Nat.testBit_two_pow
  rw [Nat.testBit_mod_two_pow]
  unfold setBitOf
  by_cases hsame : i = src % 32
  · subst hsame
    cases b <;> simp [Nat.testBit_xor, Nat.testBit_and, Nat.testBit_or, hi]
  · have hother : ¬ src % 32 = i := fun h => hsame h.symm
    cases b <;> simp [Nat.testBit_xor, Nat.testBit_and, Nat.testBit_or, hpow, hi, hsame, hother]

theorem State.rd_setSourceBit (h : s.ok ∧ F.isWord = true) :
    (s.setSourceBit F src b).rd F (src / 32) = setBitOf (s.rd F (src / 32)) src b % 2 ^ 32 := by
  obtain ⟨hok, hword⟩ := h
  obtain ⟨hlo, hhi⟩ := Bool.and_eq_true_iff.mp hword
  have hlo : F.lo = 0 := Nat.eq_of_beq_eq_true hlo
  have hhi : F.hi = 31 := Nat.eq_of_beq_eq_true hhi
  refine (State.rd_wr_eq ⟨hok, by simp [Field.fits, hlo, hhi]⟩).trans ?_
  rw [hlo, hhi]
  rfl

theorem State.sourceBit_setSourceBit (h : s.ok ∧ F.isWord = true) : (s.setSourceBit F src b).sourceBit F src = b := by
  unfold State.sourceBit
  rw [State.rd_setSourceBit h, setBitOf_testBit (Nat.mod_lt _ (by decide)), if_pos rfl]

theorem State.sourceBit_setSourceBit_other (h : s.ok ∧ F.isWord = true) (hne : k ≠ src) :
    (s.setSourceBit F src b).sourceBit F k = s.sourceBit F k := by
  unfold State.sourceBit
  by_cases hword : k / 32 = src / 32
  · rw [hword, State.rd_setSourceBit h, setBitOf_testBit (Nat.mod_lt _ (by decide)), if_neg (by omega)]
  · have hkey : objKey F.index (F.sub + k / 32) ≠ objKey F.index (F.sub + src / 32) := by
      unfold objKey
      omega
    exact congrArg (fun w : Nat => w.testBit (k % 32)) (State.rd_wr_other h.1 (.inl hkey))

/-! Clearing (R314). -/

theorem State.clearSource_objs : (s.clearSource src).objs = (s.setSourceBit FC_STICKY_BITS src false).objs := rfl

theorem State.clearSource_sticky (hok : s.ok) : (s.clearSource src).sourceBit FC_STICKY_BITS src = false :=
  (congrArg (fun w : Nat => w.testBit (src % 32)) (State.rd_congr State.clearSource_objs _ _)).trans
    (State.sourceBit_setSourceBit ⟨hok, rfl⟩)

theorem State.clearSource_sticky_other (hok : s.ok) (hne : k ≠ src) :
    (s.clearSource src).sourceBit FC_STICKY_BITS k = s.sourceBit FC_STICKY_BITS k :=
  (congrArg (fun w : Nat => w.testBit (k % 32)) (State.rd_congr State.clearSource_objs _ _)).trans
    (State.sourceBit_setSourceBit_other ⟨hok, rfl⟩ hne)

theorem State.clearSource_count (hok : s.ok) (hsrc : src < 128) : (s.clearSource src).rd FC_COUNT_COUNT k = s.rd FC_COUNT_COUNT k := by
  refine (State.rd_congr State.clearSource_objs _ _).trans (State.rd_wr_other hok (.inl ?_))
  show 0x7004 * 65536 + (0 + k) ≠ 0x7003 * 65536 + (0 + src / 32)
  omega

theorem State.settleStatus_degraded (hok : s.ok) (h : s.fault.taken = 0) : s.settleStatus.on FC_STATUS_DEGRADED = false := by
  have hclear : ∀ t : State, t.rd FC_STATUS_DEGRADED 0 = 0 → t.on FC_STATUS_DEGRADED = false := fun t h =>
    State.on_false_iff.mpr (by omega)
  have hset : (s.set FC_STATUS_DEGRADED 0).rd FC_STATUS_DEGRADED 0 = 0 := State.rd_wr_eq ⟨hok, by decide⟩
  unfold State.settleStatus
  rw [if_pos h]
  dsimp only
  split
  · exact hclear _ ((State.rd_wr_apart ⟨State.wr_ok hok, by decide⟩).trans hset)
  · exact hclear _ hset

/-! FC_CLEAR (R312, R314). -/

/-- The sources of a list that no longer report are cleared. -/
def State.clearEnded (s : State) (l : List Nat) : State :=
  (l.filter fun k => !s.sourceBit FC_ACTIVE_BITS k).foldl State.clearSource s

theorem State.wFcClear_source (hall : v.bits 31 31 = 0) (hfirst : v.bits 30 30 = 0)
    (hended : s.sourceBit FC_ACTIVE_BITS (v.bits 6 0) = false) : s.wFcClear v = (stOk, (s.clearSource (v.bits 6 0)).settleStatus) := by
  unfold State.wFcClear
  simp [hall, hfirst, hended]

theorem State.wFcClear_reporting (hall : v.bits 31 31 = 0) (hfirst : v.bits 30 30 = 0)
    (hactive : s.sourceBit FC_ACTIVE_BITS (v.bits 6 0) = true) : s.wFcClear v = (stState, s) := by
  unfold State.wFcClear
  simp [hall, hfirst, hactive]

theorem State.wFcClear_all (hall : v.bits 31 31 = 1) (hfirst : v.bits 30 30 = 0) :
    s.wFcClear v = (stOk, (s.clearEnded (List.range 128)).settleStatus) := by
  unfold State.wFcClear
  simp [hall, hfirst, State.clearEnded]

theorem State.wFcClear_all_first (hall : v.bits 31 31 = 1) (hfirst : v.bits 30 30 = 1) (hsafe : s.get SF_STATE_STATE = 0)
    (hwindow : s.fault.window = none) : s.wFcClear v = (stOk, (s.clearEnded (List.range 128)).emptyFirst.settleStatus) := by
  unfold State.wFcClear
  simp [hall, hfirst, hsafe, hwindow, State.clearEnded]

theorem State.wFcClear_first (hall : v.bits 31 31 = 0) (hfirst : v.bits 30 30 = 1) (hsafe : s.get SF_STATE_STATE = 0)
    (hwindow : s.fault.window = none) : s.wFcClear v = (stOk, s.emptyFirst.settleStatus) := by
  unfold State.wFcClear
  simp [hall, hfirst, hsafe, hwindow]

theorem State.wFcClear_first_refused (hfirst : v.bits 30 30 = 1)
    (h : s.get SF_STATE_STATE ≠ 0 ∨ s.fault.window.isSome = true) : s.wFcClear v = (stState, s) := by
  unfold State.wFcClear
  rcases h with h | h
  · simp [hfirst, h]
  · simp [hfirst, h]

/-! TI_INJECT (R327). -/

/-- A source whose floor is S4 and that the word does not allow to be injected. -/
def State.injectsFatal (s : State) (v : Word) : Bool :=
  s.rd FC_CFG_FLOOR (v.bits 6 0) = 4 && !(v.bits 30 30 = 1 && s.modeNow = modeBoot)

theorem State.injectsFatal_false (h : s.rd FC_CFG_FLOOR (v.bits 6 0) ≠ 4 ∨ (v.bits 30 30 = 1 ∧ s.modeNow = modeBoot)) :
    s.injectsFatal v = false := by
  unfold State.injectsFatal
  rcases h with h | ⟨hallow, hboot⟩
  · simp [h]
  · simp [hallow, hboot]

theorem State.injectsFatal_true (hfloor : s.rd FC_CFG_FLOOR (v.bits 6 0) = 4) (h : v.bits 30 30 = 0 ∨ s.modeNow ≠ modeBoot) :
    s.injectsFatal v = true := by
  unfold State.injectsFatal
  rcases h with h | h
  · simp [hfloor, h]
  · simp [hfloor, h]

/-- TI_STATUS names a pending injection. -/
def State.injectTold (s : State) (src count : Nat) : State :=
  ((s.set TI_STATUS_PENDING 1).set TI_STATUS_REMAINING count).set TI_STATUS_SOURCE src

/-- An injection counted and held, its status told. -/
def State.injectHeld (s : State) (inv : Nat) : State :=
  { s.bump TI_COUNT_COUNT with fault := { s.fault with invert := inv, injUp := s.frame.up, hit := none } }

/-- An injection pending on a source, before its record. -/
def State.injecting (s : State) (src count inv : Nat) : State := (s.injectTold src count).injectHeld inv

/-- An injection accepted and posted. -/
def State.injectPosted (s : State) (src count inv : Nat) : State :=
  (s.injecting src count inv).post 0xA0 src (payloadOf [(src, 56), (inv, 48), (count, 40)])

theorem State.injectTold_reads {count : Nat} (hok : s.ok) (hsrc : src < 2 ^ 7) (hcount : count < 2 ^ 8) :
    (s.injectTold src count).ok ∧ (s.injectTold src count).on TI_STATUS_PENDING = true ∧
      (s.injectTold src count).get TI_STATUS_REMAINING = count ∧ (s.injectTold src count).get TI_STATUS_SOURCE = src := by
  have hpending : (s.set TI_STATUS_PENDING 1).ok := State.wr_ok hok
  have hremaining : ((s.set TI_STATUS_PENDING 1).set TI_STATUS_REMAINING count).ok := State.wr_ok hpending
  refine ⟨State.wr_ok hremaining, State.on_iff.mpr ((State.rd_wr_apart ⟨hremaining, by decide⟩).trans ?_),
    (State.rd_wr_apart ⟨hremaining, by decide⟩).trans ?_, ?_⟩
  · exact (State.rd_wr_apart ⟨hpending, by decide⟩).trans (State.rd_wr_eq ⟨hok, by decide⟩)
  · exact (State.rd_wr_eq ⟨hpending, by decide⟩).trans (Nat.mod_eq_of_lt hcount)
  · exact (State.rd_wr_eq ⟨hremaining, by decide⟩).trans (Nat.mod_eq_of_lt hsrc)

theorem State.injectTold_frame {count : Nat} : (s.injectTold src count).frame = s.frame := rfl

theorem State.injectTold_lanes {count : Nat} : (s.injectTold src count).lanes = s.lanes := rfl

theorem State.injectHeld_writes {inv : Nat} : State.WritesObjects [0x7C02] s (s.injectHeld inv) := by
  have h : State.WritesObjects [0x7C02] s (s.bump TI_COUNT_COUNT) := .bump (by decide) .refl
  exact h.beside rfl

theorem State.injectHeld_fault {inv : Nat} :
    (s.injectHeld inv).fault = { s.fault with invert := inv, injUp := s.frame.up, hit := none } := rfl

theorem State.injectHeld_lanes {inv : Nat} : (s.injectHeld inv).lanes = s.lanes := rfl

theorem State.injecting_reads {count inv : Nat} (hok : s.ok) (hsrc : src < 2 ^ 7) (hcount : count < 2 ^ 8) :
    (s.injecting src count inv).ok ∧ (s.injecting src count inv).on TI_STATUS_PENDING = true ∧
      (s.injecting src count inv).get TI_STATUS_REMAINING = count ∧ (s.injecting src count inv).get TI_STATUS_SOURCE = src ∧
      (s.injecting src count inv).fault.invert = inv ∧ (s.injecting src count inv).fault.injUp = s.frame.up ∧
      (s.injecting src count inv).lanes = s.lanes := by
  obtain ⟨htok, hpending, hremaining, hsource⟩ := State.injectTold_reads hok hsrc hcount
  have hframe := State.injectTold_frame (s := s) (src := src) (count := count)
  have hlanes := State.injectTold_lanes (s := s) (src := src) (count := count)
  unfold State.injecting
  generalize s.injectTold src count = t at *
  have h := State.injectHeld_writes (s := t) (inv := inv)
  have hfault := State.injectHeld_fault (s := t) (inv := inv)
  have hkept := State.injectHeld_lanes (s := t) (inv := inv)
  generalize t.injectHeld inv = u at *
  exact ⟨(h htok).1, (h.on htok (by decide)).trans hpending, (h.get htok (by decide)).trans hremaining,
    (h.get htok (by decide)).trans hsource, congrArg FaultSt.invert hfault,
    (congrArg FaultSt.injUp hfault).trans (congrArg FrameSt.up hframe), hkept.trans hlanes⟩

theorem State.injectPosted_reads {count inv : Nat} (hok : s.ok) (hsrc : src < 2 ^ 7) (hcount : count < 2 ^ 8) :
    (s.injectPosted src count inv).on TI_STATUS_PENDING = true ∧
      (s.injectPosted src count inv).get TI_STATUS_REMAINING = count ∧ (s.injectPosted src count inv).get TI_STATUS_SOURCE = src ∧
      (s.injectPosted src count inv).fault.invert = inv ∧ (s.injectPosted src count inv).fault.injUp = s.frame.up ∧
      (s.injectPosted src count inv).lanes = s.lanes := by
  obtain ⟨htok, hpending, hremaining, hsource, hinvert, hup, hlanes⟩ := State.injecting_reads (inv := inv) hok hsrc hcount
  unfold State.injectPosted
  generalize s.injecting src count inv = t at *
  have hwrites := State.post_writes (s := t) (code := 0xA0) (src := src) (payload := payloadOf [(src, 56), (inv, 48), (count, 40)])
  have hkept := State.post_keeps (s := t) (code := 0xA0) (src := src) (payload := payloadOf [(src, 56), (inv, 48), (count, 40)])
  generalize t.post 0xA0 src (payloadOf [(src, 56), (inv, 48), (count, 40)]) = u at *
  refine ⟨State.on_iff.mpr ((hwrites.rd htok (by decide)).trans (State.on_iff.mp hpending)), (hwrites.rd htok (by decide)).trans hremaining,
    (hwrites.rd htok (by decide)).trans hsource, ?_, ?_, ?_⟩
  · rw [hkept]; exact hinvert
  · rw [hkept]; exact hup
  · rw [hkept]; exact hlanes

theorem State.wTiInject_none (h : v.bits 31 31 = 0) : s.wTiInject v = (stOk, s) := if_pos h

theorem State.wTiInject_state (hgo : v.bits 31 31 = 1) (h : 0 < s.injLeft ∨ s.modeNow = modeSafe ∨
    (sourceUnits (v.bits 6 0)).all (s.masked (v.bits 6 0)) = true) : s.wTiInject v = (stState, s) := by
  refine (if_neg (by omega)).trans (if_pos ?_)
  rcases h with h | h | h
  · simp [h]
  · simp [h]
  · rw [h, Bool.or_true]

/-- The state lets an injection in. -/
def State.injectable (s : State) (v : Word) : Prop :=
  v.bits 31 31 = 1 ∧ s.injLeft = 0 ∧ s.modeNow ≠ modeSafe ∧ (sourceUnits (v.bits 6 0)).all (s.masked (v.bits 6 0)) = false

theorem State.wTiInject_injectable (h : s.injectable v) : s.wTiInject v =
    if reservedSource (v.bits 6 0) || v.bits 23 16 = 0 || v.bits 9 8 = 0 || s.injectsFatal v then (stRange, s)
    else (stOk, s.injectPosted (v.bits 6 0) (v.bits 23 16) (v.bits 9 8)) := by
  obtain ⟨hgo, hleft, hmode, hmasked⟩ := h
  refine (if_neg (by omega)).trans (if_neg ?_)
  rw [hmasked]
  simp [hleft, hmode]

end Sys2Proof.Machine

namespace Sys2Proof
open Machine

/-- Settles O44: FC_CLEAR and TI_INJECT by the branches of their rules, and one source's clearing by its sticky bit. -/
theorem faultClears : Obligations.FaultClears := by
  intro s w hwf
  have hok : s.ok := (Good.of_wf hwf).objs
  refine ⟨fun v hv hadm => ?_, fun k hk => ⟨State.clearSource_sticky hok, fun j _ hne => State.clearSource_sticky_other hok hne, rfl,
    fun j => State.clearSource_count hok hk⟩, State.settleStatus_degraded hok, fun v hv hadm => ?_⟩
  · subst hv
    refine ⟨fun hall hfirst hended => ?_, fun hall hfirst hactive => ?_, fun u hu hall => ?_, fun hall hfirst hsafe hwindow => ?_,
      fun hfirst h => ?_⟩
    · exact exec_accepted rfl hadm ((State.objectRule_7005 ..).trans (State.wFcClear_source hall hfirst hended)) rfl
    · exact exec_refused_uncounted rfl hadm ((State.objectRule_7005 ..).trans (State.wFcClear_reporting hall hfirst hactive)) rfl
        (by decide) (by decide)
    · subst hu
      refine ⟨fun hfirst => ?_, fun hfirst hsafe hwindow => ?_⟩
      · exact exec_accepted rfl hadm ((State.objectRule_7005 ..).trans (State.wFcClear_all hall hfirst)) rfl
      · exact exec_accepted rfl hadm ((State.objectRule_7005 ..).trans (State.wFcClear_all_first hall hfirst hsafe hwindow)) rfl
    · exact exec_accepted rfl hadm ((State.objectRule_7005 ..).trans (State.wFcClear_first hall hfirst hsafe hwindow)) rfl
    · exact exec_refused_uncounted rfl hadm ((State.objectRule_7005 ..).trans (State.wFcClear_first_refused hfirst h)) rfl
        (by decide) (by decide)
  · subst hv
    refine ⟨fun hgo => ?_, fun hgo => ⟨fun h => ?_, fun hleft hmode hmasked => ?_⟩⟩
    · exact exec_accepted rfl hadm ((State.objectRule_7C00 ..).trans (State.wTiInject_none hgo)) rfl
    · exact exec_refused_uncounted rfl hadm ((State.objectRule_7C00 ..).trans (State.wTiInject_state hgo h)) rfl
        (by decide) (by decide)
    · have hrule := State.wTiInject_injectable ⟨hgo, hleft, hmode, hmasked⟩
      refine ⟨fun hsource hcount hinvert hfloor => ?_, fun h => ?_⟩
      · have hreads := State.injectPosted_reads (inv := (Safety.valueOf s w 0x7C00 0).bits 9 8) hok
          (Word.bits_lt (Safety.valueOf s w 0x7C00 0) 6 0) (Word.bits_lt (Safety.valueOf s w 0x7C00 0) 23 16)
        refine ⟨_, exec_accepted rfl hadm ((State.objectRule_7C00 ..).trans (hrule.trans (if_neg ?_))) rfl, hreads⟩
        simp [hsource, hcount, hinvert, State.injectsFatal_false hfloor]
      · refine exec_refused_uncounted rfl hadm ((State.objectRule_7C00 ..).trans (hrule.trans (if_pos ?_))) rfl
          (by decide) (by decide)
        rcases h with h | h | h | ⟨hfloor, h⟩
        · simp [h]
        · simp [h]
        · simp [h]
        · simp [State.injectsFatal_true hfloor h]

end Sys2Proof
end

section
/-! SUPPORT. SF_RELEASE and the end of the safe state (R280, R320). -/

namespace Sys2Proof.Machine


variable {s t : State} {cs : List Instr} {v : Word} {k : Nat}

/-! The mode that follows the safe state (R280). -/

theorem State.modeAfter_boot (h : s.get TB_STATUS_STATE ≤ 1 ∨ s.mode.safeFrom = modeBoot) : s.modeAfter = modeBoot :=
  if_pos (h.imp_right .inl)

theorem State.modeAfter_service (htime : 2 ≤ s.get TB_STATUS_STATE) (hfrom : s.mode.safeFrom = modeService) :
    s.modeAfter = if s.coasting then modeHoldover else modeService := by
  have hrunning : ¬ (s.get TB_STATUS_STATE ≤ 1 ∨ s.mode.safeFrom = modeBoot ∨ s.mode.safeFrom = modeDormant) := by
    rw [hfrom]
    exact fun h => h.elim (fun h => absurd h (by omega)) (fun h => absurd h (by decide))
  exact if_neg hrunning

theorem State.modeAfter_lt : s.modeAfter < 16 := by
  unfold State.modeAfter
  split
  · decide
  · split
    · decide
    · decide

/-! The end of the safe state (R320). -/

/-- The state bit clear, FLT as the reset hold leaves it, no release waiting. -/
def State.safeCleared (s : State) : State :=
  { s.set SF_STATE_STATE 0 with safe := { s.safe with flt := s.safe.hold, release := none } }

/-- The gate words of CM_STATE dark. -/
def State.gatesDark (s : State) : State := State.each 8 (fun k s => s.setWord 0x5204 (0x80 + k) 0xFFFFFFFF) s

/-- The record of the end, with the mode that follows. -/
def State.endTold (s : State) (new : Nat) : State :=
  s.post 0x41 0 (payloadOf [(new, 56), (s.get SF_STATE_CAUSE, 48), (s.usSince s.mode.safeUp, 0)])

/-- The safe state ended, before the mode moves. -/
def State.safeEnded (s : State) : State := s.safeCleared.gatesDark.endTold s.modeAfter

/-- What the end of the safe state leaves before the mode moves. -/
structure State.SafeEnds (s t : State) : Prop where
  ok : t.ok
  state : t.get SF_STATE_STATE = 0
  gates : ∀ k, k < 8 → t.word 0x5204 (0x80 + k) = 0xFFFFFFFF
  safe : t.safe = { s.safe with flt := s.safe.hold, release := none }
  lanes : t.lanes = s.lanes
  frame : t.frame = s.frame
  mode : t.mode = s.mode

theorem State.safeCleared_writes : State.WritesObjects [0x7100] s s.safeCleared := by
  have h : State.WritesObjects [0x7100] s (s.set SF_STATE_STATE 0) := .set (by decide) .refl
  exact h.beside rfl

theorem State.safeCleared_state (hok : s.ok) : s.safeCleared.get SF_STATE_STATE = 0 :=
  (State.rd_congr (s := s.set SF_STATE_STATE 0) rfl _ _).trans (State.rd_wr_eq ⟨hok, by decide⟩)

theorem State.safeEnded_ends (hok : s.ok) : State.SafeEnds s s.safeEnded := by
  have hcleared : s.safeCleared.ok := (State.safeCleared_writes hok).1
  have hstate := State.safeCleared_state hok
  have hbeside : s.safeCleared.safe = { s.safe with flt := s.safe.hold, release := none } ∧ s.safeCleared.lanes = s.lanes ∧
      s.safeCleared.frame = s.frame ∧ s.safeCleared.mode = s.mode := ⟨rfl, rfl, rfl, rfl⟩
  unfold State.safeEnded
  generalize s.safeCleared = t at *
  obtain ⟨hdarkOk, hdark⟩ := State.each_setWord_reads (i := 0x5204) (lo := 0x80) (n := 8) (v := 0xFFFFFFFF) hcleared (by decide)
  have hdarkWrites := State.each_setWord_writes (s := t) (i := 0x5204) (lo := 0x80) (n := 8) (v := 0xFFFFFFFF) (by decide)
  have hdarkKept := State.each_setWord_beside (s := t) (i := 0x5204) (lo := 0x80) (n := 8) (v := 0xFFFFFFFF)
  unfold State.gatesDark
  generalize State.each 8 (fun k s => s.setWord 0x5204 (0x80 + k) 0xFFFFFFFF) t = u at *
  obtain ⟨hsafe, hlanes, hframe, hmode⟩ := hbeside
  unfold State.endTold
  generalize payloadOf [(s.modeAfter, 56), (u.get SF_STATE_CAUSE, 48), (u.usSince u.mode.safeUp, 0)] = payload
  have hpost := State.post_writes (s := u) (code := 0x41) (src := 0) (payload := payload)
  have hpostKept := State.post_keeps (s := u) (code := 0x41) (src := 0) (payload := payload)
  have hpostObjects : State.WritesObjects [0x260A, 0x260B] u (u.post 0x41 0 payload) := .of_writes hpost (by decide)
  generalize u.post 0x41 0 payload = x at *
  have hkept : x.safe = t.safe ∧ x.lanes = t.lanes ∧ x.frame = t.frame ∧ x.mode = t.mode := by
    rw [hpostKept, hdarkKept]
    exact ⟨rfl, rfl, rfl, rfl⟩
  obtain ⟨hxsafe, hxlanes, hxframe, hxmode⟩ := hkept
  exact {
    ok := (hpost hdarkOk).1
    state := ((hpostObjects.get hdarkOk (by decide)).trans (hdarkWrites.get hcleared (by decide))).trans hstate
    gates := fun k hk => (hpostObjects.word hdarkOk (by decide) (by omega)).trans (hdark k hk)
    safe := hxsafe.trans hsafe
    lanes := hxlanes.trans hlanes
    frame := hxframe.trans hframe
    mode := hxmode.trans hmode }

theorem State.endSafe_eq : s.endSafe =
    if s.safeEnded.mode.safeFrom = modeDormant && !s.safeEnded.frame.running then s.safeEnded.beginExit
    else if s.safeEnded.mode.safeFrom = modeDormant then (s.safeEnded.wakeNeap.setMode s.modeAfter 9).recallEntry
    else s.safeEnded.setMode s.modeAfter 9 := rfl

theorem State.endSafe_awake (hok : s.ok) (h : s.mode.safeFrom ≠ modeDormant) : s.endSafe = s.safeEnded.setMode s.modeAfter 9 := by
  have hends := State.safeEnded_ends hok
  rw [State.endSafe_eq, hends.mode, if_neg (by simp [h]), if_neg h]

theorem State.endSafe_dormant (hok : s.ok) (h : s.mode.safeFrom = modeDormant) (hstopped : s.frame.running = false) :
    s.endSafe = s.safeEnded.beginExit := by
  have hends := State.safeEnded_ends hok
  rw [State.endSafe_eq, hends.mode, hends.frame, if_pos (by simp [h, hstopped])]

theorem State.safeEnded_good (hg : Good cs s) : Good cs s.safeEnded := by
  unfold State.safeEnded State.gatesDark State.endTold
  refine State.post_good (State.each_good ?_ fun t k ht => State.setWord_good ht)
  exact Good.of_mk (State.set_good hg) rfl rfl rfl rfl rfl rfl rfl rfl rfl rfl rfl rfl rfl

theorem State.startSearch_beside : s.startSearch.lanes = s.lanes ∧ s.startSearch.safe = s.safe := by
  unfold State.startSearch
  split
  · simp [State.enterPhase]
  · exact ⟨rfl, rfl⟩

theorem State.beginExit_beside : s.beginExit.lanes = s.lanes ∧ s.beginExit.safe = s.safe := by
  have hbegun : s.exitBegun.lanes = s.lanes ∧ s.exitBegun.safe = s.safe := ⟨rfl, rfl⟩
  rw [State.beginExit_eq]
  generalize s.exitBegun = t at *
  have hsearch := State.startSearch_beside (s := t.set TC_STATUS_STATE 1)
  generalize (t.set TC_STATUS_STATE 1).startSearch = x at *
  have hwake := (State.wakeNeap_keepsPower (s := x)).1
  exact ⟨(congrArg State.lanes hwake :).trans (hsearch.1.trans hbegun.1), (congrArg State.safe hwake :).trans (hsearch.2.trans hbegun.2)⟩

/-- The end of the safe state outside DORMANT. -/
structure State.SafeLeft (s u : State) : Prop where
  state : u.get SF_STATE_STATE = 0
  safe : u.safe = { s.safe with flt := s.safe.hold, release := none }
  mode : u.modeNow = s.modeAfter
  cause : u.get MD_MODE_CAUSE = 9
  gates : ∀ k, k < 8 → u.word 0x5204 (0x80 + k) = 0xFFFFFFFF
  lanes : u.lanes = s.lanes

theorem State.endSafe_left (hok : s.ok) (h : s.mode.safeFrom ≠ modeDormant) : State.SafeLeft s s.endSafe := by
  have hends := State.safeEnded_ends hok
  have hlt := State.modeAfter_lt (s := s)
  rw [State.endSafe_awake hok h]
  generalize s.safeEnded = t at *
  obtain ⟨hmode, -, hcause, -⟩ := State.setMode_reads (new := s.modeAfter) (cause := 9) hends.ok hlt (by decide)
  have hwrites := State.setMode_objects (s := t) (new := s.modeAfter) (cause := 9)
  have hkept := State.setMode_keeps (s := t) (new := s.modeAfter) (cause := 9)
  generalize t.setMode s.modeAfter 9 = u at *
  have hbeside : u.safe = t.safe ∧ u.lanes = t.lanes := by
    rw [hkept]
    exact ⟨rfl, rfl⟩
  exact {
    state := (hwrites.get hends.ok (by decide)).trans hends.state
    safe := hbeside.1.trans hends.safe
    mode := hmode
    cause := hcause
    gates := fun k hk => (hwrites.word hends.ok (by decide) (by omega)).trans (hends.gates k hk)
    lanes := hbeside.2.trans hends.lanes }

/-- The end of the safe state in DORMANT with the frame counter stopped. -/
structure State.DormantLeft (s u : State) : Prop where
  state : u.get SF_STATE_STATE = 0
  safe : u.safe = { s.safe with flt := s.safe.hold, release := none }
  waking : u.boot.waking = true
  lanes : u.lanes = s.lanes

theorem State.endSafe_dormantLeft (hg : Good cs s) (h : s.mode.safeFrom = modeDormant) (hstopped : s.frame.running = false) :
    State.DormantLeft s s.endSafe := by
  have hends := State.safeEnded_ends hg.objs
  have hgEnded := State.safeEnded_good hg
  rw [State.endSafe_dormant hg.objs h hstopped]
  generalize s.safeEnded = t at *
  exact {
    state := (State.beginExit_rd hgEnded (by decide) (by decide) (by decide)).trans hends.state
    safe := State.beginExit_beside.2.trans hends.safe
    waking := State.beginExit_keeps.2.2
    lanes := State.beginExit_beside.1.trans hends.lanes }

theorem State.releaseEffect_due {d : Nat} (h : s.safe.release = some d) (hdue : d ≤ s.frame.ticks) :
    s.releaseEffect = s.endSafe := by
  unfold State.releaseEffect
  rw [h]
  exact if_pos hdue

theorem State.releaseEffect_early {d : Nat} (h : s.safe.release = some d) (hearly : s.frame.ticks < d) : s.releaseEffect = s := by
  unfold State.releaseEffect
  rw [h]
  exact if_neg (by omega)

theorem State.releaseEffect_none (h : s.safe.release = none) : s.releaseEffect = s := by
  unfold State.releaseEffect
  rw [h]

/-! SF_RELEASE (R320). -/

theorem State.clearSources_writes {l : List Nat} (hl : ∀ k ∈ l, k < 128) :
    State.WritesObjects [0x7003] s (l.foldl State.clearSource s) :=
  .foldl fun t k hk => by
    have h : State.WritesObjects [0x7003] t (t.setSourceBit FC_STICKY_BITS k false) :=
      .setSourceBit (by decide) (show 0 + k / 32 < 65536 by have := hl k hk; omega) .refl
    exact h.beside rfl

theorem State.settleStatus_writes : State.WritesObjects [0x7001] s s.settleStatus := by
  unfold State.settleStatus
  extract_lets t
  have ht : State.WritesObjects [0x7001] s t := .ite (.set (by decide) .refl) .refl
  exact .ite (ht.set (by decide)) ht

theorem State.clearSevere_writes : State.WritesObjects [0x7001, 0x7003] s s.clearSevere := by
  unfold State.clearSevere
  extract_lets l
  have hl : ∀ k ∈ l, k < 128 := fun k hk => List.mem_range.mp (List.mem_filter.mp hk).1
  exact ((State.clearSources_writes hl).mono (by decide)).trans (State.settleStatus_writes.mono (by decide))

/-- A release counted, and the ended severe sources cleared. -/
def State.releaseTaken (s : State) : State := (s.bumpAt SF_COUNTS_COUNT 2).clearSevere

theorem State.releaseTaken_ready (hok : s.ok) : s.releaseTaken.on TC_STATUS_CLK_READY = s.on TC_STATUS_CLK_READY := by
  have hcount : State.WritesObjects [0x7001, 0x7003, 0x7103] s (s.bumpAt SF_COUNTS_COUNT 2) := .bumpAt (by decide) (by decide) .refl
  have h : State.WritesObjects [0x7001, 0x7003, 0x7103] s s.releaseTaken := hcount.trans (State.clearSevere_writes.mono (by decide))
  exact h.on hok (by decide)

theorem State.wSfRelease_none (h : v.bits 0 0 = 0) : s.wSfRelease v = (stOk, s) := if_pos h

theorem State.wSfRelease_wrongKey (hgo : v.bits 0 0 = 1) (h : v.bits 31 16 ≠ 0x5AFE) :
    s.wSfRelease v = (stRange, s.bumpAt SF_COUNTS_COUNT 3) := (if_neg (by omega)).trans (if_pos h)

theorem State.wSfRelease_held (hgo : v.bits 0 0 = 1) (hkey : v.bits 31 16 = 0x5AFE) (h : s.releasable = false) :
    s.wSfRelease v = (stState, s.bumpAt SF_COUNTS_COUNT 3) :=
  (if_neg (by omega)).trans ((if_neg (by simp [hkey])).trans (if_pos (by simp [h])))

theorem State.wSfRelease_taken (hgo : v.bits 0 0 = 1) (hkey : v.bits 31 16 = 0x5AFE) (h : s.releasable = true) :
    s.wSfRelease v = (stOk, if s.releaseTaken.on TC_STATUS_CLK_READY then
      { s.releaseTaken with safe := { s.releaseTaken.safe with release := some (s.releaseTaken.frame.ticks + 1) } }
      else s.releaseTaken.endSafe) :=
  (if_neg (by omega)).trans ((if_neg (by simp [hkey])).trans (if_neg (by simp [h])))

/-- A refused release is counted by its rule alone, unless its port or its guard refuses it. -/
theorem State.countRefused_release {st sub : Nat} (hst : st ≠ stNotActive ∧ st ≠ stGuard) : s.countRefused st 0x7101 sub v = s :=
  (if_neg fun h => absurd h.1 (by decide)).trans (if_neg fun h => h.2.2.elim hst.1 hst.2)

/-- The ticks and the outputs of the safe state. -/
def State.besideClear (s : State) : FrameSt × SafeSt := (s.frame, s.safe)

theorem State.clearSources_besideClear {l : List Nat} : (l.foldl State.clearSource s).besideClear = s.besideClear := by
  induction l generalizing s with
  | nil => rfl
  | cons k l ih => exact ih.trans rfl

theorem State.settleStatus_besideClear : s.settleStatus.besideClear = s.besideClear := by
  unfold State.settleStatus
  dsimp only
  split
  · split <;> rfl
  · split <;> rfl

theorem State.releaseTaken_beside : s.releaseTaken.besideClear = s.besideClear :=
  State.settleStatus_besideClear.trans State.clearSources_besideClear

theorem State.releaseTaken_waits : ({ s.releaseTaken with safe := { s.releaseTaken.safe with
    release := some (s.releaseTaken.frame.ticks + 1) } } : State) =
      { s.releaseTaken with safe := { s.safe with release := some (s.frame.ticks + 1) } } := by
  have hframe : s.releaseTaken.frame = s.frame := congrArg Prod.fst State.releaseTaken_beside
  have hsafe : s.releaseTaken.safe = s.safe := congrArg Prod.snd State.releaseTaken_beside
  rw [hframe, hsafe]

end Sys2Proof.Machine

namespace Sys2Proof
open Machine

/-- Settles O45: SF_RELEASE by the branches of its rule, its effect by the mode the safe state was entered from. -/
theorem safeRelease : Obligations.SafeRelease := by
  intro s w t hwf
  have hg := Good.of_wf hwf
  have hok : s.ok := hg.objs
  refine ⟨fun v hv hadm => ?_, fun hrelease hdue => ⟨fun hfrom => ?_, fun hfrom hstopped => ?_⟩,
    fun hrelease hearly => congrArg Host.Outcome.next (State.releaseEffect_early hrelease hearly),
    fun hnone => congrArg Host.Outcome.next (State.releaseEffect_none hnone), State.modeAfter_service, State.modeAfter_boot⟩
  · subst hv
    refine ⟨fun hgo => ?_, fun hgo => ⟨fun hreleasable hkey => ?_, fun hheld hkey => ?_, fun hkey => ?_⟩⟩
    · exact exec_accepted rfl hadm ((State.objectRule_7101 ..).trans (State.wSfRelease_none hgo)) rfl
    · have hrule := (State.objectRule_7101 (ecc := .clean) (port := w.q.port) (sub := 0) ..).trans
        (State.wSfRelease_taken hgo hkey hreleasable)
      rw [State.releaseTaken_ready hok, State.releaseTaken_waits] at hrule
      refine ⟨fun hready => ?_, fun hready => ?_⟩
      · rw [if_pos hready] at hrule
        exact exec_accepted rfl hadm hrule rfl
      · rw [if_neg (by simp [hready])] at hrule
        exact exec_accepted rfl hadm hrule rfl
    · rw [exec_refused rfl hadm ((State.objectRule_7101 ..).trans (State.wSfRelease_held hgo hkey hheld)) rfl]
      rw [State.countRefused_release (by decide)]
    · rw [exec_refused rfl hadm ((State.objectRule_7101 ..).trans (State.wSfRelease_wrongKey hgo hkey)) rfl]
      rw [State.countRefused_release (by decide)]
  · have h := State.endSafe_left hok hfrom
    have hdark : s.endSafe.safe.dark = s.safe.dark := by rw [h.safe]
    exact ⟨_, congrArg Host.Outcome.next (State.releaseEffect_due hrelease hdue), h.state, congrArg SafeSt.flt h.safe,
      congrArg SafeSt.release h.safe, hdark, h.mode, h.cause, h.gates, h.lanes⟩
  · have h := State.endSafe_dormantLeft hg hfrom hstopped
    exact ⟨_, congrArg Host.Outcome.next (State.releaseEffect_due hrelease hdue), h.state, congrArg SafeSt.flt h.safe,
      congrArg SafeSt.release h.safe, h.waking, h.lanes⟩

end Sys2Proof
end

section
/-! SUPPORT. Link-up, loss and loopback of a lane pair (R218, R219, R225). -/

namespace Sys2Proof.Machine


variable {s t u : State} {p q n v event version us : Nat} {x y : PairSt} {h k : Hello}

/-! Lane pairs (R218, R225). -/

theorem State.pair_setPair_same (hp : p < s.pairs.length) : (s.setPair p y).pair p = y := by
  simp [State.pair, State.setPair, List.getD_eq_getElem?_getD, hp]

theorem State.pair_setPair_other (hne : p ≠ q) : (s.setPair p y).pair q = s.pair q := by
  simp [State.pair, State.setPair, List.getD_eq_getElem?_getD, hne]

theorem State.pair_congr (h : t.pairs = s.pairs) : t.pair p = s.pair p := congrArg (fun l : List PairSt => l.getD p {}) h

theorem otherPair_ne : otherPair p ≠ p := by
  unfold otherPair
  split <;> omega

/-! A LINK record writes the log alone (Table 9-11). -/

theorem State.linkRecord_writes : State.WritesObjects [0x260A, 0x260B] s (s.linkRecord p event version us) :=
  .ite .refl (.of_writes State.post_writes (by decide))

theorem State.linkRecord_keeps : s.linkRecord p event version us =
    { s with objs := (s.linkRecord p event version us).objs, ev := (s.linkRecord p event version us).ev } := by
  unfold State.linkRecord
  split
  · rfl
  · exact State.post_keeps

theorem State.linkRecord_pairs : (s.linkRecord p event version us).pairs = s.pairs := by
  rw [State.linkRecord_keeps]

theorem State.linkRecord_lanes : (s.linkRecord p event version us).lanes = s.lanes := by
  rw [State.linkRecord_keeps]

/-! Link-up (R219). -/

/-- The version agreed on a pair told. -/
def State.versionTold (s : State) (p v : Nat) : State :=
  ((s.wr FL_VERSION_AGREED_VALID p 1).wr FL_VERSION_AGREED_MAJOR p (v / 16)).wr FL_VERSION_AGREED_MINOR p (v % 16)

/-- The instant a pair comes UP. -/
def State.upNow (s : State) (p : Nat) : State := s.setPair p { s.pair p with upUp := s.frame.up }

/-- The status words of a pair that comes UP, and its instant. -/
def State.upMarked (s : State) (p v : Nat) : State := ((s.wr FL_STATUS_STATE p 4).versionTold p v).upNow p

/-- The record of a link-up, with the time since the pair was last lost. -/
def State.upTold (s : State) (p v : Nat) : State := (s.sinceLost p).2.linkRecord p 0 v (s.sinceLost p).1

theorem State.linkUp_eq : s.linkUp p v = ((s.upMarked p v).measureLatency (portOf p)).upTold p v := rfl

/-- What a link-up leaves of its pair. -/
structure State.LinksUp (s t : State) (p v : Nat) : Prop where
  state : t.rd FL_STATUS_STATE p = 4
  valid : t.rd FL_VERSION_AGREED_VALID p = 1
  major : t.rd FL_VERSION_AGREED_MAJOR p = v / 16 % 256
  minor : t.rd FL_VERSION_AGREED_MINOR p = v % 16 % 256
  pair : t.pair p = { s.pair p with upUp := s.frame.up }
  lanes : t.lanes = s.lanes

theorem State.versionTold_reads (hok : s.ok) : (s.versionTold p v).rd FL_VERSION_AGREED_VALID p = 1 ∧
    (s.versionTold p v).rd FL_VERSION_AGREED_MAJOR p = v / 16 % 256 ∧
    (s.versionTold p v).rd FL_VERSION_AGREED_MINOR p = v % 16 % 256 := by
  have hvalid : (s.wr FL_VERSION_AGREED_VALID p 1).ok := State.wr_ok hok
  have hmajor : ((s.wr FL_VERSION_AGREED_VALID p 1).wr FL_VERSION_AGREED_MAJOR p (v / 16)).ok := State.wr_ok hvalid
  refine ⟨?_, ?_, State.rd_wr_eq ⟨hmajor, by decide⟩⟩
  · exact (State.rd_wr_apart ⟨hmajor, rfl⟩).trans ((State.rd_wr_apart ⟨hvalid, rfl⟩).trans (State.rd_wr_eq ⟨hok, by decide⟩))
  · exact (State.rd_wr_apart ⟨hmajor, rfl⟩).trans (State.rd_wr_eq ⟨hvalid, by decide⟩)

theorem State.versionTold_writes (hp : p < 4) : State.WritesObjects [0x1120] s (s.versionTold p v) :=
  .wr (by decide) (show 0 + p < 65536 by omega) (.wr (by decide) (show 0 + p < 65536 by omega)
    (.wr (by decide) (show 0 + p < 65536 by omega) .refl))

theorem State.versionTold_beside : (s.versionTold p v).pairs = s.pairs ∧ (s.versionTold p v).frame = s.frame ∧
    (s.versionTold p v).lanes = s.lanes := ⟨rfl, rfl, rfl⟩

theorem State.upNow_objs : (s.upNow p).objs = s.objs := rfl

theorem State.upNow_lanes : (s.upNow p).lanes = s.lanes := rfl

theorem State.upMarked_up (hok : s.ok) (hpairs : s.pairs.length = 4) (hp : p < 4) :
    (s.upMarked p v).ok ∧ State.LinksUp s (s.upMarked p v) p v := by
  have hstateOk : (s.wr FL_STATUS_STATE p 4).ok := State.wr_ok hok
  have hstate : (s.wr FL_STATUS_STATE p 4).rd FL_STATUS_STATE p = 4 := State.rd_wr_eq ⟨hok, by decide⟩
  have hsbeside : (s.wr FL_STATUS_STATE p 4).pairs = s.pairs ∧ (s.wr FL_STATUS_STATE p 4).frame = s.frame ∧
      (s.wr FL_STATUS_STATE p 4).lanes = s.lanes := ⟨rfl, rfl, rfl⟩
  unfold State.upMarked
  generalize s.wr FL_STATUS_STATE p 4 = a at *
  obtain ⟨hvalid, hmajor, hminor⟩ := State.versionTold_reads (p := p) (v := v) hstateOk
  have hwrites := State.versionTold_writes (s := a) (v := v) hp
  obtain ⟨hpairsKept, hframe, hlanes⟩ := State.versionTold_beside (s := a) (p := p) (v := v)
  obtain ⟨hapairs, haframe, halanes⟩ := hsbeside
  generalize a.versionTold p v = b at *
  have hbpairs := hpairsKept.trans hapairs
  have hb : p < b.pairs.length := by rw [hbpairs, hpairs]; exact hp
  have hpair : (b.upNow p).pair p = { s.pair p with upUp := s.frame.up } := by
    rw [State.upNow, State.pair_setPair_same hb, State.pair_congr hbpairs, hframe, haframe]
  have hbok : b.ok := (hwrites hstateOk).1
  have hobjs := State.upNow_objs (s := b) (p := p)
  have hupLanes := State.upNow_lanes (s := b) (p := p)
  generalize b.upNow p = c at *
  exact ⟨State.ok_of_objs hbok hobjs, {
    state := (State.rd_congr hobjs _ _).trans ((hwrites.rd hstateOk (by decide) (show 0 + p < 65536 by omega)).trans hstate)
    valid := (State.rd_congr hobjs _ _).trans hvalid
    major := (State.rd_congr hobjs _ _).trans hmajor
    minor := (State.rd_congr hobjs _ _).trans hminor
    pair := hpair
    lanes := hupLanes.trans (hlanes.trans halanes) }⟩

theorem State.measureLatency_writes (hp : p < 4) : State.WritesObjects [0x2405] s (s.measureLatency (portOf p)) := by
  have hport : portOf p < 2 := by
    unfold portOf
    omega
  have hfree : State.WritesObjects [0x2405] s { s with fresh := s.fresh + 2 } := State.WritesObjects.refl.beside rfl
  exact .ite .refl ((hfree.setWord (by decide) (by omega)).setWord (by decide) (by omega))

theorem State.measureLatency_beside : (s.measureLatency n).pairs = s.pairs ∧ (s.measureLatency n).lanes = s.lanes := by
  unfold State.measureLatency
  split <;> exact ⟨rfl, rfl⟩

theorem State.sinceLost_beside : (s.sinceLost p).2.objs = s.objs ∧ (s.sinceLost p).2.pairs = s.pairs ∧
    (s.sinceLost p).2.lanes = s.lanes := by
  unfold State.sinceLost
  split <;> exact ⟨rfl, rfl, rfl⟩

theorem State.upTold_beside : (s.upTold p v).pairs = s.pairs ∧ (s.upTold p v).lanes = s.lanes := by
  obtain ⟨-, hpairs, hlanes⟩ := State.sinceLost_beside (s := s) (p := p)
  exact ⟨State.linkRecord_pairs.trans hpairs, State.linkRecord_lanes.trans hlanes⟩

theorem State.upTold_writes : State.WritesObjects [0x260A, 0x260B] s (s.upTold p v) :=
  (State.WritesObjects.refl.beside State.sinceLost_beside.1).trans State.linkRecord_writes

/-- What writes beside the ring's status leaves a link-up. -/
theorem State.LinksUp.of_writes {is : List Nat} (hup : State.LinksUp s t p v) (hok : t.ok) (hp : p < 4)
    (h : State.WritesObjects is t u) (his : is.contains 0x1100 = false ∧ is.contains 0x1120 = false)
    (hbeside : u.pairs = t.pairs ∧ u.lanes = t.lanes) : State.LinksUp s u p v := by
  have hsub : ∀ F : Field, F.sub = 0 → F.sub + p < 65536 := fun F hF => by omega
  exact {
    state := (h.rd hok his.1 (hsub _ rfl)).trans hup.state
    valid := (h.rd hok his.2 (hsub _ rfl)).trans hup.valid
    major := (h.rd hok his.2 (hsub _ rfl)).trans hup.major
    minor := (h.rd hok his.2 (hsub _ rfl)).trans hup.minor
    pair := (State.pair_congr hbeside.1).trans hup.pair
    lanes := hbeside.2.trans hup.lanes }

theorem State.linkUp_up (hok : s.ok) (hpairs : s.pairs.length = 4) (hp : p < 4) : State.LinksUp s (s.linkUp p v) p v := by
  obtain ⟨hmarked, hup⟩ := State.upMarked_up (v := v) hok hpairs hp
  rw [State.linkUp_eq]
  generalize s.upMarked p v = a at *
  have hlat := State.measureLatency_writes (s := a) hp
  have hmeasured := hup.of_writes hmarked hp hlat (by decide) State.measureLatency_beside
  have hmeasuredOk := (hlat hmarked).1
  generalize a.measureLatency (portOf p) = b at *
  exact hmeasured.of_writes hmeasuredOk hp State.upTold_writes (by decide) State.upTold_beside

/-! A HELLO heard (R218, R219). -/

/-- The peer's address and kind as its HELLO tells them. -/
def State.peerTold (s : State) (p : Nat) (h : Hello) : State :=
  (s.wr FL_STATUS_PEER_ADDR p h.addr).wr FL_STATUS_PEER_REPEATER p h.repeater.toNat

theorem State.peerTold_reads (hok : s.ok) : (s.peerTold p h).ok ∧
    (s.peerTold p h).rd FL_STATUS_STATE p = s.rd FL_STATUS_STATE p ∧
    (s.peerTold p h).rd FL_STATUS_PEER_ADDR p = h.addr % 256 := by
  have haddr : (s.wr FL_STATUS_PEER_ADDR p h.addr).ok := State.wr_ok hok
  refine ⟨State.wr_ok haddr, ?_, ?_⟩
  · exact (State.rd_wr_apart ⟨haddr, rfl⟩).trans (State.rd_wr_apart ⟨hok, rfl⟩)
  · exact (State.rd_wr_apart ⟨haddr, rfl⟩).trans (State.rd_wr_eq ⟨hok, by decide⟩)

theorem State.peerTold_beside : (s.peerTold p h).pairs = s.pairs ∧ (s.peerTold p h).lanes = s.lanes ∧
    (s.peerTold p h).frame = s.frame := ⟨rfl, rfl, rfl⟩

/-- The version that a run of HELLOs agrees on. -/
def PairSt.offered (x : PairSt) (h : Hello) : Nat := if x.hellos < 3 then 0 else commonVersion x.offer11 h

/-- The agreement that a HELLO heard leaves the pair with. -/
def PairSt.agreeing (x : PairSt) (h : Hello) : PairSt :=
  { x with agreed := x.offered h, toldAgreed := x.toldAgreed && x.agreed = x.offered h }

/-- A HELLO that brings no version: whether three consistent ones have shown that there is none. -/
def PairSt.refusing (x : PairSt) (h : Hello) : PairSt :=
  { x.agreeing h with noVersion := x.noVersion || decide (3 ≤ x.hellos) }

theorem State.hello_refusing (hstate : s.rd FL_STATUS_STATE p = 3) (hx : x = ((s.peerTold p h).pair p).heard h)
    (hnone : x.offered h = 0) : s.hello p h =
      if decide (3 ≤ x.hellos) && !x.noVersion then ((s.peerTold p h).setPair p (x.refusing h)).linkRecord p 4 0 0
      else (s.peerTold p h).setPair p (x.refusing h) := by
  subst hx
  exact (if_neg (by omega)).trans (if_pos hnone)

theorem State.hello_agreeing (hstate : s.rd FL_STATUS_STATE p = 3) (hx : x = ((s.peerTold p h).pair p).heard h)
    (hsome : x.offered h ≠ 0) : s.hello p h = ((s.peerTold p h).setPair p (x.agreeing h)).bothAgreed p := by
  subst hx
  exact (if_neg (by omega)).trans (if_neg hsome)

theorem State.hello_elsewhere (hstate : s.rd FL_STATUS_STATE p ≠ 3) : s.hello p h = s := if_pos hstate

theorem State.setPair_writes {is : List Nat} (h : State.WritesObjects is s t) : State.WritesObjects is s (t.setPair p y) := h.beside rfl

/-- What a HELLO that does not bring the pair UP leaves. -/
structure State.Heard (s t : State) (p : Nat) (h : Hello) (y : PairSt) : Prop where
  pair : t.pair p = y
  addr : t.rd FL_STATUS_PEER_ADDR p = h.addr % 256
  state : t.rd FL_STATUS_STATE p = 3
  lanes : t.lanes = s.lanes

theorem State.peerTold_heard (hok : s.ok) (hpairs : s.pairs.length = 4) (hp : p < 4) (hstate : s.rd FL_STATUS_STATE p = 3) :
    ((s.peerTold p h).setPair p y).ok ∧ State.Heard s ((s.peerTold p h).setPair p y) p h y := by
  obtain ⟨htold, hkept, haddr⟩ := State.peerTold_reads (p := p) (h := h) hok
  obtain ⟨htpairs, hlanes, -⟩ := State.peerTold_beside (s := s) (p := p) (h := h)
  generalize s.peerTold p h = a at *
  have hset : p < a.pairs.length := by rw [htpairs, hpairs]; exact hp
  exact ⟨State.ok_of_objs htold (State.setPair_objs ..), {
    pair := State.pair_setPair_same hset
    addr := (State.rd_congr (State.setPair_objs ..) _ _).trans haddr
    state := (State.rd_congr (State.setPair_objs ..) _ _).trans (hkept.trans hstate)
    lanes := (State.setPair_lanes ..).trans hlanes }⟩

theorem State.Heard.record (hheard : State.Heard s t p h y) (hok : t.ok) (hp : p < 4) :
    State.Heard s (t.linkRecord p event version us) p h y where
  pair := (State.pair_congr State.linkRecord_pairs).trans hheard.pair
  addr := (State.linkRecord_writes.rd hok (by decide) (show 0 + p < 65536 by omega)).trans hheard.addr
  state := (State.linkRecord_writes.rd hok (by decide) (show 0 + p < 65536 by omega)).trans hheard.state
  lanes := State.linkRecord_lanes.trans hheard.lanes

theorem State.peerTold_pair : (s.peerTold p h).pair p = s.pair p := State.pair_congr State.peerTold_beside.1

theorem State.hello_none (hok : s.ok) (hpairs : s.pairs.length = 4) (hp : p < 4) (hstate : s.rd FL_STATUS_STATE p = 3)
    (hx : x = (s.pair p).heard h) (hnone : x.offered h = 0) : State.Heard s (s.hello p h) p h (x.refusing h) := by
  rw [State.hello_refusing (x := x) hstate (by rw [State.peerTold_pair, hx]) hnone]
  obtain ⟨hset, hheard⟩ := State.peerTold_heard (h := h) (y := x.refusing h) hok hpairs hp hstate
  split
  · exact hheard.record hset hp
  · exact hheard

/-- Both sides of a pair have reported the same agreement. -/
def PairSt.settled (x : PairSt) : Bool :=
  x.toldAgreed && decide (x.agreed ≠ 0) && x.peer.any fun h => h.agreed && h.version = x.agreed

theorem State.bothAgreed_eq (hstate : s.rd FL_STATUS_STATE p = 3) :
    s.bothAgreed p = if (s.pair p).settled then s.linkUp p (s.pair p).agreed else s := by
  unfold State.bothAgreed PairSt.settled
  simp [hstate]

theorem State.hello_unsettled (hok : s.ok) (hpairs : s.pairs.length = 4) (hp : p < 4) (hstate : s.rd FL_STATUS_STATE p = 3)
    (hx : x = (s.pair p).heard h) (hsome : x.offered h ≠ 0) (hnot : (x.agreeing h).settled = false) :
    State.Heard s (s.hello p h) p h (x.agreeing h) := by
  obtain ⟨-, hheard⟩ := State.peerTold_heard (h := h) (y := x.agreeing h) hok hpairs hp hstate
  rw [State.hello_agreeing (x := x) hstate (by rw [State.peerTold_pair, hx]) hsome, State.bothAgreed_eq hheard.state, hheard.pair,
    hnot]
  exact hheard

/-- What a HELLO that brings the pair UP leaves. -/
theorem State.hello_up (hok : s.ok) (hpairs : s.pairs.length = 4) (hp : p < 4) (hstate : s.rd FL_STATUS_STATE p = 3)
    (hx : x = (s.pair p).heard h) (hsome : x.offered h ≠ 0) (hsettled : (x.agreeing h).settled = true) :
    ∃ t : State, t.frame = s.frame ∧ t.lanes = s.lanes ∧ State.LinksUp t (s.hello p h) p (x.offered h) := by
  obtain ⟨hset, hheard⟩ := State.peerTold_heard (h := h) (y := x.agreeing h) hok hpairs hp hstate
  obtain ⟨htpairs, -, hframe⟩ := State.peerTold_beside (s := s) (p := p) (h := h)
  rw [State.hello_agreeing (x := x) hstate (by rw [State.peerTold_pair, hx]) hsome, State.bothAgreed_eq hheard.state, hheard.pair,
    hsettled]
  generalize s.peerTold p h = a at *
  have hlength : (a.setPair p (x.agreeing h)).pairs.length = 4 := (List.length_set ..).trans (by rw [htpairs, hpairs])
  exact ⟨_, (State.setPair_frame ..).trans hframe, hheard.lanes, State.linkUp_up hset hlength hp⟩

/-! The run of consistent HELLOs. -/

theorem PairSt.heard_first (hpeer : x.peer = none ∨ (x.peer = some k ∧ sameHello h k = false)) :
    x.heard h = { x with hellos := 1, peer := some h } := by
  unfold PairSt.heard
  rcases hpeer with hpeer | ⟨hpeer, hother⟩
  · rw [hpeer]
  · simp [hpeer, hother]

theorem PairSt.heard_again (hpeer : x.peer = some k) (hsame : sameHello h k = true) :
    x.heard h = { x with hellos := min (x.hellos + 1) 3, peer := some h } := by
  unfold PairSt.heard
  simp [hpeer, hsame]

theorem PairSt.offered_few (h2 : x.hellos < 3) : x.offered h = 0 := if_pos h2

theorem PairSt.offered_run (h3 : x.hellos = 3) : x.offered h = commonVersion x.offer11 h := if_neg (by omega)

theorem PairSt.offered_again (hpeer : x.peer = some k) (hsame : sameHello h k = true) (hrun : 2 ≤ x.hellos) :
    (x.heard h).offered h = commonVersion x.offer11 h := by
  rw [PairSt.heard_again hpeer hsame]
  exact PairSt.offered_run (show min (x.hellos + 1) 3 = 3 by omega)

theorem PairSt.agreeing_again (hpeer : x.peer = some k) (hsame : sameHello h k = true) (hrun : 2 ≤ x.hellos)
    (hv : v = commonVersion x.offer11 h) : ((x.heard h).agreeing h).peer = some h ∧ ((x.heard h).agreeing h).agreed = v ∧
      ((x.heard h).agreeing h).toldAgreed = (x.toldAgreed && decide (x.agreed = v)) := by
  have hoffered := PairSt.offered_again hpeer hsame hrun
  have hx := PairSt.heard_again hpeer hsame
  unfold PairSt.agreeing
  rw [hoffered, ← hv, hx]
  exact ⟨rfl, rfl, rfl⟩

theorem PairSt.refusing_again (hpeer : x.peer = some k) (hsame : sameHello h k = true) (hrun : 2 ≤ x.hellos) :
    ((x.heard h).refusing h).noVersion = true := by
  have hfull : min (x.hellos + 1) 3 = 3 := by omega
  unfold PairSt.refusing
  rw [PairSt.heard_again hpeer hsame, hfull]
  exact Bool.or_true _

theorem PairSt.settled_false (hpeer : x.peer = some h)
    (hnot : x.toldAgreed = false ∨ h.agreed = false ∨ h.version ≠ x.agreed) : x.settled = false := by
  unfold PairSt.settled
  rcases hnot with hnot | hnot | hnot
  · simp [hnot]
  · simp [hpeer, hnot]
  · simp [hpeer, hnot]

theorem PairSt.settled_true (hpeer : x.peer = some h) (htold : x.toldAgreed = true) (hsome : x.agreed ≠ 0)
    (hagreed : h.agreed = true) (hversion : h.version = x.agreed) : x.settled = true := by
  unfold PairSt.settled
  simp [htold, hsome, hpeer, hagreed, hversion]

theorem commonVersion_cases {b : Bool} : commonVersion b h = 0x11 ∨ commonVersion b h = 0x10 ∨ commonVersion b h = 0 := by
  unfold commonVersion
  split
  · exact .inl rfl
  · split
    · exact .inr (.inl rfl)
    · exact .inr (.inr rfl)

/-! A pair lost (R225). -/

/-- The loss counted and told. -/
def State.lossTold (s : State) (p : Nat) : State := (s.flCount FL_LOSSES_COUNT p).linkRecord p 1 (s.version p) 0

/-- The status words of a lost pair. -/
def State.statusLost (s : State) (p : Nat) : State :=
  (((s.wr FL_STATUS_STATE p 0).setWord 0x1120 p 0).wr FL_STATUS_PEER_ADDR p 0xFF).wr FL_STATUS_PEER_REPEATER p 0

/-- A pair lost at an instant, its stream to be looped where `loops`. -/
def PairSt.lost (x : PairSt) (up : Nat) (loops : Bool) : PairSt :=
  let x := if up < x.busyUp then { x with sentOwn := none } else x
  let x := { x with
    lostUp := some up, hellos := 0, peer := none, agreed := 0, toldAgreed := false, noVersion := false
    busyUp := 0, rxUp := 0
    engage := x.engage || loops }
  if x.engage then x else { x with through := [], own := [] }

/-- The stream of a pair will be looped. -/
def State.willLoop (s : State) (p : Nat) : Bool := s.rd FL_CTRL_LOOP_EN (portOf p) = 1 && s.rd FL_STATUS_LOOPED p = 0

/-- The pair lost, in a state that tells it. -/
def State.pairLost (s : State) (p : Nat) : State := s.setPair p ((s.pair p).lost s.frame.up (s.willLoop p))

theorem State.declareLoss_eq : s.declareLoss p = ((s.lossTold p).statusLost p).pairLost p := rfl

theorem PairSt.lost_reads {up : Nat} {loops : Bool} : (x.lost up loops).lostUp = some up ∧ (x.lost up loops).hellos = 0 ∧
    (loops = true → (x.lost up loops).engage = true) := by
  have hengage : ∀ b : Bool, loops = true → (b || loops) = true := fun b h => by rw [h, Bool.or_true]
  unfold PairSt.lost
  dsimp only
  split <;> split <;> exact ⟨rfl, rfl, hengage _⟩

/-- The objects that a loss writes. -/
def lossObjects : List Nat := [0x1100, 0x1120, 0x1130, 0x260A, 0x260B]

theorem State.flCount_writes {F : Field} {is : List Nat} (hF : F.index ∈ is ∧ F.sub = 0) (hp : p < 4) :
    State.WritesObjects is s (s.flCount F p) := .ite .refl (.bumpAt hF.1 (by omega) .refl)

theorem State.lossTold_writes (hp : p < 4) : State.WritesObjects [0x1130, 0x260A, 0x260B] s (s.lossTold p) :=
  (State.flCount_writes (by decide) hp).trans (State.linkRecord_writes.mono (by decide))

theorem State.statusLost_writes (hp : p < 4) : State.WritesObjects [0x1100, 0x1120] s (s.statusLost p) :=
  .wr (by decide) (show 0 + p < 65536 by omega) (.wr (by decide) (show 0 + p < 65536 by omega)
    (.setWord (by decide) (by omega) (.wr (by decide) (show 0 + p < 65536 by omega) .refl)))

/-- The parts that a loss of a pair leaves alone, its own beside. -/
def State.besideLostPair (s : State) : ResetSt × FrameSt × Table Lane × List PairSt := (s.rst, s.frame, s.lanes, s.pairs)

theorem State.lossTold_beside : (s.lossTold p).besideLostPair = s.besideLostPair := by
  unfold State.lossTold
  rw [State.linkRecord_keeps]
  unfold State.flCount
  split <;> rfl

theorem State.statusLost_beside : (s.statusLost p).besideLostPair = s.besideLostPair := rfl

theorem State.lossTold_count (hok : s.ok) (hp : p < 4) (hawake : s.repeats = false) :
    (s.lossTold p).rd FL_LOSSES_COUNT p = satAdd 32 (s.rd FL_LOSSES_COUNT p) 1 := by
  have hcounted : s.flCount FL_LOSSES_COUNT p = s.bumpAt FL_LOSSES_COUNT p := if_neg (by simp [hawake])
  have hcount : (s.bumpAt FL_LOSSES_COUNT p).rd FL_LOSSES_COUNT p = satAdd 32 (s.rd FL_LOSSES_COUNT p) 1 :=
    (State.rd_wr_eq ⟨hok, by decide⟩).trans (Nat.mod_eq_of_lt satAdd_lt)
  unfold State.lossTold
  rw [hcounted]
  exact (State.linkRecord_writes.rd (State.wr_ok hok) (by decide) (show 0 + p < 65536 by omega)).trans hcount

theorem State.statusLost_reads (hok : s.ok) (hp : p < 4) : (s.statusLost p).rd FL_STATUS_STATE p = 0 ∧
    (s.statusLost p).rd FL_STATUS_PEER_ADDR p = 0xFF ∧ (s.statusLost p).rd FL_VERSION_AGREED_VALID p = 0 ∧
    (s.statusLost p).rd FL_STATUS_LOOPED p = s.rd FL_STATUS_LOOPED p := by
  have hstate : (s.wr FL_STATUS_STATE p 0).ok := State.wr_ok hok
  have hword : ((s.wr FL_STATUS_STATE p 0).setWord 0x1120 p 0).ok := State.setWord_ok hstate
  have haddr : (((s.wr FL_STATUS_STATE p 0).setWord 0x1120 p 0).wr FL_STATUS_PEER_ADDR p 0xFF).ok := State.wr_ok hword
  have hversion : State.WritesObjects [0x1120] (s.wr FL_STATUS_STATE p 0) ((s.wr FL_STATUS_STATE p 0).setWord 0x1120 p 0) :=
    .setWord (by decide) (by omega) .refl
  have hpeer : State.WritesObjects [0x1100] ((s.wr FL_STATUS_STATE p 0).setWord 0x1120 p 0) (s.statusLost p) :=
    .wr (by decide) (show 0 + p < 65536 by omega) (.wr (by decide) (show 0 + p < 65536 by omega) .refl)
  have hsub : 0 + p < 65536 := by omega
  refine ⟨?_, ?_, ?_, ?_⟩
  · exact (State.rd_wr_apart ⟨haddr, rfl⟩).trans ((State.rd_wr_apart ⟨hword, rfl⟩).trans
      ((hversion.rd hstate (by decide) hsub).trans (State.rd_wr_eq ⟨hok, by decide⟩)))
  · exact (State.rd_wr_apart ⟨haddr, rfl⟩).trans (State.rd_wr_eq ⟨hword, by decide⟩)
  · refine (hpeer.rd hword (by decide) hsub).trans ?_
    have hzero : ((s.wr FL_STATUS_STATE p 0).setWord 0x1120 p 0).word 0x1120 (0 + p) = 0 := by
      rw [Nat.zero_add]
      exact State.word_setWord_same hstate
    exact congrArg (fun w : Word => w.bits 16 16) hzero
  · exact (State.rd_wr_apart ⟨haddr, rfl⟩).trans ((State.rd_wr_apart ⟨hword, rfl⟩).trans
      ((hversion.rd hstate (by decide) hsub).trans (State.rd_wr_apart ⟨hok, rfl⟩)))

/-- What a loss leaves of its pair. -/
structure State.Lost (s u : State) (p : Nat) : Prop where
  state : u.rd FL_STATUS_STATE p = 0
  addr : u.rd FL_STATUS_PEER_ADDR p = 0xFF
  valid : u.rd FL_VERSION_AGREED_VALID p = 0
  lostUp : (u.pair p).lostUp = some s.frame.up
  hellos : (u.pair p).hellos = 0
  count : s.repeats = false → u.rd FL_LOSSES_COUNT p = satAdd 32 (s.rd FL_LOSSES_COUNT p) 1
  lanes : u.lanes = s.lanes
  engage : s.rd FL_CTRL_LOOP_EN (portOf p) = 1 → s.rd FL_STATUS_LOOPED p = 0 → (u.pair p).engage = true
  rst : u.rst = s.rst
  writes : State.WritesObjects lossObjects s u

theorem portOf_lt (hp : p < 4) : portOf p < 2 := by
  unfold portOf
  omega

theorem State.pairLost_reads (hp : p < s.pairs.length) : (s.pairLost p).pair p = (s.pair p).lost s.frame.up (s.willLoop p) :=
  State.pair_setPair_same hp

theorem State.pairLost_objs : (s.pairLost p).objs = s.objs := rfl

theorem State.pairLost_beside : (s.pairLost p).rst = s.rst ∧ (s.pairLost p).lanes = s.lanes := ⟨rfl, rfl⟩

theorem State.declareLoss_lost (hok : s.ok) (hpairs : s.pairs.length = 4) (hp : p < 4) : State.Lost s (s.declareLoss p) p := by
  have htold := State.lossTold_writes (s := s) hp
  have hcount : s.repeats = false → _ := State.lossTold_count hok hp
  have hbeside := State.lossTold_beside (s := s) (p := p)
  rw [State.declareLoss_eq]
  generalize s.lossTold p = a at *
  have haok : a.ok := (htold hok).1
  obtain ⟨hstate, haddr, hvalid, hlooped⟩ := State.statusLost_reads haok hp
  have hstatus := State.statusLost_writes (s := a) hp
  have hboth := (State.statusLost_beside (s := a) (p := p)).trans hbeside
  generalize a.statusLost p = b at *
  have hbok : b.ok := (hstatus haok).1
  obtain ⟨hrst, hframe, hlanes, hbpairs⟩ : b.rst = s.rst ∧ b.frame = s.frame ∧ b.lanes = s.lanes ∧ b.pairs = s.pairs :=
    ⟨congrArg (fun x => x.1) hboth, congrArg (fun x => x.2.1) hboth, congrArg (fun x => x.2.2.1) hboth,
      congrArg (fun x => x.2.2.2) hboth⟩
  have hpair := State.pairLost_reads (s := b) (p := p) (by rw [hbpairs, hpairs]; exact hp)
  obtain ⟨hlostUp, hhellos, hengage⟩ := PairSt.lost_reads (x := b.pair p) (up := b.frame.up) (loops := b.willLoop p)
  have hobjs := State.pairLost_objs (s := b) (p := p)
  obtain ⟨hcrst, hclanes⟩ := State.pairLost_beside (s := b) (p := p)
  generalize b.pairLost p = c at *
  have hall : State.WritesObjects lossObjects s b := (htold.mono (by decide)).trans (hstatus.mono (by decide))
  have hsub : 0 + p < 65536 := by omega
  have hport : 0 + portOf p < 65536 := by
    have := portOf_lt hp
    omega
  have hloops : s.rd FL_CTRL_LOOP_EN (portOf p) = 1 → s.rd FL_STATUS_LOOPED p = 0 → b.willLoop p = true := fun henable hopen => by
    have henabled : b.rd FL_CTRL_LOOP_EN (portOf p) = 1 := (hall.rd hok (by decide) hport).trans henable
    have hopened : b.rd FL_STATUS_LOOPED p = 0 := hlooped.trans ((htold.rd hok (by decide) hsub).trans hopen)
    unfold State.willLoop
    rw [henabled, hopened]
    rfl
  exact {
    state := (State.rd_congr hobjs _ _).trans hstate
    addr := (State.rd_congr hobjs _ _).trans haddr
    valid := (State.rd_congr hobjs _ _).trans hvalid
    lostUp := (congrArg PairSt.lostUp hpair).trans (hlostUp.trans (congrArg (fun f : FrameSt => some f.up) hframe))
    hellos := (congrArg PairSt.hellos hpair).trans hhellos
    count := fun hawake => (State.rd_congr hobjs _ _).trans ((hstatus.rd haok (by decide) hsub).trans (hcount hawake))
    lanes := hclanes.trans hlanes
    engage := fun henable hopen => (congrArg PairSt.engage hpair).trans (hengage (hloops henable hopen))
    rst := hcrst.trans hrst
    writes := hall.beside hobjs }

theorem State.linkLoss_none {fine : Nat} (h : s.rd FL_STATUS_STATE p = 0) : s.linkLoss p fine = s := if_pos h

theorem State.linkLoss_untimed {fine : Nat} (hlost : State.Lost s (s.declareLoss p) p) (hstate : s.rd FL_STATUS_STATE p ≠ 0)
    (h : s.blockLocked p = false ∨ s.rst.held ≠ []) : s.linkLoss p fine = s.declareLoss p := by
  refine (if_neg hstate).trans (if_neg ?_)
  rw [hlost.rst]
  rcases h with h | h
  · simp [h]
  · simp [h]

theorem State.linkLoss_timed {fine : Nat} (hlost : State.Lost s (s.declareLoss p) p) (hstate : s.rd FL_STATUS_STATE p ≠ 0)
    (hlocked : s.blockLocked p = true) (hheld : s.rst.held = []) : s.linkLoss p fine = (s.declareLoss p).lossTiming p fine := by
  refine (if_neg hstate).trans (if_pos ?_)
  rw [hlost.rst]
  simp [hlocked, hheld]

/-! Loopback (R225). -/

theorem State.moveStream_reads (hpairs : s.pairs.length = 4) (hp : p < 4) :
    ((s.moveStream p).pair p).engage = false ∧
      ((s.moveStream p).pair (otherPair p)).own = (s.pair (otherPair p)).own ++ (s.pair p).own ∧
      ((s.moveStream p).pair (otherPair p)).through = (s.pair (otherPair p)).through ++ (s.pair p).through := by
  have hother := otherPair_lt hp
  have hne := otherPair_ne (p := p)
  have hmine := State.pair_setPair_same (s := s) (p := p) (y := { s.pair p with engage := false, through := [], own := [] })
    (by omega)
  have htheirs := State.pair_setPair_other (s := s) (q := otherPair p)
    (y := { s.pair p with engage := false, through := [], own := [] }) hne.symm
  have hlength : (s.setPair p { s.pair p with engage := false, through := [], own := [] }).pairs.length = 4 :=
    (List.length_set ..).trans hpairs
  unfold State.moveStream
  dsimp only
  generalize s.setPair p { s.pair p with engage := false, through := [], own := [] } = a at *
  rw [State.pair_setPair_other hne, State.pair_setPair_same (by omega), hmine, htheirs]
  exact ⟨rfl, rfl, rfl⟩

/-- The stream moved: LOOPED set and the loop counted. -/
def State.loopTold (s : State) (p : Nat) : State := (s.wr FL_STATUS_LOOPED p 1).bumpAt FL_LOOPS_COUNT p

theorem State.loopEngage_eq (h : (s.pair p).engage = true) : s.loopEngage p =
    (((s.moveStream p).loopTold p).sendBreak p 0).linkRecord p 2 ((((s.moveStream p).loopTold p)).version p) 0 := if_pos h

theorem State.loopTold_reads (hok : s.ok) (hp : p < 4) : (s.loopTold p).ok ∧ (s.loopTold p).rd FL_STATUS_LOOPED p = 1 ∧
    (s.loopTold p).rd FL_LOOPS_COUNT p =
      satAdd (FL_LOOPS_COUNT.hi + 1 - FL_LOOPS_COUNT.lo) (s.rd FL_LOOPS_COUNT p) 1 := by
  have hsub : 0 + p < 65536 := by omega
  have hset : (s.wr FL_STATUS_LOOPED p 1).ok := State.wr_ok hok
  have hlooped : State.WritesObjects [0x1100] s (s.wr FL_STATUS_LOOPED p 1) := .wr (by decide) hsub .refl
  have hcount : State.WritesObjects [0x1133] (s.wr FL_STATUS_LOOPED p 1) (s.loopTold p) := .bumpAt (by decide) hsub .refl
  refine ⟨State.wr_ok hset, (hcount.rd hset (by decide) hsub).trans (State.rd_wr_eq ⟨hok, by decide⟩), ?_⟩
  refine (State.rd_wr_eq ⟨hset, by decide⟩).trans ((Nat.mod_eq_of_lt satAdd_lt).trans ?_)
  exact congrArg (fun c => satAdd 32 c 1) (hlooped.rd hok (by decide) hsub)

theorem State.loopTold_beside : (s.loopTold p).pairs = s.pairs ∧ (s.loopTold p).lanes = s.lanes := ⟨rfl, rfl⟩

/-- A BREAK leaves the streams alone: nothing but the control block of the other pair's transmitter. -/
theorem State.sendBreak_reads (hpairs : s.pairs.length = 4) (hp : p < 4) :
    (s.sendBreak p n).objs = s.objs ∧ (s.sendBreak p n).lanes = s.lanes ∧
      ((s.sendBreak p n).pair p).engage = (s.pair p).engage ∧
      ((s.sendBreak p n).pair (otherPair p)).own = (s.pair (otherPair p)).own ∧
      ((s.sendBreak p n).pair (otherPair p)).through = (s.pair (otherPair p)).through := by
  have hother := otherPair_lt hp
  have hne := otherPair_ne (p := p)
  unfold State.sendBreak
  dsimp only
  split
  · exact ⟨rfl, rfl, rfl, rfl, rfl⟩
  · rw [State.pair_setPair_other hne, State.pair_setPair_same (by omega)]
    exact ⟨State.setPair_objs .., State.setPair_lanes .., rfl, rfl, rfl⟩

/-- What engaging the loop of a pair leaves. -/
structure State.LoopEngages (s t : State) (p : Nat) : Prop where
  looped : t.rd FL_STATUS_LOOPED p = 1
  engage : (t.pair p).engage = false
  count : t.rd FL_LOOPS_COUNT p = satAdd (FL_LOOPS_COUNT.hi + 1 - FL_LOOPS_COUNT.lo) (s.rd FL_LOOPS_COUNT p) 1
  own : (t.pair (otherPair p)).own = (s.pair (otherPair p)).own ++ (s.pair p).own
  through : (t.pair (otherPair p)).through = (s.pair (otherPair p)).through ++ (s.pair p).through
  lanes : t.lanes = s.lanes

theorem State.moveStream_beside : (s.moveStream p).objs = s.objs ∧ (s.moveStream p).lanes = s.lanes := ⟨rfl, rfl⟩

theorem State.moveStream_length : (s.moveStream p).pairs.length = s.pairs.length := by
  unfold State.moveStream
  exact (List.length_set ..).trans (List.length_set ..)

theorem State.loopEngage_engages (hok : s.ok) (hpairs : s.pairs.length = 4) (hp : p < 4) (h : (s.pair p).engage = true) :
    State.LoopEngages s (s.loopEngage p) p := by
  obtain ⟨hengage, hown, hthrough⟩ := State.moveStream_reads hpairs hp
  obtain ⟨hobjs, hlanes⟩ := State.moveStream_beside (s := s) (p := p)
  have hlength := (State.moveStream_length (s := s) (p := p)).trans hpairs
  rw [State.loopEngage_eq h]
  generalize s.moveStream p = a at *
  obtain ⟨hbok, hlooped, hcount⟩ := State.loopTold_reads (s := a) (State.ok_of_objs hok hobjs) hp
  obtain ⟨hbpairs, hblanes⟩ := State.loopTold_beside (s := a) (p := p)
  generalize a.loopTold p = b at *
  obtain ⟨hcobjs, hclanes, hcengage, hcown, hcthrough⟩ := State.sendBreak_reads (s := b) (n := 0) (by rw [hbpairs, hlength]) hp
  generalize b.sendBreak p 0 = c at *
  have hcok : c.ok := State.ok_of_objs hbok hcobjs
  have hsub : 0 + p < 65536 := by omega
  have hmine : ∀ q, (c.linkRecord p 2 (b.version p) 0).pair q = c.pair q := fun q => State.pair_congr State.linkRecord_pairs
  have htold : ∀ q, b.pair q = a.pair q := fun q => State.pair_congr hbpairs
  exact {
    looped := (State.linkRecord_writes.rd hcok (by decide) hsub).trans ((State.rd_congr hcobjs _ _).trans hlooped)
    engage := by rw [hmine, hcengage, htold, hengage]
    count := (State.linkRecord_writes.rd hcok (by decide) hsub).trans ((State.rd_congr hcobjs _ _).trans
      (hcount.trans (by rw [State.rd_congr hobjs])))
    own := by rw [hmine, hcown, htold, hown]
    through := by rw [hmine, hcthrough, htold, hthrough]
    lanes := State.linkRecord_lanes.trans (hclanes.trans (hblanes.trans hlanes)) }

theorem State.loopEngage_none (h : (s.pair p).engage = false) : s.loopEngage p = s := if_neg (by simp [h])

/-- The BREAK sent and LOOPED clear. -/
def State.loopFreed (s : State) (p : Nat) : State := (s.sendBreak p 1).wr FL_STATUS_LOOPED p 0

theorem State.loopRelease_eq (hlooped : s.rd FL_STATUS_LOOPED p = 1) (hup : s.pairUp p = true)
    (hdue : (s.pair p).upUp + 3000 * s.rd FL_CTRL_LOOP_HOLD (portOf p) ≤ s.frame.up) :
    s.loopRelease p = (s.loopFreed p).linkRecord p 3 ((s.sendBreak p 1).version p) 0 := by
  unfold State.loopRelease State.loopFreed
  split
  · rfl
  · next h => exact absurd (by simp [hlooped, hup, hdue]) h

theorem State.loopRelease_none (h : s.rd FL_STATUS_LOOPED p = 0 ∨ s.pairUp p = false ∨
    s.frame.up < (s.pair p).upUp + 3000 * s.rd FL_CTRL_LOOP_HOLD (portOf p)) : s.loopRelease p = s := by
  refine if_neg ?_
  rcases h with h | h | h
  · simp [h]
  · simp [h]
  · simp [h]

theorem State.loopRelease_reads (hok : s.ok) (hpairs : s.pairs.length = 4) (hp : p < 4) (hlooped : s.rd FL_STATUS_LOOPED p = 1)
    (hup : s.pairUp p = true) (hdue : (s.pair p).upUp + 3000 * s.rd FL_CTRL_LOOP_HOLD (portOf p) ≤ s.frame.up) :
    (s.loopRelease p).rd FL_STATUS_LOOPED p = 0 ∧ (s.loopRelease p).lanes = s.lanes := by
  obtain ⟨hobjs, hlanes, -⟩ := State.sendBreak_reads (n := 1) hpairs hp
  rw [State.loopRelease_eq hlooped hup hdue]
  unfold State.loopFreed
  generalize s.sendBreak p 1 = a at *
  have haok : a.ok := State.ok_of_objs hok hobjs
  have hset : (a.wr FL_STATUS_LOOPED p 0).rd FL_STATUS_LOOPED p = 0 := State.rd_wr_eq ⟨haok, by decide⟩
  exact ⟨(State.linkRecord_writes.rd (State.wr_ok haok) (by decide) (show 0 + p < 65536 by omega)).trans hset,
    State.linkRecord_lanes.trans ((State.wr_lanes ..).trans hlanes)⟩

end Sys2Proof.Machine

namespace Sys2Proof
open Machine

/-- Settles O40: a HELLO by the run it joins and the agreement it brings, a loss and the loopback by what each tells. -/
theorem linkUpAndLoss : Obligations.LinkUpAndLoss := by
  intro s p fine v h k hwf hp
  have hg := Good.of_wf hwf
  have hok : s.ok := hg.objs
  have hpairs := hg.pairs
  refine ⟨fun hstate hpeer => ?_, fun hstate hpeer hsame => ⟨fun hfew => ?_, fun hrun hv => ⟨fun hsome hnot => ?_,
      fun hsome hagreed htold hreports hversion => ?_, fun hnone => ?_⟩⟩,
    fun hstate => congrArg Host.Outcome.next (State.hello_elsewhere hstate), fun u hu hstate => ?_,
    fun hstate => congrArg Host.Outcome.next (State.linkLoss_none hstate), fun hengage => ?_,
    fun hengage => congrArg Host.Outcome.next (State.loopEngage_none hengage), fun hlooped hup hdue => ?_,
    fun h => congrArg Host.Outcome.next (State.loopRelease_none h)⟩
  · have hx := PairSt.heard_first hpeer
    have hheard := State.hello_none (h := h) hok hpairs hp hstate rfl (by rw [hx]; exact PairSt.offered_few (show 1 < 3 by decide))
    rw [hx] at hheard
    exact ⟨_, rfl, congrArg PairSt.hellos hheard.pair, congrArg PairSt.peer hheard.pair, congrArg PairSt.agreed hheard.pair,
      hheard.addr, hheard.state, hheard.lanes⟩
  · have hx := PairSt.heard_again (x := s.pair p) hpeer hsame
    have hcount : min ((s.pair p).hellos + 1) 3 = (s.pair p).hellos + 1 := by omega
    rw [hcount] at hx
    have hheard := State.hello_none (h := h) hok hpairs hp hstate rfl
      (by rw [hx]; exact PairSt.offered_few (show (s.pair p).hellos + 1 < 3 by omega))
    have hnone : ((s.pair p).heard h).offered h = 0 := by rw [hx]; exact PairSt.offered_few (show (s.pair p).hellos + 1 < 3 by omega)
    exact ⟨_, rfl, (congrArg PairSt.hellos hheard.pair).trans (congrArg PairSt.hellos hx),
      (congrArg PairSt.agreed hheard.pair).trans hnone, hheard.state, hheard.lanes⟩
  · have hx := PairSt.heard_again (x := s.pair p) hpeer hsame
    have hoffered := PairSt.offered_again hpeer hsame hrun
    rw [← hv] at hoffered
    have hheard := State.hello_unsettled (h := h) hok hpairs hp hstate rfl (by rw [hoffered]; exact hsome) ?_
    · exact ⟨_, rfl, (congrArg PairSt.agreed hheard.pair).trans hoffered, hheard.state, hheard.lanes⟩
    · obtain ⟨hpeer', hagreed, htold⟩ := PairSt.agreeing_again hpeer hsame hrun hv
      refine PairSt.settled_false hpeer' ?_
      rw [htold, hagreed]
      rcases hnot with hnot | hnot | hnot
      · exact .inl (by simp [hnot])
      · exact .inl (by simp [hnot])
      · exact .inr hnot
  · have hoffered := PairSt.offered_again hpeer hsame hrun
    rw [← hv] at hoffered
    obtain ⟨hpeer', hagreed', htold'⟩ := PairSt.agreeing_again hpeer hsame hrun hv
    obtain ⟨t, hframe, hlanes, hup⟩ := State.hello_up (h := h) hok hpairs hp hstate rfl (by rw [hoffered]; exact hsome)
      (PairSt.settled_true hpeer' (by rw [htold', htold, hagreed]; simp) (by rw [hagreed']; exact hsome) hreports
        (by rw [hagreed']; exact hversion))
    rw [hoffered] at hup
    have hsmall : v / 16 < 256 ∧ v % 16 < 256 := by
      rcases commonVersion_cases (h := h) (b := (s.pair p).offer11) with hc | hc | hc <;> rw [hv, hc] <;> decide
    exact ⟨_, rfl, hup.state, hup.valid, hup.major.trans (Nat.mod_eq_of_lt hsmall.1), hup.minor.trans (Nat.mod_eq_of_lt hsmall.2),
      (congrArg PairSt.upUp hup.pair).trans (congrArg FrameSt.up hframe), hup.lanes.trans hlanes⟩
  · have hoffered := PairSt.offered_again hpeer hsame hrun
    rw [← hv, hnone] at hoffered
    have hheard := State.hello_none (h := h) hok hpairs hp hstate rfl hoffered
    refine ⟨_, rfl, (congrArg PairSt.agreed hheard.pair).trans hoffered, (congrArg PairSt.noVersion hheard.pair).trans
      (PairSt.refusing_again hpeer hsame hrun), hheard.state, hheard.lanes⟩
  · subst hu
    have hlost := State.declareLoss_lost hok hpairs hp
    refine ⟨⟨hlost.state, hlost.addr, hlost.valid, hlost.lostUp, hlost.hellos, hlost.count, hlost.lanes, hlost.engage⟩,
      fun h => congrArg Host.Outcome.next (State.linkLoss_untimed hlost hstate h), fun hlocked hheld => ?_⟩
    have hport : (s.declareLoss p).timingPort = s.timingPort := hlost.writes.get hok (by decide)
    refine congrArg Host.Outcome.next ((State.linkLoss_timed hlost hstate hlocked hheld).trans ?_)
    unfold State.lossTiming
    rw [hport]
  · have h := State.loopEngage_engages hok hpairs hp hengage
    exact ⟨_, rfl, h.looped, h.engage, h.count, h.own, h.through, h.lanes⟩
  · have h := State.loopRelease_reads hok hpairs hp hlooped hup hdue
    exact ⟨_, rfl, h⟩

end Sys2Proof
end

section
/-! SUPPORT. Frames and wakes in transit, own frames, signal detection, block lock and HELLOs sent (R207 to R230). -/

namespace Sys2Proof.Machine


variable {s t u : State} {p q n up dest ty : Nat} {f : RxFrame} {fs : List RxFrame} {x : RxItem} {xs : List RxItem}
  {y : PairSt} {b : Bool} {w : BitVec 56} {h : Hello}

/-! A frame on a transmitter (R216, R217, R220, R228). -/

theorem State.setPair_self (hp : p < s.pairs.length) : s.setPair p (s.pair p) = s := by
  have hset : s.pairs.set p (s.pairs.getD p {}) = s.pairs := by simp [List.getD_eq_getElem?_getD, hp]
  exact congrArg (fun l => { s with pairs := l }) hset

theorem State.drain_empty (hp : p < s.pairs.length) (h : (s.pair p).through = []) : s.drain p up = s := by
  have hsame : ({ s.pair p with through := [] } : PairSt) = s.pair p := by rw [← h]
  unfold State.drain
  rw [h]
  unfold State.drainTo
  rw [hsame, State.setPair_self hp]

theorem State.cut_eq (h : s.repeats = true ∨ f.len ≤ 64 ∨ s.version p ≠ 0x10) : s.cut p f = (f, s) := by
  refine if_neg ?_
  rcases h with h | h | h
  · simp [h]
  · simp [h]
  · simp [h]

theorem State.cut_pairs : (s.cut p f).2.pairs = s.pairs ∧ (s.cut p f).2.lanes = s.lanes := by
  unfold State.cut State.flCount
  split
  · split <;> exact ⟨rfl, rfl⟩
  · exact ⟨rfl, rfl⟩

/-- What the use of a transmitter leaves of its pair: the streams that wait, and when it is free again. -/
structure PairSt.Occupied (x y : PairSt) (up n : Nat) : Prop where
  busyUp : y.busyUp = max x.busyUp up + blockTc n
  through : y.through = x.through
  own : y.own = x.own
  sent : y.sent = x.sent
  sentOwn : y.sentOwn = x.sentOwn

theorem State.addLoad_reads (hp : p < s.pairs.length) : (s.addLoad p up n).pairs.length = s.pairs.length ∧
    ∃ l, (s.addLoad p up n).pair p = { s.pair p with load := l } := by
  unfold State.addLoad
  split
  · exact ⟨rfl, _, rfl⟩
  · exact ⟨List.length_set .., _, State.pair_setPair_same hp⟩

theorem State.addLoad_beside : (s.addLoad p up n).objs = s.objs ∧ (s.addLoad p up n).lanes = s.lanes := by
  unfold State.addLoad
  split <;> exact ⟨rfl, rfl⟩

theorem State.occupy_reads (hp : p < s.pairs.length) : (s.occupy p up n).pairs.length = s.pairs.length ∧
    PairSt.Occupied (s.pair p) ((s.occupy p up n).pair p) up n ∧ (s.occupy p up n).objs = s.objs ∧
    (s.occupy p up n).lanes = s.lanes := by
  obtain ⟨hlength, l, hpair⟩ := State.addLoad_reads (up := up) (n := n) hp
  obtain ⟨hobjs, hlanes⟩ := State.addLoad_beside (s := s) (p := p) (up := up) (n := n)
  unfold State.occupy
  dsimp only
  generalize s.addLoad p up n = a at *
  rw [State.pair_setPair_same (by omega), hpair]
  exact ⟨(List.length_set ..).trans hlength, ⟨rfl, rfl, rfl, rfl, rfl⟩, (State.setPair_objs ..).trans hobjs,
    (State.setPair_lanes ..).trans hlanes⟩

/-- The item sent last by a transmitter. -/
def State.sentNow (s : State) (p : Nat) (x : RxItem) : State := s.setPair p { s.pair p with sent := some x }

theorem State.sentNow_pair (hp : p < s.pairs.length) : (s.sentNow p x).pair p = { s.pair p with sent := some x } :=
  State.pair_setPair_same hp

theorem State.sentNow_beside : (s.sentNow p x).objs = s.objs ∧ (s.sentNow p x).lanes = s.lanes ∧
    (s.sentNow p x).pairs.length = s.pairs.length := ⟨rfl, rfl, List.length_set ..⟩

theorem State.sendItem_frame : s.sendItem p up (.frame f) =
    ((s.cut p f).2.occupy p up (lineBlocks (s.cut p f).1)).sentNow p (.frame (s.cut p f).1) := rfl

theorem State.sendItem_control : s.sendItem p up (.control ty w) = s.sentNow p (.control ty w) := rfl

/-- A frame that needs no cut, sent. -/
theorem State.sendItem_whole (hp : p < s.pairs.length) (h : s.repeats = true ∨ f.len ≤ 64 ∨ s.version p ≠ 0x10) :
    ((s.sendItem p up (.frame f)).pair p).sent = some (.frame f) ∧
      ((s.sendItem p up (.frame f)).pair p).busyUp = max (s.pair p).busyUp up + blockTc (lineBlocks f) ∧
      (s.sendItem p up (.frame f)).objs = s.objs ∧ (s.sendItem p up (.frame f)).lanes = s.lanes := by
  rw [State.sendItem_frame, State.cut_eq h]
  obtain ⟨hlength, hoccupied, hobjs, hlanes⟩ := State.occupy_reads (up := up) (n := lineBlocks f) hp
  dsimp only
  generalize s.occupy p up (lineBlocks f) = a at *
  obtain ⟨haobjs, halanes, -⟩ := State.sentNow_beside (s := a) (p := p) (x := .frame f)
  rw [State.sentNow_pair (by omega)]
  exact ⟨rfl, hoccupied.busyUp, haobjs.trans hobjs, halanes.trans hlanes⟩

/-! What arrives and leaves at once (R216). -/

/-- The instant an item of a pair arrives whole. -/
def State.arrived (s : State) (p n : Nat) : State :=
  s.setPair p { s.pair p with rxUp := max s.frame.up (s.pair p).rxUp + blockTc n }

theorem State.outPair_congr (h : t.objs = s.objs) : t.outPair p = s.outPair p := by
  unfold State.outPair State.pairUp
  rw [State.rd_congr h, State.rd_congr h, State.rd_congr h]

theorem State.pass_some (hout : s.outPair (otherPair p) = some q) :
    s.pass p x = (s.arrived p (itemBlocks x)).emit q (max s.frame.up (s.pair p).rxUp) x := by
  have harrived : (s.arrived p (itemBlocks x)).outPair (otherPair p) = some q :=
    (State.outPair_congr (State.setPair_objs ..)).trans hout
  have hpass : s.pass p x = match (s.arrived p (itemBlocks x)).outPair (otherPair p) with
    | some q => (s.arrived p (itemBlocks x)).emit q (max s.frame.up (s.pair p).rxUp) x
    | none => s.arrived p (itemBlocks x) := rfl
  rw [hpass, harrived]

theorem State.emit_idle (hp : p < s.pairs.length) (hempty : (s.pair p).through = []) (hfree : (s.pair p).busyUp ≤ up) :
    s.emit p up x = s.sendItem p up x := by
  unfold State.emit
  rw [State.drain_empty hp hempty]
  exact if_pos (by simp [hempty, hfree])

theorem State.arrived_pair (hp : p < s.pairs.length) : ∃ m, (s.arrived p n).pair q = { s.pair q with rxUp := m } := by
  by_cases hsame : p = q
  · subst hsame
    exact ⟨_, State.pair_setPair_same hp⟩
  · exact ⟨_, State.pair_setPair_other hsame⟩

theorem State.arrived_beside : (s.arrived p n).objs = s.objs ∧ (s.arrived p n).lanes = s.lanes ∧
    (s.arrived p n).pairs.length = s.pairs.length ∧ (s.arrived p n).repeats = s.repeats ∧ (s.arrived p n).version q = s.version q :=
  ⟨rfl, rfl, List.length_set .., rfl, rfl⟩

theorem State.pass_whole (hpairs : s.pairs.length = 4) (hp : p < 4) (hout : s.outPair (otherPair p) = some q)
    (hempty : (s.pair q).through = []) (hfree : (s.pair q).busyUp ≤ max s.frame.up (s.pair p).rxUp)
    (hcut : f.len ≤ 64 ∨ s.version q ≠ 0x10) :
    ((s.pass p (.frame f)).pair q).sent = some (.frame f) ∧
      ((s.pass p (.frame f)).pair q).busyUp = max s.frame.up (s.pair p).rxUp + blockTc (lineBlocks f) ∧
      (s.pass p (.frame f)).objs = s.objs ∧ (s.pass p (.frame f)).lanes = s.lanes := by
  have hq : q < 4 := State.outPair_lt (otherPair_lt hp) hout
  rw [State.pass_some hout]
  obtain ⟨m, hpair⟩ := State.arrived_pair (s := s) (p := p) (q := q) (n := itemBlocks (.frame f)) (by omega)
  obtain ⟨hobjs, hlanes, hlength, -, hversion⟩ := State.arrived_beside (s := s) (p := p) (q := q) (n := itemBlocks (.frame f))
  generalize s.arrived p (itemBlocks (.frame f)) = a at *
  have hthrough : (a.pair q).through = [] := by rw [hpair]; exact hempty
  have hbusy : (a.pair q).busyUp = (s.pair q).busyUp := by rw [hpair]
  rw [State.emit_idle (by omega) hthrough (by rw [hbusy]; exact hfree)]
  obtain ⟨hsent, hup, haobjs, halanes⟩ := State.sendItem_whole (s := a) (p := q) (f := f)
    (up := max s.frame.up (s.pair p).rxUp) (by omega) (.inr (by rw [hversion]; exact hcut))
  exact ⟨hsent, by rw [hup, hbusy, max_eq_right hfree], haobjs.trans hobjs, halanes.trans hlanes⟩

/-! What the forwarder does with an item (R210, R212, R226). -/

theorem State.forward_awake (hawake : s.repeats = false) : s.forward p x = s.forwardItem p x := if_neg (by simp [hawake])

theorem State.forward_repeated (hrepeats : s.repeats = true) (hcross : staysHere x = false) : s.forward p x = s.pass p x :=
  (if_pos hrepeats).trans (if_neg (by simp [hcross]))

theorem State.forwardFrame_passed (hgood : frameGood f = true) (hknown : knownType f.ftype = true)
    (hmine : f.dest ≠ s.address ∨ s.takesIn (portOf p) = false) : s.forwardFrame p 0 f = s.passFrame p false f := by
  unfold State.forwardFrame
  rcases hmine with hmine | hmine <;> simp [hgood, hknown, hmine]

theorem State.forwardFrame_taken (hgood : frameGood f = true) (hknown : knownType f.ftype = true) (hdest : f.dest = s.address)
    (htakes : s.takesIn (portOf p) = true) : s.forwardFrame p 0 f = s := by
  unfold State.forwardFrame
  simp [hgood, hknown, hdest, htakes]

theorem State.passFrame_hops (hhops : f.hops < 255) : s.passFrame p false f = s.pass p (.frame { f with hops := f.hops + 1 }) := by
  unfold State.passFrame
  rw [if_neg (by omega), Bool.or_false]

theorem State.passFrame_discarded (hawake : s.repeats = false) (hhops : f.hops = 255) :
    s.passFrame p b f = s.bumpAt FL_DISCARDED_COUNT p := (if_pos hhops).trans (if_neg (by simp [hawake]))

theorem State.passControl_stays (h : ty = 0 ∨ ty = 0x10) : s.passControl p ty w = s := if_pos h

theorem State.passControl_crosses (h : ty = 0x50 ∨ ty = 0x70) : s.passControl p ty w = s.pass p (.control ty w) := by
  unfold State.passControl
  rcases h with h | h
  · subst h
    simp
  · subst h
    simp

/-! Frames of the device's own (R217). -/

/-- The streams of a pair and its last own frame stand. -/
structure PairSt.KeepsStreams (x y : PairSt) : Prop where
  through : y.through = x.through
  own : y.own = x.own
  sentOwn : y.sentOwn = x.sentOwn

theorem State.sentNow_streams (hp : p < s.pairs.length) : PairSt.KeepsStreams (s.pair p) ((s.sentNow p x).pair p) ∧
    ((s.sentNow p x).pair p).sent = some x := by
  rw [State.sentNow_pair hp]
  exact ⟨⟨rfl, rfl, rfl⟩, rfl⟩

theorem State.occupied_sent (hp : p < s.pairs.length) : PairSt.KeepsStreams (s.pair p) (((s.occupy p up n).sentNow p x).pair p) ∧
    (((s.occupy p up n).sentNow p x).pair p).sent = some x := by
  obtain ⟨hlength, hoccupied, -, -⟩ := State.occupy_reads (up := up) (n := n) hp
  obtain ⟨hstreams, hsent⟩ := State.sentNow_streams (s := s.occupy p up n) (p := p) (x := x) (by omega)
  exact ⟨⟨hstreams.through.trans hoccupied.through, hstreams.own.trans hoccupied.own,
    hstreams.sentOwn.trans hoccupied.sentOwn⟩, hsent⟩

theorem State.sendItem_streams (hp : p < s.pairs.length) : PairSt.KeepsStreams (s.pair p) ((s.sendItem p up x).pair p) ∧
    (x = .frame f → ((s.sendItem p up x).pair p).sent = some (.frame (s.cut p f).1)) ∧
    (x = .control ty w → ((s.sendItem p up x).pair p).sent = some x) := by
  cases x with
  | frame g =>
    rw [State.sendItem_frame]
    obtain ⟨hpairs, -⟩ := State.cut_pairs (s := s) (p := p) (f := g)
    obtain ⟨hstreams, hsent⟩ := State.occupied_sent (s := (s.cut p g).2) (p := p) (up := up) (n := lineBlocks (s.cut p g).1)
      (x := .frame (s.cut p g).1) (by rw [hpairs]; exact hp)
    rw [State.pair_congr hpairs] at hstreams
    refine ⟨hstreams, fun hf => ?_, fun hc => by cases hc⟩
    cases hf
    exact hsent
  | control ty' w' =>
    obtain ⟨hstreams, hsent⟩ := State.sentNow_streams (s := s) (p := p) (x := .control ty' w') hp
    exact ⟨hstreams, fun hf => (by cases hf), fun _ => hsent⟩
  | badSync m g =>
    cases g with
    | none =>
      obtain ⟨hstreams, -⟩ := State.sentNow_streams (s := s) (p := p) (x := .badSync m none) hp
      exact ⟨hstreams, fun hf => (by cases hf), fun hc => by cases hc⟩
    | some g =>
      obtain ⟨hstreams, -⟩ := State.occupied_sent (s := s) (p := p) (up := up) (n := lineBlocks g) (x := .badSync m (some g)) hp
      exact ⟨hstreams, fun hf => (by cases hf), fun hc => by cases hc⟩

theorem State.sendHead_empty (h : (s.pair p).through = []) : s.sendHead p up = s := by
  unfold State.sendHead
  rw [h]

theorem State.sendHead_item (h : (s.pair p).through = x :: xs) :
    s.sendHead p up = (s.setPair p { s.pair p with through := xs }).sendItem p up x := by
  unfold State.sendHead
  rw [h]

theorem State.sendOwn_empty (h : (s.pair p).own = []) : s.sendOwn p up = s := by
  unfold State.sendOwn
  rw [h]

/-- An own frame sent: the queue behind it, and the frame. -/
def State.ownSent (s : State) (p : Nat) (fs : List RxFrame) (f : RxFrame) : State :=
  s.setPair p { s.pair p with own := fs, sentOwn := some f }

theorem State.sendOwn_frame (hthrough : (s.pair p).through = []) (hown : (s.pair p).own = f :: fs)
    (hfits : lineBlocks f + 8 ≤ 192) : s.sendOwn p up =
      ((s.cut p f).2.occupy p up (lineBlocks (s.cut p f).1)).ownSent p fs (s.cut p f).1 := by
  have hempty : throughBlocks (s.pair p).through = 0 := by rw [hthrough]; rfl
  unfold State.sendOwn
  rw [hown]
  exact if_pos (by omega)

theorem State.transmit_awake (hawake : s.repeats = false) (hup : s.pairUp p = true) : s.transmit p =
    (s.sendHead p (max s.frame.up (s.pair p).busyUp)).sendOwn p (max (s.sendHead p (max s.frame.up (s.pair p).busyUp)).frame.up
      ((s.sendHead p (max s.frame.up (s.pair p).busyUp)).pair p).busyUp) := if_neg (by simp [hawake, hup])

theorem State.transmit_none (h : s.repeats = true ∨ s.pairUp p = false) : s.transmit p = s :=
  if_pos (by rcases h with h | h <;> simp [h])

theorem State.transmit_idle (hawake : s.repeats = false) (hup : s.pairUp p = true) (hthrough : (s.pair p).through = [])
    (hown : (s.pair p).own = []) : s.transmit p = s := by
  rw [State.transmit_awake hawake hup, State.sendHead_empty hthrough, State.sendOwn_empty hown]

theorem State.transmit_own (hpairs : s.pairs.length = 4) (hp : p < 4) (hawake : s.repeats = false) (hup : s.pairUp p = true)
    (hthrough : (s.pair p).through = []) (hown : (s.pair p).own = f :: fs) (hfits : lineBlocks f + 8 ≤ 192) :
    ((s.transmit p).pair p).own = fs ∧ ((s.transmit p).pair p).sentOwn = some (s.cut p f).1 ∧
      ((s.transmit p).pair p).busyUp = max s.frame.up (s.pair p).busyUp + blockTc (lineBlocks (s.cut p f).1) := by
  rw [State.transmit_awake hawake hup, State.sendHead_empty hthrough, State.sendOwn_frame hthrough hown hfits]
  obtain ⟨hcpairs, -⟩ := State.cut_pairs (s := s) (p := p) (f := f)
  obtain ⟨hlength, hoccupied, -, -⟩ := State.occupy_reads (s := (s.cut p f).2) (p := p) (up := max s.frame.up (s.pair p).busyUp)
    (n := lineBlocks (s.cut p f).1) (by rw [hcpairs, hpairs]; exact hp)
  rw [State.pair_congr hcpairs] at hoccupied
  generalize (s.cut p f).2.occupy p (max s.frame.up (s.pair p).busyUp) (lineBlocks (s.cut p f).1) = a at *
  have hset : (a.ownSent p fs (s.cut p f).1).pair p = { a.pair p with own := fs, sentOwn := some (s.cut p f).1 } :=
    State.pair_setPair_same (by rw [hlength, hcpairs, hpairs]; exact hp)
  rw [hset]
  exact ⟨rfl, rfl, hoccupied.busyUp.trans (congrArg (· + _) (max_eq_right (le_max_right ..)))⟩

theorem State.cut_setPair : ((s.setPair p y).cut p f).1 = (s.cut p f).1 := by
  have hrepeats : (s.setPair p y).repeats = s.repeats := rfl
  have hversion : (s.setPair p y).version p = s.version p := rfl
  unfold State.cut
  rw [hrepeats, hversion]
  split <;> rfl

theorem State.transmit_through (hpairs : s.pairs.length = 4) (hp : p < 4) (hawake : s.repeats = false) (hup : s.pairUp p = true)
    (hthrough : (s.pair p).through = x :: xs) (hown : (s.pair p).own = []) :
    ((s.transmit p).pair p).through = xs ∧ ((s.transmit p).pair p).own = [] ∧
      ((s.transmit p).pair p).sentOwn = (s.pair p).sentOwn ∧
      (x = .frame f → ((s.transmit p).pair p).sent = some (.frame (s.cut p f).1)) ∧
      (x = .control ty w → ((s.transmit p).pair p).sent = some x) := by
  rw [State.transmit_awake hawake hup, State.sendHead_item hthrough]
  have hcut := State.cut_setPair (s := s) (p := p) (y := { s.pair p with through := xs }) (f := f)
  have hset := State.pair_setPair_same (s := s) (p := p) (y := { s.pair p with through := xs }) (by omega)
  have hlength : (s.setPair p { s.pair p with through := xs }).pairs.length = 4 := (List.length_set ..).trans hpairs
  generalize s.setPair p { s.pair p with through := xs } = a at *
  obtain ⟨hstreams, hframe, hcontrol⟩ := State.sendItem_streams (s := a) (p := p) (up := max s.frame.up (s.pair p).busyUp)
    (x := x) (f := f) (ty := ty) (w := w) (by omega)
  generalize a.sendItem p (max s.frame.up (s.pair p).busyUp) x = c at *
  rw [hset] at hstreams
  rw [State.sendOwn_empty (hstreams.own.trans hown)]
  exact ⟨hstreams.through, hstreams.own.trans hown, hstreams.sentOwn, fun h => (hframe h).trans (by rw [hcut]), hcontrol⟩

/-! Signal detection and block lock (R218). -/

theorem State.signal_none {cdr : Bool} (h : s.safe.vaonLow = true ∨ 2 ≤ s.rd FL_STATUS_STATE p) : s.signal p cdr = s := by
  have hn : (if cdr then 2 else 1) ≤ 2 := by split <;> decide
  refine if_pos ?_
  rcases h with h | h
  · rw [h]
    rfl
  · rw [decide_eq_true (show (if cdr then 2 else 1) ≤ s.rd FL_STATUS_STATE p by omega), Bool.or_true]

theorem State.signal_seen (hpower : s.safe.vaonLow = false) (h : s.rd FL_STATUS_STATE p = 0) :
    s.signal p false = s.wr FL_STATUS_STATE p 1 :=
  (if_neg (by simp [hpower, h])).trans (if_neg (by decide))

theorem State.signal_locked (hpower : s.safe.vaonLow = false) (h : s.rd FL_STATUS_STATE p ≤ 1) :
    s.signal p true = (s.wr FL_STATUS_STATE p 2).collectorSamples :=
  (if_neg (by simp [hpower]; omega)).trans (if_pos rfl)

theorem State.signal_locked_quiet (hok : s.ok) (hp : p < 4) (hstanding : s.standing = []) :
    (s.wr FL_STATUS_STATE p 2).collectorSamples.rd FL_STATUS_STATE p = 2 ∧
      (s.wr FL_STATUS_STATE p 2).collectorSamples.lanes = s.lanes ∧
      (s.wr FL_STATUS_STATE p 2).collectorSamples.frame = s.frame := by
  have hset : (s.wr FL_STATUS_STATE p 2).rd FL_STATUS_STATE p = 2 := State.rd_wr_eq ⟨hok, by decide⟩
  have hwrites : State.WritesObjects [0x1100] s (s.wr FL_STATUS_STATE p 2) := .wr (by decide) (show 0 + p < 65536 by omega) .refl
  have halert : (s.wr FL_STATUS_STATE p 2).on SM_STATUS_ALERT = s.on SM_STATUS_ALERT := hwrites.on hok (by decide)
  have hquiet : (s.wr FL_STATUS_STATE p 2).standing = [] := by
    refine Eq.trans ?_ hstanding
    unfold State.standing
    rw [halert]
    rfl
  have hlanes := State.wr_lanes s FL_STATUS_STATE p 2
  have hframe := State.wr_frame s FL_STATUS_STATE p 2
  generalize s.wr FL_STATUS_STATE p 2 = a at *
  obtain ⟨hold, hsampled⟩ := State.collectorSamples_quiet hquiet
  rw [hsampled]
  exact ⟨(State.rd_congr rfl _ _).trans hset, hlanes, hframe⟩

/-- A pair whose receive lane has block lock begins its link-up. -/
theorem State.blockLock_reads (hok : s.ok) (hpairs : s.pairs.length = 4) (hp : p < 4) (h : s.rd FL_STATUS_STATE p = 2) :
    (s.blockLock p).rd FL_STATUS_STATE p = 3 ∧ ((s.blockLock p).pair p).hellos = 0 ∧ ((s.blockLock p).pair p).agreed = 0 ∧
      ((s.blockLock p).pair p).toldAgreed = false ∧ ((s.blockLock p).pair p).peer = none ∧
      ((s.blockLock p).pair p).offer11 = decide (s.rd FL_CTRL_VERSION_MAX (portOf p) = 1) := by
  have hset : (s.wr FL_STATUS_STATE p 3).rd FL_STATUS_STATE p = 3 := State.rd_wr_eq ⟨hok, by decide⟩
  have hwrites : State.WritesObjects [0x1100] s (s.wr FL_STATUS_STATE p 3) := .wr (by decide) (show 0 + p < 65536 by omega) .refl
  have hport := portOf_lt hp
  have hmax : (s.wr FL_STATUS_STATE p 3).rd FL_CTRL_VERSION_MAX (p / 2) = s.rd FL_CTRL_VERSION_MAX (portOf p) :=
    hwrites.rd hok (by decide) (show 0 + portOf p < 65536 by omega)
  have hlength : (s.wr FL_STATUS_STATE p 3).pairs.length = 4 := hpairs
  unfold State.blockLock
  rw [if_pos h]
  dsimp only
  generalize s.wr FL_STATUS_STATE p 3 = a at *
  rw [State.pair_setPair_same (by omega)]
  exact ⟨(State.rd_congr (State.setPair_objs ..) _ _).trans hset, rfl, rfl, rfl, rfl, by rw [hmax]⟩

/-! HELLOs sent (R207, R218). -/

/-- A HELLO of the pair put together: its sequence byte and the agreement it tells of. -/
def State.helloCounted (s : State) (p : Nat) : State :=
  s.setPair p { s.pair p with seq := ((s.pair p).seq + 1) % 256, toldAgreed := decide ((s.pair p).agreed ≠ 0) }

/-- The HELLO on the transmitter. -/
def State.helloShown (s : State) (p : Nat) : State := s.setPair p { s.pair p with ctl := some (0x10, s.helloBlock p) }

theorem State.sendHello_none (h : s.pairUp p = true ∨ s.silent p = true) : s.sendHello p = s :=
  if_pos (by rcases h with h | h <;> simp [h])

theorem State.sendHello_eq (hdown : s.pairUp p = false) (hclock : s.silent p = false) :
    s.sendHello p = ((s.helloCounted p).helloShown p).bothAgreed p := if_neg (by simp [hdown, hclock])

theorem State.helloShown_reads (hpairs : s.pairs.length = 4) (hp : p < 4) : ∃ w,
    ((s.helloCounted p).helloShown p).pair p = { s.pair p with
      seq := ((s.pair p).seq + 1) % 256, toldAgreed := decide ((s.pair p).agreed ≠ 0), ctl := some (0x10, w) } := by
  have hcounted : (s.helloCounted p).pair p =
      { s.pair p with seq := ((s.pair p).seq + 1) % 256, toldAgreed := decide ((s.pair p).agreed ≠ 0) } :=
    State.pair_setPair_same (by omega)
  have hlength : (s.helloCounted p).pairs.length = 4 := (List.length_set ..).trans hpairs
  generalize s.helloCounted p = a at *
  have hshown : (a.helloShown p).pair p = { a.pair p with ctl := some (0x10, a.helloBlock p) } := State.pair_setPair_same (by omega)
  exact ⟨a.helloBlock p, by rw [hshown, hcounted]⟩

theorem State.helloShown_beside : ((s.helloCounted p).helloShown p).objs = s.objs ∧
    ((s.helloCounted p).helloShown p).lanes = s.lanes ∧ ((s.helloCounted p).helloShown p).frame = s.frame ∧
    ((s.helloCounted p).helloShown p).pairs.length = s.pairs.length :=
  ⟨rfl, rfl, rfl, (List.length_set ..).trans (List.length_set ..)⟩

theorem State.bothAgreed_none (h : (s.pair p).agreed = 0) : s.bothAgreed p = s := if_neg (by simp [h])

theorem State.sendHello_offering (hpairs : s.pairs.length = 4) (hp : p < 4) (hdown : s.pairUp p = false) (hclock : s.silent p = false)
    (hagreed : (s.pair p).agreed = 0) : ((s.sendHello p).pair p).seq = ((s.pair p).seq + 1) % 256 ∧
      ((s.sendHello p).pair p).ctl.map Prod.fst = some 0x10 ∧ (s.sendHello p).objs = s.objs ∧ (s.sendHello p).lanes = s.lanes := by
  obtain ⟨w, hpair⟩ := State.helloShown_reads hpairs hp
  obtain ⟨hobjs, hlanes, -, -⟩ := State.helloShown_beside (s := s) (p := p)
  rw [State.sendHello_eq hdown hclock]
  generalize (s.helloCounted p).helloShown p = a at *
  rw [State.bothAgreed_none (by rw [hpair]; exact hagreed), hpair]
  exact ⟨rfl, rfl, hobjs, hlanes⟩

theorem State.sendHello_up (hok : s.ok) (hpairs : s.pairs.length = 4) (hp : p < 4) (hdown : s.pairUp p = false)
    (hclock : s.silent p = false) (hagreed : (s.pair p).agreed ≠ 0) (hpeer : (s.pair p).peer = some h) (hreports : h.agreed = true)
    (hversion : h.version = (s.pair p).agreed) (hstate : s.rd FL_STATUS_STATE p = 3) :
    ((s.sendHello p).pair p).seq = ((s.pair p).seq + 1) % 256 ∧ ((s.sendHello p).pair p).ctl.map Prod.fst = some 0x10 ∧
      (s.sendHello p).rd FL_STATUS_STATE p = 4 ∧ ((s.sendHello p).pair p).upUp = s.frame.up ∧ (s.sendHello p).lanes = s.lanes := by
  obtain ⟨w, hpair⟩ := State.helloShown_reads hpairs hp
  obtain ⟨hobjs, hlanes, hframe, hlength⟩ := State.helloShown_beside (s := s) (p := p)
  rw [State.sendHello_eq hdown hclock]
  generalize (s.helloCounted p).helloShown p = a at *
  have hsettled : (a.pair p).settled = true := by
    rw [hpair]
    exact PairSt.settled_true hpeer (decide_eq_true hagreed) hagreed hreports hversion
  rw [State.bothAgreed_eq ((State.rd_congr hobjs _ _).trans hstate), if_pos hsettled]
  have hup := State.linkUp_up (v := (a.pair p).agreed) (State.ok_of_objs hok hobjs) (hlength.trans hpairs) hp
  generalize a.linkUp p (a.pair p).agreed = t at *
  have hseq : (a.pair p).seq = ((s.pair p).seq + 1) % 256 := by rw [hpair]
  have hctl : (a.pair p).ctl.map Prod.fst = some 0x10 := by rw [hpair]; rfl
  exact ⟨(congrArg PairSt.seq hup.pair).trans hseq, (congrArg (fun y : PairSt => y.ctl.map Prod.fst) hup.pair).trans hctl, hup.state,
    (congrArg PairSt.upUp hup.pair).trans (congrArg FrameSt.up hframe), hup.lanes.trans hlanes⟩

/-! Wakes (R230, R279). -/

/-- A wake forwarded on a pair that is UP. -/
def State.wakePassed (s : State) (p dest : Nat) : State :=
  if s.pairUp p then s.pass p (.control 0x50 (BitVec.ofNat 56 (dest % 256 + 0xA5 * 256))) else s

theorem State.wakePassed_beside (hp : p < 4) : (s.wakePassed p dest).besideForwarding = s.besideForwarding := by
  unfold State.wakePassed
  split
  · exact State.pass_besideForwarding hp
  · rfl

theorem State.wakePassed_good {cs : List Instr} (hg : Good cs s) : Good cs (s.wakePassed p dest) :=
  Good.ite (State.pass_good hg) hg

/-- What a wake's forwarding leaves for the wake itself. -/
structure State.WakeSees (s u : State) : Prop where
  ok : u.ok
  held : u.rst.held = s.rst.held
  toUs : ∀ dest, u.toUs dest = s.toUs dest
  modeNow : u.modeNow = s.modeNow
  entering : u.on MD_MODE_ENTERING = s.on MD_MODE_ENTERING
  mode : u.mode = s.mode
  boot : u.boot = s.boot

theorem State.wakePassed_sees {cs : List Instr} (hg : Good cs s) (hp : p < 4) : State.WakeSees s (s.wakePassed p dest) := by
  have hbeside := State.wakePassed_beside (s := s) (dest := dest) hp
  have hok := (State.wakePassed_good (p := p) (dest := dest) hg).objs
  generalize s.wakePassed p dest = u at *
  have hget : ∀ F : Field, F.index ∉ forwardObjects → F.sub < 2 ^ 16 → u.get F = s.get F := fun F hF hsub =>
    State.get_of_besideForwarding hg.objs hok hbeside hF hsub
  have haddr : u.address = s.address := hget FL_ADDR_ADDR (by decide) (by decide)
  have hrst := congrArg (fun v : State => v.rst.held) hbeside
  have hmode := congrArg (fun v : State => v.mode) hbeside
  have hboot := congrArg (fun v : State => v.boot) hbeside
  exact {
    ok := hok
    held := hrst
    toUs := fun dest => by unfold State.toUs; rw [haddr]
    modeNow := hget MD_MODE_MODE (by decide) (by decide)
    entering := congrArg (fun n => decide (n = 1)) (hget MD_MODE_ENTERING (by decide) (by decide))
    mode := hmode
    boot := hboot }

theorem State.wakeReceive_eq (h : s.rd FL_STATUS_STATE p ≠ 0) : s.wakeReceive p dest =
    if (s.wakePassed p dest).rst.held = [] && (s.wakePassed p dest).toUs dest then (s.wakePassed p dest).wake
    else s.wakePassed p dest := if_neg h

theorem State.wake_dormant (hmode : s.modeNow = modeDormant) (hwaking : s.boot.waking = false) (hwake : s.mode.wake = false) :
    s.wake = if (s.bump FL_WAKES_COUNT).on MD_MODE_ENTERING then
      { s.bump FL_WAKES_COUNT with mode := { s.mode with wake := true } } else (s.bump FL_WAKES_COUNT).beginExit := by
  have hsafe : ¬ (s.modeNow = modeSafe) := by rw [hmode]; decide
  exact (if_neg (by simp [hsafe])).trans (if_neg (by simp [hmode, hwaking, hwake]))

theorem State.wake_safe (hmode : s.modeNow = modeSafe) (hfrom : s.mode.safeFrom = modeDormant) : s.wake = s.bump FL_WAKES_COUNT :=
  if_pos (by simp [hmode, hfrom])

theorem State.wake_elsewhere (hdormant : s.modeNow ≠ modeDormant) (hsafe : s.modeNow ≠ modeSafe) : s.wake = s :=
  (if_neg (by simp [hsafe])).trans (if_pos (by simp [hdormant]))

theorem State.bumped_entering (hok : s.ok) : (s.bump FL_WAKES_COUNT).on MD_MODE_ENTERING = s.on MD_MODE_ENTERING :=
  (State.WritesObjects.bump (is := [0x1160]) (by decide) .refl).on hok (by decide)

end Sys2Proof.Machine

namespace Sys2Proof
open Machine

/-- Settles O39: what the forwarder, the transmitter, the receiver and the wake detector do with each kind of input. -/
theorem ringTransit : Obligations.RingTransit := by
  intro s p q dest n ty f fs x xs y h hwf hp
  have hg := Good.of_wf hwf
  have hok : s.ok := hg.objs
  have hpairs := hg.pairs
  refine ⟨fun hup hawake => ?_, fun hup hrepeats hcross => ?_, fun hdown => ?_, fun hawake hup => ?_,
    fun h => congrArg Host.Outcome.next (State.transmit_none h), fun hpower => ⟨fun hstate => ?_, fun hstate => ?_⟩,
    fun cdr h => congrArg Host.Outcome.next (State.signal_none h), fun hstate => ?_, fun hdown hclock => ⟨fun hagreed => ?_,
    fun hagreed hpeer hreports hversion hstate => ?_⟩, fun h => congrArg Host.Outcome.next (State.sendHello_none h),
    fun u hu hstate => ?_, fun hstate => congrArg Host.Outcome.next (if_pos hstate)⟩
  · have hforward : ∀ x, exec (.frameForward p x) s = .next (s.forwardItem p x) := fun x =>
      congrArg Host.Outcome.next ((if_pos hup).trans (State.forward_awake hawake))
    refine ⟨fun hout hempty hfree hgood hknown hmine hhops hcut => ?_, fun hdest htakes hknown hgood => ?_,
      fun hhops hdest hgood hknown => ?_, ?_, fun c hc => ?_, fun hty => ?_⟩
    · have hpass : s.forwardItem p (.frame f) = s.pass p (.frame { f with hops := f.hops + 1 }) :=
        (State.forwardFrame_passed hgood hknown hmine).trans (State.passFrame_hops hhops)
      obtain ⟨hsent, hbusy, hobjs, hlanes⟩ := State.pass_whole (f := { f with hops := f.hops + 1 }) hpairs hp hout hempty hfree hcut
      exact ⟨_, (hforward _).trans (congrArg Host.Outcome.next hpass), hsent, hbusy, hobjs, hlanes⟩
    · exact (hforward _).trans (congrArg Host.Outcome.next (State.forwardFrame_taken hgood hknown hdest htakes))
    · exact (hforward _).trans (congrArg Host.Outcome.next ((State.forwardFrame_passed hgood hknown (.inl hdest)).trans
        (State.passFrame_discarded hawake hhops)))
    · exact (hforward _).trans (congrArg Host.Outcome.next (if_neg (by simp [hawake])))
    · exact (hforward _).trans (congrArg Host.Outcome.next (State.passControl_stays hc))
    · exact (hforward _).trans (congrArg Host.Outcome.next (State.passControl_crosses hty))
  · exact congrArg Host.Outcome.next ((if_pos hup).trans (State.forward_repeated hrepeats hcross))
  · exact congrArg Host.Outcome.next (if_neg (by simp [hdown]))
  · have hkept := (State.transmit_keepsPairs (s := s) hp).1
    have hlanes : (s.transmit p).lanes = s.lanes := (congrArg State.lanes hkept :)
    refine ⟨fun hthrough hown hfits => ?_, fun hthrough hown => ?_, fun hthrough hown => ?_⟩
    · obtain ⟨hrest, hsent, hbusy⟩ := State.transmit_own hpairs hp hawake hup hthrough hown hfits
      exact ⟨_, rfl, hrest, hsent, hbusy, hlanes⟩
    · obtain ⟨hrest, hnone, hsentOwn, hframe, hcontrol⟩ :=
        State.transmit_through (f := f) (ty := ty) (w := y) hpairs hp hawake hup hthrough hown
      exact ⟨_, rfl, hrest, hnone, hsentOwn, hlanes, hframe, hcontrol⟩
    · exact congrArg Host.Outcome.next (State.transmit_idle hawake hup hthrough hown)
  · exact congrArg Host.Outcome.next (State.signal_seen hpower hstate)
  · have hexec : exec (.linkSignalDetect ⟨p, true⟩) s = .next (s.wr FL_STATUS_STATE p 2).collectorSamples :=
      congrArg Host.Outcome.next (State.signal_locked hpower hstate)
    exact ⟨hexec, fun hstanding => ⟨_, hexec, State.signal_locked_quiet hok hp hstanding⟩⟩
  · obtain ⟨hlocked, hhellos, hagreed, htold, hpeer, hoffer⟩ := State.blockLock_reads hok hpairs hp hstate
    refine ⟨s.blockLock p, rfl, hlocked, hhellos, hagreed, htold, hpeer, hoffer, State.blockLock_keeps, ?_⟩
    intro index sub hsub hpage
    have hkey : objKey index sub / 2 ^ 24 = index / 256 := by
      simp only [objKey]
      omega
    exact State.word_of_page hok (State.blockLock_good hg).objs hkey (State.blockLock_page hp (by simpa using hpage))
  · exact ⟨_, rfl, State.sendHello_offering hpairs hp hdown hclock hagreed⟩
  · exact ⟨_, rfl, State.sendHello_up hok hpairs hp hdown hclock hagreed hpeer hreports hversion hstate⟩
  · obtain rfl : u = s.wakePassed p dest := hu
    have hsees := State.wakePassed_sees (dest := dest) hg hp
    have hexec : exec (.wakeReceive p dest) s = .next _ := congrArg Host.Outcome.next (State.wakeReceive_eq hstate)
    generalize s.wakePassed p dest = u at *
    rw [hexec, hsees.held, hsees.toUs]
    refine ⟨fun hheld hus hmode hentering hwaking hwake => ?_, fun hheld hus hmode hentering hwaking hwake => ?_,
      fun hheld hus hmode hfrom => ?_, fun h => ?_⟩
    · have hwoken := State.wake_dormant (hsees.modeNow.trans hmode) (by rw [hsees.boot]; exact hwaking) (by rw [hsees.mode]; exact hwake)
      rw [State.bumped_entering hsees.ok, hsees.entering, hentering, if_pos rfl, hsees.mode] at hwoken
      exact congrArg Host.Outcome.next ((if_pos (by simp [hheld, hus])).trans hwoken)
    · have hwoken := State.wake_dormant (hsees.modeNow.trans hmode) (by rw [hsees.boot]; exact hwaking) (by rw [hsees.mode]; exact hwake)
      rw [State.bumped_entering hsees.ok, hsees.entering, hentering, if_neg (by decide)] at hwoken
      exact congrArg Host.Outcome.next ((if_pos (by simp [hheld, hus])).trans hwoken)
    · exact congrArg Host.Outcome.next ((if_pos (by simp [hheld, hus])).trans
        (State.wake_safe (hsees.modeNow.trans hmode) (by rw [hsees.mode]; exact hfrom)))
    · rcases h with h | h | ⟨hdormant, hsafe⟩
      · exact congrArg Host.Outcome.next (if_neg (by simp [h]))
      · exact congrArg Host.Outcome.next (if_neg (by simp [h]))
      · have hquiet := State.wake_elsewhere (s := u) (by rw [hsees.modeNow]; exact hdormant) (by rw [hsees.modeNow]; exact hsafe)
        rw [hquiet, ite_self]

end Sys2Proof
end
